-- ==== Sys2Proof/Word.lean ====
section
/-! DEFINITION. The plain words, times, sets and tables every other file speaks in. -/

namespace Sys2Proof

/-- One byte of an image, a frame body or a maintenance response. -/
abbrev Byte := BitVec 8

/-- A value of the local time base: a 32-bit count of milliseconds that wraps (manual, 6.3). -/
abbrev Time := BitVec 32

/-- A transaction number, 0 to 255, advancing modulo 256 (R3). -/
abbrev TxnNumber := BitVec 8

/-- A CRC-16 value: the plan signature and the image CRC (R155). -/
abbrev Signature := BitVec 16

/-- A station identifier, 0 to 7. -/
abbrev StationId := Fin 8

/-- A set of station identifiers, one bit for each, as the exclusion map and the TXN response show it (R130, R165). -/
abbrev StationSet := BitVec 8

/-- A fault target, the 4-bit field of a FAULT frame (R130). -/
abbrev Target := BitVec 4

/-- A timer or counter: `none` while stopped, `some n` while running with the length `n` it was last started at.
How much of it has run is not kept: its end comes as a command of its own. -/
abbrev Timer := Option Nat

/-- The 7-bit address of an I2C target (R162). -/
abbrev I2cAddress := BitVec 7

/-- A fixed number of like things, indexed from 0. -/
abbrev Table (n : Nat) (α : Type) := Vector α n

/-- A logic level of an output or an input. -/
inductive Level where
  | low
  | high
deriving DecidableEq, Repr

end Sys2Proof
end

