-- ==== Sys2Proof/Names.lean ====
section
/-! DEFINITION. The enumerated values the manual writes in capitals (manual, 6.2), shared by the image, the frames
and the machine. -/

namespace Sys2Proof

/-- The four system states the stations agree on (manual, 4). -/
inductive SystemState where
  | run
  | rest
  | stow
  | off
deriving DecidableEq, Repr

/-- The six transition kinds (manual, 4). -/
inductive Kind where
  | enterRest
  | enterStow
  | enterOff
  | resume
  | rise
  | demote
deriving DecidableEq, Repr

/-- The three kinds of reset (R160). -/
inductive ResetCause where
  | por
  | pinReset
  | restart
deriving DecidableEq, Repr

/-- The local phase of the station (R7). -/
inductive Phase where
  | loading
  | configFault
  | census
  | settled
  | voting
  | staging
  | unwinding
  | descending
  | mute
deriving DecidableEq, Repr

/-- The twelve fault codes (R97). -/
inductive FaultCode where
  | railTimeout
  | railStuck
  | railLoss
  | railUnstable
  | senseTimeout
  | domainLost
  | stall
  | peerLost
  | wakeOverflow
  | beatOverdue
  | wakeFailed
  | linkFault
deriving DecidableEq, Repr

/-- Fault severities (R97). -/
inductive Severity where
  | notice
  | severe
deriving DecidableEq, Repr

/-- The reasons a VOTE may give with DECLINE (R32, R130). -/
inductive DeclineReason where
  | inhibit
  | lockout
  | faultPending
  | noImage
  | refreshPending
deriving DecidableEq, Repr

/-- The answer of a VOTE (R130). DEFER always carries the reason INHIBIT. -/
inductive Answer where
  | accept
  | defer
  | decline (reason : DeclineReason)
deriving DecidableEq, Repr

/-- The target kind field of a WAKE frame (R130). -/
inductive WakeTarget where
  | resume
  | rise
deriving DecidableEq, Repr

/-- The direction field of a STAGE frame (R130). -/
inductive Direction where
  | forward
  | unwind
deriving DecidableEq, Repr

/-- The cause and wake input fields of an ABORT frame (R80, R130). -/
inductive AbortReason where
  | wake (input : Fin 8)
  | timeout
  | noQuorum
deriving DecidableEq, Repr

/-- The eight frame kinds, in the order of their classes 0 to 7 (R130). -/
inductive FrameKind where
  | fault
  | abort
  | wake
  | stage
  | vote
  | propose
  | beat
  | census
deriving DecidableEq, Repr

end Sys2Proof
end

