-- ==== Sys2Proof/Config.lean ====
section
/-! DEFINITION. The configuration image (R154 to R158): what one station is fixed to for a whole run. The manual
specifies the sections by field and range and the header by byte, so an image here carries its bytes (for the header
checks and the two CRCs) and its sections' fields. The machine leaves no value free: this file holds no opaque value. -/

namespace Sys2Proof

/-- One value for each transition kind. -/
structure PerKind (α : Type) where
  enterRest : α
  enterStow : α
  enterOff  : α
  resume    : α
  rise      : α
  demote    : α
deriving DecidableEq, Repr

/-- One value for each kind that can be proposed without force (R31, R35). -/
structure PerProposal (α : Type) where
  enterRest : α
  enterStow : α
  enterOff  : α
  demote    : α
deriving DecidableEq, Repr

/-- The link rate of the system section (R127). -/
inductive LinkRate where
  | kbit50
  | kbit100
  | kbit250
deriving DecidableEq, Repr

/-- The system section, identical at every station of a link (R156). Times in milliseconds. -/
structure SystemSection where
  linkRate     : LinkRate
  beatRun      : Nat
  beatLow      : Nat
  voteWindow   : Nat
  censusWindow : Nat
  barredRetry  : Nat
  stages       : PerKind Nat
  commits      : PerKind Nat
  required     : StationSet
  quorum       : StationSet
  minDwell     : Nat
  lockout      : Nat
  faultHold    : Nat
  deferHold    : Nat
deriving DecidableEq, Repr

/-- The parameters of one rail channel (R62). Windows, holds and the filter in units of 10 µs; the dropout window in ms. -/
structure RailParams where
  enabled          : Bool
  settleWindow     : Nat
  dischargeWindow  : Nat
  holdUp           : Nat
  holdDown         : Nat
  dropoutFilter    : Nat
  dropoutThreshold : Nat
  dropoutWindow    : Nat
  tolerant         : Bool
  unstable         : Severity
deriving DecidableEq, Repr

/-- The kind of a wake input (R112). -/
inductive WakeInputKind where
  | unused
  | level
  | count
  | button
deriving DecidableEq, Repr

/-- The window a COUNT input is judged by (R112). -/
inductive CountWindow where
  | own
  | common
deriving DecidableEq, Repr

/-- The definition of one wake input (R112). Times in ms. -/
structure WakeInputDef where
  kind        : WakeInputKind
  activeLevel : Level
  allowRest   : Bool
  allowStow   : Bool
  allowOff    : Bool
  holdTime    : Nat
  window      : CountWindow
  ownLength   : Nat
  threshold   : Nat
  debounce    : Nat
  longPress   : Nat
deriving DecidableEq, Repr

/-- What a high inhibit input calls for (R31). -/
inductive InhibitAction where
  | ignore
  | defer
  | decline
deriving DecidableEq, Repr

/-- The button short-press action (R25). -/
inductive ShortPress where
  | nothing
  | enterRest
  | enterOff
deriving DecidableEq, Repr

/-- The station section (R157). -/
structure StationSection where
  address       : Nat
  rails         : Table 6 RailParams
  wakes         : Table 8 WakeInputDef
  commonWindow  : Nat
  inhibits      : Table 2 (PerProposal InhibitAction)
  shortPress    : ShortPress
  demoteMinutes : Nat
deriving DecidableEq, Repr

/-- A level change of one output: the actions RAISE, DROP, SET_HIGH and SET_LOW (R41). -/
inductive Change where
  | raise (rail : Fin 6)
  | drop (rail : Fin 6)
  | setHigh (signal : Fin 4)
  | setLow (signal : Fin 4)
deriving DecidableEq, Repr

/-- An action of a stage entry (R41). PULSE width in units of 0.1 ms, the other times in ms. -/
inductive Action where
  | change (c : Change) (record : Bool)
  | pulse (signal : Fin 4) (tenths : Nat)
  | wait (ms : Nat)
  | await (sense : Fin 2) (level : Level) (ms : Nat)
deriving DecidableEq, Repr

/-- A stage entry of the stage plan table (R39). -/
structure StageEntry where
  stage   : Nat
  waitSet : StationSet
  timeout : Nat
  actions : List Action
deriving DecidableEq, Repr

/-- One row of the state profile table (R42): ten levels. -/
structure ProfileRow where
  rails   : Table 6 Level
  signals : Table 4 Level
deriving DecidableEq, Repr

/-- The state profile table (R42). -/
structure Profile where
  run  : ProfileRow
  rest : ProfileRow
  stow : ProfileRow
  off  : ProfileRow
deriving DecidableEq, Repr

/-- The plan section (R158): the stage plan table and the state profile table. -/
structure PlanSection where
  plans   : PerKind (List StageEntry)
  profile : Profile
deriving DecidableEq, Repr

/-- A configuration image as the loader reads it: the header's bytes, the bytes of the three sections, and the
fields those sections hold. The manual gives the sections no byte layout, so the fields stand beside the bytes. -/
structure Image where
  header       : List Byte
  systemBytes  : List Byte
  stationBytes : List Byte
  planBytes    : List Byte
  system       : SystemSection
  station      : StationSection
  plan         : PlanSection
deriving DecidableEq, Repr

/-- The system section's place while no image is loaded (the tables are empty): read by no rule then. -/
def SystemSection.blank : SystemSection where
  linkRate := .kbit50
  beatRun := 0
  beatLow := 0
  voteWindow := 0
  censusWindow := 0
  barredRetry := 0
  stages := ⟨0, 0, 0, 0, 0, 0⟩
  commits := ⟨0, 0, 0, 0, 0, 0⟩
  required := 0
  quorum := 0
  minDwell := 0
  lockout := 0
  faultHold := 0
  deferHold := 0

/-- An empty rail channel definition: the channel is not enabled. -/
def RailParams.blank : RailParams where
  enabled := false
  settleWindow := 0
  dischargeWindow := 0
  holdUp := 0
  holdDown := 0
  dropoutFilter := 0
  dropoutThreshold := 0
  dropoutWindow := 0
  tolerant := false
  unstable := .notice

/-- An empty wake input definition: kind NONE. -/
def WakeInputDef.blank : WakeInputDef where
  kind := .unused
  activeLevel := .high
  allowRest := false
  allowStow := false
  allowOff := false
  holdTime := 0
  window := .own
  ownLength := 0
  threshold := 0
  debounce := 0
  longPress := 0

/-- The station section's place while no image is loaded. -/
def StationSection.blank : StationSection where
  address := 0
  rails := Vector.replicate 6 RailParams.blank
  wakes := Vector.replicate 8 WakeInputDef.blank
  commonWindow := 0
  inhibits := Vector.replicate 2 ⟨.ignore, .ignore, .ignore, .ignore⟩
  shortPress := .nothing
  demoteMinutes := 0

/-- A profile row of LOW levels. -/
def ProfileRow.blank : ProfileRow := ⟨Vector.replicate 6 .low, Vector.replicate 4 .low⟩

/-- The plan section's place while no image is loaded: no entries, every cell LOW. -/
def PlanSection.blank : PlanSection where
  plans := ⟨[], [], [], [], [], []⟩
  profile := ⟨ProfileRow.blank, ProfileRow.blank, ProfileRow.blank, ProfileRow.blank⟩

end Sys2Proof
end

