-- ==== Sys2Proof/Syntax.lean ====
section
/-! DEFINITION. The frames of the state link and the commands of the block: one constructor of `Instr` for each row of
spec/opcode_table.json. A command is an event at the station's pins, link, timers or maintenance port. -/

namespace Sys2Proof

/-- The body of a BEAT (R130). `phase` is one of the phases that have a link code (R7). -/
structure BeatBody where
  state     : SystemState
  openFlag  : Bool
  phase     : Phase
  summary   : Fin 4
  exclusion : StationSet
deriving DecidableEq, Repr

/-- The body of a frame, by class (R130). -/
inductive Body where
  | fault (code : FaultCode) (target : Target)
  | abort (reason : AbortReason)
  | wake (target : WakeTarget) (input : Fin 8)
  | stage (direction : Direction) (stage : Nat)
  | vote (answer : Answer)
  | propose (kind : Kind) (forced : Bool) (imageBacked : Bool)
  | beat (b : BeatBody)
  | census (signature : Signature) (cause : ResetCause)
deriving DecidableEq, Repr

/-- A frame: the sender and number fields with the body (R129). The start bit, check, reject slot and end are the
link controller's. -/
structure Frame where
  sender : StationId
  number : TxnNumber
  body   : Body
deriving DecidableEq, Repr

/-- What this station read of one frame on the line: the bits from the arbitration field to the check (recessive is
`true`), and for each recessive-to-dominant edge its distance from the nearest expected cell boundary, in units of
0.1 µs (R127). -/
structure Reception where
  bits  : List Bool
  edges : List Nat
deriving DecidableEq, Repr

/-- The levels of the two inhibit inputs, read as a non-forced PROPOSE is delivered (R31). -/
structure Inhibits where
  inh0 : Level
  inh1 : Level
deriving DecidableEq, Repr

/-- A write transfer on the maintenance port: the address it is written to, and how many bytes follow the command and its
argument (R162). -/
structure PortWrite where
  addr  : I2cAddress
  extra : Nat
deriving DecidableEq, Repr

/-- A write transfer whose command byte is this code, and how many bytes follow it (R162). -/
structure CodeWrite where
  addr  : I2cAddress
  code  : Byte
  extra : Nat
deriving DecidableEq, Repr

/-- A read transfer on the maintenance port: the address it reads from, and how many bytes (R162). -/
structure PortRead where
  addr  : I2cAddress
  count : Nat
deriving DecidableEq, Repr

/-- The commands: one constructor for each row of the opcode table. -/
inductive Instr where
  /-- Power-on reset (R160). -/
  | por
  /-- A low pulse on RSTN (R160). -/
  | pinReset
  /-- The image read has ended with this image (R154). -/
  | loadDone (image : Image)
  /-- A check of the image has failed (R159). -/
  | loadFailure
  /-- 64 consecutive recessive bit times have been read after load done (R128). -/
  | integration
  /-- An idle point, or an idle line (R136). -/
  | frameStart
  /-- The frame on the line goes on with the arbitration value `winner` (R133). -/
  | lostArbitration (winner : BitVec 6)
  /-- The reject slot reads dominant; `rx` is what this station read of the frame (R134, R135). -/
  | frameRejected (rx : Reception)
  /-- A non-forced PROPOSE is delivered, with the inhibit inputs as they read then (R11). -/
  | proposeDelivered (sender : StationId) (number : TxnNumber) (kind : Kind) (imageBacked : Bool) (inh : Inhibits)
  /-- A forced PROPOSE is delivered (R13). -/
  | forcedProposeDelivered (sender : StationId) (number : TxnNumber) (kind : Kind) (imageBacked : Bool)
  /-- A WAKE is delivered (R12). -/
  | wakeDelivered (sender : StationId) (number : TxnNumber) (target : WakeTarget) (input : Fin 8)
  /-- A VOTE is delivered (R33). -/
  | voteDelivered (sender : StationId) (number : TxnNumber) (answer : Answer)
  /-- A STAGE with direction 0 is delivered (R55). -/
  | stageForwardDelivered (sender : StationId) (number : TxnNumber) (stage : Nat)
  /-- A STAGE with direction 1 is delivered (R93). -/
  | stageUnwindDelivered (sender : StationId) (number : TxnNumber) (stage : Nat)
  /-- An ABORT is delivered (R82). -/
  | abortDelivered (sender : StationId) (number : TxnNumber) (reason : AbortReason)
  /-- A FAULT is delivered (R101). -/
  | faultDelivered (sender : StationId) (number : TxnNumber) (code : FaultCode) (target : Target)
  /-- A BEAT is delivered (R142). -/
  | beatDelivered (sender : StationId) (number : TxnNumber) (body : BeatBody)
  /-- A CENSUS is delivered (R146). -/
  | censusDelivered (sender : StationId) (signature : Signature) (cause : ResetCause)
  /-- The vote window runs out (R36). -/
  | voteWindowExpiry
  /-- The vote guard runs out (R36). -/
  | voteGuardExpiry
  /-- The barrier timer of a stage runs out (R48). -/
  | barrierTimerExpiry
  /-- The completion wait runs out (R59). -/
  | completionWaitExpiry
  /-- The closing wait of a forced descent runs out (R16). -/
  | closingWaitExpiry
  /-- A reverse barrier or the final wait runs out (R95). -/
  | reverseBarrierExpiry
  /-- The defer hold runs out (R28). -/
  | deferHoldExpiry
  /-- The re-entry lockout runs out (R29). -/
  | reEntryLockoutExpiry
  /-- The demote timer runs out (R27). -/
  | demoteTimerExpiry
  /-- The minimum dwell runs out (R123). -/
  | minimumDwellExpiry
  /-- The fault hold runs out (R109). -/
  | faultHoldExpiry
  /-- A peer's silence timer runs out (R143). -/
  | silenceTimerExpiry (peer : StationId)
  /-- The beat timer runs out (R145). -/
  | beatTick
  /-- The census window runs out (R150). -/
  | censusWindowExpiry
  /-- The barred-retry timer runs out (R148). -/
  | barredRetryExpiry
  /-- The settle window of a rail runs out (R65). -/
  | settleWindowExpiry (rail : Fin 6)
  /-- The hold-up of a rail ends (R66). -/
  | holdUpEnd (rail : Fin 6)
  /-- The discharge window of a rail runs out (R67). -/
  | dischargeWindowExpiry (rail : Fin 6)
  /-- The hold-down of a rail ends (R68). -/
  | holdDownEnd (rail : Fin 6)
  /-- Power-good rises; named for a rail in RISING (R65). -/
  | powerGoodRiseRising (rail : Fin 6)
  /-- Power-good falls; named for a rail in HOLDING_UP (R66). -/
  | powerGoodFallHoldingUp (rail : Fin 6)
  /-- Power-good falls; named for a rail in FALLING (R67). -/
  | powerGoodFallFalling (rail : Fin 6)
  /-- Power-good rises; named for a rail in HOLDING_DOWN (R68). -/
  | powerGoodRiseHoldingDown (rail : Fin 6)
  /-- Power-good falls; named for a rail in FAILED_DOWN (R69). -/
  | powerGoodFallFailedDown (rail : Fin 6)
  /-- Power-good falls; named for a rail in ON (R71). -/
  | powerGoodFallOn (rail : Fin 6)
  /-- Power-good rises; named for a rail in ON (R71). -/
  | powerGoodRiseOn (rail : Fin 6)
  /-- The dropout filter of a rail runs out (R71). -/
  | dropoutFilterExpiry (rail : Fin 6)
  /-- The dropout window of a rail runs out (R72). -/
  | dropoutWindowExpiry (rail : Fin 6)
  /-- The pulse counter of a signal runs out (R75). -/
  | pulseEnd (signal : Fin 4)
  /-- A sense input changes to this level (R76). -/
  | senseChange (sense : Fin 2) (level : Level)
  /-- The await counter of a sense input runs out (R76). -/
  | awaitTimeout (sense : Fin 2)
  /-- The wait counter ends (R77). -/
  | waitEnd
  /-- A rising edge of SLPREQ, with TYPE1, TYPE0 and IMGRDY as they read at it (R20). -/
  | slpreqEdge (type1 : Level) (type0 : Level) (imgrdy : Level)
  /-- The 10 µs REQACK pulse ends (R24). -/
  | reqackPulseEnd
  /-- A wake input of kind LEVEL changes to this pin level (R114). -/
  | levelInputChange (input : Fin 8) (level : Level)
  /-- The hold counter of a LEVEL input ends (R114). -/
  | levelHoldEnd (input : Fin 8)
  /-- An active edge on a COUNT input (R115). -/
  | countEdge (input : Fin 8)
  /-- The own window of a COUNT input ends (R116). -/
  | ownWindowExpiry (input : Fin 8)
  /-- The common window ends (R116). -/
  | commonWindowExpiry
  /-- A wake input of kind BUTTON changes to this pin level (R117). -/
  | buttonInputChange (input : Fin 8) (level : Level)
  /-- The debounce counter ends (R117). -/
  | debounceEnd
  /-- The long-press counter ends (R26). -/
  | longPressEnd
  /-- STATUS, code 0x01 (R163). -/
  | status (w : PortWrite)
  /-- PEER, code 0x02, with its argument byte if one was written (R164). -/
  | peer (argument : Option Byte) (w : PortWrite)
  /-- TXN, code 0x03 (R165). -/
  | txn (w : PortWrite)
  /-- HISTORY, code 0x04, with its argument byte if one was written (R164). -/
  | history (argument : Option Byte) (w : PortWrite)
  /-- WAKEQ, code 0x05 (R165). -/
  | wakeq (w : PortWrite)
  /-- FAULTS, code 0x06 (R165). -/
  | faults (w : PortWrite)
  /-- STACK, code 0x07 (R165). -/
  | stack (w : PortWrite)
  /-- ACK_FAULTS, code 0xA1 (R166). -/
  | ackFaults (w : PortWrite)
  /-- RESTART, code 0xC3 (R166). -/
  | restart (w : PortWrite)
  /-- A command byte of an unknown code (R162). -/
  | unknownCommand (w : CodeWrite)
  /-- A read transfer (R162). -/
  | snapshotRead (r : PortRead)
  /-- The reject slot reads recessive, but this station found `rx` in error and discards the frame alone (R139). -/
  | discardedAtThisStationAlone (rx : Reception)
deriving DecidableEq, Repr

end Sys2Proof
end

