-- ==== Sys2Proof/Decode.lean ====
section
/-! DEFINITION. What spells a command: no word of the opcode table, which gives no row any bits; and, on the maintenance
port, the bytes of a write transfer (R162 to R166). -/

namespace Sys2Proof

/-- The command a word spells by the table's bits: none, on every word. -/
def decodeTableWord (_nbits _w : Nat) : Option Instr := none

/-- The command of a code that the port knows, written to `addr` with the bytes `rest` behind the code. The first of them is
the argument of PEER and HISTORY (R162 to R166). -/
def codeCommand (addr : I2cAddress) (code : Byte) (rest : List Byte) : Option Instr :=
  match code.toNat with
  | 0x01 => some (.status ⟨addr, rest.length⟩)
  | 0x02 => some (.peer rest.head? ⟨addr, rest.tail.length⟩)
  | 0x03 => some (.txn ⟨addr, rest.length⟩)
  | 0x04 => some (.history rest.head? ⟨addr, rest.tail.length⟩)
  | 0x05 => some (.wakeq ⟨addr, rest.length⟩)
  | 0x06 => some (.faults ⟨addr, rest.length⟩)
  | 0x07 => some (.stack ⟨addr, rest.length⟩)
  | 0xA1 => some (.ackFaults ⟨addr, rest.length⟩)
  | 0xC3 => some (.restart ⟨addr, rest.length⟩)
  | _ => none

/-- The command that a write transfer of these bytes is. A code that the port does not know is UNKNOWN_COMMAND; a transfer
of the address alone carries no command byte and is none (R162). -/
def writtenCommand (addr : I2cAddress) : List Byte → Option Instr
  | [] => none
  | code :: rest =>
    match codeCommand addr code rest with
    | some c => some c
    | none => some (.unknownCommand ⟨addr, code, rest.length⟩)

end Sys2Proof
end

