-- ==== Sys2Proof/Machine/State.lean ====
section
/-! DEFINITION. The state of one station, block by block as the manual gives them (manual, 3), with the queue of
commands that wait, the reasons a step can stop, and the state after power-on reset. -/

namespace Sys2Proof.Machine

open Sys2Proof

/-! ### Link controller (R127 to R140) -/

/-- A composed frame in a transmit slot. `forReplaced` is used by the PROPOSE slot only: the frame was made for a
request that has since been replaced in the pending-request latch (R22). -/
structure Ready where
  frame       : Frame
  forReplaced : Bool
deriving DecidableEq, Repr

/-- What the queued place of a slot holds: a frame with its content, or a BEAT filled under this number, whose body is
composed at its first start (R129, R136, R145). -/
inductive Queued where
  | ready (r : Ready)
  | beatDue (number : TxnNumber)
deriving DecidableEq, Repr

/-- One transmit slot (R136): queued place, sending place, rejection count, purge mark. -/
structure Slot where
  queued     : Option Queued
  sending    : Option Ready
  rejections : Nat
  purgeMark  : Bool
deriving DecidableEq, Repr

/-- An empty slot (R140). -/
def Slot.blank : Slot := { queued := none, sending := none, rejections := 0, purgeMark := false }

/-- The link controller. Slots are indexed by class, 0 to 7 (R130). The link rate is the loaded image's. -/
structure Link where
  integrated    : Bool
  slots         : Table 8 Slot
  receiveErrors : Nat
deriving DecidableEq, Repr

/-- The link controller after any reset (R140). -/
def Link.blank : Link := { integrated := false, slots := Vector.replicate 8 Slot.blank, receiveErrors := 0 }

/-! ### Agreement engine (R1 to R19, R34 to R37) -/

/-- Outcomes of a transaction (R14). `opened` is OPEN, `accepted` is ACCEPTED-in-progress. -/
inductive TxnOutcome where
  | opened
  | accepted
  | completed
  | declined
  | deferred
  | noQuorum
  | aborted
  | superseded
  | forcedDone
deriving DecidableEq, Repr

/-- Opening causes (R4). -/
inductive OpeningCause where
  | propose
  | wake
  | fault
  | forcedPropose
  | peerRestart
deriving DecidableEq, Repr

/-- Outcome causes, in the order of the codes 1 to 14 of R164. -/
inductive Cause where
  | propose
  | wakeOpening
  | fault
  | forcedPropose
  | peerRestart
  | mute
  | wakeAbort
  | timeout
  | noQuorum
  | inhibit
  | lockout
  | faultPending
  | noImage
  | refreshPending
deriving DecidableEq, Repr

/-- The transaction record (R4). Done-sets and stage times are indexed from stage 1 at place 0. -/
structure Record where
  number        : TxnNumber
  kind          : Kind
  forced        : Bool
  imageBacked   : Bool
  originator    : StationId
  openingCause  : OpeningCause
  wakeSource    : Option (StationId × Fin 8)
  participants  : StationSet
  consent       : StationSet
  votes         : Table 8 (Option Answer)
  outcome       : TxnOutcome
  outcomeCause  : Option Cause
  abortCause    : Option AbortReason
  forward       : Table 12 StationSet
  unwind        : Table 12 StationSet
  committed     : Bool
  unwindTop     : Option Nat
  missing       : StationSet
  faults        : List (FaultCode × StationId)
  faultOverflow : Nat
  openedAt      : Time
  acceptedAt    : Option Time
  committedAt   : Option Time
  stageTimes    : Table 12 (Option Time)
  closedAt      : Option Time
deriving DecidableEq, Repr

/-- One entry of the outcome history (R18). -/
structure HistoryEntry where
  number     : TxnNumber
  kind       : Kind
  forced     : Bool
  outcome    : TxnOutcome
  cause      : Option Cause
  originator : StationId
  wakeSource : Option (StationId × Fin 8)
  missing    : StationSet
  duration   : Time
  deferred   : Nat
  isNew      : Bool
deriving DecidableEq, Repr

/-- The agreement engine. `believed = none` is UNKNOWN (R1); `number = none` is absent (R3); `record = none` is the
empty record (R5); the history is newest first (R18). -/
structure Agreement where
  phase         : Phase
  believed      : Option SystemState
  restImage     : Bool
  number        : Option TxnNumber
  record        : Option Record
  history       : List HistoryEntry
  lateProposals : Nat
  streaks       : PerProposal Nat
  voteWindow    : Timer
  voteGuard     : Timer
deriving DecidableEq, Repr

/-- The agreement engine after power-on reset (R19). -/
def Agreement.blank : Agreement where
  phase := .loading
  believed := none
  restImage := false
  number := none
  record := none
  history := []
  lateProposals := 0
  streaks := ⟨0, 0, 0, 0⟩
  voteWindow := none
  voteGuard := none

/-! ### Presence unit (R141 to R153) -/

/-- Presence values (R141). -/
inductive PresenceValue where
  | absent
  | present
  | silent
  | excluded
deriving DecidableEq, Repr

/-- One entry of the peer table (R141). -/
structure Peer where
  presence   : PresenceValue
  silence    : Timer
  lastState  : Option SystemState
  lastPhase  : Option Phase
  lastOpen   : Bool
  lastNumber : Option TxnNumber
  summary    : Fin 4
  lastReset  : Option ResetCause
  misses     : Nat
  changed    : Bool
  rejoins    : Nat
deriving DecidableEq, Repr

/-- A peer entry after any reset (R141). -/
def Peer.blank : Peer where
  presence := .absent
  silence := none
  lastState := none
  lastPhase := none
  lastOpen := false
  lastNumber := none
  summary := 0
  lastReset := none
  misses := 0
  changed := false
  rejoins := 0

/-- Why the station is MUTE (R147). -/
inductive MuteCause where
  | none
  | linkFault
  | barred
deriving DecidableEq, Repr

/-- The presence unit. `beat` is T_beat (`none` after reset); `alignment` holds the steps of a running alignment
that have not been issued (R152); `retryHeld` is the held barred-retry expiry of R148. -/
structure Presence where
  peers        : Table 8 Peer
  barring      : StationSet
  muteCause    : MuteCause
  beat         : Option Nat
  beatTimer    : Timer
  debt         : Nat
  censusWindow : Timer
  barredRetry  : Timer
  retryHeld    : Bool
  alignment    : Option (List Change)
deriving DecidableEq, Repr

/-- The presence unit after any reset (R153). -/
def Presence.blank : Presence where
  peers := Vector.replicate 8 Peer.blank
  barring := 0
  muteCause := .none
  beat := none
  beatTimer := none
  debt := 0
  censusWindow := none
  barredRetry := none
  retryHeld := false
  alignment := none

/-! ### Stage executor (R39 to R61, R86 to R95) -/

/-- Sub-states of the stage executor (R45). -/
inductive SubState where
  | idle
  | waiting
  | acting
  | reporting
  | undoing
deriving DecidableEq, Repr

/-- What the barrier timer is timing: a stage barrier (R47), the completion wait (R58), the closing wait (R16), or
a reverse barrier or final wait (R94). -/
inductive BarrierUse where
  | stage
  | completion
  | closing
  | reverse
deriving DecidableEq, Repr

/-- A running barrier timer, with its length in ms. -/
structure BarrierRun where
  use    : BarrierUse
  length : Nat
deriving DecidableEq, Repr

/-- One unwind record (R86). -/
structure UnwindRecord where
  number : TxnNumber
  stage  : Nat
  change : Change
  prior  : Level
deriving DecidableEq, Repr

/-- The action the channel block is carrying out for the stage executor: a forward action of a stage, or the undo of
a record already removed from the stack (R50, R89). -/
inductive Running where
  | forward (stage : Nat) (a : Action)
  | undo (r : UnwindRecord)
deriving DecidableEq, Repr

/-- The stage executor (R45). The stack's top is its first element. `barrierExpired` says that the barrier of the
stage waited for has run out once (R47). -/
structure Executor where
  sub            : SubState
  cursor         : Option Nat
  actionCursor   : Option Nat
  halted         : Bool
  barrier        : Option BarrierRun
  barrierExpired : Bool
  running        : Option Running
  stack          : List UnwindRecord
deriving DecidableEq, Repr

/-- The executor in IDLE, as after any reset (R45). -/
def Executor.idle : Executor where
  sub := .idle
  cursor := none
  actionCursor := none
  halted := false
  barrier := none
  barrierExpired := false
  running := none
  stack := []

/-! ### Channel block (R62 to R79) -/

/-- Rail states (R63). The enable is high in RISING, HOLDING_UP and ON. -/
inductive RailState where
  | off
  | rising
  | holdingUp
  | on
  | falling
  | holdingDown
  | failedUp
  | failedDown
deriving DecidableEq, Repr

/-- Who asked for a rail action: the stage executor (an action or an undo), the settle correction, alignment, or an
alignment that has since been withdrawn or left (R63, R152). -/
inductive Issuer where
  | executor
  | correction
  | alignment
  | detached
deriving DecidableEq, Repr

/-- A rail action held at the channel block behind the one in progress (R44). `up` is a RAISE. -/
structure RailRequest where
  issuer : Issuer
  up     : Bool
deriving DecidableEq, Repr

/-- The working state of one rail channel (R62). `counter` is the settle/hold counter, in units of 10 µs; `issuer` is
who asked for the rail action in progress; monitoring is active while `window` runs (R72). -/
structure Rail where
  state    : RailState
  counter  : Timer
  filter   : Timer
  window   : Timer
  dropouts : Nat
  bounces  : Nat
  loss     : Bool
  issuer   : Option Issuer
  held     : List RailRequest
deriving DecidableEq, Repr

/-- A rail channel standing still in this state, with nothing running (R79). -/
def Rail.still (state : RailState) : Rail where
  state := state
  counter := none
  filter := none
  window := none
  dropouts := 0
  bounces := 0
  loss := false
  issuer := none
  held := []

/-- Signal states (R74). `pulsing prior` drives the opposite of `prior`. -/
inductive SignalState where
  | low
  | high
  | pulsing (prior : Level)
deriving DecidableEq, Repr

/-- A signal output with its pulse counter, in units of 0.1 ms (R75). -/
structure Signal where
  state : SignalState
  pulse : Timer
deriving DecidableEq, Repr

/-- The channel block. `corrections` is the profile-correction count (R43). -/
structure Channel where
  rails       : Table 6 Rail
  signals     : Table 4 Signal
  awaits      : Table 2 Timer
  waitCounter : Timer
  corrections : Nat
deriving DecidableEq, Repr

/-- The channel block with every output low and every counter stopped (R79). -/
def Channel.blank : Channel where
  rails := Vector.replicate 6 (Rail.still .off)
  signals := Vector.replicate 4 { state := .low, pulse := none }
  awaits := Vector.replicate 2 none
  waitCounter := none
  corrections := 0

/-! ### Wake unit (R112 to R126) -/

/-- Qualification states of a LEVEL input (R114). -/
inductive LevelState where
  | idle
  | holding
  | spent
deriving DecidableEq, Repr

/-- The working state of one wake input: LEVEL state and hold counter, COUNT edge count, overflow flag and own window. -/
structure WakeInput where
  level     : LevelState
  hold      : Timer
  edges     : Nat
  overflow  : Bool
  ownWindow : Timer
deriving DecidableEq, Repr

/-- A wake input after any reset (R126). -/
def WakeInput.blank : WakeInput := { level := .idle, hold := none, edges := 0, overflow := false, ownWindow := none }

/-- States of a wake queue entry (R118). -/
inductive EntryState where
  | pending
  | announced
deriving DecidableEq, Repr

/-- One entry of the wake queue (R118). -/
structure WakeEntry where
  input       : Fin 8
  qualifiedAt : Time
  repeats     : Nat
  attempts    : Nat
  state       : EntryState
deriving DecidableEq, Repr

/-- The wake unit. The queue is oldest first; `mark` is the announcing mark, naming an entry by its input. -/
structure WakeUnit where
  inputs       : Table 8 WakeInput
  pressed      : Bool
  debounce     : Timer
  longPress    : Timer
  commonWindow : Timer
  queue        : List WakeEntry
  mark         : Option (Fin 8)
  minDwell     : Timer
  faultHold    : Timer
  demote       : Timer
deriving DecidableEq, Repr

/-- The wake unit after any reset (R126). -/
def WakeUnit.blank : WakeUnit where
  inputs := Vector.replicate 8 WakeInput.blank
  pressed := false
  debounce := none
  longPress := none
  commonWindow := none
  queue := []
  mark := none
  minDwell := none
  faultHold := none
  demote := none

/-! ### Request unit (R20 to R32) -/

/-- The source of a request. NONE marks one already answered (R22). -/
inductive RequestSource where
  | lines
  | button
  | answered
deriving DecidableEq, Repr

/-- A request: kind, image-backed flag and source (manual, 2.2). -/
structure Request where
  kind        : Kind
  imageBacked : Bool
  source      : RequestSource
deriving DecidableEq, Repr

/-- The pending-request latch when it holds a request: `queued` is the condition QUEUED, otherwise WAITING. -/
structure Latch where
  request : Request
  queued  : Bool
deriving DecidableEq, Repr

/-- The request unit. `pulses` counts the REQACK pulses begun and not ended: REQACK is high while it is not 0 (R24). -/
structure RequestUnit where
  latch     : Option Latch
  underVote : Option Request
  deferHold : Timer
  lockout   : Timer
  refresh   : StationSet
  pulses    : Nat
  result    : Level
deriving DecidableEq, Repr

/-- The request unit after any reset (R20, R24, R28 to R30). -/
def RequestUnit.blank : RequestUnit where
  latch := none
  underVote := none
  deferHold := none
  lockout := none
  refresh := 0
  pulses := 0
  result := .low

/-! ### Fault unit (R97 to R111) -/

/-- One entry of the latched fault list (R99). -/
structure FaultEntry where
  code      : FaultCode
  target    : Target
  severity  : Severity
  firstTime : Time
  lastTime  : Time
  count     : Nat
deriving DecidableEq, Repr

/-- One entry of the deferred fault list (R102). `loss` is the code RAIL_LOSS, otherwise RAIL_UNSTABLE. -/
structure DeferredEntry where
  rail  : Fin 6
  loss  : Bool
  stage : Nat
  count : Nat
deriving DecidableEq, Repr

/-- The fault unit. -/
structure FaultUnit where
  latched    : List FaultEntry
  unrecorded : Nat
  deferred   : List DeferredEntry
deriving DecidableEq, Repr

/-- The fault unit after power-on reset (R111). -/
def FaultUnit.blank : FaultUnit := { latched := [], unrecorded := 0, deferred := [] }

/-! ### Configuration loader and maintenance port (R154 to R167) -/

/-- The configuration loader: the loaded image (`none` while the tables are empty), its plan signature, the cause of the
last reset, and how many bytes the loader took from the serial memory for the image that LOAD_DONE brought (`none` while it
reads, and after LOAD_FAILURE, which does not show how far the read came) (R154, R155, R160). The manual gives the signature
no value before load done computes it: the model holds 0, which nothing shows (log 47). -/
structure Loader where
  image      : Option Image
  signature  : Signature
  resetCause : ResetCause
  bytesRead  : Option Nat
deriving DecidableEq, Repr

/-- The maintenance port (R162): the selected command's snapshot; the acknowledge bits of the last transfer, address
byte first; and the bytes the last read transfer returned. -/
structure Port where
  selected : Option (List Byte)
  acks     : List Bool
  output   : List Byte
deriving DecidableEq, Repr

/-- The maintenance port after any reset (R162). -/
def Port.blank : Port := { selected := none, acks := [], output := [] }

/-- The input pins whose level the station reads after the edge that changed it: power-good, sense and wake inputs. -/
structure Pins where
  powerGood : Table 6 Level
  sense     : Table 2 Level
  wake      : Table 8 Level
deriving DecidableEq, Repr

/-- Every kept input pin low. -/
def Pins.blank : Pins where
  powerGood := Vector.replicate 6 .low
  sense := Vector.replicate 2 .low
  wake := Vector.replicate 8 .low

/-- The state of one station, and the commands that wait, first in first out. -/
structure State where
  time      : Time
  pins      : Pins
  link      : Link
  agreement : Agreement
  presence  : Presence
  executor  : Executor
  channel   : Channel
  wake      : WakeUnit
  request   : RequestUnit
  faults    : FaultUnit
  loader    : Loader
  port      : Port
  pending   : List Instr
deriving DecidableEq, Repr

/-- Reasons a step can stop with a fault: none. The manual gives every command of the table an effect, or says that
the event does not occur or changes nothing, and then the step goes on. Safe: no stop stands in for an effect. -/
inductive Fault where
deriving DecidableEq, Repr

/-- Reasons a command can be refused. -/
inductive Refusal where
  /-- Raised by an arm of `exec` that has no meaning yet, with the row's mnemonic. No arm raises it now. Safe. -/
  | notModelled (mnemonic : String)
deriving DecidableEq, Repr

/-- The station right after power-on reset (R19, R79, R111, R126, R140, R153, R160), with no command waiting and
every kept input pin low. -/
def State.reset : State where
  time := 0
  pins := Pins.blank
  link := Link.blank
  agreement := Agreement.blank
  presence := Presence.blank
  executor := Executor.idle
  channel := Channel.blank
  wake := WakeUnit.blank
  request := RequestUnit.blank
  faults := FaultUnit.blank
  loader := { image := none, signature := 0, resetCause := .por, bytesRead := none }
  port := Port.blank
  pending := []

end Sys2Proof.Machine
end

