-- ==== Sys2Proof/Machine/Ops.lean ====
section
/-! DEFINITION. The named operations every block uses: sets of stations, tables, levels, saturating counts, the loaded
configuration, the open transaction, and the record's done-sets. -/

namespace Sys2Proof

namespace Machine

/-- What a command answers. -/
abbrev Result := Host.Outcome State Fault Refusal

/-! ### Tables and counts -/

/-- Read one place of a table. -/
def tabGet {n : Nat} {α : Type} (t : Table n α) (i : Fin n) : α := t[i.val]

/-- Write one place of a table. -/
def tabSet {n : Nat} {α : Type} (t : Table n α) (i : Fin n) (x : α) : Table n α := t.set i.val x i.isLt

/-- A table from what stands in each place. -/
def tabOf {n : Nat} {α : Type} (f : Fin n → α) : Table n α := Vector.ofFn f

/-- Change every place of a table, knowing its index. -/
def tabMap {n : Nat} {α β : Type} (f : Fin n → α → β) (t : Table n α) : Table n β := tabOf fun i => f i (tabGet t i)

/-- One more, stopping at the upper limit (manual, 6.4). -/
def satInc (limit n : Nat) : Nat := min (n + 1) limit

/-- A timer started at a length where a setting of 0 starts none (R29, R109, R123). -/
def startUnlessZero (n : Nat) : Timer := if n = 0 then none else some n

/-! ### Levels -/

end Machine

/-- The other level (R75). -/
def Level.other : Level → Level
  | .low => .high
  | .high => .low

/-- Whether a level is HIGH. -/
def Level.isHigh : Level → Bool
  | .low => false
  | .high => true

/-- The bit a level is shown as: 0 LOW, 1 HIGH (R165). -/
def Level.bit (l : Level) : Nat := if l.isHigh then 1 else 0

namespace Machine

/-- The level of a Boolean. -/
def levelOf (b : Bool) : Level := if b then .high else .low

/-! ### Sets of stations -/

/-- The set holding one station. -/
def setOne (i : StationId) : StationSet := BitVec.ofNat 8 (2 ^ i.val)

/-- Membership. -/
def setHas (s : StationSet) (i : StationId) : Bool := s.getLsbD i.val

/-- Enter a station; entering one already in the set changes nothing (R8). -/
def setAdd (s : StationSet) (i : StationId) : StationSet := s ||| setOne i

/-- Take a station out. -/
def setDrop (s : StationSet) (i : StationId) : StationSet := s &&& ~~~ setOne i

/-- Whether every member of the first set is in the second. -/
def setSubset (a b : StationSet) : Bool := a &&& b == a

/-- The members of the first set that are not in the second. -/
def setMinus (a b : StationSet) : StationSet := a &&& ~~~ b

/-- All station identifiers, ascending (manual, 6.5). -/
def allStations : List StationId := List.finRange 8

/-- The set of the stations that pass a test. -/
def setOf (p : StationId → Bool) : StationSet := allStations.foldl (fun acc i => if p i then setAdd acc i else acc) 0

/-! ### Kinds -/

/-- The value a table holds for a kind. -/
def perKind {α : Type} (t : PerKind α) : Kind → α
  | .enterRest => t.enterRest
  | .enterStow => t.enterStow
  | .enterOff => t.enterOff
  | .resume => t.resume
  | .rise => t.rise
  | .demote => t.demote

end Machine

/-- The 3-bit code of a kind (manual, 4). -/
def Kind.code : Kind → Nat
  | .enterRest => 0
  | .enterStow => 1
  | .enterOff => 2
  | .resume => 3
  | .rise => 4
  | .demote => 5

/-- The target state of a kind (manual, 4). -/
def Kind.target : Kind → SystemState
  | .enterRest => .rest
  | .enterStow => .stow
  | .enterOff => .off
  | .resume => .run
  | .rise => .run
  | .demote => .stow

/-- Entry kinds (manual, 4). -/
def Kind.isEntry : Kind → Bool
  | .enterRest => true
  | .enterStow => true
  | .enterOff => true
  | _ => false

/-- Wake kinds (manual, 4). -/
def Kind.isWake : Kind → Bool
  | .resume => true
  | .rise => true
  | _ => false

/-- The kind a WAKE frame names (R12). -/
def WakeTarget.kind : WakeTarget → Kind
  | .resume => .resume
  | .rise => .rise

namespace Machine

/-- The defer streak of a kind that can be proposed without force (R35). -/
def streakOf (t : PerProposal Nat) : Kind → Nat
  | .enterRest => t.enterRest
  | .enterStow => t.enterStow
  | .enterOff => t.enterOff
  | .demote => t.demote
  | _ => 0

/-- Write the defer streak of a kind; wake kinds have none (R35). -/
def setStreak (t : PerProposal Nat) (k : Kind) (n : Nat) : PerProposal Nat :=
  match k with
  | .enterRest => { t with enterRest := n }
  | .enterStow => { t with enterStow := n }
  | .enterOff => { t with enterOff := n }
  | .demote => { t with demote := n }
  | _ => t

/-- What an inhibit input is configured to call for at a kind (R31). Wake kinds are never proposed. -/
def inhibitFor (t : PerProposal InhibitAction) : Kind → InhibitAction
  | .enterRest => t.enterRest
  | .enterStow => t.enterStow
  | .enterOff => t.enterOff
  | .demote => t.demote
  | _ => .ignore

/-! ### The loaded configuration -/

/-- The system section in use. -/
def State.system (s : State) : SystemSection :=
  match s.loader.image with
  | some i => i.system
  | none => SystemSection.blank

/-- The station section in use. -/
def State.station (s : State) : StationSection :=
  match s.loader.image with
  | some i => i.station
  | none => StationSection.blank

/-- The plan section in use; empty until the load completes (R39, R42). -/
def State.plan (s : State) : PlanSection :=
  match s.loader.image with
  | some i => i.plan
  | none => PlanSection.blank

end Machine

/-- The station ID an image's header gives: byte 4 (R155). -/
def Image.stationId (i : Image) : StationId := Fin.ofNat 8 ((i.header.getD 4 0).toNat)

namespace Machine

/-- This station's own ID. -/
def State.me (s : State) : StationId :=
  match s.loader.image with
  | some i => Image.stationId i
  | none => 0

/-- S of a kind (R156). -/
def State.lastStage (s : State) (k : Kind) : Nat := perKind s.system.stages k

/-- C of a kind (R156). -/
def State.commitStage (s : State) (k : Kind) : Nat := perKind s.system.commits k

/-- The station's entries of a kind, in stage order (R39). -/
def State.entries (s : State) (k : Kind) : List StageEntry := perKind s.plan.plans k

/-- The station's own entry for a stage, if the list holds one (R40). -/
def State.entryAt? (s : State) (k : Kind) (stage : Nat) : Option StageEntry :=
  (s.entries k).find? fun e => e.stage == stage

/-- The wait-set at a stage; an empty entry's is empty (R40). -/
def State.waitSetAt (s : State) (k : Kind) (stage : Nat) : StationSet :=
  match s.entryAt? k stage with
  | some e => e.waitSet
  | none => 0

/-- The action list at a stage; an empty entry's is empty (R40). -/
def State.actionsAt (s : State) (k : Kind) (stage : Nat) : List Action :=
  match s.entryAt? k stage with
  | some e => e.actions
  | none => []

/-- The barrier timeout of a stage's entry, or for an empty entry the greatest of the kind's entries, or 10000 ms where
the kind has none (R40, R94). -/
def State.waitLimit (s : State) (k : Kind) (stage : Nat) : Nat :=
  match s.entryAt? k stage with
  | some e => e.timeout
  | none =>
    match s.entries k with
    | [] => 10000
    | es => es.foldl (fun m e => max m e.timeout) 0

/-- The profile row of a system state, its disabled rail channels LOW (R42). -/
def State.profileRow (s : State) (st : SystemState) : ProfileRow :=
  let row := match st with
    | .run => s.plan.profile.run
    | .rest => s.plan.profile.rest
    | .stow => s.plan.profile.stow
    | .off => s.plan.profile.off
  { row with rails := tabMap (fun ch l => if (tabGet s.station.rails ch).enabled then l else .low) row.rails }

end Machine

/-- Whether a wake input is allowed in a system state; the mask holds REST, STOW and OFF only (R112). -/
def WakeInputDef.allowedIn (d : WakeInputDef) : SystemState → Bool
  | .run => false
  | .rest => d.allowRest
  | .stow => d.allowStow
  | .off => d.allowOff

namespace Machine

/-- The definition of a wake input. -/
def State.wakeDef (s : State) (i : Fin 8) : WakeInputDef := tabGet s.station.wakes i

/-- Whether a wake input reads active: its pin stands at its active level (R112). -/
def State.wakeActive (s : State) (i : Fin 8) : Bool := tabGet s.pins.wake i == (s.wakeDef i).activeLevel

/-- The input of kind BUTTON, if there is one (R157). -/
def State.buttonInput (s : State) : Option (Fin 8) :=
  (List.finRange 8).find? fun i => (s.wakeDef i).kind == .button

/-! ### Done-sets (R55) -/

/-- The done-set of a stage 1 to 12; empty outside that range. -/
def doneAt (t : Table 12 StationSet) (stage : Nat) : StationSet :=
  if h : stage - 1 < 12 ∧ 1 ≤ stage then tabGet t ⟨stage - 1, h.1⟩ else 0

/-- Enter a station into the forward done-sets of a stage and of every stage below it (R55). -/
def enterForward (t : Table 12 StationSet) (stage : Nat) (i : StationId) : Table 12 StationSet :=
  tabMap (fun k d => if k.val < stage then setAdd d i else d) t

/-- Enter a station into the unwind done-sets of a stage and of every stage above it, up to S (R93). -/
def enterUnwind (t : Table 12 StationSet) (stage last : Nat) (i : StationId) : Table 12 StationSet :=
  tabMap (fun k d => if stage ≤ k.val + 1 ∧ k.val + 1 ≤ last then setAdd d i else d) t

/-- The greatest stage, from the given one down, whose done-set is not empty; 0 when there is none (R83). -/
def greatestDone (t : Table 12 StationSet) : Nat → Nat
  | 0 => 0
  | k + 1 => if doneAt t (k + 1) = 0 then greatestDone t k else k + 1

/-! ### The open transaction and the phase -/

/-- Outcomes of a transaction that has not ended (R14). -/
def TxnOutcome.inProgress : TxnOutcome → Bool
  | .opened => true
  | .accepted => true
  | _ => false

/-- Whether the record stands for a transaction that has not ended. -/
def State.recordOpen (s : State) : Bool :=
  match s.agreement.record with
  | some r => r.outcome.inProgress
  | none => false

/-- A silent descent is open: the station is MUTE with a transaction open (R7, R9). -/
def State.silentDescent (s : State) : Bool := s.agreement.phase == .mute && s.recordOpen

/-- A transaction is open in VOTING, STAGING, UNWINDING and DESCENDING, and while a silent descent runs in MUTE (R7). -/
def State.txnOpen (s : State) : Bool :=
  match s.agreement.phase with
  | .voting => true
  | .staging => true
  | .unwinding => true
  | .descending => true
  | .mute => s.recordOpen
  | _ => false

end Machine

/-- The station has a loaded image: every phase but LOADING and CONFIG_FAULT (R7). -/
def Phase.loaded : Phase → Bool
  | .loading => false
  | .configFault => false
  | _ => true

/-- The phases in which a BEAT that bars the station makes it MUTE, and in which dropout monitoring can be active, but
for CENSUS (R71, R147). -/
def Phase.takesPart : Phase → Bool
  | .settled => true
  | .voting => true
  | .staging => true
  | .unwinding => true
  | .descending => true
  | _ => false

namespace Machine

/-- The number the next transaction will take, or 0 while the current number is absent (R129). -/
def State.nextNumber (s : State) : TxnNumber :=
  match s.agreement.number with
  | some n => n + 1
  | none => 0

/-! ### Updates of one block -/

/-- Put a record in place. -/
def State.withRecord (s : State) (r : Record) : State := { s with agreement := { s.agreement with record := some r } }

/-- Change the record, where there is one. -/
def State.onRecord (f : Record → Record) (s : State) : State :=
  match s.agreement.record with
  | some r => s.withRecord (f r)
  | none => s

/-- Write the phase. -/
def State.withPhase (s : State) (p : Phase) : State := { s with agreement := { s.agreement with phase := p } }

/-- Write one peer entry. -/
def State.withPeer (s : State) (i : StationId) (p : Peer) : State :=
  { s with presence := { s.presence with peers := tabSet s.presence.peers i p } }

/-- Read one peer entry. -/
def State.peerAt (s : State) (i : StationId) : Peer := tabGet s.presence.peers i

/-- Read one rail channel. -/
def State.rail (s : State) (ch : Fin 6) : Rail := tabGet s.channel.rails ch

/-- Write one rail channel. -/
def State.withRail (s : State) (ch : Fin 6) (r : Rail) : State :=
  { s with channel := { s.channel with rails := tabSet s.channel.rails ch r } }

/-- The parameters of a rail channel (R62). -/
def State.railParams (s : State) (ch : Fin 6) : RailParams := tabGet s.station.rails ch

/-- Read one wake input's working state. -/
def State.wakeInput (s : State) (i : Fin 8) : WakeInput := tabGet s.wake.inputs i

/-- Write one wake input's working state. -/
def State.withWakeInput (s : State) (i : Fin 8) (w : WakeInput) : State :=
  { s with wake := { s.wake with inputs := tabSet s.wake.inputs i w } }

/-- Count a late proposal (R2). -/
def countLate (s : State) : State :=
  { s with agreement := { s.agreement with lateProposals := satInc 255 s.agreement.lateProposals } }

/-- The transaction a frame's number belongs to is the open one, and its sender is a participant (R8). -/
def Record.matches (r : Record) (number : TxnNumber) (sender : StationId) : Bool :=
  r.number == number && setHas r.participants sender

/-- Whether a peer is PRESENT. -/
def State.isPresent (s : State) (i : StationId) : Bool := (s.peerAt i).presence == .present

/-- The participant set a transaction opening now would freeze: the own ID and every PRESENT peer (R6). -/
def State.participantsNow (s : State) : StationSet := setOf fun i => i == s.me || s.isPresent i

/-- Whether some PRESENT peer last announced the open flag (R148, R150). -/
def State.openHeard (s : State) : Bool :=
  allStations.any fun i => i != s.me && s.isPresent i && (s.peerAt i).lastOpen

/-- Every member of the quorum set is PRESENT; the own ID counts as PRESENT (R122). -/
def State.quorumPresent (s : State) : Bool :=
  allStations.all fun i => !setHas s.system.quorum i || i == s.me || s.isPresent i

end Machine

end Sys2Proof
end

