-- ==== Sys2Proof/Machine/Flags.lean ====
section
/-! DEFINITION. The flags and outputs the station computes from its state: the fault summary, ATTN, STATEOK, the output
levels, the qualification condition, and the codes the port and the frames show. -/

namespace Sys2Proof

namespace Machine

/-- The latched fault list holds an entry of severity SEVERE (R32, R104). -/
def State.hasSevere (s : State) : Bool := s.faults.latched.any fun e => e.severity == .severe

/-- The fault summary of a BEAT (R104). -/
def State.faultSummary (s : State) : Fin 4 :=
  if s.hasSevere then 2
  else if !s.faults.deferred.isEmpty then 3
  else if !s.faults.latched.isEmpty then 1
  else 0

/-- Some outcome history entry has its new flag set (R18). -/
def State.hasNewEntry (s : State) : Bool := s.agreement.history.any fun e => e.isNew

/-- ATTN: driven from load done onward, high while the latched list is not empty or a new flag is set (R104, R167). -/
def State.attn (s : State) : Bool :=
  s.agreement.phase.loaded && (!s.faults.latched.isEmpty || s.hasNewEntry)

/-- STATEOK: high while the phase is SETTLED and the believed state is RUN (R1, R167). -/
def State.stateOk (s : State) : Bool := s.agreement.phase == .settled && s.agreement.believed == some .run

/-- REQACK: high while an answer pulse lasts (R24). -/
def State.reqack (s : State) : Bool := s.request.pulses != 0

/-- SPI chip select: asserted while the image is read, which is in LOADING, and released otherwise (R154, R159). -/
def State.chipSelect (s : State) : Bool := s.agreement.phase == .loading

/-- The 24-bit address that the loader sends behind the memory's read command (R154). -/
def State.spiAddress (s : State) : Option (BitVec 24) := if s.chipSelect then some 0 else none

/-- The enable level the rail state fixes (R63). -/
def RailState.enable : RailState → Level
  | .rising => .high
  | .holdingUp => .high
  | .on => .high
  | _ => .low

/-- A rail enable output (R63). -/
def State.enable (s : State) (ch : Fin 6) : Level := (s.rail ch).state.enable

/-- The level a signal state drives (R74, R75). -/
def SignalState.level : SignalState → Level
  | .low => .low
  | .high => .high
  | .pulsing prior => prior.other

/-- The signal state standing at a level. -/
def signalAt : Level → SignalState
  | .low => .low
  | .high => .high

/-- A signal output. -/
def State.signal (s : State) (i : Fin 4) : Level := (tabGet s.channel.signals i).state.level

/-- Power-good of a rail as its pin stands. -/
def State.powerGood (s : State) (ch : Fin 6) : Level := tabGet s.pins.powerGood ch

end Machine

/-- Monitoring can be active on a rail in ON: not in CENSUS, nor without a loaded image (R71). -/
def Phase.monitors (p : Phase) : Bool := p.takesPart || p == .mute

/-- A SEVERE condition met in this phase requests a FAULT frame (R98). -/
def Phase.requestsFault (p : Phase) : Bool := p.takesPart && p != .descending || p == .census

/-- A deferrable condition met in this phase is deferred (R73, R98). -/
def Phase.defers : Phase → Bool
  | .voting => true
  | .staging => true
  | .unwinding => true
  | _ => false

namespace Machine

/-- Asleep or off: REST, STOW or OFF believed (R113, R122). -/
def asleep : Option SystemState → Bool
  | some .rest => true
  | some .stow => true
  | some .off => true
  | _ => false

/-- The kind of the record, while a transaction is open. -/
def State.openKind (s : State) : Option Kind :=
  if s.txnOpen then s.agreement.record.map (·.kind) else none

/-- Qualification of LEVEL and COUNT inputs runs (R113). -/
def State.qualifies (s : State) : Bool :=
  s.agreement.phase.loaded && s.agreement.phase != .census &&
    (asleep s.agreement.believed ||
      match s.openKind with
      | some k => k.isEntry || k == .demote
      | none => false)

/-- A non-forced transaction is open in VOTING or STAGING (R26). -/
def State.votingOrStaging (s : State) : Bool := s.agreement.phase == .voting || s.agreement.phase == .staging

/-- T_beat as the believed state and the open flag give it (R144). -/
def State.beatInterval (s : State) : Nat :=
  if s.agreement.believed == some .run || s.txnOpen then s.system.beatRun else s.system.beatLow

/-- The exclusion map: one bit for each peer held EXCLUDED (R145). -/
def State.exclusionMap (s : State) : StationSet :=
  setOf fun i => i != s.me && (s.peerAt i).presence == .excluded

end Machine

/-- The phase codes of BEAT and STATUS (R7). LOADING and CONFIG_FAULT are never sent nor shown. -/
def Phase.code : Phase → Nat
  | .census => 0
  | .settled => 1
  | .voting => 2
  | .staging => 3
  | .unwinding => 4
  | .descending => 5
  | .mute => 6
  | .loading => 7
  | .configFault => 7

/-- The system state codes of BEAT (R130). -/
def SystemState.code : SystemState → Nat
  | .run => 0
  | .rest => 1
  | .stow => 2
  | .off => 3

/-- The fault codes (R97). -/
def FaultCode.code : FaultCode → Nat
  | .railTimeout => 1
  | .railStuck => 2
  | .railLoss => 3
  | .railUnstable => 4
  | .senseTimeout => 5
  | .domainLost => 6
  | .stall => 7
  | .peerLost => 8
  | .wakeOverflow => 9
  | .beatOverdue => 10
  | .wakeFailed => 11
  | .linkFault => 12

/-- The reset cause codes (R130). -/
def ResetCause.code : ResetCause → Nat
  | .por => 0
  | .pinReset => 1
  | .restart => 2

/-- The reason codes of a VOTE (R32). -/
def DeclineReason.code : DeclineReason → Nat
  | .inhibit => 1
  | .lockout => 2
  | .faultPending => 3
  | .noImage => 4
  | .refreshPending => 5

/-- The class of a frame kind (R130). -/
def FrameKind.class : FrameKind → Fin 8
  | .fault => 0
  | .abort => 1
  | .wake => 2
  | .stage => 3
  | .vote => 4
  | .propose => 5
  | .beat => 6
  | .census => 7

namespace Machine

/-- The frame kinds, lowest class first (R136). -/
def frameKinds : List FrameKind := [.fault, .abort, .wake, .stage, .vote, .propose, .beat, .census]

end Machine

/-- The kind of a body. -/
def Body.kind : Body → FrameKind
  | .fault _ _ => .fault
  | .abort _ => .abort
  | .wake _ _ => .wake
  | .stage _ _ => .stage
  | .vote _ => .vote
  | .propose _ _ _ => .propose
  | .beat _ => .beat
  | .census _ _ => .census

namespace Machine

/-- The target of a rail fault: the rail channel number (R97). -/
def railTarget (ch : Fin 6) : Target := BitVec.ofNat 4 ch.val

/-- The target of a sense fault: 10 or 11 (R78). -/
def senseTarget (i : Fin 2) : Target := BitVec.ofNat 4 (10 + i.val)

/-- The target that names a peer or a wake input by its number (R97). -/
def eightTarget (i : Fin 8) : Target := BitVec.ofNat 4 i.val

/-- The target "none" (R97). -/
def noTarget : Target := 15

end Machine

end Sys2Proof
end

