-- ==== Sys2Proof/Machine/Operands.lean ====
section
/-! DEFINITION. The operand forms of the link: the bits of a frame, its CRC-8, the form check, what a receiver finds in
error, and bitwise arbitration (R127, R129 to R134). -/

namespace Sys2Proof

open Machine

namespace Machine

/-! ### Fields, most significant bit first (R129) -/

/-- The `n` low bits of a value, most significant first. -/
def fieldBits : Nat → Nat → List Bool
  | 0, _ => []
  | n + 1, v => v.testBit n :: fieldBits n v

/-- The value of a field sent most significant bit first. -/
def fieldValue (bits : List Bool) : Nat := bits.foldl (fun acc b => 2 * acc + b.toNat) 0

end Machine

/-- The answer, and reason, codes of a VOTE (R32, R130). -/
def Answer.fields : Answer → Nat × Nat
  | .accept => (0, 0)
  | .defer => (1, 1)
  | .decline r => (2, r.code)

/-- The cause and wake input fields of an ABORT (R80). -/
def AbortReason.fields : AbortReason → Nat × Nat
  | .wake i => (1, i.val)
  | .timeout => (2, 15)
  | .noQuorum => (3, 15)

/-- The body bits of a frame (R130). -/
def Body.bits : Body → List Bool
  | .fault code target => fieldBits 4 code.code ++ fieldBits 4 target.toNat
  | .abort r => fieldBits 4 r.fields.1 ++ fieldBits 4 r.fields.2
  | .wake t i => [t == .rise] ++ fieldBits 3 i.val ++ fieldBits 4 0
  | .stage d k => [d == .unwind] ++ fieldBits 4 k ++ fieldBits 3 0
  | .vote a => fieldBits 2 a.fields.1 ++ fieldBits 4 a.fields.2 ++ fieldBits 2 0
  | .propose k forced img => fieldBits 3 k.code ++ [forced, img] ++ fieldBits 3 0
  | .beat b => fieldBits 2 b.state.code ++ [b.openFlag] ++ fieldBits 3 b.phase.code ++ fieldBits 2 b.summary.val
      ++ fieldBits 8 b.exclusion.toNat
  | .census sig cause => fieldBits 16 sig.toNat ++ fieldBits 2 cause.code ++ fieldBits 6 0

/-- The arbitration value: the class times 8 plus the sender ID (R129). -/
def Frame.arbitration (f : Frame) : Nat := f.body.kind.class.val * 8 + f.sender.val

/-- The bits the check covers: arbitration, transaction and body (R132). -/
def Frame.covered (f : Frame) : List Bool :=
  fieldBits 6 f.arbitration ++ (fieldBits 8 f.number.toNat ++ f.body.bits)

namespace Machine

/-- One step of the CRC-8 register (R132). -/
def crc8Step (reg : BitVec 8) (bit : Bool) : BitVec 8 :=
  if reg.msb != bit then (reg <<< 1) ^^^ 0x07 else reg <<< 1

/-- The CRC-8 of the covered bits (R132). -/
def crc8 (bits : List Bool) : BitVec 8 := bits.foldl crc8Step 0xFF

end Machine

/-- A whole frame as its sender sends it: start, covered bits, check, reject slot, end (R129). Recessive is `true`. -/
def Frame.line (f : Frame) : List Bool :=
  [false] ++ f.covered ++ fieldBits 8 (crc8 f.covered).toNat ++ [true] ++ List.replicate 7 true

/-- The bit position of the reject slot, counted from 0 at the start bit: it follows the covered bits and the check
(R129). -/
def Frame.rejectSlot (f : Frame) : Nat := f.covered.length + 9

/-! ### The form check (R131) -/

namespace Machine

/-- The fault code of a FAULT frame: 1 to 8 (R131). -/
def linkFaultCode : Nat → Option FaultCode
  | 1 => some .railTimeout
  | 2 => some .railStuck
  | 3 => some .railLoss
  | 4 => some .railUnstable
  | 5 => some .senseTimeout
  | 6 => some .domainLost
  | 7 => some .stall
  | 8 => some .peerLost
  | _ => none

/-- Whether a target suits a FAULT code (R131). Codes 9 to 12 are never sent. -/
def targetSuits : FaultCode → Target → Bool
  | .railTimeout, t => t.toNat ≤ 5
  | .railStuck, t => t.toNat ≤ 5
  | .railLoss, t => t.toNat ≤ 5
  | .railUnstable, t => t.toNat ≤ 5
  | .senseTimeout, t => t.toNat == 10 || t.toNat == 11
  | .domainLost, t => t.toNat == 15
  | .stall, t => t.toNat == 15
  | .peerLost, t => t.toNat ≤ 7
  | _, _ => false

/-- The body of a FAULT (R131). -/
def readFault (code target : Nat) : Option Body :=
  match linkFaultCode code with
  | some c => if targetSuits c (BitVec.ofNat 4 target) then some (.fault c (BitVec.ofNat 4 target)) else none
  | none => none

/-- The body of an ABORT (R131). -/
def readAbort (cause input : Nat) : Option Body :=
  match cause with
  | 1 => if h : input < 8 then some (.abort (.wake ⟨input, h⟩)) else none
  | 2 => if input = 15 then some (.abort .timeout) else none
  | 3 => if input = 15 then some (.abort .noQuorum) else none
  | _ => none

/-- The body of a VOTE, its zero bits read apart (R131). -/
def readVote (answer reason : Nat) : Option Body :=
  match answer, reason with
  | 0, 0 => some (.vote .accept)
  | 1, 1 => some (.vote .defer)
  | 2, 1 => some (.vote (.decline .inhibit))
  | 2, 2 => some (.vote (.decline .lockout))
  | 2, 3 => some (.vote (.decline .faultPending))
  | 2, 4 => some (.vote (.decline .noImage))
  | 2, 5 => some (.vote (.decline .refreshPending))
  | _, _ => none

/-- The kind a code 0 to 5 names; 6 and 7 are not kinds (R2, R131). -/
def kindOfCode : Nat → Option Kind
  | 0 => some .enterRest
  | 1 => some .enterStow
  | 2 => some .enterOff
  | 3 => some .resume
  | 4 => some .rise
  | 5 => some .demote
  | _ => none

/-- The system state a 2-bit code names (R130). -/
def stateOfCode : Nat → SystemState
  | 0 => .run
  | 1 => .rest
  | 2 => .stow
  | _ => .off

/-- The phase a BEAT's code names; 7 is a form error (R131). -/
def phaseOfCode : Nat → Option Phase
  | 0 => some .census
  | 1 => some .settled
  | 2 => some .voting
  | 3 => some .staging
  | 4 => some .unwinding
  | 5 => some .descending
  | 6 => some .mute
  | _ => none

/-- The reset cause a CENSUS's code names; 3 is a form error (R131). -/
def resetOfCode : Nat → Option ResetCause
  | 0 => some .por
  | 1 => some .pinReset
  | 2 => some .restart
  | _ => none

/-- The body of a BEAT (R131). -/
def readBeat (state : Nat) (openFlag : Bool) (phase summary map : Nat) : Option Body :=
  match phaseOfCode phase with
  | some p => some (.beat { state := stateOfCode state, openFlag := openFlag, phase := p, summary := Fin.ofNat 4 summary,
                            exclusion := BitVec.ofNat 8 map })
  | none => none

/-- The body a class's bits hold, or `none` at a form error or a wrong body length (R131). -/
def readBody (cls : Nat) (b : List Bool) : Option Body :=
  let v (at' n : Nat) : Nat := fieldValue ((b.drop at').take n)
  let bit (i : Nat) : Bool := b.getD i false
  match cls with
  | 0 => if b.length = 8 then readFault (v 0 4) (v 4 4) else none
  | 1 => if b.length = 8 then readAbort (v 0 4) (v 4 4) else none
  | 2 => if b.length = 8 ∧ v 4 4 = 0 then
      some (.wake (if bit 0 then .rise else .resume) (Fin.ofNat 8 (v 1 3))) else none
  | 3 => if b.length = 8 ∧ v 5 3 = 0 ∧ 1 ≤ v 1 4 ∧ v 1 4 ≤ 12 then
      some (.stage (if bit 0 then .unwind else .forward) (v 1 4)) else none
  | 4 => if b.length = 8 ∧ v 6 2 = 0 then readVote (v 0 2) (v 2 4) else none
  | 5 => if b.length = 8 ∧ v 5 3 = 0 then
      match kindOfCode (v 0 3) with
      | some k => some (.propose k (bit 3) (bit 4))
      | none => none
    else none
  | 6 => if b.length = 16 then readBeat (v 0 2) (bit 2) (v 3 3) (v 6 2) (v 8 8) else none
  | 7 => if b.length = 24 ∧ v 18 6 = 0 then
      match resetOfCode (v 16 2) with
      | some c => some (.census (BitVec.ofNat 16 (v 0 16)) c)
      | none => none
    else none
  | _ => none

/-- The frame a receiver reads from the covered bits, or `none` at a form error (R129 to R131). -/
def readFrame (bits : List Bool) : Option Frame :=
  let arb := fieldValue (bits.take 6)
  match readBody (arb / 8) (bits.drop 14) with
  | some body => some { sender := Fin.ofNat 8 arb, number := BitVec.ofNat 8 (fieldValue ((bits.drop 6).take 8)), body := body }
  | none => none

/-! ### Bit timing and the receiver's judgement (R127, R134) -/

end Machine

/-- The bit time, in units of 0.1 µs (R127). -/
def LinkRate.bitTime : LinkRate → Nat
  | .kbit50 => 200
  | .kbit100 => 100
  | .kbit250 => 40

/-- The sample point from the start of a bit cell: three quarters of the bit time (R127). -/
def LinkRate.samplePoint (r : LinkRate) : Nat := r.bitTime * 3 / 4

/-- A length error: an edge farther than a quarter of a bit time from every expected boundary (R127). -/
def Reception.lengthError (r : LinkRate) (rx : Reception) : Bool := rx.edges.any fun d => r.bitTime / 4 < d

/-- A check error: the received check differs from the CRC-8 of the covered bits (R132). -/
def Reception.checkError (rx : Reception) : Bool :=
  let n := rx.bits.length - 8
  fieldValue (rx.bits.drop n) != (crc8 (rx.bits.take n)).toNat

/-- A form error in the covered bits (R131). -/
def Reception.formError (rx : Reception) : Bool := (readFrame (rx.bits.take (rx.bits.length - 8))).isNone

/-- The station finds the frame in error: a length, form or check error (R134). -/
def Reception.inError (r : LinkRate) (rx : Reception) : Bool :=
  rx.lengthError r || rx.formError || rx.checkError

/-- The reject slot of a frame as its receiver counts the bits: it follows the start bit and what was read (R129). -/
def Reception.rejectSlot (rx : Reception) : Nat := rx.bits.length + 1

/-- The bits, first and last, through which a receiver that finds the frame in error holds the line dominant (R134): the
reject slot and two end bits, and after a length error from the bit behind `metAt`, where by its own count it met the
error, for at least one bit. -/
def Reception.errorRun (r : LinkRate) (rx : Reception) (metAt : Nat) : Option (Nat × Nat) :=
  if rx.lengthError r then some (metAt + 1, max (metAt + 1) (rx.rejectSlot + 2))
  else if rx.inError r then some (rx.rejectSlot, rx.rejectSlot + 2)
  else none

/-- The receiver holds this bit dominant (R134). -/
def Reception.holds (r : LinkRate) (rx : Reception) (metAt p : Nat) : Bool :=
  match rx.errorRun r metAt with
  | some (first, last) => decide (first ≤ p) && decide (p ≤ last)
  | none => false

/-! ### Arbitration and mismatch (R133) -/

namespace Machine

/-- A station sending the first bits loses to a line carrying the second: at the first bit that differs it sends
recessive and reads dominant. -/
def losesBits : List Bool → List Bool → Bool
  | a :: as, b :: bs => if a == b then losesBits as bs else a
  | _, _ => false

/-- A station with the arbitration value `own` loses to the value `winner` on the line. -/
def losesTo (own : Nat) (winner : BitVec 6) : Bool := losesBits (fieldBits 6 own) (fieldBits 6 winner.toNat)

/-- The first place at which a bit read back differs from the bit sent. -/
def firstDifference (sent read : List Bool) : Option Nat := (sent.zip read).findIdx? fun x => x.1 != x.2

end Machine

/-- The bit of the start and arbitration fields that the sender reads back other than it sent it: it has lost (R133). -/
def Frame.lostAt (f : Frame) (read : List Bool) : Option Nat := firstDifference (f.line.take 7) read

/-- The first bit before the reject slot that the sender reads back other than it sent it; behind the arbitration field
this is a mismatch (R133). -/
def Frame.differsAt (f : Frame) (read : List Bool) : Option Nat := firstDifference (f.line.take f.rejectSlot) read

/-- The sender holds this bit dominant while it reads the line so (R133): its own dominant bits, up to a bit that it reads
back other than sent. From there on it is silent where it lost arbitration, and at a mismatch holds the line dominant
through its reject slot and two end bits. -/
def Frame.holds (f : Frame) (read : List Bool) (p : Nat) : Bool :=
  match f.lostAt read, f.differsAt read with
  | some l, _ => decide (p ≤ l) && f.line[p]? == some false
  | none, some m => if p ≤ m then f.line[p]? == some false else decide (p ≤ f.rejectSlot + 2)
  | none, none => f.line[p]? == some false

end Sys2Proof
end

