-- ==== Sys2Proof/Machine/Link.lean ====
section
/-! DEFINITION. The transmit slots of the link controller: fills, purges, starts, and the ends of an attempt
(R133 to R139), with what the owner of a frame does when told it was purged (R22, R26, R124). -/

namespace Sys2Proof.Machine

open Sys2Proof

/-! ### Slots -/

/-- The slot of a kind (R136). -/
def State.slot (s : State) (k : FrameKind) : Slot := tabGet s.link.slots k.class

/-- Write the slot of a kind. -/
def State.withSlot (s : State) (k : FrameKind) (x : Slot) : State :=
  { s with link := { s.link with slots := tabSet s.link.slots k.class x } }

/-- The station takes part on the link: it has a loaded image and has integrated (R7, R128). -/
def State.onLink (s : State) : Bool := s.link.integrated && s.agreement.phase.loaded

/-- The link controller takes a fill of this kind: not in MUTE, but for a CENSUS while BARRED (R139). -/
def State.takesFill (s : State) (k : FrameKind) : Bool :=
  s.agreement.phase != .mute || (k == .census && s.presence.muteCause == .barred)

/-- A frame of this station, with its own sender ID (R129). -/
def State.ownFrame (s : State) (number : TxnNumber) (body : Body) : Frame :=
  { sender := s.me, number := number, body := body }

/-- A latched request waits again (R22). -/
def latchWaits (s : State) : State :=
  match s.request.latch with
  | some l => { s with request := { s.request with latch := some { l with queued := false } } }
  | none => s

/-- Clear the announcing mark (R124). -/
def clearMark (s : State) : State := { s with wake := { s.wake with mark := none } }

/-- What the owner does when told that its frame was purged: an own WAKE clears the announcing mark (R124); an own
PROPOSE made for the latched request returns the latch to WAITING (R22). Other owners do nothing. A forced PROPOSE is
queued again where R26 says so (`requeueForced`). -/
def reportPurged (r : Ready) (s : State) : State :=
  match r.frame.body with
  | .wake _ _ => clearMark s
  | .propose kind forced _ => if forced || kind == .demote || r.forReplaced then s else latchWaits s
  | _ => s

/-- The report on whatever the queued place held. -/
def reportQueued (q : Option Queued) (s : State) : State :=
  match q with
  | some (.ready r) => reportPurged r s
  | _ => s

/-- A fill of the queued place (R136). Refused in MUTE, the owner told at once that the frame was purged (R139). A frame
already queued is removed and its owner told. The new frame's rejection count is 0; while the sending place is full, the
count still belongs to the frame on the line. -/
def fillSlot (k : FrameKind) (q : Queued) (s : State) : State :=
  if s.takesFill k then
    let s := reportQueued (s.slot k).queued s
    let x := s.slot k
    s.withSlot k { x with queued := some q, rejections := if x.sending.isNone then 0 else x.rejections }
  else reportQueued (some q) s

/-- Fill the slot of a frame's kind with this station's frame of that number and body. -/
def fillFrame (number : TxnNumber) (body : Body) (s : State) : State :=
  fillSlot body.kind (.ready { frame := s.ownFrame number body, forReplaced := false }) s

/-- Fill a CENSUS: number 0, the plan signature and the cause of the last reset (R129, R148, R150). -/
def fillCensus (s : State) : State := fillFrame 0 (.census s.loader.signature s.loader.resetCause) s

/-- The BEAT slot holds a BEAT queued or being sent (R145). -/
def State.beatInSlot (s : State) : Bool := (s.slot .beat).queued.isSome || (s.slot .beat).sending.isSome

/-- Fill a BEAT, if none is queued or being sent (R145), with the current number, 0 while it is absent (R129; that the number
stays as filled is DEDUCED, log 53). -/
def fillBeat (s : State) : State :=
  if s.beatInSlot then s else fillSlot .beat (.beatDue (s.agreement.number.getD 0)) s

/-- A BEAT filled under this number, its body from the station's values at this moment (R145, R130). -/
def State.composeBeat (s : State) (number : TxnNumber) : Frame :=
  s.ownFrame number (.beat
    { state := if s.agreement.phase == .census then .run else s.agreement.believed.getD .run
      openFlag := s.txnOpen
      phase := s.agreement.phase
      summary := s.faultSummary
      exclusion := s.exclusionMap })

/-! ### Purges (R138) -/

/-- Whether a queued place holds a frame that a purge names. -/
def queuedMatches (test : Frame → Bool) : Option Queued → Bool
  | some (.ready r) => test r.frame
  | _ => false

/-- Whether a sending place holds a frame that a purge names. -/
def sendingMatches (test : Frame → Bool) : Option Ready → Bool
  | some r => test r.frame
  | none => false

/-- Purge the frames of one kind that pass a test: a matching queued frame is removed, with the slot's count set to 0 and
the owner told; a matching frame on the line receives the purge mark (R138). -/
def purgeKind (k : FrameKind) (test : Frame → Bool) (s : State) : State :=
  let x := s.slot k
  let hit := queuedMatches test x.queued
  let s1 := s.withSlot k
    { queued := if hit then none else x.queued
      sending := x.sending
      rejections := if hit then 0 else x.rejections
      purgeMark := x.purgeMark || sendingMatches test x.sending }
  if hit then reportQueued x.queued s1 else s1

/-- Purge the frames of one kind that carry a number (R138). -/
def purgeNumber (k : FrameKind) (n : TxnNumber) (s : State) : State := purgeKind k (fun f => f.number == n) s

/-- Purge VOTE, STAGE and ABORT of a number, as at a close and a supersede (R13, R15). -/
def purgeTransaction (n : TxnNumber) (s : State) : State :=
  purgeNumber .abort n (purgeNumber .stage n (purgeNumber .vote n s))

/-- An ABORT whose cause is TIMEOUT. -/
def isTimeoutAbort (f : Frame) : Bool :=
  match f.body with
  | .abort .timeout => true
  | _ => false

/-- A FAULT whose code is PEER_LOST. -/
def isPeerLostFault (f : Frame) : Bool :=
  match f.body with
  | .fault .peerLost _ => true
  | _ => false

/-- A forced PROPOSE. -/
def isForcedPropose (f : Frame) : Bool :=
  match f.body with
  | .propose _ forced _ => forced
  | _ => false

/-- Remove every queued frame with its owner told, and clear every count and mark (R139). -/
def emptySlots (s : State) : State :=
  let s1 := frameKinds.foldl (fun s k => reportQueued (s.slot k).queued s) s
  { s1 with link := { s1.link with slots := Vector.replicate 8 Slot.blank } }

/-! ### A frame's attempt (R133, R135 to R137) -/

/-- The kind whose slot is sending, if one is (R136). -/
def State.sendingKind (s : State) : Option FrameKind := frameKinds.find? fun k => (s.slot k).sending.isSome

/-- What the station sends on SLK: `none` while it releases the line, as in LOADING, in CONFIG_FAULT, before integration
and after a reset, else the bits of the frame it is sending, each dominant bit (`false`) driven low and each recessive bit
released (R127, R128, R140). -/
def State.slk (s : State) : Option (List Bool) :=
  if s.onLink then
    match s.sendingKind with
    | some k => (s.slot k).sending.map fun r => r.frame.line
    | none => none
  else none

/-- The kind of lowest class whose queued place is full (R136). -/
def State.nextKind (s : State) : Option FrameKind := frameKinds.find? fun k => (s.slot k).queued.isSome

/-- The frame a queued place gives when it starts: the body of a BEAT is composed at its first start (R136, R145). -/
def State.startedFrame (s : State) : Queued → Ready
  | .ready r => r
  | .beatDue n => { frame := s.composeBeat n, forReplaced := false }

/-- The frame of a kind's slot starts: it moves to the sending place (R136). -/
def startSlot (k : FrameKind) (s : State) : State :=
  let x := s.slot k
  match x.queued with
  | some q => s.withSlot k { x with queued := none, sending := some (s.startedFrame q) }
  | none => s

/-- Queue a forced PROPOSE of ENTER_OFF (R26). -/
def fillForcedPropose (s : State) : State := fillFrame s.nextNumber (.propose .enterOff true false) s

/-- A non-forced transaction is open in VOTING or STAGING, so a long press still applies (R26). -/
def State.longPressApplies (s : State) : Bool := s.votingOrStaging

/-- A forced PROPOSE that a purge took is queued again while a long press still applies (R26). -/
def requeueForced (took : Bool) (s : State) : State :=
  if took && s.longPressApplies && (s.slot .propose).queued.isNone then fillForcedPropose s else s

/-- An attempt of the frame in a kind's sending place ends without delivery, at this rejection count: with a purge mark
or a newer frame waiting it is dropped and its owner told, otherwise it returns to the queued place (R137, R138). The owner
of a dropped ABORT does nothing: an ABORT(WAKE) that was on the line at ACCEPTED and is dropped by its mark is not requested
again (the model's choice, log 45). -/
def returnFrame (k : FrameKind) (count : Nat) (s : State) : State :=
  let x := s.slot k
  match x.sending with
  | none => s
  | some r =>
    if x.purgeMark || x.queued.isSome then
      let s1 := s.withSlot k { queued := x.queued, sending := none, rejections := 0, purgeMark := false }
      requeueForced (isForcedPropose r.frame) (reportPurged r s1)
    else s.withSlot k { queued := some (.ready r), sending := none, rejections := count, purgeMark := false }

/-- The station's own frame is delivered: the sending place empties, the count becomes 0, and a mark is cleared (R135,
R137, R138). -/
def clearSending (k : FrameKind) (s : State) : State :=
  let x := s.slot k
  s.withSlot k { x with sending := none, rejections := 0, purgeMark := false }

/-- The frame this station is sending, when a delivered frame is its own (R134). -/
def State.ownSending (s : State) (f : Frame) : Option Ready :=
  match (s.slot f.body.kind).sending with
  | some r => if f.sender = s.me ∧ r.frame = f then some r else none
  | none => none

/-- Count a receive error (R134). -/
def countReceiveError (s : State) : State :=
  { s with link := { s.link with receiveErrors := satInc 65535 s.link.receiveErrors } }

/-- The station holds SLK dominant through the reject slot of a frame it read so: it finds the frame in error and is not
MUTE (R134, R139). -/
def State.rejects (s : State) (rx : Reception) : Bool :=
  s.onLink && s.agreement.phase != .mute && rx.inError s.system.linkRate

/-- The frame this station is sending, if it is sending one (R136). -/
def State.sendingFrame (s : State) : Option Frame :=
  match s.sendingKind with
  | some k => (s.slot k).sending.map fun r => r.frame
  | none => none

/-- The station holds SLK dominant at bit `p` of the frame on the line: a bit that its own frame gives, with what R133 gives
at a lost arbitration and at a mismatch, or a bit of the run by which it rejects the frame (R134), which a MUTE station
leaves out (R139). `read` is the line as it reads it from the start bit on, `rx` what it read of the frame, and `metAt` the
bit in which it met a length error (log 51). -/
def State.holdsSlk (s : State) (read : List Bool) (rx : Reception) (metAt p : Nat) : Bool :=
  s.onLink &&
    ((match s.sendingFrame with
      | some f => f.holds read p
      | none => false) ||
     (s.agreement.phase != .mute && rx.holds s.system.linkRate metAt p))

/-- Raise the receive-error count when this station finds the frame in error (R134, R139). -/
def judgeReception (rx : Reception) (s : State) : State :=
  if rx.inError s.system.linkRate then countReceiveError s else s

end Sys2Proof.Machine
end

