-- ==== Sys2Proof/Machine/Faults.lean ====
section
/-! DEFINITION. The fault unit: the latched and deferred lists, the severity decision, FAULT requests and the judgement at
a close (R97 to R103), and the request of an ABORT (R80). -/

namespace Sys2Proof.Machine

open Sys2Proof

/-- The severity an entry takes at a further occurrence: SEVERE is never lowered (R99). -/
def worseSeverity (old new : Severity) : Severity := if new == .severe then .severe else old

/-- A latched entry after a further occurrence (R99). -/
def FaultEntry.again (e : FaultEntry) (sev : Severity) (now : Time) : FaultEntry :=
  { e with severity := worseSeverity e.severity sev, lastTime := now, count := satInc 255 e.count }

/-- Whether an entry is of this pair (R99). -/
def FaultEntry.isPair (e : FaultEntry) (code : FaultCode) (target : Target) : Bool :=
  e.code == code && e.target == target

/-- Latch a condition (R99): a further occurrence of its pair, a new entry, or, with the list full, an unrecorded one. -/
def latchFault (code : FaultCode) (target : Target) (sev : Severity) (s : State) : State :=
  if s.faults.latched.any (fun e => e.isPair code target) then
    { s with faults := { s.faults with
        latched := s.faults.latched.map fun e => if e.isPair code target then e.again sev s.time else e } }
  else if s.faults.latched.length < 8 then
    { s with faults := { s.faults with
        latched := s.faults.latched ++ [⟨code, target, sev, s.time, s.time, 1⟩] } }
  else { s with faults := { s.faults with unrecorded := satInc 255 s.faults.unrecorded } }

/-- Whether a FAULT request of this code is passed on, by what the queued place holds (R101). -/
def passesFault (code : FaultCode) : Option Queued → Bool
  | some (.ready r) => isPeerLostFault r.frame && code != .peerLost
  | _ => true

/-- Request a FAULT frame, subject to the rules of the slot (R101). -/
def requestFault (code : FaultCode) (target : Target) (s : State) : State :=
  if passesFault code (s.slot .fault).queued then fillFrame s.nextNumber (.fault code target) s else s

/-- Latch a condition and, when it is SEVERE and `send` holds, request FAULT: the latch comes first (R98). -/
def disposeFault (code : FaultCode) (target : Target) (sev : Severity) (send : Bool) (s : State) : State :=
  let s := latchFault code target sev s
  if send && sev == .severe then requestFault code target s else s

/-- Raise a condition that is not deferrable: disposed of by the phase it is met in (R98). -/
def raiseFault (code : FaultCode) (target : Target) (sev : Severity) (s : State) : State :=
  disposeFault code target sev s.agreement.phase.requestsFault s

/-- A deferred entry after a further condition on its rail (R102). -/
def DeferredEntry.again (e : DeferredEntry) (loss : Bool) : DeferredEntry :=
  { e with loss := e.loss || loss, count := satInc 255 e.count }

/-- Enter a condition in the deferred fault list (R102). -/
def deferFault (ch : Fin 6) (loss : Bool) (s : State) : State :=
  if s.faults.deferred.any (fun e => e.rail == ch) then
    { s with faults := { s.faults with
        deferred := s.faults.deferred.map fun e => if e.rail == ch then e.again loss else e } }
  else
    { s with faults := { s.faults with
        deferred := s.faults.deferred ++ [⟨ch, loss, s.executor.cursor.getD 0, 1⟩] } }

/-- The code of a rail condition. -/
def lossCode (loss : Bool) : FaultCode := if loss then .railLoss else .railUnstable

/-- Dispose of RAIL_LOSS (`loss`) or RAIL_UNSTABLE on a rail in ON (R73). -/
def raiseRailCondition (ch : Fin 6) (loss : Bool) (s : State) : State :=
  if (s.railParams ch).tolerant && s.agreement.phase.defers then deferFault ch loss s
  else raiseFault (lossCode loss) (railTarget ch) (if loss then .severe else (s.railParams ch).unstable) s

/-- The severity a deferred entry is judged at: NOTICE on a rail in ON with power-good high, else SEVERE (R103). -/
def State.judgedSeverity (s : State) (ch : Fin 6) : Severity :=
  if (s.rail ch).state == .on && s.powerGood ch == .high then .notice else .severe

/-- Judge one deferred entry (R103). -/
def judgeEntry (send : Bool) (s : State) (e : DeferredEntry) : State :=
  disposeFault (lossCode e.loss) (railTarget e.rail) (s.judgedSeverity e.rail) send s

/-- Judge the deferred fault list in list order and empty it (R103). SEVERE results request FAULT when `send` holds: at a
close by R15, not at a supersede, an entry to MUTE or a forced close (R98). -/
def judgeDeferred (send : Bool) (s : State) : State :=
  let s1 := s.faults.deferred.foldl (judgeEntry send) s
  { s1 with faults := { s1.faults with deferred := [] } }

/-- Whether an ABORT request is passed on, by the queued ABORT of the open number (R80). -/
def passesAbort (n : TxnNumber) (reason : AbortReason) : Option Queued → Bool
  | some (.ready r) =>
    if r.frame.number == n then
      match reason, r.frame.body with
      | .wake _, .abort (.wake _) => false
      | .wake _, _ => true
      | _, _ => false
    else true
  | _ => true

/-- Request an ABORT of the open number (R80). -/
def requestAbort (n : TxnNumber) (reason : AbortReason) (s : State) : State :=
  if passesAbort n reason (s.slot .abort).queued then fillFrame n (.abort reason) s else s

end Sys2Proof.Machine
end

