-- ==== Sys2Proof/Machine/Channel.lean ====
section
/-! DEFINITION. The channel block: rail actions, monitoring, abandonment, signals, pulses, senses and WAIT, the settle
correction and the profile comparison (R41 to R44, R62 to R79). -/

namespace Sys2Proof.Machine

open Sys2Proof

/-! ### Completions -/

/-- The one completion of an action (R41). -/
inductive Completion where
  | changed
  | unchanged
  | failed
deriving DecidableEq, Repr

/-- A rail action's completion on its way to whoever issued the action (R78). -/
structure Notice where
  issuer     : Issuer
  completion : Completion
deriving DecidableEq, Repr

/-- The prior level a *changed* completion of a change hands back (R64, R67, R74, R87). -/
def priorOf : Change → Level
  | .raise _ => .low
  | .drop _ => .high
  | .setHigh _ => .low
  | .setLow _ => .high

/-- The opposite change: the undo of a record (R90). -/
def undoOf : Change → Change
  | .raise ch => .drop ch
  | .drop ch => .raise ch
  | .setHigh i => .setLow i
  | .setLow i => .setHigh i

/-! ### Rails -/

/-- A rail action can start: no rail action is in progress on the channel (R63, R64, R67). -/
def RailState.standing : RailState → Bool
  | .off => true
  | .on => true
  | .failedUp => true
  | .failedDown => true
  | _ => false

/-- The rail with dropout monitoring started: count 0, marker clear, a fresh window, and the filter if power-good reads
low (R71, R72). -/
def startedMonitoring (p : RailParams) (pg : Level) (r : Rail) : Rail :=
  { r with dropouts := 0, loss := false, window := some p.dropoutWindow,
           filter := if pg == .low then some p.dropoutFilter else none }

/-- The rail with the dropout filter and the dropout window stopped (R67). -/
def stoppedMonitoring (r : Rail) : Rail := { r with filter := none, window := none }

/-- Start dropout monitoring on a rail (R71). -/
def startMonitoring (ch : Fin 6) (s : State) : State :=
  s.withRail ch (startedMonitoring (s.railParams ch) (s.powerGood ch) (s.rail ch))

/-- The rail enters ON, with monitoring where the phase has it active (R66, R71). -/
def enterOn (ch : Fin 6) (s : State) : State :=
  let s := s.withRail ch { s.rail ch with state := .on, counter := none, issuer := none }
  if s.agreement.phase.monitors then startMonitoring ch s else s

/-- The rail enters a standing state with its enable low, its counter stopped and no action in progress. -/
def enterLow (ch : Fin 6) (state : RailState) (s : State) : State :=
  s.withRail ch { s.rail ch with state := state, counter := none, issuer := none }

/-- The rail enters RISING, HOLDING_UP, FALLING or HOLDING_DOWN with the counter at its full length (R63). -/
def enterTimed (ch : Fin 6) (state : RailState) (length : Nat) (s : State) : State :=
  s.withRail ch { s.rail ch with state := state, counter := some length }

/-- The rail enters HOLDING_UP; a hold-up of 0 ends at the moment of entry (R64 to R66). -/
def enterHoldingUp (ch : Fin 6) (s : State) : State × Option Completion :=
  if (s.railParams ch).holdUp = 0 then (enterOn ch s, some .changed)
  else (enterTimed ch .holdingUp (s.railParams ch).holdUp s, none)

/-- The rail enters HOLDING_DOWN; a hold-down of 0 ends at the moment of entry (R67, R68). -/
def enterHoldingDown (ch : Fin 6) (s : State) : State × Option Completion :=
  if (s.railParams ch).holdDown = 0 then (enterLow ch .off s, some .changed)
  else (enterTimed ch .holdingDown (s.railParams ch).holdDown s, none)

/-- The channel takes a new rail action: bounce count 0, and who issued it (R63). -/
def takeAction (ch : Fin 6) (iss : Issuer) (s : State) : State :=
  s.withRail ch { s.rail ch with bounces := 0, issuer := some iss }

/-- A RAISE on a standing rail (R64). -/
def startRaise (ch : Fin 6) (iss : Issuer) (s : State) : State × Option Completion :=
  if (s.rail ch).state == .on then (s, some .unchanged)
  else
    let s := takeAction ch iss s
    if s.powerGood ch == .high then enterHoldingUp ch s
    else (enterTimed ch .rising (s.railParams ch).settleWindow s, none)

/-- A DROP on a standing rail (R67). -/
def startDrop (ch : Fin 6) (iss : Issuer) (s : State) : State × Option Completion :=
  if (s.rail ch).state == .on then
    let s := takeAction ch iss (s.withRail ch (stoppedMonitoring (s.rail ch)))
    if s.powerGood ch == .low then enterHoldingDown ch s
    else (enterTimed ch .falling (s.railParams ch).dischargeWindow s, none)
  else (s, some .unchanged)

/-- A rail action on a standing rail. -/
def startStanding (ch : Fin 6) (q : RailRequest) (s : State) : State × Option Completion :=
  if q.up then startRaise ch q.issuer s else startDrop ch q.issuer s

/-- A rail action is issued: *unchanged* at once on a channel that is not enabled (R42), held while another rail action
is in progress on the channel (R44), else started. -/
def issueRail (ch : Fin 6) (q : RailRequest) (s : State) : State × Option Completion :=
  if !(s.railParams ch).enabled then (s, some .unchanged)
  else if (s.rail ch).state.standing then startStanding ch q s
  else (s.withRail ch { s.rail ch with held := (s.rail ch).held ++ [q] }, none)

/-- Start the held rail actions of a channel in turn, until one takes time (R44). -/
def serveHeld (ch : Fin 6) : List RailRequest → State → State × List Notice
  | [], s => (s.withRail ch { s.rail ch with held := [] }, [])
  | q :: rest, s =>
    match startStanding ch q s with
    | (s1, none) => (s1.withRail ch { s1.rail ch with held := rest }, [])
    | (s1, some c) =>
      let (s2, ns) := serveHeld ch rest s1
      (s2, ⟨q.issuer, c⟩ :: ns)

/-- Start what a channel held, once its rail stands again. -/
def serveRail (ch : Fin 6) (s : State) : State × List Notice := serveHeld ch (s.rail ch).held s

/-- The notices of a completed rail action of this issuer, with those of the actions held behind it (R44, R78). -/
def railNotices (ch : Fin 6) (iss : Option Issuer) (c : Completion) (s : State) : State × List Notice :=
  let (s1, ns) := serveRail ch s
  match iss with
  | some i => (s1, ⟨i, c⟩ :: ns)
  | none => (s1, ns)

/-- A rail action fails: the channel takes its failed state, the fault is raised, and the completion follows (R78). -/
def failRail (ch : Fin 6) (state : RailState) (code : FaultCode) (s : State) : State × List Notice :=
  let iss := (s.rail ch).issuer
  railNotices ch iss .failed (raiseFault code (railTarget ch) .severe (enterLow ch state s))

/-- After an edge that starts a hold: its completion, if the hold is 0. -/
def afterHold (ch : Fin 6) (iss : Option Issuer) : State × Option Completion → State × List Notice
  | (s, some c) => railNotices ch iss c s
  | (s, none) => (s, [])

/-- A bounce: below the threshold the rail goes back to its window, at the threshold the action fails (R66, R68). -/
def bounceRail (ch : Fin 6) (back : RailState) (length : Nat) (failed : RailState) (code : FaultCode) (s : State) :
    State × List Notice :=
  let s := s.withRail ch { s.rail ch with bounces := (s.rail ch).bounces + 1 }
  if (s.rail ch).bounces < (s.railParams ch).dropoutThreshold then (enterTimed ch back length s, [])
  else failRail ch failed code s

/-- The state an abandoned rail action leaves, from its enable (R70). -/
def abandonedState (ch : Fin 6) (s : State) : State :=
  match (s.rail ch).state with
  | .rising => startMonitoring ch (s.withRail ch { s.rail ch with state := .on, counter := none, issuer := none })
  | .holdingUp => startMonitoring ch (s.withRail ch { s.rail ch with state := .on, counter := none, issuer := none })
  | .falling => enterLow ch .off s
  | .holdingDown => enterLow ch .off s
  | _ => s

/-- Abandon the rail actions of these issuers on one channel, held ones included; no completion is reported (R70). -/
def abandonRail (who : Issuer → Bool) (ch : Fin 6) (s : State) : State :=
  let r := s.rail ch
  let s := s.withRail ch { r with held := r.held.filter fun q => !who q.issuer }
  match r.issuer with
  | some i => if who i then (serveRail ch (abandonedState ch s)).1 else s
  | none => s

/-- All rail channels, ascending. -/
def allRails : List (Fin 6) := List.finRange 6

/-- Abandon the rail actions of these issuers on every channel (R52, R44, R70). -/
def abandonRails (who : Issuer → Bool) (s : State) : State := allRails.foldl (fun s ch => abandonRail who ch s) s

/-- The stage executor's own action. -/
def isExecutor : Issuer → Bool
  | .executor => true
  | _ => false

/-- What a supersede abandons: the executor's action and every running correction (R13, R44). -/
def isSuperseded : Issuer → Bool
  | .executor => true
  | .correction => true
  | _ => false

/-- An alignment step in progress that nobody waits for any more (R152). -/
def detachIssuer : Issuer → Issuer
  | .alignment => .detached
  | i => i

/-- The rail with its alignment step detached (R152). -/
def detachRail (r : Rail) : Rail :=
  { r with issuer := r.issuer.map detachIssuer, held := r.held.map fun q => { q with issuer := detachIssuer q.issuer } }

/-- Withdraw the alignment from every rail; the step in progress runs to its completion (R152). -/
def detachAlignment (s : State) : State :=
  { s with channel := { s.channel with rails := tabMap (fun _ r => detachRail r) s.channel.rails } }

/-! ### Monitoring across census (R71) -/

/-- Monitoring starts on every rail in ON, at the settle signal that ends census (R71). -/
def startAllMonitoring (s : State) : State :=
  allRails.foldl (fun s ch => if (s.rail ch).state == .on then startMonitoring ch s else s) s

/-- A rail's monitoring stopped at entry to CENSUS: filter and window stopped, count 0, marker clear (R71). -/
def clearedMonitoring (r : Rail) : Rail := { r with filter := none, window := none, dropouts := 0, loss := false }

/-- Monitoring stops on every rail in ON, at entry to CENSUS from MUTE (R71). -/
def stopAllMonitoring (s : State) : State :=
  { s with channel := { s.channel with
      rails := tabMap (fun _ r => if r.state == .on then clearedMonitoring r else r) s.channel.rails } }

/-! ### Signals (R74, R75) -/

/-- Read one signal. -/
def State.signalAt (s : State) (i : Fin 4) : Signal := tabGet s.channel.signals i

/-- Write one signal. -/
def State.withSignal (s : State) (i : Fin 4) (x : Signal) : State :=
  { s with channel := { s.channel with signals := tabSet s.channel.signals i x } }

/-- Set a signal to a level, with no pulse running. -/
def setSignal (i : Fin 4) (l : Level) (s : State) : State := s.withSignal i { state := signalAt l, pulse := none }

/-- SET_HIGH or SET_LOW (R74). -/
def issueSet (i : Fin 4) (l : Level) (s : State) : State × Option Completion :=
  if s.signal i == l then (s, some .unchanged) else (setSignal i l s, some .changed)

/-- PULSE: the output changes and the pulse counter starts at the width (R75). -/
def issuePulse (i : Fin 4) (tenths : Nat) (s : State) : State :=
  s.withSignal i { state := .pulsing (s.signal i), pulse := some tenths }

/-- The trailing edge of a pulse: the level before the pulse (R75). -/
def endPulse (i : Fin 4) (s : State) : State :=
  match (s.signalAt i).state with
  | .pulsing prior => setSignal i prior s
  | _ => s

/-- A pulse abandoned leaves its signal at the pulsed level (R75). -/
def abandonPulse (i : Fin 4) (s : State) : State := setSignal i (s.signal i) s

/-! ### Senses and WAIT (R76, R77) -/

/-- The present level of a sense input (R76). -/
def State.sense (s : State) (i : Fin 2) : Level := tabGet s.pins.sense i

/-- Write the await counter of a sense input. -/
def State.withAwait (s : State) (i : Fin 2) (t : Timer) : State :=
  { s with channel := { s.channel with awaits := tabSet s.channel.awaits i t } }

/-- AWAIT: *unchanged* at once if the input already reads the level, else the counter starts (R76). -/
def issueAwait (i : Fin 2) (l : Level) (ms : Nat) (s : State) : State × Option Completion :=
  if s.sense i == l then (s, some .unchanged) else (s.withAwait i (some ms), none)

/-- Write the wait counter (R77). -/
def State.withWait (s : State) (t : Timer) : State := { s with channel := { s.channel with waitCounter := t } }

/-! ### Actions of the stage executor (R41) -/

/-- A change issued for the stage executor or for alignment. -/
def issueChange (c : Change) (iss : Issuer) (s : State) : State × Option Completion :=
  match c with
  | .raise ch => issueRail ch ⟨iss, true⟩ s
  | .drop ch => issueRail ch ⟨iss, false⟩ s
  | .setHigh i => issueSet i .high s
  | .setLow i => issueSet i .low s

/-- An action handed whole to the channel block; its completion, if it comes at once (R41). -/
def issueAction (a : Action) (s : State) : State × Option Completion :=
  match a with
  | .change c _ => issueChange c .executor s
  | .pulse i tenths => (issuePulse i tenths s, none)
  | .wait ms => (s.withWait (some ms), none)
  | .await i l ms => issueAwait i l ms s

/-- The change an action or undo in progress makes, if it moves an output. -/
def Running.change : Running → Option Change
  | .forward _ (.change c _) => some c
  | .undo r => some (undoOf r.change)
  | _ => none

/-- Abandon the pulse, AWAIT or WAIT in progress (R75 to R77). A rail action is abandoned by `abandonRails`. -/
def abandonOther (r : Running) (s : State) : State :=
  match r with
  | .forward _ (.pulse i _) => abandonPulse i s
  | .forward _ (.wait _) => s.withWait none
  | .forward _ (.await i _ _) => s.withAwait i none
  | _ => s

/-- Abandon the executor's action in progress and the rail actions of these issuers, with the outputs where they stand
(R44, R52). -/
def abandonWork (who : Issuer → Bool) (s : State) : State :=
  let s := abandonRails who s
  match s.executor.running with
  | some r => { abandonOther r s with executor := { s.executor with running := none } }
  | none => s

/-! ### Profile comparison, correction and alignment steps (R42, R43, R151, R152) -/

/-- A rail's enable differs from its cell in a row; a channel not enabled never differs (R42, R43, R69). -/
def State.railDiffers (s : State) (row : ProfileRow) (ch : Fin 6) : Bool :=
  (s.railParams ch).enabled && s.enable ch != tabGet row.rails ch

/-- A signal differs from its cell in a row. -/
def State.signalDiffers (s : State) (row : ProfileRow) (i : Fin 4) : Bool := s.signal i != tabGet row.signals i

/-- All signals, ascending. -/
def allSignals : List (Fin 4) := List.finRange 4

/-- The alignment steps for a row, in order: DROPs from rail 5 down, RAISEs from rail 0 up, then signals (R152). -/
def State.alignmentSteps (s : State) (row : ProfileRow) : List Change :=
  ((allRails.reverse.filter fun ch => s.railDiffers row ch && tabGet row.rails ch == .low).map Change.drop) ++
  ((allRails.filter fun ch => s.railDiffers row ch && tabGet row.rails ch == .high).map Change.raise) ++
  ((allSignals.filter fun i => s.signalDiffers row i).map fun i =>
    if tabGet row.signals i == .high then Change.setHigh i else Change.setLow i)

/-- Some output differs from the row (R151). -/
def State.outputsDiffer (s : State) (row : ProfileRow) : Bool := !(s.alignmentSteps row).isEmpty

/-- Count a corrected output (R43). -/
def countCorrection (s : State) : State :=
  { s with channel := { s.channel with corrections := satInc 255 s.channel.corrections } }

/-- Correct one rail toward its cell (R43). -/
def correctRail (row : ProfileRow) (s : State) (ch : Fin 6) : State :=
  if s.railDiffers row ch then
    countCorrection (issueRail ch ⟨.correction, tabGet row.rails ch == .high⟩ s).1
  else s

/-- Correct one signal to its cell, at once (R43, R74). -/
def correctSignal (row : ProfileRow) (s : State) (i : Fin 4) : State :=
  if s.signalDiffers row i then countCorrection (setSignal i (tabGet row.signals i) s) else s

/-- The settle correction: every output that differs from the row of the believed state is brought toward it (R43). -/
def settleCorrection (row : ProfileRow) (s : State) : State :=
  allSignals.foldl (correctSignal row) (allRails.foldl (correctRail row) s)

end Sys2Proof.Machine
end

