-- ==== Sys2Proof/Machine/Executor.lean ====
section
/-! DEFINITION. The stage executor: stages, barriers, actions, reports, and undoing (R45 to R61, R84 to R95). -/

namespace Sys2Proof.Machine

open Sys2Proof

/-! ### The open record, as the executor reads it -/

/-- Write the executor. -/
def State.withExecutor (s : State) (e : Executor) : State := { s with executor := e }

/-- The record's kind, ENTER_OFF where there is no record. -/
def State.kind (s : State) : Kind :=
  match s.agreement.record with
  | some r => r.kind
  | none => .enterOff

/-- The record's forced flag. -/
def State.forced (s : State) : Bool :=
  match s.agreement.record with
  | some r => r.forced
  | none => false

/-- The record's number, 0 where there is no record. -/
def State.openNumber (s : State) : TxnNumber :=
  match s.agreement.record with
  | some r => r.number
  | none => 0

/-- The record's committed flag. -/
def State.committed (s : State) : Bool :=
  match s.agreement.record with
  | some r => r.committed
  | none => false

/-- The record's participant set. -/
def State.participants (s : State) : StationSet :=
  match s.agreement.record with
  | some r => r.participants
  | none => 0

/-- A forward done-set of the record. -/
def State.forwardAt (s : State) (stage : Nat) : StationSet :=
  match s.agreement.record with
  | some r => doneAt r.forward stage
  | none => 0

/-- An unwind done-set of the record. -/
def State.unwindAt (s : State) (stage : Nat) : StationSet :=
  match s.agreement.record with
  | some r => doneAt r.unwind stage
  | none => 0

/-- The forward done-set of a stage holds every participant. -/
def State.forwardFull (s : State) (stage : Nat) : Bool := setSubset s.participants (s.forwardAt stage)

/-- The unwind done-set of a stage holds every participant. -/
def State.unwindFull (s : State) (stage : Nat) : Bool := setSubset s.participants (s.unwindAt stage)

/-- The participants of a stage's wait-set that have not reported the stage before; stage 1 awaits nobody (R40, R46). -/
def State.shortOf (s : State) (stage : Nat) : StationSet :=
  if stage ≤ 1 then 0
  else setMinus (s.waitSetAt s.kind stage &&& s.participants) (s.forwardAt (stage - 1))

/-- The executor in forward work: STAGING, DESCENDING, or a silent descent (R45). -/
def State.forwardWork (s : State) : Bool :=
  s.agreement.phase == .staging || s.agreement.phase == .descending || s.silentDescent

/-! ### Records of changes (R50, R86, R87) -/

/-- The record a completed action leaves on the unwind stack, if it leaves one (R87); from commit onward none (R56). -/
def State.unwindRecord (s : State) (stage : Nat) (a : Action) (c : Completion) : Option UnwindRecord :=
  match a, c with
  | .change x true, .changed =>
    if stage ≤ s.commitStage s.kind && !s.forced && !s.committed then
      some { number := s.openNumber, stage := stage, change := x, prior := priorOf x }
    else none
  | _, _ => none

/-- Hand a completed action to the unwind stack (R50, R87). -/
def pushRecord (stage : Nat) (a : Action) (c : Completion) (s : State) : State :=
  match s.unwindRecord stage a c with
  | some r => s.withExecutor { s.executor with stack := r :: s.executor.stack }
  | none => s

/-! ### Starting and waiting -/

/-- The executor enters ACTING for a stage, its barrier stopped and the action cursor at 0 (R46). -/
def beginStage (stage : Nat) (s : State) : State :=
  s.withExecutor { s.executor with
    sub := .acting, cursor := some stage, actionCursor := some 0, barrier := none, barrierExpired := false }

/-- The executor goes to WAITING at a cursor, with this barrier run (R45, R47). -/
def beginWaiting (cursor : Nat) (b : Option BarrierRun) (s : State) : State :=
  s.withExecutor { s.executor with sub := .waiting, cursor := some cursor, barrier := b, barrierExpired := false }

/-- The own report of `stage` is delivered, or its silent completion stands in for it: the next stage starts or its
barrier does (R46, R47, R54); after stage S the completion wait or the closing wait begins (R16, R58). -/
def afterReport (stage : Nat) (s : State) : State :=
  let next := stage + 1
  if stage = s.lastStage s.kind then
    beginWaiting next
      (some { use := if s.forced then .closing else .completion, length := s.waitLimit s.kind stage }) s
  else if s.shortOf next = 0 then beginStage next s
  else beginWaiting next (some { use := .stage, length := s.waitLimit s.kind next }) s

/-- The executor enters UNDOING at a level, its barrier stopped (R84, R94). -/
def beginLevel (level : Nat) (s : State) : State :=
  s.withExecutor { s.executor with sub := .undoing, cursor := some level, actionCursor := none, barrier := none,
                                   barrierExpired := false }

/-! ### Completions and the next thing to do -/

/-- An action of a stage has completed: in descent a failed one counts as complete (R51); otherwise a failure halts the
executor (R51, R84). Any other completion goes to the unwind stack, and the action cursor advances, but for an action
finished after an ABORT, whose entry is abandoned (R50, R84). -/
def completeForward (stage : Nat) (a : Action) (c : Completion) (s : State) : State :=
  let s := s.withExecutor { s.executor with running := none }
  let advance (s : State) : State :=
    if s.executor.sub = .acting then
      s.withExecutor { s.executor with actionCursor := s.executor.actionCursor.map (· + 1) }
    else s
  match c with
  | .failed => if s.forced then advance s else s.withExecutor { s.executor with halted := true }
  | _ => advance (pushRecord stage a c s)

/-- An undo has completed: a failed one halts the executor (R91). -/
def completeUndo (c : Completion) (s : State) : State :=
  let s := s.withExecutor { s.executor with running := none }
  match c with
  | .failed => s.withExecutor { s.executor with halted := true }
  | _ => s

/-- The action or undo in progress has completed. -/
def completeRunning (c : Completion) (s : State) : State :=
  match s.executor.running with
  | some (.forward stage a) => completeForward stage a c s
  | some (.undo _) => completeUndo c s
  | none => s

/-- Note the action in progress. -/
def setRunning (r : Running) (s : State) : State := s.withExecutor { s.executor with running := some r }

/-- Carry out what was just issued: it is in progress, or it completed at once. The flag says whether to go on. -/
def afterIssue (r : Running) : State × Option Completion → State × Bool
  | (s, none) => (setRunning r s, false)
  | (s, some c) => (completeRunning c (setRunning r s), true)

/-- The last action of a stage is done: the report is queued and the executor is REPORTING; in a silent descent the
completion stands in for the delivery (R53). -/
def reportStage (stage : Nat) (s : State) : State × Bool :=
  if s.silentDescent then (afterReport stage s, true)
  else
    (fillFrame s.openNumber (.stage .forward stage) (s.withExecutor { s.executor with sub := .reporting }), false)

/-- A level is done: its report is queued (R89, R92). -/
def reportLevel (level : Nat) (s : State) : State :=
  fillFrame s.openNumber (.stage .unwind level) (s.withExecutor { s.executor with sub := .reporting })

/-- One thing the executor does at once, and whether it goes on (R50, R89). A halted executor does nothing (R45). -/
def execStep (s : State) : State × Bool :=
  if s.executor.halted || s.executor.running.isSome then (s, false)
  else
    match s.executor.sub, s.executor.cursor with
    | .acting, some stage =>
      match (s.actionsAt s.kind stage)[s.executor.actionCursor.getD 0]? with
      | some a => afterIssue (.forward stage a) (issueAction a s)
      | none => reportStage stage s
    | .undoing, some level =>
      match s.executor.stack with
      | r :: rest =>
        if r.stage = level then
          let s := s.withExecutor { s.executor with stack := rest }
          afterIssue (.undo r) (issueChange (undoOf r.change) .executor s)
        else (reportLevel level s, false)
      | [] => (reportLevel level s, false)
    | _, _ => (s, false)

/-- The executor works on until something takes time, at most `fuel` steps. -/
def execLoop : Nat → State → State
  | 0, s => s
  | fuel + 1, s =>
    match execStep s with
    | (s1, true) => execLoop fuel s1
    | (s1, false) => s1

/-- The executor works on. An image that loaded has at most 12 stages of at most 4 actions a kind and at most 16
records (R39, R86), so fewer than 128 steps come about at once. -/
def execRun (s : State) : State := execLoop 128 s

/-- A completion reaches the executor (R50, R51, R89, R91). -/
def execComplete (c : Completion) (s : State) : State :=
  if s.executor.running.isSome then execRun (completeRunning c s) else s

/-- The plan of the open kind starts at stage 1 (R11 to R13, R61). -/
def execStart (s : State) : State := execRun (beginStage 1 (s.withExecutor Executor.idle))

/-- The executor returns to IDLE (R45). -/
def execIdle (s : State) : State := s.withExecutor Executor.idle

/-! ### Delivered reports -/

/-- The executor waits for the wait-set of this stage. -/
def State.waitsForStage (s : State) : Option Nat :=
  if s.executor.sub = .waiting && s.forwardWork then
    match s.executor.cursor with
    | some k => if k ≤ s.lastStage s.kind then some k else none
    | none => none
  else none

/-- A report that may complete the wait-set of the stage waited for (R46). A queued ABORT(TIMEOUT) of an expired barrier
is purged (R49); a halted executor starts nothing (R49). -/
def testWaiting (s : State) : State :=
  match s.waitsForStage with
  | some k =>
    if s.executor.halted || s.shortOf k != 0 then s
    else
      let s := if s.executor.barrierExpired then
          purgeKind .abort (fun f => f.number == s.openNumber && isTimeoutAbort f) s else s
      execRun (beginStage k s)
  | none => s

/-- The own STAGE(forward, k) is delivered (R54). -/
def ownForward (stage : Nat) (s : State) : State :=
  if s.executor.sub = .reporting && s.executor.cursor = some stage && s.forwardWork then execRun (afterReport stage s)
  else s

/-- The executor is WAITING after its own unwind report of this level. -/
def State.waitsForLevel (s : State) : Option Nat :=
  if s.executor.sub = .waiting && s.agreement.phase = .unwinding then s.executor.cursor else none

/-- The reverse barrier of the level below is met: that level starts (R94). Level 1 ends in the close instead (R96). -/
def testLevel (s : State) : State :=
  match s.waitsForLevel with
  | some j =>
    if 1 < j && s.unwindFull j && !s.executor.halted then execRun (beginLevel (j - 1) s) else s
  | none => s

/-- The own STAGE(unwind, j) is delivered: WAITING at j, with the reverse barrier running until the done-set is full
(R92, R94). -/
def ownUnwind (level : Nat) (s : State) : State :=
  if s.executor.sub = .reporting && s.executor.cursor = some level && s.agreement.phase = .unwinding then
    testLevel (beginWaiting level
      (some { use := .reverse, length := s.waitLimit s.kind (max 1 (level - 1)) }) s)
  else s

/-- Forward work is left for unwinding from level h (R84). An action in progress finishes first. -/
def execUnwind (h : Nat) (s : State) : State :=
  execRun (beginLevel h (s.withExecutor { s.executor with halted := false }))

/-! ### Expiries -/

/-- STALL is latched SEVERE with FAULT requested, and the executor halts (R48, R59, R95). -/
def stall (s : State) : State :=
  let s := raiseFault .stall noTarget .severe s
  s.withExecutor { s.executor with halted := true }

/-- The barrier timer has run out. -/
def barrierStopped (s : State) : State := s.withExecutor { s.executor with barrier := none, barrierExpired := true }

/-- A barrier or the completion wait expires in a non-forced transaction: ABORT(TIMEOUT) before commit, STALL after it
(R48, R59). -/
def expireNonForced (s : State) : State :=
  if s.committed then stall s else requestAbort s.openNumber .timeout s

/-- The stations a barrier expiry in descent finds missing are entered in the missing set (R48, R107). -/
def recordMissing (missing : StationSet) (s : State) : State :=
  s.onRecord fun r => { r with missing := r.missing ||| missing }

/-- The barrier timer of a stage expires (R48). -/
def expireStage (stage : Nat) (s : State) : State :=
  let s := barrierStopped s
  if s.forced then execRun (beginStage stage (recordMissing (s.shortOf stage) s)) else expireNonForced s

/-- The barrier timer runs in this use. -/
def State.barrierIn (s : State) (use : BarrierUse) : Bool :=
  match s.executor.barrier with
  | some b => b.use == use
  | none => false

end Sys2Proof.Machine
end

