-- ==== Sys2Proof/Machine/Wake.lean ====
section
/-! DEFINITION. The wake unit: qualification, the wake queue, ABORT(WAKE), the settle evaluation, announcement, and its
timers (R27, R109, R112 to R126). -/

namespace Sys2Proof.Machine

open Sys2Proof

/-- Write the wake unit. -/
def State.withWake (s : State) (w : WakeUnit) : State := { s with wake := w }

/-- All wake inputs, ascending. -/
def allWakes : List (Fin 8) := List.finRange 8

/-! ### Qualification on and off (R113) -/

/-- A wake input as qualification stops: LEVEL in IDLE with its counter stopped, COUNT at 0 with the flag clear. The own
window goes on (R113, R116). -/
def stoppedInput (w : WakeInput) : WakeInput := { w with level := .idle, hold := none, edges := 0, overflow := false }

/-- A LEVEL input in IDLE that reads active begins its hold (R113, R114). -/
def startedInput (d : WakeInputDef) (active : Bool) (w : WakeInput) : WakeInput :=
  if d.kind == .level && active && w.level == .idle then { w with level := .holding, hold := some d.holdTime } else w

/-- Bring every input in line with the qualification condition as it holds now (R113). Where it held before and holds
after, this changes nothing. -/
def refreshQualification (s : State) : State :=
  s.withWake { s.wake with
    inputs := tabMap (fun i w => if s.qualifies then startedInput (s.wakeDef i) (s.wakeActive i) w else stoppedInput w)
      s.wake.inputs }

/-! ### Announcement (R122) -/

/-- The oldest PENDING entry. -/
def oldestPending (q : List WakeEntry) : Option WakeEntry := q.find? fun e => e.state == .pending

/-- The gates of announcement, but for there being a PENDING entry (R122). -/
def State.mayAnnounce (s : State) : Bool :=
  s.agreement.phase == .settled && asleep s.agreement.believed && s.wake.mark.isNone &&
    !(s.agreement.believed == some .rest && s.wake.minDwell.isSome) && s.wake.faultHold.isNone && s.quorumPresent

/-- The target kind of a WAKE from the believed state (R122). -/
def State.wakeTarget (s : State) : WakeTarget := if s.agreement.believed == some .rest then .resume else .rise

/-- The announcement test: with every gate open, WAKE is queued for the oldest PENDING entry and the mark is set (R122). -/
def testAnnounce (s : State) : State :=
  if s.mayAnnounce then
    match oldestPending s.wake.queue with
    | some e =>
      let s := fillFrame s.nextNumber (.wake s.wakeTarget e.input) s
      s.withWake { s.wake with mark := some e.input }
    | none => s
  else s

/-! ### The wake queue (R118 to R120) -/

/-- The queue after a qualification of an input at this time (R119). -/
def queueAfter (i : Fin 8) (now : Time) (q : List WakeEntry) : List WakeEntry :=
  if q.any (fun e => e.input == i) then
    q.map fun e => if e.input == i then { e with repeats := satInc 255 e.repeats } else e
  else q ++ [⟨i, now, 0, 0, .pending⟩]

/-- An open kind that a wake may abort before commit (R120). -/
def abortableKind (k : Kind) : Bool := k.isEntry || k == .demote

/-- A qualification of this input calls for ABORT(WAKE): VOTING, or STAGING before commit, of an entry kind or DEMOTE, and
the input is allowed in its target state (R120). -/
def State.wakeAborts (s : State) (i : Fin 8) : Bool :=
  s.votingOrStaging && !s.committed && abortableKind s.kind && (s.wakeDef i).allowedIn s.kind.target

/-- A wake input qualifies (R119, R120): the queue is updated, then the announcement is tested in SETTLED, or ABORT(WAKE)
is requested where R120 says so. -/
def qualify (i : Fin 8) (s : State) : State :=
  let s := s.withWake { s.wake with queue := queueAfter i s.time s.wake.queue }
  if s.agreement.phase == .settled then testAnnounce s
  else if s.wakeAborts i then requestAbort s.openNumber (.wake i) s
  else s

/-- The end of a COUNT input's window: the count is judged, then cleared with the overflow flag (R115). -/
def judgeWindow (s : State) (i : Fin 8) : State :=
  let enough := decide ((s.wakeDef i).threshold ≤ (s.wakeInput i).edges)
  let s := s.withWakeInput i { s.wakeInput i with edges := 0, overflow := false }
  if enough then qualify i s else s

/-- The COUNT inputs of the common window (R116). -/
def State.isCommonInput (s : State) (i : Fin 8) : Bool :=
  (s.wakeDef i).kind == .count && (s.wakeDef i).window == .common

/-- The COUNT inputs with a window of their own (R116). -/
def State.isOwnInput (s : State) (i : Fin 8) : Bool :=
  (s.wakeDef i).kind == .count && (s.wakeDef i).window == .own

/-! ### The settle evaluation (R121) -/

/-- One entry at the settle evaluation outside RUN: what stays of it. -/
def evaluatedEntry (allowed : Bool) (e : WakeEntry) : Option WakeEntry :=
  if !allowed then none
  else
    match e.state with
    | .pending => some e
    | .announced => if e.attempts + 1 < 3 then some { e with attempts := e.attempts + 1, state := .pending } else none

/-- An entry whose announcements have failed a third time (R121). -/
def failedEntry (allowed : Bool) (e : WakeEntry) : Bool := allowed && e.state == .announced && decide (3 ≤ e.attempts + 1)

/-- The wake input is allowed in this state (R112). -/
def State.allowedAt (s : State) (st : SystemState) (e : WakeEntry) : Bool := (s.wakeDef e.input).allowedIn st

/-- The settle evaluation in the believed state; the mark is cleared (R121). -/
def settleEvaluation (st : SystemState) (s : State) : State :=
  if st == .run then s.withWake { s.wake with queue := [], mark := none }
  else
    let failed := s.wake.queue.filter fun e => failedEntry (s.allowedAt st e) e
    let s := s.withWake { s.wake with
      queue := s.wake.queue.filterMap (fun e => evaluatedEntry (s.allowedAt st e) e), mark := none }
    failed.foldl (fun s e => raiseFault .wakeFailed (eightTarget e.input) .notice s) s

/-! ### Timers at the settle signal (R116, R123, R27) -/

/-- A wake input's own window at the settle signal that ends census (R116). -/
def censusWindowInput (own : Bool) (d : WakeInputDef) (w : WakeInput) : WakeInput :=
  if own then { w with ownWindow := some d.ownLength } else w

/-- The end of census: the own windows start and the debounced state is taken from the input (R116, R117). -/
def startWindows (s : State) : State :=
  s.withWake { s.wake with
    inputs := tabMap (fun i w => censusWindowInput (s.isOwnInput i) (s.wakeDef i) w) s.wake.inputs
    pressed := match s.buttonInput with
      | some b => s.wakeActive b
      | none => false }

/-- The common window starts, or restarts at full length (R116). -/
def restartCommon (s : State) : State := s.withWake { s.wake with commonWindow := some s.station.commonWindow }

/-- The minimum dwell starts, unless its setting is 0 (R123). -/
def startDwell (s : State) : State :=
  if s.system.minDwell = 0 then s else s.withWake { s.wake with minDwell := some s.system.minDwell }

/-- The fault hold starts; a setting of 0 leaves it stopped (R109). -/
def startFaultHold (s : State) : State := s.withWake { s.wake with faultHold := startUnlessZero s.system.faultHold }

/-- The demote timer starts at this length, in ms (R27). -/
def startDemote (ms : Nat) (s : State) : State := s.withWake { s.wake with demote := some ms }

/-- The demote timer stops as the station leaves SETTLED (R27). -/
def stopDemote (s : State) : State := s.withWake { s.wake with demote := none }

/-- The outcomes of a DEMOTE after which the defer hold is the demote timer's length (R27). -/
def demoteRefused : TxnOutcome → Bool
  | .declined => true
  | .deferred => true
  | .noQuorum => true
  | _ => false

/-- The length the demote timer takes at a settle signal (R27). -/
def State.demoteLength (s : State) (closed : Option (Kind × TxnOutcome)) : Nat :=
  match closed with
  | some (.demote, o) => if demoteRefused o then s.system.deferHold else s.station.demoteMinutes * 60000
  | _ => s.station.demoteMinutes * 60000

/-- The demote timer at a settle signal (R27). -/
def settleDemote (closed : Option (Kind × TxnOutcome)) (s : State) : State :=
  if s.agreement.believed == some .rest && s.agreement.restImage && s.station.demoteMinutes != 0 then
    startDemote (s.demoteLength closed) s
  else s

/-- The minimum dwell at a settle signal (R123). -/
def settleDwell (closed : Option (Kind × TxnOutcome)) (s : State) : State :=
  if closed = some (.enterRest, .completed) then startDwell s else s

/-- The wake unit at the settle signal (R113, R121): the evaluation, the windows, qualification, the timers, and the
announcement test. `closed` is `none` at the end of census. -/
def settleWake (closed : Option (Kind × TxnOutcome)) (s : State) : State :=
  let s := settleEvaluation (s.agreement.believed.getD .off) s
  let s := if closed.isNone then startWindows s else s
  let s := refreshQualification (restartCommon s)
  testAnnounce (settleDemote closed (settleDwell closed s))

/-- The entry the announcing mark named becomes ANNOUNCED (R124). -/
def announceEntry (i : Fin 8) (s : State) : State :=
  s.withWake { s.wake with queue := s.wake.queue.map fun e => if e.input == i then { e with state := .announced } else e }

/-- Window timers, debounce and long-press counters stop at entry to CENSUS (R116, R117, R125). -/
def stopWindows (s : State) : State :=
  s.withWake { s.wake with
    inputs := tabMap (fun _ w => { w with ownWindow := none }) s.wake.inputs
    commonWindow := none, debounce := none, longPress := none }

end Sys2Proof.Machine
end

