-- ==== Sys2Proof/Machine/Request.lean ====
section
/-! DEFINITION. The request unit: the latch, the request under vote, answers, proposals, holds, and the vote policy
(R20 to R32). -/

namespace Sys2Proof.Machine

open Sys2Proof

/-- Write the request unit. -/
def State.withRequest (s : State) (r : RequestUnit) : State := { s with request := r }

/-! ### Answers (R24) -/

/-- An answer: RESULT takes the level, then REQACK pulses (R24). -/
def answer (l : Level) (s : State) : State :=
  s.withRequest { s.request with result := l, pulses := s.request.pulses + 1 }

/-- An answer is given only where the source is LINES (R23). -/
def answerRequest (r : Request) (l : Level) (s : State) : State := if r.source == .lines then answer l s else s

/-! ### Latching (R20, R25) -/

/-- A frame made for the latched request: this station's non-forced PROPOSE, not of DEMOTE (R22). -/
def isRequestFrame (f : Frame) : Bool :=
  match f.body with
  | .propose kind forced _ => !forced && kind != .demote
  | _ => false

/-- A composed frame marked as made for a request since replaced, if it was made for the latched one (R22). -/
def replacedReady (r : Ready) : Ready := if isRequestFrame r.frame then { r with forReplaced := true } else r

/-- The same for a queued place. -/
def replacedQueued : Queued → Queued
  | .ready r => .ready (replacedReady r)
  | .beatDue n => .beatDue n

/-- The PROPOSE of a request just replaced in the latch is from now on for a replaced request (R22). -/
def markReplaced (s : State) : State :=
  let x := s.slot .propose
  s.withSlot .propose { x with queued := x.queued.map replacedQueued, sending := x.sending.map replacedReady }

/-- The PROPOSE queued or on the line for a replaced request, and the answer the replaced request gets (R20, R22). -/
def replaceLatched (s : State) : State :=
  match s.request.latch with
  | some l =>
    let s := answerRequest l.request .low s
    if l.queued then markReplaced s else s
  | none => s

/-- Latch a request: it replaces any request in the latch, waits, and stops a running defer hold (R20, R25, R28). -/
def latchRequest (r : Request) (s : State) : State :=
  let s := replaceLatched s
  s.withRequest { s.request with latch := some { request := r, queued := false }, deferHold := none }

/-! ### Proposing (R21) -/

/-- A forced PROPOSE of this station is queued (R21). -/
def State.forcedQueued (s : State) : Bool := queuedMatches isForcedPropose (s.slot .propose).queued

/-- A forced PROPOSE of this station is in transmission (R21). -/
def State.forcedSending (s : State) : Bool := sendingMatches isForcedPropose (s.slot .propose).sending

/-- The conditions of R21 for proposing, but for the latch's. -/
def State.mayPropose (s : State) : Bool :=
  s.agreement.phase == .settled && s.agreement.believed == some .run && s.request.lockout.isNone &&
    s.request.refresh == 0 && s.request.deferHold.isNone && !s.forcedQueued && !s.forcedSending

/-- The image-backed flag a PROPOSE for a request carries (R21). -/
def Request.flag (r : Request) : Bool := r.imageBacked && r.kind == .enterRest

/-- The test of R21: a WAITING request is proposed when every condition holds, and the latch becomes QUEUED. -/
def testPropose (s : State) : State :=
  match s.request.latch with
  | some l =>
    if !l.queued && s.mayPropose then
      let s := fillFrame s.nextNumber (.propose l.request.kind false l.request.flag) s
      s.withRequest { s.request with latch := some { l with queued := true } }
    else s
  | none => s

/-- The demote timer's proposal (R27). -/
def proposeDemote (s : State) : State := fillFrame s.nextNumber (.propose .demote false false) s

/-! ### The request under vote (R22, R23) -/

/-- Own PROPOSE for the latch delivered and opening: the request goes under vote (R22). A frame made for a replaced request
puts that request under vote with source NONE, and the latch keeps the newer one. -/
def moveUnderVote (r : Ready) (s : State) : State :=
  match r.frame.body with
  | .propose kind false img =>
    if kind == .demote then s
    else if r.forReplaced then s.withRequest { s.request with underVote := some ⟨kind, img, .answered⟩ }
    else s.withRequest { s.request with latch := none, underVote := s.request.latch.map (·.request) }
  | _ => s

/-- The request under vote is answered and becomes absent (R23). -/
def answerUnderVote (l : Level) (s : State) : State :=
  match s.request.underVote with
  | some r => answerRequest r l (s.withRequest { s.request with underVote := none })
  | none => s

/-- DEFERRED: the request under vote returns to an absent latch, WAITING, or is answered low (R23). -/
def deferUnderVote (s : State) : State :=
  match s.request.underVote, s.request.latch with
  | some r, none => s.withRequest { s.request with underVote := none, latch := some { request := r, queued := false } }
  | _, _ => answerUnderVote .low s

/-- Clear the latch, answered low if its source is LINES (R17, R23). -/
def clearLatch (s : State) : State :=
  match s.request.latch with
  | some l => answerRequest l.request .low (s.withRequest { s.request with latch := none })
  | none => s

/-! ### Holds (R28 to R30) -/

/-- The refreshed-view set loses a station (R30). -/
def dropRefresh (i : StationId) (s : State) : State :=
  s.withRequest { s.request with refresh := setDrop s.request.refresh i }

/-- The refreshed-view set loses a station, and R21 is tested when the set becomes empty (R30). -/
def refreshSeen (i : StationId) (s : State) : State :=
  let s1 := dropRefresh i s
  if s.request.refresh != 0 && s1.request.refresh == 0 then testPropose s1 else s1

/-- The re-entry lockout starts, unless its setting is 0 (R29). -/
def startLockout (s : State) : State :=
  if s.system.lockout = 0 then s else s.withRequest { s.request with lockout := some s.system.lockout }

/-- A wake kind has completed: lockout and refreshed-view set (R29, R30). -/
def settleAwake (closed : Option (Kind × TxnOutcome)) (s : State) : State :=
  match closed with
  | some (k, .completed) =>
    if k.isWake then
      let s := startLockout s
      s.withRequest { s.request with refresh := s.participants }
    else s
  | _ => s

/-- An entry kind has closed DEFERRED: the defer hold starts (R28). -/
def settleDeferHold (closed : Option (Kind × TxnOutcome)) (s : State) : State :=
  match closed with
  | some (k, .deferred) =>
    if k.isEntry then s.withRequest { s.request with deferHold := some s.system.deferHold } else s
  | _ => s

/-- The request unit at the settle signal (R17, R21, R23, R28 to R30). -/
def settleRequest (closed : Option (Kind × TxnOutcome)) (s : State) : State :=
  if s.agreement.believed == some .run then testPropose (settleDeferHold closed (settleAwake closed s))
  else clearLatch (s.withRequest { s.request with deferHold := none })

/-! ### The vote policy (R31, R32) -/

/-- The level of one inhibit input. -/
def inhibitLevel (inh : Inhibits) (i : Fin 2) : Level := if i = 0 then inh.inh0 else inh.inh1

/-- An inhibit input that reads high calls for this action at this kind (R31). -/
def State.inhibitCalls (s : State) (inh : Inhibits) (k : Kind) (a : InhibitAction) : Bool :=
  (List.finRange 2).any fun i => inhibitLevel inh i == .high && inhibitFor (tabGet s.station.inhibits i) k == a

/-- The vote policy: the first row that matches (R32). -/
def State.votePolicy (s : State) (inh : Inhibits) (k : Kind) : Answer :=
  if s.inhibitCalls inh k .decline then .decline .inhibit
  else if s.request.lockout.isSome && k.isEntry then .decline .lockout
  else if s.request.refresh != 0 then .decline .refreshPending
  else if s.hasSevere then .decline .faultPending
  else if k == .demote && !s.agreement.restImage then .decline .noImage
  else if s.inhibitCalls inh k .defer then .defer
  else .accept

end Sys2Proof.Machine
end

