-- ==== Sys2Proof/Machine/Presence.lean ====
section
/-! DEFINITION. The presence unit: the peer table, silence, beats, exclusion, and the fills of CENSUS (R38, R141 to R146,
R150). -/

namespace Sys2Proof.Machine

open Sys2Proof

/-- Write the presence unit. -/
def State.withPresence (s : State) (p : Presence) : State := { s with presence := p }

/-! ### T_beat, the beat timer and the debt (R144, R145) -/

/-- T_beat takes this value; when it changes, the beat timer restarts at it. In MUTE the timer stays stopped (R144). -/
def setBeat (n : Nat) (s : State) : State :=
  if s.presence.beat = some n then s
  else s.withPresence { s.presence with beat := some n,
                                        beatTimer := if s.agreement.phase == .mute then none else some n }

/-- T_beat recomputed, as at every settle signal and every opening (R144). It is recomputed at the moments that R144 lists
and at no other, so it keeps its value at the close of a silent descent and at an entry to MUTE (the model's choice,
log 52). -/
def recomputeBeat (s : State) : State := setBeat s.beatInterval s

/-- The length a silence timer is started at: five times T_beat (R142). -/
def State.silenceLength (s : State) : Nat := 5 * s.presence.beat.getD 0

/-- The beat debt becomes 0 (R145). -/
def payDebt (s : State) : State := s.withPresence { s.presence with debt := 0 }

/-- One tick: the debt rises, BEAT_OVERDUE is raised as it reaches 4, and a BEAT is filled at 2 or more (R145). -/
def beatTickEffect (s : State) : State :=
  let before := s.presence.debt
  let s := s.withPresence { s.presence with debt := satInc 4 before, beatTimer := s.presence.beat }
  let s := if before = 3 then raiseFault .beatOverdue noTarget .notice s else s
  if 2 ≤ s.presence.debt then fillBeat s else s

/-! ### The peer table (R141, R142) -/

/-- A change of presence sets the presence-changed flag (R141). -/
def Peer.setPresence (p : Peer) (v : PresenceValue) : Peer :=
  if p.presence = v then p else { p with presence := v, changed := true }

/-- The mirrored fields of a delivered BEAT; the state is read only with a phase code other than 0 (R130, R141). -/
def mirrorBeat (b : BeatBody) (n : TxnNumber) (p : Peer) : Peer :=
  { p with
    lastState := if b.phase == .census then p.lastState else some b.state
    lastPhase := some b.phase
    lastOpen := b.openFlag
    lastNumber := some n
    summary := b.summary }

/-- The presence unit hears from a peer that is not EXCLUDED, in a frame other than CENSUS (R142). -/
def Peer.heard (p : Peer) (silence : Nat) (f : Frame) : Peer :=
  let p := { p.setPresence .present with silence := some silence }
  match f.body with
  | .beat b => mirrorBeat b f.number p
  | _ => p

/-- A change to PRESENT of a quorum member leads to the announcement test (R122, R142). -/
def reportPresent (i : StationId) (was : PresenceValue) (s : State) : State :=
  if was != .present && setHas s.system.quorum i then testAnnounce s else s

/-- The sender's entry at a delivered frame other than CENSUS (R142). -/
def touchPeer (f : Frame) (s : State) : State :=
  let p := s.peerAt f.sender
  reportPresent f.sender p.presence (s.withPeer f.sender (p.heard s.silenceLength f))

/-- Take a station out of the barring set (R148). -/
def dropBarring (i : StationId) (s : State) : State :=
  s.withPresence { s.presence with barring := setDrop s.presence.barring i }

/-- The entry of a peer at a CENSUS, by its signature (R146). -/
def Peer.atCensus (p : Peer) (equal : Bool) (silence : Nat) (cause : ResetCause) : Peer :=
  { p with
    presence := if equal then .present else .excluded
    silence := if equal then some silence else none
    misses := if equal then 0 else p.misses
    rejoins := if equal then satInc 255 p.rejoins else p.rejoins
    lastReset := some cause
    lastPhase := some .census
    lastOpen := false
    lastNumber := none
    changed := true }

/-- The presence unit at a CENSUS from a peer (R146). -/
def censusPeer (i : StationId) (sig : Signature) (cause : ResetCause) (s : State) : State :=
  let p := s.peerAt i
  let equal := sig == s.loader.signature
  let s := s.withPeer i (p.atCensus equal s.silenceLength cause)
  if equal then reportPresent i p.presence s else dropBarring i (refreshSeen i s)

/-- A missed vote of a peer: at 3 it becomes EXCLUDED, its silence timer stops, and it leaves the refreshed-view and
barring sets (R30, R38, R147, R148). -/
def missVote (i : StationId) (s : State) : State :=
  let p := s.peerAt i
  let n := satInc 3 p.misses
  let p := { p with misses := n }
  if n = 3 then dropBarring i (refreshSeen i (s.withPeer i { p.setPresence .excluded with silence := none }))
  else s.withPeer i p

/-- A matching VOTE from a peer sets its miss count to 0 (R33, R38). -/
def clearMisses (i : StationId) (s : State) : State := s.withPeer i { s.peerAt i with misses := 0 }

/-- PEER_LOST is called for: RUN or REST believed with no transaction open (R143). -/
def State.missesPeers (s : State) : Bool :=
  !s.txnOpen && (s.agreement.believed == some .run || s.agreement.believed == some .rest)

/-- Raise PEER_LOST on a peer (R143). -/
def raisePeerLost (i : StationId) (s : State) : State := raiseFault .peerLost (eightTarget i) .severe s

/-- A peer becomes SILENT (R143). -/
def silencePeer (i : StationId) (s : State) : State :=
  let s := s.withPeer i { (s.peerAt i).setPresence .silent with silence := none }
  let s := dropBarring i (refreshSeen i s)
  if setHas s.system.quorum i && s.missesPeers then raisePeerLost i s else s

/-- PEER_LOST at a settle signal, for every quorum member that is SILENT (R143). Several are raised in ascending order of
their station IDs, where the manual gives no order (the model's choice, log 41). -/
def settlePeers (s : State) : State :=
  if s.missesPeers then
    allStations.foldl (fun s i =>
      if i != s.me && setHas s.system.quorum i && (s.peerAt i).presence == .silent then raisePeerLost i s else s) s
  else s

/-! ### Entry to census (R150) -/

/-- The presence unit at each entry to CENSUS: CENSUS filled, the census window and the beat timer started (R144, R150). -/
def startCensus (s : State) : State :=
  let s := s.withPresence { s.presence with
    censusWindow := some s.system.censusWindow, beat := some s.system.beatLow, beatTimer := some s.system.beatLow, debt := 0 }
  fillCensus s

end Sys2Proof.Machine
end

