-- ==== Sys2Proof/Machine/Agreement.lean ====
section
/-! DEFINITION. The agreement engine: the settle signal, closes and the history, openings, supersedes, the tally,
acceptance and commit, entry to MUTE and its end, adoption and alignment (R1 to R19, R34 to R37, R147 to R152). -/

namespace Sys2Proof.Machine

open Sys2Proof

/-- Write the agreement engine. -/
def State.withAgreement (s : State) (a : Agreement) : State := { s with agreement := a }

/-! ### The settle signal (R17) -/

/-- The channel block at the settle signal: at the end of census monitoring starts (R71), then the settle correction
(R43). -/
def settleChannel (census : Bool) (s : State) : State :=
  let s := if census then startAllMonitoring s else s
  match s.agreement.believed with
  | some st => settleCorrection (s.profileRow st) s
  | none => s

/-- The settle signal: the station is SETTLED and its neighbours act (R17). `closed` is the kind and outcome of the
transaction just closed, `none` at the end of census. -/
def settleSignal (closed : Option (Kind × TxnOutcome)) (s : State) : State :=
  settleChannel closed.isNone (settlePeers (recomputeBeat (settleRequest closed (settleWake closed s))))

/-- Enter SETTLED and issue the settle signal (R17). -/
def becomeSettled (closed : Option (Kind × TxnOutcome)) (s : State) : State :=
  settleSignal closed (s.withPhase .settled)

/-! ### Closing (R13 to R18) -/

/-- The outcome cause an opening cause gives (R18). -/
def OpeningCause.cause : OpeningCause → Cause
  | .propose => .propose
  | .wake => .wakeOpening
  | .fault => .fault
  | .forcedPropose => .forcedPropose
  | .peerRestart => .peerRestart

/-- The outcome cause an abort cause gives (R18). -/
def abortCauseOf : AbortReason → Cause
  | .wake _ => .wakeAbort
  | .timeout => .timeout
  | .noQuorum => .noQuorum

/-- The outcome cause a DECLINE's reason gives (R18). -/
def declineCause : DeclineReason → Cause
  | .inhibit => .inhibit
  | .lockout => .lockout
  | .faultPending => .faultPending
  | .noImage => .noImage
  | .refreshPending => .refreshPending

/-- The record closed with an outcome and cause at a time (R5). -/
def Record.closed (r : Record) (o : TxnOutcome) (c : Cause) (now : Time) : Record :=
  { r with outcome := o, outcomeCause := some c, closedAt := some now }

/-- Stop the vote window and the vote guard (R13, R15, R36). -/
def stopVoteTimers (s : State) : State :=
  s.withAgreement { s.agreement with voteWindow := none, voteGuard := none }

/-- The history entry of a closed record (R18). -/
def entryOf (r : Record) (deferred : Nat) : HistoryEntry where
  number := r.number
  kind := r.kind
  forced := r.forced
  outcome := r.outcome
  cause := r.outcomeCause
  originator := r.originator
  wakeSource := r.wakeSource
  missing := r.missing
  duration := r.closedAt.getD 0 - r.openedAt
  deferred := deferred
  isNew := true

/-- Insert a history entry at the head; the fifth is removed (R18). -/
def insertHistory (e : HistoryEntry) (s : State) : State :=
  s.withAgreement { s.agreement with history := (e :: s.agreement.history).take 4 }

/-- Copy the record into the outcome history (R18). -/
def archive (deferred : Nat) (s : State) : State :=
  match s.agreement.record with
  | some r => insertHistory (entryOf r deferred) s
  | none => s

/-- The believed state a close leaves (R1, R14). -/
def believedAfter (o : TxnOutcome) (k : Kind) (old : Option SystemState) : Option SystemState :=
  match o with
  | .completed => some k.target
  | .forcedDone => some .off
  | _ => old

/-- The REST image flag a close leaves (R1). -/
def restImageAfter (o : TxnOutcome) (r : Record) (believed : Option SystemState) (old : Bool) : Bool :=
  if o == .completed && r.kind == .enterRest then r.imageBacked
  else if believed == some .rest then old else false

/-- The believed state and the REST image flag at a close (R1). -/
def settleBelief (o : TxnOutcome) (s : State) : State :=
  match s.agreement.record with
  | some r =>
    let b := believedAfter o r.kind s.agreement.believed
    s.withAgreement { s.agreement with believed := b, restImage := restImageAfter o r b s.agreement.restImage }
  | none => s

/-- What the executor has in progress as a report closes the transaction. A station that has run every entry of its own has
nothing in progress then (R60, R96). A report of its own ID that it did not send (R134) can close sooner, and the manual does
not say what becomes of the action: it is abandoned, as R52 gives for the close by a WAKE in DESCENDING (the model's choice,
log 50). -/
def endWork (s : State) : State := if s.executor.running.isSome then abandonWork isExecutor s else s

/-- The steps of a close before SETTLED is entered (R15): outcome, cause and time; belief; the judgement; the history
entry; the purge. -/
def closeTransaction (o : TxnOutcome) (c : Cause) (send : Bool) (s : State) : State :=
  let s := execIdle (stopVoteTimers (s.onRecord fun r => r.closed o c s.time))
  let s := settleBelief o s
  let n := s.faults.deferred.length
  let s := archive n (judgeDeferred send s)
  purgeTransaction s.openNumber s

/-- A close after which the station becomes SETTLED (R15). -/
def closeSettled (o : TxnOutcome) (c : Cause) (s : State) : State :=
  becomeSettled (some (s.kind, o)) (closeTransaction o c true s)

/-- The opening cause of the record, as an outcome cause. -/
def State.openingCause (s : State) : Cause :=
  match s.agreement.record with
  | some r => r.openingCause.cause
  | none => .fault

/-- Every participant absent from the forward done-set of stage S joins the missing set (R16, R107). -/
def gatherMissing (s : State) : State := recordMissing (setMinus s.participants (s.forwardAt (s.lastStage s.kind))) s

/-- The forced close but for the phase that follows (R16): nothing is deferred in a descent, and a SEVERE result would
not be sent; the fault hold starts (R109). -/
def forcedCloseCore (s : State) : State :=
  startFaultHold (closeTransaction .forcedDone s.openingCause false (gatherMissing s))

/-! ### Leaving MUTE (R148, R150) -/

/-- The return from MUTE(BARRED) to CENSUS (R9, R71, R116, R117, R125, R148, R150). -/
def leaveMute (s : State) : State :=
  let s := s.withPresence { s.presence with muteCause := .none, barredRetry := none, retryHeld := false }
  let s := s.withAgreement { s.agreement with believed := none, number := none, phase := .census }
  startCensus (refreshQualification (stopWindows (stopAllMonitoring s)))

/-- With the barring set empty in MUTE(BARRED) and no silent descent open, the station leaves MUTE (R148). -/
def checkLeaveMute (s : State) : State :=
  if s.agreement.phase == .mute && s.presence.muteCause == .barred && s.presence.barring == 0 && !s.recordOpen then
    leaveMute s
  else s

/-- The forced close of R16: to SETTLED, or in a silent descent staying MUTE with no settle signal
(R149), so that T_beat stays as it was (the model's choice, log 52). -/
def forcedClose (s : State) : State :=
  if s.agreement.phase == .mute then checkLeaveMute (forcedCloseCore s)
  else becomeSettled (some (.enterOff, .forcedDone)) (forcedCloseCore s)

/-! ### Commit, acceptance and the tally (R11, R34, R35, R56) -/

/-- Commit: flag and time, the stack discarded, queued ABORTs of the number purged (R56, R88). -/
def commit (s : State) : State :=
  let s := s.onRecord fun r => { r with committed := true, committedAt := some s.time }
  let s := s.withExecutor { s.executor with stack := [] }
  purgeNumber .abort s.openNumber s

/-- Commit when C of the kind is 0 (R11, R12). -/
def commitAtStart (s : State) : State := if s.commitStage s.kind = 0 then commit s else s

/-- The wake input of a queued ABORT(WAKE) of this number (R81). -/
def State.queuedWakeAbort (s : State) (n : TxnNumber) : Option (Fin 8) :=
  match (s.slot .abort).queued with
  | some (.ready r) =>
    match r.frame.body with
    | .abort (.wake i) => if r.frame.number == n then some i else none
    | _ => none
  | _ => none

/-- ABORT(WAKE) requested again after the purge at ACCEPTED, unless committed (R81). One on the line is marked and not
removed, and is not requested again even if it is dropped (log 45). -/
def renewWakeAbort (i : Option (Fin 8)) (s : State) : State :=
  match i with
  | some i => if s.committed then s else requestAbort s.openNumber (.wake i) s
  | none => s

/-- Write the defer streak of the open kind (R35). -/
def writeStreak (n : Nat) (s : State) : State :=
  s.withAgreement { s.agreement with streaks := setStreak s.agreement.streaks s.kind n }

/-- Tally ACCEPTED (R11, R23, R34, R35, R81). -/
def accept (s : State) : State :=
  let s := stopVoteTimers (writeStreak 0 s)
  let s := answerUnderVote .high (s.onRecord fun r => { r with outcome := .accepted, acceptedAt := some s.time })
  let renewed := s.queuedWakeAbort s.openNumber
  let s := purgeNumber .abort s.openNumber (purgeNumber .vote s.openNumber s)
  execStart (renewWakeAbort renewed (commitAtStart (s.withPhase .staging)))

/-- The awaited participants: the consent snapshot without the originator (R34). -/
def Record.awaited (r : Record) : StationSet := setDrop r.consent r.originator

/-- Every awaited participant has an answer. -/
def Record.allVoted (r : Record) : Bool :=
  allStations.all fun i => !setHas r.awaited i || (tabGet r.votes i).isSome

/-- Some awaited participant's answer is DEFER. -/
def Record.someDefer (r : Record) : Bool :=
  allStations.any fun i => setHas r.awaited i && tabGet r.votes i == some .defer

/-- Tally DECLINED (R34). -/
def declineTally (reason : DeclineReason) (s : State) : State :=
  closeSettled .declined (declineCause reason) (answerUnderVote .low (writeStreak 0 s))

/-- Tally DEFERRED (R34, R35). -/
def deferTally (s : State) : State :=
  let n := streakOf s.agreement.streaks s.kind
  closeSettled .deferred .inhibit (deferUnderVote (writeStreak (n + 1) s))

/-- The tally once every awaited participant has voted (R34): a DEFER while the streak is below 3 defers. -/
def fullTally (r : Record) (s : State) : State :=
  if r.someDefer && decide (streakOf s.agreement.streaks r.kind < 3) then deferTally s else accept s

/-- The tally after the VOTE of a participant was written (R34). -/
def tally (sender : StationId) (a : Answer) (s : State) : State :=
  match s.agreement.record with
  | some r =>
    if !setHas r.awaited sender then s
    else
      match a with
      | .decline reason => declineTally reason s
      | _ => if r.allVoted then fullTally r s else s
  | none => s

/-! ### Supersede (R13) -/

/-- Close the open non-forced transaction SUPERSEDED (R9, R13): the executor's action is abandoned with these rail
actions, the stack discarded, timers stopped, the request under vote answered low, the deferred list judged without
FAULT, the record archived. -/
def closeSuperseded (who : Issuer → Bool) (c : Cause) (s : State) : State :=
  let s := execIdle (abandonWork who s)
  let s := answerUnderVote .low (stopVoteTimers (s.onRecord fun r => r.closed .superseded c s.time))
  let s := purgeTransaction s.openNumber s
  let n := s.faults.deferred.length
  archive n (judgeDeferred false s)

/-- A forced opening supersedes a transaction open in VOTING, STAGING or UNWINDING (R13). -/
def supersede (c : OpeningCause) (s : State) : State :=
  if s.agreement.phase.defers then closeSuperseded isSuperseded c.cause s else s

/-! ### Opening (R10 to R13) -/

/-- What an opening frame gives the new transaction. -/
structure Opening where
  kind        : Kind
  forced      : Bool
  imageBacked : Bool
  originator  : StationId
  cause       : OpeningCause
  wakeSource  : Option (StationId × Fin 8)
  outcome     : TxnOutcome
  faults      : List (FaultCode × StationId)
deriving DecidableEq, Repr

/-- The vote list at an opening: ACCEPT for the originator of a non-forced PROPOSE, NONE else (R4, R11). -/
def Opening.votes (o : Opening) : Table 8 (Option Answer) :=
  tabOf fun i => if o.cause == .propose && i == o.originator then some .accept else none

/-- The record a transaction opens with: every field cleared, then written (R4, R5, R10). -/
def newRecord (o : Opening) (number : TxnNumber) (participants required : StationSet) (now : Time) : Record where
  number := number
  kind := o.kind
  forced := o.forced
  imageBacked := o.imageBacked
  originator := o.originator
  openingCause := o.cause
  wakeSource := o.wakeSource
  participants := participants
  consent := participants &&& required
  votes := o.votes
  outcome := o.outcome
  outcomeCause := none
  abortCause := none
  forward := Vector.replicate 12 0
  unwind := Vector.replicate 12 0
  committed := false
  unwindTop := none
  missing := 0
  faults := o.faults
  faultOverflow := 0
  openedAt := now
  acceptedAt := if o.outcome == .accepted then some now else none
  committedAt := none
  stageTimes := Vector.replicate 12 none
  closedAt := none

/-- The purges of an opening (R10, step 5). -/
def purgeAtOpening (forced : Bool) (s : State) : State :=
  let s := purgeKind .wake (fun _ => true) (purgeKind .propose (fun _ => true) s)
  if forced then purgeKind .fault isPeerLostFault s else s

/-- Open a transaction (R10) and enter this phase: number, record, purges, then the blocks that hear of the opening: the
demote timer stops, qualification is judged, T_beat is recomputed, and a forced PROPOSE that the purge took is queued
again where R26 says so. -/
def openTransaction (o : Opening) (p : Phase) (s : State) : State :=
  let n := s.nextNumber
  let took := s.forcedQueued
  let r := newRecord o n s.participantsNow s.system.required s.time
  let s := s.withAgreement { s.agreement with number := some n, record := some r }
  let s := (purgeAtOpening o.forced s).withPhase p
  requeueForced took (recomputeBeat (refreshQualification (stopDemote s)))

/-- Start the vote timing: the window at the originator, the guard of twice the window elsewhere (R11, R36). -/
def startVoteTimer (originator : StationId) (s : State) : State :=
  if originator = s.me then s.withAgreement { s.agreement with voteWindow := some s.system.voteWindow }
  else s.withAgreement { s.agreement with voteGuard := some (2 * s.system.voteWindow) }

/-- A participant other than the originator queues its VOTE (R11, R32). -/
def castVote (originator : StationId) (kind : Kind) (inh : Inhibits) (s : State) : State :=
  if originator = s.me then s else fillFrame s.openNumber (.vote (s.votePolicy inh kind)) s

/-- The tally at the opening: with nobody awaited, ACCEPTED (R34). -/
def tallyAtOpening (s : State) : State :=
  match s.agreement.record with
  | some r => if r.awaited = 0 then accept s else s
  | none => s

/-- A transaction opens by a non-forced PROPOSE (R11). -/
def openVoting (originator : StationId) (kind : Kind) (imageBacked : Bool) (inh : Inhibits) (s : State) : State :=
  let s := openTransaction
    { kind := kind, forced := false, imageBacked := imageBacked && kind == .enterRest, originator := originator,
      cause := .propose, wakeSource := none, outcome := .opened, faults := [] } .voting s
  tallyAtOpening (castVote originator kind inh (startVoteTimer originator s))

/-- A transaction opens by a WAKE (R12). -/
def openWake (sender : StationId) (target : WakeTarget) (input : Fin 8) (s : State) : State :=
  let s := openTransaction
    { kind := target.kind, forced := false, imageBacked := false, originator := sender, cause := .wake,
      wakeSource := some (sender, input), outcome := .accepted, faults := [] } .staging s
  execStart (commitAtStart s)

/-- The phase a forced opening enters: DESCENDING, or MUTE kept for a silent descent (R9, R13). -/
def forcedPhase : Phase → Phase
  | .mute => .mute
  | _ => .descending

/-- A forced ENTER_OFF opens, after superseding what is open (R13, R149). -/
def openForced (cause : OpeningCause) (originator : StationId) (faults : List (FaultCode × StationId)) (s : State) : State :=
  let s := supersede cause s
  execStart (openTransaction
    { kind := .enterOff, forced := true, imageBacked := false, originator := originator, cause := cause,
      wakeSource := none, outcome := .accepted, faults := faults } (forcedPhase s.agreement.phase) s)

/-- An opening frame can open a silent descent: MUTE with none open and the believed state known (R8). -/
def State.opensSilent (s : State) : Bool :=
  s.agreement.phase == .mute && !s.recordOpen && s.agreement.believed.isSome

/-- A forced opening frame opens here: SETTLED, or superseding, or as a silent descent (R8); the current number is present
(R3). -/
def State.opensForced (s : State) : Bool :=
  (s.agreement.phase == .settled || s.agreement.phase.defers || s.opensSilent) && s.agreement.number.isSome

/-! ### MUTE (R9, R139, R147) -/

/-- The open transaction at entry to MUTE (R9): a non-forced one closes SUPERSEDED with cause MUTE; a forced one goes on. -/
def muteTransaction (s : State) : State :=
  if s.agreement.phase.defers then closeSuperseded isExecutor .mute s else s

/-- The executor at entry to MUTE in a forced descent: a report that left the slot is stood in for (R53). -/
def muteReport (s : State) : State :=
  if s.silentDescent && s.executor.sub = .reporting then
    match s.executor.cursor with
    | some k => execRun (afterReport k s)
    | none => s
  else s

/-- The barred-retry timer at an entry to MUTE (R148). -/
def muteRetry (c : MuteCause) (s : State) : Timer :=
  match c with
  | .barred => some s.system.barredRetry
  | _ => none

/-- The presence unit at entry to MUTE: the cause, the beat timer and the debt, the census window and alignment, the
barred-retry timer (R144, R145, R147, R148, R152). -/
def mutePresence (c : MuteCause) (s : State) : State :=
  detachAlignment (s.withPresence { s.presence with
    muteCause := c, beatTimer := none, debt := 0, censusWindow := none, barredRetry := muteRetry c s,
    retryHeld := false, alignment := none })

/-- Dropout monitoring at an entry to MUTE: it is active in MUTE and was not in CENSUS, so at an entry from CENSUS it
starts on every rail in ON (R71, log 39). -/
def muteMonitoring (s : State) : State := if s.agreement.phase == .census then startAllMonitoring s else s

/-- Entry to MUTE (R9, R23, R27, R71, R125, R139, R147). T_beat stays as it was, also where a transaction open outside RUN
ends here (the model's choice, log 52). -/
def enterMute (c : MuteCause) (s : State) : State :=
  let s := (muteTransaction (muteMonitoring s)).withPhase .mute
  let s := clearMark (stopDemote (clearLatch (emptySlots (mutePresence c s))))
  muteReport (refreshQualification s)

/-! ### Adoption and alignment (R151, R152) -/

/-- The end of census: SETTLED with the settle signal, no transaction closed (R17, R151). -/
def endCensus (s : State) : State :=
  becomeSettled none (s.withPresence { s.presence with alignment := none })

/-- Alignment works through its steps: one that takes time stops it with the rest kept, and after the last the station
becomes SETTLED (R152). -/
def runAlignment : List Change → State → State
  | [], s => endCensus s
  | c :: rest, s =>
    match issueChange c .alignment s with
    | (s1, some _) => runAlignment rest s1
    | (s1, none) => s1.withPresence { s1.presence with alignment := some rest }

/-- The adopted state, number and cleared flag (R19, R151); adoption empties the refreshed-view set (R30). -/
def writeAdoption (st : SystemState) (n : TxnNumber) (s : State) : State :=
  let s := s.withAgreement { s.agreement with believed := some st, number := some n, restImage := false }
  let s := s.withRequest { s.request with refresh := 0 }
  s.withPresence { s.presence with censusWindow := none }

/-- The profile check (R151): in RUN or REST a difference is DOMAIN_LOST and the station settles at once; in STOW or OFF
the differing outputs are aligned first. -/
def profileCheck (st : SystemState) (s : State) : State :=
  let steps := s.alignmentSteps (s.profileRow st)
  if st == .run || st == .rest then
    endCensus (if steps.isEmpty then s else raiseFault .domainLost noTarget .severe s)
  else runAlignment steps s

/-- Census adoption (R151). -/
def adopt (st : SystemState) (n : TxnNumber) (s : State) : State := profileCheck st (writeAdoption st n s)

/-- Alignment is running (R152). -/
def State.aligning (s : State) : Bool := s.presence.alignment.isSome

/-- The adoption is withdrawn (R152). -/
def withdrawAdoption (s : State) : State :=
  if s.aligning then
    let s := s.withAgreement { s.agreement with believed := none, number := none }
    detachAlignment (s.withPresence { s.presence with
      alignment := none, censusWindow := some s.system.censusWindow })
  else s

/-! ### Completions of rail actions -/

/-- A completed rail action reaches whoever issued it: the executor (R50, R51), or a running alignment, which goes on
whether the step failed or not (R152). A correction, or a step nobody waits for, ends (R78). -/
def deliverNotice (s : State) (n : Notice) : State :=
  match n.issuer with
  | .executor => execComplete n.completion s
  | .alignment =>
    match s.presence.alignment with
    | some rest => runAlignment rest s
    | none => s
  | .correction => s
  | .detached => s

/-- The notices of one event, in order. -/
def deliverNotices (x : State × List Notice) : State := x.2.foldl deliverNotice x.1

end Sys2Proof.Machine
end

