-- ==== Sys2Proof/Machine/Deliver.lean ====
section
/-! DEFINITION. What a delivered frame of each kind does, in each phase (R8, R33, R55, R82, R93, R101, R142 to R148), and
the ends of a rejected or lost attempt (R133, R135). -/

namespace Sys2Proof.Machine

open Sys2Proof

/-! ### The hand-off (R134, R142) -/

/-- The station's own frame is delivered: its slot empties and the beat debt is paid (R135, R137, R145). -/
def ownDelivered (f : Frame) (own : Option Ready) (s : State) : State :=
  if own.isSome then payDebt (clearSending f.body.kind s) else s

/-- A frame other than CENSUS and BEAT is delivered: the own slot, then the presence update, then the agreement engine,
which is told whether the frame is the station's own (R33, R134). A frame of an EXCLUDED peer is dropped (R142). -/
def handOff (f : Frame) (engine : Option Ready → State → State) (s : State) : State :=
  if !s.onLink then s
  else
    let own := s.ownSending f
    let s := ownDelivered f own s
    if f.sender = s.me then engine own s
    else if (s.peerAt f.sender).presence == .excluded then s
    else engine own (touchPeer f s)

/-- Alignment running in CENSUS is withdrawn by an opening frame (R152). -/
def withdrawInCensus (s : State) : State := if s.agreement.phase == .census then withdrawAdoption s else s

/-! ### PROPOSE (R2, R8, R11, R13) -/

/-- A non-forced PROPOSE of this kind is valid from the believed state (R2). -/
def proposeValid (k : Kind) (believed : Option SystemState) : Bool :=
  match believed with
  | some .run => k.isEntry
  | some .rest => k == .demote
  | _ => false

/-- Own non-forced PROPOSE delivered without opening: the latch waits again, and R21 is tested (R22). -/
def proposeLate (own : Option Ready) (s : State) : State :=
  match own with
  | some r => testPropose (reportPurged r (countLate s))
  | none => countLate s

/-- Own PROPOSE delivered and opening (R22). -/
def ownProposeOpens (own : Option Ready) (s : State) : State :=
  match own with
  | some r => moveUnderVote r s
  | none => s

/-- A non-forced PROPOSE at the agreement engine (R2, R8, R11). -/
def takePropose (sender : StationId) (kind : Kind) (imageBacked : Bool) (inh : Inhibits) (own : Option Ready) (s : State) :
    State :=
  match s.agreement.phase with
  | .settled =>
    if proposeValid kind s.agreement.believed && s.agreement.number.isSome then
      openVoting sender kind imageBacked inh (ownProposeOpens own s)
    else proposeLate own s
  | .voting => proposeLate own s
  | .staging => proposeLate own s
  | .unwinding => proposeLate own s
  | .descending => proposeLate own s
  | .census => withdrawInCensus s
  | _ => s

/-- A forced PROPOSE at the agreement engine (R2, R8, R13). Another kind than ENTER_OFF is late where ENTER_OFF would
open. -/
def takeForcedPropose (sender : StationId) (kind : Kind) (s : State) : State :=
  if s.opensForced then
    if kind == .enterOff then openForced .forcedPropose sender [] s else countLate s
  else if s.agreement.phase == .descending then countLate s
  else withdrawInCensus s

/-! ### WAKE (R2, R8, R12, R124) -/

/-- A WAKE of this target is valid from the believed state (R2). -/
def wakeValid (t : WakeTarget) (believed : Option SystemState) : Bool :=
  match t, believed with
  | .resume, some .rest => true
  | .rise, some .stow => true
  | .rise, some .off => true
  | _, _ => false

/-- Own WAKE delivered and not opening: the mark is cleared, and in SETTLED the announcement is tested again (R124). -/
def ownWakeIdle (own : Option Ready) (s : State) : State :=
  if own.isSome then
    let s := clearMark s
    if s.agreement.phase == .settled then testAnnounce s else s
  else s

/-- A WAKE opens its transaction; when it is the station's own, the entry the mark names becomes ANNOUNCED (R12, R124). -/
def wakeOpens (sender : StationId) (t : WakeTarget) (input : Fin 8) (own : Option Ready) (s : State) : State :=
  if own.isSome then
    match s.wake.mark with
    | some i => openWake sender t input (clearMark (announceEntry i s))
    | none => openWake sender t input s
  else openWake sender t input s

/-- A WAKE in DESCENDING (R12): the executor's action is abandoned and the descent closes, then RISE opens; a RESUME is
late and leaves the station SETTLED in OFF. -/
def wakeInDescent (sender : StationId) (t : WakeTarget) (input : Fin 8) (own : Option Ready) (s : State) : State :=
  let s := forcedCloseCore (abandonWork isExecutor s)
  match t with
  | .rise => wakeOpens sender t input own s
  | .resume => ownWakeIdle own (becomeSettled (some (.enterOff, .forcedDone)) (countLate s))

/-- A WAKE at the agreement engine (R2, R8, R12). -/
def takeWake (sender : StationId) (t : WakeTarget) (input : Fin 8) (own : Option Ready) (s : State) : State :=
  match s.agreement.phase with
  | .settled =>
    if wakeValid t s.agreement.believed && s.agreement.number.isSome then wakeOpens sender t input own s
    else ownWakeIdle own (countLate s)
  | .descending => wakeInDescent sender t input own s
  | .census => ownWakeIdle own (withdrawInCensus s)
  | _ => ownWakeIdle own s

/-! ### VOTE (R33, R34) -/

/-- Write a vote list entry that is still NONE (R33). -/
def writeVote (sender : StationId) (a : Answer) (r : Record) : Record := { r with votes := tabSet r.votes sender (some a) }

/-- A VOTE at the agreement engine (R8, R33, R34, R38). -/
def takeVote (sender : StationId) (number : TxnNumber) (a : Answer) (s : State) : State :=
  match s.agreement.phase, s.agreement.record with
  | .voting, some r =>
    if r.matches number sender && sender != r.originator then
      let s := if sender = s.me then s else clearMisses sender s
      if (tabGet r.votes sender).isNone then tally sender a (s.withRecord (writeVote sender a r)) else s
    else s
  | _, _ => s

/-! ### STAGE (R55, R56, R60, R93, R96) -/

/-- A STAGE matches: a transaction is open past its vote, number and sender are its own, and the stage is 1 to S (R8,
R55). -/
def State.stageMatches (s : State) (sender : StationId) (number : TxnNumber) (stage : Nat) : Bool :=
  (s.agreement.phase == .unwinding || s.forwardWork) && s.openNumber == number && setHas s.participants sender &&
    decide (1 ≤ stage) && decide (stage ≤ s.lastStage s.kind)

/-- The own stage time is written (R54). -/
def writeStageTime (stage : Nat) (now : Time) (t : Table 12 (Option Time)) : Table 12 (Option Time) :=
  tabMap (fun k x => if k.val + 1 = stage then some now else x) t

/-- The record after a matching forward STAGE (R54, R55). -/
def forwardRecord (sender : StationId) (stage : Nat) (own : Bool) (now : Time) (r : Record) : Record :=
  { r with forward := enterForward r.forward stage sender
           stageTimes := if own then writeStageTime stage now r.stageTimes else r.stageTimes }

/-- The delivery commits: STAGING, not committed, and the forward done-set of stage C is full (R56). -/
def State.commits (s : State) : Bool :=
  s.agreement.phase == .staging && !s.committed && s.forwardFull (s.commitStage s.kind)

/-- The record and the commit at a matching forward STAGE (R55, R56). -/
def enterForwardStage (sender : StationId) (stage : Nat) (own : Bool) (s : State) : State :=
  let s := s.onRecord (forwardRecord sender stage own s.time)
  if s.commits then commit s else s

/-- What a matching forward STAGE leads to: completion (R60), a forced close (R16), or the executor's next stage (R46,
R54). In UNWINDING it only fills its done-sets (R93). -/
def afterForward (stage : Nat) (own : Bool) (s : State) : State :=
  if s.forwardWork then
    if s.forwardFull (s.lastStage s.kind) then
      if s.forced then forcedClose (endWork s) else closeSettled .completed s.openingCause (endWork s)
    else if own then ownForward stage s
    else testWaiting s
  else s

/-- A forward STAGE at the agreement engine (R8, R55). -/
def takeForward (sender : StationId) (number : TxnNumber) (stage : Nat) (own : Option Ready) (s : State) : State :=
  if s.stageMatches sender number stage then
    afterForward stage own.isSome (enterForwardStage sender stage own.isSome s)
  else s

/-- The record after a matching unwind STAGE (R93). -/
def unwindRecordAt (sender : StationId) (stage last : Nat) (r : Record) : Record :=
  { r with unwind := enterUnwind r.unwind stage last sender }

/-- The outcome cause of an ABORTED close (R18, R96). -/
def State.abortCause (s : State) : Cause :=
  match s.agreement.record with
  | some r =>
    match r.abortCause with
    | some a => abortCauseOf a
    | none => .timeout
  | none => .timeout

/-- What a matching unwind STAGE leads to in UNWINDING: the ABORTED close (R96), or the executor's next level (R92, R94). -/
def afterUnwind (stage : Nat) (own : Bool) (s : State) : State :=
  if s.agreement.phase = .unwinding then
    if s.unwindFull 1 then closeSettled .aborted s.abortCause (endWork s)
    else if own then ownUnwind stage s
    else testLevel s
  else s

/-- An unwind STAGE at the agreement engine (R8, R93). -/
def takeUnwind (sender : StationId) (number : TxnNumber) (stage : Nat) (own : Option Ready) (s : State) : State :=
  if s.stageMatches sender number stage then
    afterUnwind stage own.isSome (s.onRecord (unwindRecordAt sender stage (s.lastStage s.kind)))
  else s

/-! ### ABORT (R37, R82, R83) -/

/-- The unwind top (R83). -/
def unwindTopOf (forward : Table 12 StationSet) (last commitStage : Nat) : Nat :=
  let m := greatestDone forward last
  if m + 1 ≤ commitStage then m + 1 else commitStage

/-- The misses counted at ABORT(NO_QUORUM): awaited, with no answer, and not this station (R37). -/
def countMisses (r : Record) (s : State) : State :=
  allStations.foldl (fun s i =>
    if setHas r.awaited i && (tabGet r.votes i).isNone && i != s.me then missVote i s else s) s

/-- The outcome of a vote ended by an ABORT (R37). -/
def abortOutcome : AbortReason → TxnOutcome
  | .noQuorum => .noQuorum
  | _ => .aborted

/-- An ABORT ends the vote (R37). -/
def abortVote (reason : AbortReason) (r : Record) (s : State) : State :=
  let s := s.onRecord fun r => { r with abortCause := some reason }
  let s := if reason = .noQuorum then countMisses r s else s
  closeSettled (abortOutcome reason) (abortCauseOf reason) (answerUnderVote .low s)

/-- An ABORT is taken in STAGING before commit (R82). -/
def takeUnwinding (reason : AbortReason) (r : Record) (s : State) : State :=
  let h := unwindTopOf r.forward (s.lastStage r.kind) (s.commitStage r.kind)
  let s := s.onRecord fun r => { r with abortCause := some reason, unwindTop := some h }
  execUnwind h (s.withPhase .unwinding)

/-- An ABORT at the agreement engine (R8, R37, R82, R85). -/
def takeAbort (sender : StationId) (number : TxnNumber) (reason : AbortReason) (s : State) : State :=
  match s.agreement.record with
  | some r =>
    if r.matches number sender then
      match s.agreement.phase with
      | .voting => abortVote reason r s
      | .staging => if r.committed then s else takeUnwinding reason r s
      | _ => s
    else s
  | none => s

/-! ### FAULT (R4, R8, R101) -/

/-- A FAULT enters the fault list of the forced record, or raises the overflow count (R4). -/
def listFault (code : FaultCode) (sender : StationId) (r : Record) : Record :=
  if r.faults.length < 4 then { r with faults := r.faults ++ [(code, sender)] }
  else { r with faultOverflow := satInc 255 r.faultOverflow }

/-- A forced descent is open: DESCENDING, or a silent descent (R8). -/
def State.descending (s : State) : Bool := s.agreement.phase == .descending || s.silentDescent

/-- A FAULT at the agreement engine (R8, R13). -/
def takeFault (sender : StationId) (code : FaultCode) (s : State) : State :=
  if s.opensForced then openForced .fault sender [(code, sender)] s
  else if s.descending then s.onRecord (listFault code sender)
  else withdrawInCensus s

/-! ### BEAT (R30, R147, R148, R150) -/

/-- The station is barred by a PRESENT peer (R147). -/
def bar (sender : StationId) (s : State) : State :=
  let s := s.withPresence { s.presence with barring := setAdd s.presence.barring sender }
  if s.agreement.phase.takesPart || s.agreement.phase == .census then enterMute .barred s else s

/-- A BEAT that does not list the station, in MUTE with no silent descent open: its sender leaves the barring set (R148). -/
def unbar (sender : StationId) (s : State) : State :=
  if s.agreement.phase == .mute && !s.recordOpen then checkLeaveMute (dropBarring sender s) else s

/-- A held barred-retry expiry: the CENSUS is filled at the first BEAT after which no open flag is heard (R148). -/
def retryHeldCensus (s : State) : State :=
  if s.agreement.phase == .mute && s.presence.retryHeld && !s.openHeard then
    fillCensus (s.withPresence { s.presence with retryHeld := false })
  else s

/-- A BEAT judged in CENSUS (R150, R152): an open one withdraws a running alignment, a settled one is adopted. -/
def judgeBeat (b : BeatBody) (n : TxnNumber) (s : State) : State :=
  if s.aligning then (if b.openFlag then withdrawAdoption s else s)
  else if b.phase == .settled && !b.openFlag then adopt b.state n s
  else s

/-- A peer's BEAT after the table was updated (R30, R147, R148, R150). In MUTE(BARRED), with a barred-retry expiry held, a BEAT
that lists the station meets two rules: by R147 nothing changes but the barring set, by R148 the CENSUS is filled at the first
BEAT after which no open flag is heard, whichever it is. The model fills it (its choice, log 56). -/
def takeBeat (sender : StationId) (n : TxnNumber) (b : BeatBody) (s : State) : State :=
  let census := s.agreement.phase == .census
  let s := refreshSeen sender s
  if setHas b.exclusion s.me then retryHeldCensus (bar sender s)
  else if census then judgeBeat b n s
  else retryHeldCensus (unbar sender s)

/-- A BEAT is delivered (R30, R142). -/
def deliverBeat (sender : StationId) (n : TxnNumber) (b : BeatBody) (s : State) : State :=
  if !s.onLink then s
  else
    let f : Frame := { sender := sender, number := n, body := .beat b }
    let own := s.ownSending f
    let s := ownDelivered f own s
    if sender = s.me then (if own.isSome then refreshSeen sender s else s)
    else if (s.peerAt sender).presence == .excluded then s
    else takeBeat sender n b (touchPeer f s)

/-! ### CENSUS (R145, R146) -/

/-- The presence unit at a peer's CENSUS: the entry, a BEAT for the joining station, and, where the sender left the
barring set, the end of MUTE (R145, R146, R148). -/
def takeCensus (sender : StationId) (sig : Signature) (cause : ResetCause) (s : State) : State :=
  let s := checkLeaveMute (censusPeer sender sig cause s)
  if s.agreement.phase.takesPart then fillBeat s else s

/-- A CENSUS from a participant of the open non-forced transaction supersedes it (R8, R146). -/
def restartSupersedes (sender : StationId) (s : State) : State :=
  if s.agreement.phase.defers && setHas s.participants sender && s.agreement.number.isSome then
    openForced .peerRestart sender [] s
  else s

/-- A CENSUS is delivered (R8, R146). -/
def deliverCensus (sender : StationId) (sig : Signature) (cause : ResetCause) (s : State) : State :=
  if !s.onLink then s
  else
    let f : Frame := { sender := sender, number := 0, body := .census sig cause }
    let s := ownDelivered f (s.ownSending f) s
    restartSupersedes sender (if sender = s.me then s else takeCensus sender sig cause s)

/-! ### Lost and rejected attempts (R133, R135, R139) -/

/-- What the owner of a kind tests once its frame may have left the slot (R22, R124). -/
def afterReturn (k : FrameKind) (s : State) : State :=
  match k with
  | .propose => testPropose s
  | .wake => testAnnounce s
  | _ => s

/-- LINK_FAULT in MUTE(BARRED): the cause becomes LINK_FAULT and the slots are emptied (R139). -/
def muteLinkFault (s : State) : State :=
  emptySlots (s.withPresence { s.presence with muteCause := .linkFault, barredRetry := none, retryHeld := false })

/-- The eighth rejection of one frame: LINK_FAULT is latched SEVERE with no FAULT requested, and the station enters MUTE
(R135). -/
def linkFault (s : State) : State :=
  let s := latchFault .linkFault noTarget .severe s
  if s.agreement.phase == .mute then muteLinkFault s else enterMute .linkFault s

/-- The frame in a kind's sending place is rejected (R135, R137). The eighth rejection is LINK_FAULT also where the frame
carries a purge mark; it is then dropped with every other frame, and its owner is not told (the model's choice, log 55). -/
def rejectSending (k : FrameKind) (s : State) : State :=
  let n := (s.slot k).rejections + 1
  if 8 ≤ n then linkFault s else afterReturn k (returnFrame k n s)

/-- A rejected frame: this station counts its own finding, and a sender counts the rejection (R134, R135). -/
def rejectFrame (rx : Reception) (s : State) : State :=
  if !s.onLink then s
  else
    let s := judgeReception rx s
    match s.sendingKind with
    | some k => rejectSending k s
    | none => s

/-- The arbitration value of the frame in a kind's sending place. -/
def State.sendingValue (s : State) (k : FrameKind) : Nat := k.class.val * 8 + s.me.val

/-- Arbitration goes on with this value: a station sending a value that loses to it returns its frame (R133, R137). -/
def loseArbitration (winner : BitVec 6) (s : State) : State :=
  match s.sendingKind with
  | some k =>
    if losesTo (s.sendingValue k) winner then afterReturn k (returnFrame k (s.slot k).rejections s) else s
  | none => s

end Sys2Proof.Machine
end

