-- ==== Sys2Proof/Machine/Loader.lean ====
section
/-! DEFINITION. The configuration loader: CRC-16, the checks of an image, load done and CONFIG_FAULT, and the three kinds
of reset (R39, R42, R79, R111, R140, R154 to R161). -/

namespace Sys2Proof.Machine

open Sys2Proof

/-! ### Bytes and CRC-16 (R155) -/

/-- One step of the CRC-16 register (R155). -/
def crc16Step (reg : BitVec 16) (bit : Bool) : BitVec 16 :=
  if reg.msb != bit then (reg <<< 1) ^^^ 0x1021 else reg <<< 1

/-- The CRC-16 of bytes in address order, each most significant bit first (R155). -/
def crc16 (bytes : List Byte) : BitVec 16 :=
  bytes.foldl (fun reg b => (fieldBits 8 b.toNat).foldl crc16Step reg) 0xFFFF

/-- The two bytes of a list from a place on, most significant first (R155). -/
def word16 (bytes : List Byte) (i : Nat) : Nat := (bytes.getD i 0).toNat * 256 + (bytes.getD (i + 1) 0).toNat

/-- A value in a range, both ends in. -/
def inRange (lo hi n : Nat) : Bool := decide (lo ≤ n) && decide (n ≤ hi)

/-! ### The checks (R155 to R158) -/

/-- The header checks and the image CRC (R155). -/
def headerValid (i : Image) : Bool :=
  i.header.length == 13 && i.header.take 2 == [0x5A, 0x53] && inRange 13 2048 (word16 i.header 2) &&
    decide ((i.header.getD 4 0).toNat ≤ 7) &&
    word16 i.header 5 == i.systemBytes.length && word16 i.header 7 == i.stationBytes.length &&
    word16 i.header 9 == i.planBytes.length &&
    13 + i.systemBytes.length + i.stationBytes.length + i.planBytes.length == word16 i.header 2 &&
    (crc16 (i.header.take 11 ++ i.systemBytes ++ i.stationBytes ++ i.planBytes)).toNat == word16 i.header 11

/-- The six kinds. -/
def allKinds : List Kind := [.enterRest, .enterStow, .enterOff, .resume, .rise, .demote]

/-- The ranges of the system section (R156). -/
def systemValid (y : SystemSection) : Bool :=
  inRange 5 100 y.beatRun && inRange 100 2000 y.beatLow && inRange 5 1000 y.voteWindow &&
    inRange 100 5000 y.censusWindow && inRange 100 10000 y.barredRetry &&
    allKinds.all (fun k => inRange 1 12 (perKind y.stages k) && decide (perKind y.commits k ≤ perKind y.stages k)) &&
    decide (y.minDwell ≤ 60000) && decide (y.lockout ≤ 60000) && decide (y.faultHold ≤ 60000) &&
    inRange 100 60000 y.deferHold

/-- The ranges of a rail channel that is enabled (R62, R157). -/
def railValid (r : RailParams) : Bool :=
  !r.enabled || (inRange 1 65535 r.settleWindow && inRange 1 65535 r.dischargeWindow && decide (r.holdUp ≤ 65535) &&
    decide (r.holdDown ≤ 65535) && inRange 1 255 r.dropoutFilter && inRange 1 15 r.dropoutThreshold &&
    inRange 1 1000 r.dropoutWindow)

/-- The ranges of the fields a wake input's kind uses (R112, R157). -/
def wakeDefValid (d : WakeInputDef) : Bool :=
  match d.kind with
  | .unused => true
  | .level => inRange 1 1000 d.holdTime
  | .count => (d.window == .common || inRange 1 1000 d.ownLength) && inRange 1 65535 d.threshold
  | .button => inRange 5 100 d.debounce && inRange 2000 10000 d.longPress

/-- The ranges and whole-section checks of the station section (R157). -/
def stationValid (t : StationSection) : Bool :=
  inRange 0x08 0x77 t.address && (allRails.all fun ch => railValid (tabGet t.rails ch)) &&
    (allWakes.all fun i => wakeDefValid (tabGet t.wakes i)) && inRange 1 1000 t.commonWindow &&
    decide (t.demoteMinutes ≤ 1440) &&
    decide ((allWakes.filter fun i => (tabGet t.wakes i).kind == .button).length ≤ 1)

/-- The time parameter of an action (R158). -/
def actionValid : Action → Bool
  | .change _ _ => true
  | .pulse _ tenths => inRange 1 10000 tenths
  | .wait ms => inRange 1 10000 ms
  | .await _ _ ms => inRange 1 10000 ms

/-- One stage entry on its own (R158). -/
def entryValid (me : StationId) (last : Nat) (e : StageEntry) : Bool :=
  inRange 1 last e.stage && !setHas e.waitSet me && inRange 1 10000 e.timeout && decide (e.actions.length ≤ 4) &&
    e.actions.all actionValid

/-- Entries sorted by stage number, no two with the same (R158). -/
def sortedStages : List StageEntry → Bool
  | a :: b :: rest => decide (a.stage < b.stage) && sortedStages (b :: rest)
  | _ => true

/-- An action with its record flag set (R158). -/
def isRecorded : Action → Bool
  | .change _ record => record
  | _ => false

/-- The record-flagged actions of a kind's entries numbered at most C (R158). -/
def recordedBefore (commitStage : Nat) (es : List StageEntry) : Nat :=
  ((es.filter fun e => decide (e.stage ≤ commitStage)).map fun e => (e.actions.filter isRecorded).length).sum

/-- One kind's list (R158). -/
def kindValid (me : StationId) (last commitStage : Nat) (es : List StageEntry) : Bool :=
  decide (es.length ≤ 12) && sortedStages es && es.all (entryValid me last) && decide (recordedBefore commitStage es ≤ 16)

/-- A level change applied to a row (10.4). -/
def applyChange (row : ProfileRow) : Change → ProfileRow
  | .raise ch => { row with rails := tabSet row.rails ch .high }
  | .drop ch => { row with rails := tabSet row.rails ch .low }
  | .setHigh i => { row with signals := tabSet row.signals i .high }
  | .setLow i => { row with signals := tabSet row.signals i .low }

/-- An action applied to a row; PULSE, WAIT and AWAIT leave every level (10.4). -/
def applyAction (row : ProfileRow) : Action → ProfileRow
  | .change c _ => applyChange row c
  | _ => row

/-- A row with the rail channels that are not enabled LOW (10.4). -/
def maskRow (t : StationSection) (row : ProfileRow) : ProfileRow :=
  { row with rails := tabMap (fun ch l => if (tabGet t.rails ch).enabled then l else .low) row.rails }

/-- A plan maps one row to another (10.4, R158). -/
def planMaps (t : StationSection) (es : List StageEntry) (source target : ProfileRow) : Bool :=
  maskRow t (es.foldl (fun row e => e.actions.foldl applyAction row) source) == maskRow t target

/-- The consistency of the plans with the profiles (R158). -/
def profilesValid (t : StationSection) (p : PlanSection) : Bool :=
  planMaps t p.plans.enterRest p.profile.run p.profile.rest && planMaps t p.plans.enterStow p.profile.run p.profile.stow &&
    planMaps t p.plans.demote p.profile.rest p.profile.stow && planMaps t p.plans.resume p.profile.rest p.profile.run &&
    planMaps t p.plans.rise p.profile.stow p.profile.run && planMaps t p.plans.rise p.profile.off p.profile.run &&
    [p.profile.run, p.profile.rest, p.profile.stow, p.profile.off].all fun row =>
      planMaps t p.plans.enterOff row p.profile.off

/-- The actions of the whole plan section (R158). -/
def actionCount (p : PlanSection) : Nat :=
  (allKinds.map fun k => ((perKind p.plans k).map fun e => e.actions.length).sum).sum

/-- The plan section (R158). -/
def planValid (i : Image) : Bool :=
  (allKinds.all fun k => kindValid (Image.stationId i) (perKind i.system.stages k) (perKind i.system.commits k)
    (perKind i.plan.plans k)) && decide (actionCount i.plan ≤ 96) && profilesValid i.station i.plan

/-- Every check of R155 to R158. -/
def imageValid (i : Image) : Bool :=
  headerValid i && systemValid i.system && stationValid i.station && planValid i

/-! ### The SPI read (R154) -/

/-- How many bytes the loader takes from a memory that holds these bytes from address 0 upward. The first header check
that fails ends the read with the last byte of its field: the identifier, the range of the length, the station ID, or the
sum of the section lengths. Otherwise the length field gives the number (R154, R155, R159; log 44). -/
def readLength (header : List Byte) : Nat :=
  if header.take 2 != [0x5A, 0x53] then 2
  else if !inRange 13 2048 (word16 header 2) then 4
  else if 7 < (header.getD 4 0).toNat then 5
  else if 13 + word16 header 5 + word16 header 7 + word16 header 9 != word16 header 2 then 11
  else word16 header 2

/-- The read ends: so many bytes were taken (R154). -/
def endRead (header : List Byte) (s : State) : State :=
  { s with loader := { s.loader with bytesRead := some (readLength header) } }

/-! ### Load done and CONFIG_FAULT (R79, R154, R159, R161) -/

/-- Entry to CONFIG_FAULT: every output low at once; the other blocks hold their reset values already (R79, R159). -/
def configFault (s : State) : State := { s with channel := Channel.blank }.withPhase .configFault

/-- The channel block at load done: the enables of channels not enabled are driven low (R79). -/
def loadChannel (s : State) : State :=
  { s with channel := { s.channel with
      rails := tabMap (fun ch r => if (s.railParams ch).enabled then r else Rail.still .off) s.channel.rails } }

/-- Load done: the tables are filled, the phase becomes CENSUS and census starts (R154, R155, R161). -/
def loadDone (i : Image) (s : State) : State :=
  let s := { s with loader := { s.loader with image := some i, signature := crc16 i.systemBytes } }
  startCensus ((loadChannel s).withPhase .census)

/-! ### Resets (R19, R79, R111, R126, R140, R153, R160) -/

/-- Power-on reset: everything at its reset value; the pins and the waiting commands are not the station's. -/
def powerOn (s : State) : State := { State.reset with pins := s.pins, pending := s.pending }

/-- A rail channel held through a pin reset or RESTART: ON where the enable is high, OFF where it is low (R79). -/
def heldRail (r : Rail) : Rail := Rail.still (if r.state.enable == .high then .on else .off)

/-- A signal held through a pin reset or RESTART, a pulse at its pulsed level (R79). -/
def heldSignal (x : Signal) : Signal := { state := signalAt x.state.level, pulse := none }

/-- The channel block after a pin reset or RESTART (R79). -/
def heldChannel (c : Channel) : Channel :=
  { Channel.blank with rails := tabMap (fun _ r => heldRail r) c.rails, signals := tabMap (fun _ x => heldSignal x) c.signals }

/-- A pin reset or RESTART: outputs held, the latched list with its unrecorded count and the outcome history kept, the
rest at its reset value (R160). -/
def warmReset (cause : ResetCause) (s : State) : State :=
  { powerOn s with
    channel := heldChannel s.channel
    agreement := { Agreement.blank with history := s.agreement.history }
    faults := { s.faults with deferred := [] }
    loader := { image := none, signature := 0, resetCause := cause, bytesRead := none } }

end Sys2Proof.Machine
end

