-- ==== Sys2Proof/Machine/Port.lean ====
section
/-! DEFINITION. The maintenance port: the byte layouts of its responses, snapshots, acknowledge bits and reads (R162 to
R166). -/

namespace Sys2Proof.Machine

open Sys2Proof

/-! ### Bytes -/

/-- A byte of a number. -/
def byteOf (n : Nat) : Byte := BitVec.ofNat 8 n

/-- A flag as a byte: 0 clear, 1 set (R165). -/
def flagByte (b : Bool) : Byte := if b then 1 else 0

/-- A flag at a bit position. -/
def bitAt (b : Bool) (n : Nat) : Nat := if b then 2 ^ n else 0

/-- A multi-byte value, most significant byte first (R162). -/
def bytes16 (n : Nat) : List Byte := [byteOf (n / 256), byteOf n]

/-- A timestamp: 4 bytes, most significant first (R165). -/
def bytes32 (t : Time) : List Byte :=
  [byteOf (t.toNat / 16777216), byteOf (t.toNat / 65536), byteOf (t.toNat / 256), byteOf t.toNat]

/-- A field that may be absent: a presence byte, then the value when present (R165). -/
def optionBytes {α : Type} (f : α → List Byte) : Option α → List Byte
  | none => [0]
  | some x => 1 :: f x

/-! ### Codes of the responses (R163 to R165) -/

/-- Believed state codes of STATUS (R163). -/
def believedCode : Option SystemState → Nat
  | some st => st.code
  | none => 4

/-- MUTE cause codes (R163). -/
def MuteCause.code : MuteCause → Nat
  | .none => 0
  | .linkFault => 1
  | .barred => 2

/-- Sub-state codes (R163). -/
def SubState.code : SubState → Nat
  | .idle => 0
  | .waiting => 1
  | .acting => 2
  | .reporting => 3
  | .undoing => 4

/-- Rail state codes (R163). -/
def RailState.code : RailState → Nat
  | .off => 0
  | .rising => 1
  | .holdingUp => 2
  | .on => 3
  | .falling => 4
  | .holdingDown => 5
  | .failedUp => 6
  | .failedDown => 7

/-- Presence codes (R164). -/
def PresenceValue.code : PresenceValue → Nat
  | .absent => 0
  | .present => 1
  | .silent => 2
  | .excluded => 3

/-- Outcome codes (R164, R165). -/
def TxnOutcome.code : TxnOutcome → Nat
  | .opened => 0
  | .completed => 1
  | .declined => 2
  | .deferred => 3
  | .noQuorum => 4
  | .aborted => 5
  | .superseded => 6
  | .forcedDone => 7
  | .accepted => 8

/-- Cause codes 1 to 14 (R164). -/
def Cause.code : Cause → Nat
  | .propose => 1
  | .wakeOpening => 2
  | .fault => 3
  | .forcedPropose => 4
  | .peerRestart => 5
  | .mute => 6
  | .wakeAbort => 7
  | .timeout => 8
  | .noQuorum => 9
  | .inhibit => 10
  | .lockout => 11
  | .faultPending => 12
  | .noImage => 13
  | .refreshPending => 14

/-- The cause code of a history entry's optional cause. -/
def causeCode : Option Cause → Nat
  | some c => c.code
  | none => 0

/-- Severity codes (R165). -/
def severityCode : Severity → Nat
  | .notice => 0
  | .severe => 1

/-- Wake queue entry state codes (R165). -/
def EntryState.code : EntryState → Nat
  | .pending => 0
  | .announced => 1

/-- The action kind code and target of a recorded change (R165). -/
def changeBytes : Change → List Byte
  | .raise ch => [0, byteOf ch.val]
  | .drop ch => [1, byteOf ch.val]
  | .setHigh i => [2, byteOf i.val]
  | .setLow i => [3, byteOf i.val]

/-- A vote list byte: the answer in bits 7 to 4, the reason in bits 3 to 0 (R165). -/
def voteByte : Option Answer → Byte
  | none => 0
  | some .accept => 0x10
  | some .defer => 0x21
  | some (.decline r) => byteOf (0x30 + r.code)

/-! ### STATUS (R163) -/

/-- The number of history entries with the new flag. -/
def State.newEntries (s : State) : Nat := (s.agreement.history.filter fun e => e.isNew).length

/-- The byte of one rail channel. -/
def State.railByte (s : State) (ch : Fin 6) : Byte := byteOf ((s.rail ch).state.code + 16 * (s.rail ch).dropouts)

/-- The byte of the sense and power-good levels: sense 0 in bit 0, power-good 0 in bit 2, and so upward. R163 names the
bits by range only, and shows power-good 0 to 5 where R62 leaves the input of a channel that is not enabled unread: the
order of the bits, and the pin's level shown for such a channel too, are the model's choice (log 40). -/
def State.inputByte (s : State) : Byte :=
  byteOf ((s.sense 0).bit + 2 * (s.sense 1).bit + 4 * (s.powerGood 0).bit + 8 * (s.powerGood 1).bit +
    16 * (s.powerGood 2).bit + 32 * (s.powerGood 3).bit + 64 * (s.powerGood 4).bit + 128 * (s.powerGood 5).bit)

/-- The 18 bytes of STATUS (R163). Byte 3 bit 3, which the table does not name, reads 0 (the model's choice, log 48). -/
def State.statusBytes (s : State) : List Byte :=
  [byteOf (s.agreement.phase.code + 8 * believedCode s.agreement.believed + bitAt s.txnOpen 6 +
     bitAt s.agreement.restImage 7),
   s.agreement.number.getD 0,
   byteOf (s.loader.resetCause.code + bitAt s.agreement.number.isSome 2 + 8 * s.faultSummary.val +
     bitAt s.executor.halted 5 + 64 * s.presence.muteCause.code),
   byteOf (s.executor.sub.code + 16 * s.executor.cursor.getD 0),
   byteOf (s.executor.stack.length + 32 * s.presence.debt),
   byteOf (s.faults.latched.length + 16 * s.faults.deferred.length + bitAt s.attn 7),
   byteOf (s.newEntries + 8 * s.wake.queue.length + bitAt s.stateOk 7)] ++
  bytes16 s.link.receiveErrors ++
  [byteOf s.agreement.lateProposals, byteOf s.channel.corrections] ++
  (allRails.map fun ch => s.railByte ch) ++
  [s.inputByte]

/-- Every new flag cleared (R18, R163). -/
def clearNewFlags (s : State) : State :=
  { s with agreement := { s.agreement with history := s.agreement.history.map fun e => { e with isNew := false } } }

/-! ### PEER and HISTORY (R164) -/

/-- The code of the last reset cause, 3 absent (R164). -/
def resetCode : Option ResetCause → Nat
  | some c => c.code
  | none => 3

/-- The code of the last announced state, 7 absent (R164). -/
def stateCode : Option SystemState → Nat
  | some st => st.code
  | none => 7

/-- The code of the last announced phase, 7 absent (R164). -/
def phaseCode : Option Phase → Nat
  | some p => p.code
  | none => 7

/-- The entry a PEER read shows: the own ID's reads as one never heard (R164). -/
def State.shownPeer (s : State) (i : StationId) : Peer := if i = s.me then Peer.blank else s.peerAt i

/-- The 5 bytes of PEER (R164). Byte 3 bits 7 to 5, which the table does not name, read 0 (the model's choice, log 48), and
so does byte 2 while the last transaction number is absent (the model's choice, log 49). -/
def State.peerBytes (s : State) (i : StationId) : List Byte :=
  let p := s.shownPeer i
  [byteOf (p.presence.code + bitAt p.changed 2 + bitAt p.silence.isSome 3 + 16 * p.misses + 64 * resetCode p.lastReset),
   byteOf (stateCode p.lastState + 8 * phaseCode p.lastPhase + bitAt p.lastOpen 6 + bitAt p.lastNumber.isSome 7),
   p.lastNumber.getD 0,
   byteOf (p.summary.val + bitAt (setHas s.system.required i) 2 + bitAt (setHas s.system.quorum i) 3 +
     bitAt (setHas s.presence.barring i) 4),
   byteOf p.rejoins]

/-- The presence-changed flag of an entry cleared (R141, R164). -/
def clearChanged (i : StationId) (s : State) : State := s.withPeer i { s.peerAt i with changed := false }

/-- Bytes 3 and 4 hold the wake source (R164): whether there is one, its station, its input. -/
def sourceFields : Option (StationId × Fin 8) → Nat × Nat × Nat
  | some (station, input) => (1, station.val, input.val)
  | none => (0, 0, 0)

/-- The 10 bytes of a history entry (R164). The bits that the table does not name, byte 0 bits 4 and 3, byte 3 bit 7 and byte
4 bits 7 and 3, read 0 (the model's choice, log 48). -/
def HistoryEntry.bytes (e : HistoryEntry) : List Byte :=
  let w := sourceFields e.wakeSource
  [byteOf (e.kind.code + bitAt e.forced 5 + bitAt e.isNew 6 + 128),
   byteOf (e.outcome.code + 16 * causeCode e.cause),
   e.number,
   byteOf (e.originator.val + 8 * w.1 + 16 * w.2.1),
   byteOf (w.2.2 + 16 * e.deferred),
   e.missing] ++ bytes32 e.duration

/-- The 10 bytes of HISTORY; past the entries held, the valid bit is clear and every other byte 0 (R164), and the rest of
byte 0 reads 0 too (log 48). -/
def State.historyBytes (s : State) (n : Nat) : List Byte :=
  match s.agreement.history[n]? with
  | some e => e.bytes
  | none => List.replicate 10 0

/-! ### TXN (R165) -/

/-- A wake source: station ID, then wake input. -/
def sourceBytes (x : StationId × Fin 8) : List Byte := [byteOf x.1.val, byteOf x.2.val]

/-- A field present only when a flag says so. -/
def whenBytes (present : Bool) (bs : List Byte) : List Byte := if present then 1 :: bs else [0]

/-- The fault list: a count, then code and station of each pair. -/
def faultPairBytes (l : List (FaultCode × StationId)) : List Byte :=
  byteOf l.length :: l.flatMap fun p => [byteOf p.1.code, byteOf p.2.val]

/-- One own stage time, 0xFFFFFFFF for a stage not yet reported. -/
def stageTimeBytes (t : Option Time) : List Byte := bytes32 (t.getD 0xFFFFFFFF)

/-- The fields of a record in the order of R4 (R165). -/
def Record.bytes (r : Record) : List Byte :=
  [r.number, byteOf r.kind.code, flagByte r.forced, flagByte r.imageBacked, byteOf r.originator.val,
   byteOf r.openingCause.cause.code] ++
  optionBytes sourceBytes r.wakeSource ++
  [r.participants, r.consent] ++
  ((List.finRange 8).map fun i => voteByte (tabGet r.votes i)) ++
  [byteOf r.outcome.code] ++
  optionBytes (fun c => [byteOf (Cause.code c)]) r.outcomeCause ++
  optionBytes (fun a => [byteOf (abortCauseOf a).code]) r.abortCause ++
  ((List.finRange 12).map fun k => tabGet r.forward k) ++
  ((List.finRange 12).map fun k => tabGet r.unwind k) ++
  [flagByte r.committed] ++
  optionBytes (fun h => [byteOf h]) r.unwindTop ++
  whenBytes r.forced [r.missing] ++
  whenBytes r.forced (faultPairBytes r.faults) ++
  whenBytes r.forced [byteOf r.faultOverflow] ++
  bytes32 r.openedAt ++
  optionBytes bytes32 r.acceptedAt ++
  optionBytes bytes32 r.committedAt ++
  ((List.finRange 12).flatMap fun k => stageTimeBytes (tabGet r.stageTimes k)) ++
  optionBytes bytes32 r.closedAt

/-- The response of TXN: the condition, then the record (R5, R165). -/
def State.txnBytes (s : State) : List Byte :=
  match s.agreement.record with
  | none => [0]
  | some r => (if s.txnOpen then 1 else 2) :: r.bytes

/-! ### WAKEQ, FAULTS and STACK (R165) -/

/-- One wake queue entry. -/
def WakeEntry.bytes (e : WakeEntry) : List Byte :=
  [byteOf e.input.val] ++ bytes32 e.qualifiedAt ++ [byteOf e.repeats, byteOf e.attempts, byteOf e.state.code]

/-- The announcing mark: the wake input, or 0xFF when absent. -/
def markByte : Option (Fin 8) → Byte
  | some i => byteOf i.val
  | none => 0xFF

/-- The response of WAKEQ (R165). -/
def State.wakeqBytes (s : State) : List Byte :=
  [byteOf s.wake.queue.length, markByte s.wake.mark] ++ s.wake.queue.flatMap WakeEntry.bytes

/-- One latched fault entry. -/
def FaultEntry.bytes (e : FaultEntry) : List Byte :=
  [byteOf e.code.code, byteOf e.target.toNat, byteOf (severityCode e.severity)] ++ bytes32 e.firstTime ++
    bytes32 e.lastTime ++ [byteOf e.count]

/-- One deferred fault entry. -/
def DeferredEntry.bytes (e : DeferredEntry) : List Byte :=
  [byteOf e.rail.val, byteOf (lossCode e.loss).code, byteOf e.stage, byteOf e.count]

/-- The response of FAULTS (R165). -/
def State.faultsBytes (s : State) : List Byte :=
  [byteOf s.faults.latched.length, byteOf s.faults.unrecorded] ++ s.faults.latched.flatMap FaultEntry.bytes ++
    [byteOf s.faults.deferred.length] ++ s.faults.deferred.flatMap DeferredEntry.bytes

/-- One unwind record. -/
def UnwindRecord.bytes (r : UnwindRecord) : List Byte :=
  [r.number, byteOf r.stage] ++ changeBytes r.change ++ [byteOf r.prior.bit]

/-- The response of STACK: the depth, then the records from the top down (R165). -/
def State.stackBytes (s : State) : List Byte :=
  byteOf s.executor.stack.length :: s.executor.stack.flatMap UnwindRecord.bytes

/-! ### Transfers (R162) -/

/-- Write the port. -/
def State.withPort (s : State) (p : Port) : State := { s with port := p }

/-- A write transfer in which the port took these bytes and refused this many further ones: its acknowledge bits, address
byte first. -/
def takenAcks (taken refused : Nat) : List Bool := List.replicate (1 + taken) true ++ List.replicate refused false

/-- A complete command: its snapshot replaces the selected one (R162). -/
def select (bytes : List Byte) (acks : List Bool) (s : State) : State :=
  s.withPort { s.port with selected := some bytes, acks := acks }

/-- A write that selects nothing new (R162). -/
def noteAcks (acks : List Bool) (s : State) : State := s.withPort { s.port with acks := acks }

/-- The port answers this address: the maintenance address of the station section, from load done onward. In LOADING and
CONFIG_FAULT it has no address (R162). -/
def State.answers (s : State) (addr : I2cAddress) : Bool := s.agreement.phase.loaded && s.station.address == addr.toNat

/-- An effect of the port where it answers the address of the transfer; elsewhere the address byte is not acknowledged and
nothing happens (R162). -/
def onPort (addr : I2cAddress) (f : State → State) (s : State) : State :=
  if s.answers addr then f s else noteAcks [false] s

/-- The bytes a read transfer of this length returns (R162). -/
def readBytes (count : Nat) (selected : Option (List Byte)) : List Byte :=
  match selected with
  | some bs => bs.take count ++ List.replicate (count - bs.length) 0xFF
  | none => List.replicate count 0xFF

/-- ACK_FAULTS: the latched list emptied and the unrecorded count zeroed (R100, R166). -/
def emptyLatched (s : State) : State := { s with faults := { s.faults with latched := [], unrecorded := 0 } }

/-- The response of ACK_FAULTS: entries removed, and the unrecorded count before zeroing (R166). -/
def State.ackBytes (s : State) : List Byte := [byteOf s.faults.latched.length, byteOf s.faults.unrecorded]

end Sys2Proof.Machine
end

