-- ==== Sys2Proof/Machine/StartUp.lean ====
section
/-! DEFINITION. Commands: the resets, the end of the image read, and integration (R128, R154, R159, R160). -/

namespace Sys2Proof.Machine

open Sys2Proof

/-- POR (R160). -/
def execPor (s : State) : Result := .next (powerOn s)

/-- PIN_RESET (R160). -/
def execPinReset (s : State) : Result := .next (warmReset .pinReset s)

/-- LOAD_DONE (R154): in LOADING, an image that passes every check is loaded, and one that fails a check leads to
CONFIG_FAULT. -/
def execLoadDone (i : Image) (s : State) : Result :=
  .next (if s.agreement.phase = .loading then
      let s := endRead i.header s
      if imageValid i then loadDone i s else configFault s
    else s)

/-- LOAD_FAILURE (R159). -/
def execLoadFailure (s : State) : Result :=
  .next (if s.agreement.phase = .loading then configFault s else s)

/-- INTEGRATION (R128). -/
def execIntegration (s : State) : Result :=
  .next (if s.agreement.phase.loaded then { s with link := { s.link with integrated := true } } else s)

end Sys2Proof.Machine
end

