-- ==== Sys2Proof/Machine/LinkEvents.lean ====
section
/-! DEFINITION. Commands: the start, loss, rejection and lone discard of a frame (R133 to R139). -/

namespace Sys2Proof.Machine

open Sys2Proof

/-- The idle point: the queued frame of lowest class starts, unless one is being sent (R136). -/
def startNext (s : State) : State :=
  if s.onLink && s.sendingKind.isNone then
    match s.nextKind with
    | some k => startSlot k s
    | none => s
  else s

/-- FRAME_START (R136). -/
def execFrameStart (s : State) : Result := .next (startNext s)

/-- LOST_ARBITRATION (R133). -/
def execLostArbitration (winner : BitVec 6) (s : State) : Result := .next (loseArbitration winner s)

/-- FRAME_REJECTED (R135). -/
def execFrameRejected (rx : Reception) (s : State) : Result := .next (rejectFrame rx s)

/-- The frame on the line is discarded at this station alone: it reaches no block here, and the station counts its finding
(R134, R139). Where the frame is its own, as a CENSUS sent in MUTE(BARRED) can be, its reject slot reads recessive, so the
attempt has ended as at a delivery and the sending place empties with count 0 (R135, R137; the model's choice, log 46). -/
def discardAlone (rx : Reception) (s : State) : State :=
  if s.onLink then
    let s := judgeReception rx s
    match s.sendingKind with
    | some k => clearSending k s
    | none => s
  else s

/-- DISCARDED_AT_THIS_STATION_ALONE (R134, R139). -/
def execDiscardedAtThisStationAlone (rx : Reception) (s : State) : Result := .next (discardAlone rx s)

end Sys2Proof.Machine
end

