-- ==== Sys2Proof/Machine/Deliveries.lean ====
section
/-! DEFINITION. Commands: the delivery of a frame of each kind (R8). -/

namespace Sys2Proof.Machine

open Sys2Proof

/-- PROPOSE_DELIVERED (R11). -/
def execProposeDelivered (sender : StationId) (number : TxnNumber) (kind : Kind) (imageBacked : Bool) (inh : Inhibits)
    (s : State) : Result :=
  .next (handOff ⟨sender, number, .propose kind false imageBacked⟩ (takePropose sender kind imageBacked inh) s)

/-- FORCED_PROPOSE_DELIVERED (R13). -/
def execForcedProposeDelivered (sender : StationId) (number : TxnNumber) (kind : Kind) (imageBacked : Bool) (s : State) :
    Result :=
  .next (handOff ⟨sender, number, .propose kind true imageBacked⟩ (fun _ => takeForcedPropose sender kind) s)

/-- WAKE_DELIVERED (R12). -/
def execWakeDelivered (sender : StationId) (number : TxnNumber) (target : WakeTarget) (input : Fin 8) (s : State) : Result :=
  .next (handOff ⟨sender, number, .wake target input⟩ (takeWake sender target input) s)

/-- VOTE_DELIVERED (R33). -/
def execVoteDelivered (sender : StationId) (number : TxnNumber) (a : Answer) (s : State) : Result :=
  .next (handOff ⟨sender, number, .vote a⟩ (fun _ => takeVote sender number a) s)

/-- STAGE_FORWARD_DELIVERED (R55). -/
def execStageForwardDelivered (sender : StationId) (number : TxnNumber) (stage : Nat) (s : State) : Result :=
  .next (handOff ⟨sender, number, .stage .forward stage⟩ (takeForward sender number stage) s)

/-- STAGE_UNWIND_DELIVERED (R93). -/
def execStageUnwindDelivered (sender : StationId) (number : TxnNumber) (stage : Nat) (s : State) : Result :=
  .next (handOff ⟨sender, number, .stage .unwind stage⟩ (takeUnwind sender number stage) s)

/-- ABORT_DELIVERED (R82). -/
def execAbortDelivered (sender : StationId) (number : TxnNumber) (reason : AbortReason) (s : State) : Result :=
  .next (handOff ⟨sender, number, .abort reason⟩ (fun _ => takeAbort sender number reason) s)

/-- FAULT_DELIVERED (R101). -/
def execFaultDelivered (sender : StationId) (number : TxnNumber) (code : FaultCode) (target : Target) (s : State) : Result :=
  .next (handOff ⟨sender, number, .fault code target⟩ (fun _ => takeFault sender code) s)

/-- BEAT_DELIVERED (R142). -/
def execBeatDelivered (sender : StationId) (number : TxnNumber) (b : BeatBody) (s : State) : Result :=
  .next (deliverBeat sender number b s)

/-- CENSUS_DELIVERED (R146). -/
def execCensusDelivered (sender : StationId) (sig : Signature) (cause : ResetCause) (s : State) : Result :=
  .next (deliverCensus sender sig cause s)

end Sys2Proof.Machine
end

