-- ==== Sys2Proof/Machine/Timers.lean ====
section
/-! DEFINITION. Commands: the ends of the timers of the agreement engine, the stage executor, the request and wake units'
holds, and the presence unit. A timer that is not running does not expire: then nothing changes. -/

namespace Sys2Proof.Machine

open Sys2Proof

/-! ### The vote and the executor's waits -/

/-- The vote window or guard has run out in VOTING: ABORT(NO_QUORUM) is queued (R36). -/
def voteRunsOut (s : State) : State :=
  if s.agreement.phase = .voting then requestAbort s.openNumber .noQuorum s else s

/-- VOTE_WINDOW_EXPIRY (R36). -/
def execVoteWindowExpiry (s : State) : Result :=
  .next (if s.agreement.voteWindow.isSome then voteRunsOut (s.withAgreement { s.agreement with voteWindow := none }) else s)

/-- VOTE_GUARD_EXPIRY (R36). -/
def execVoteGuardExpiry (s : State) : Result :=
  .next (if s.agreement.voteGuard.isSome then voteRunsOut (s.withAgreement { s.agreement with voteGuard := none }) else s)

/-- BARRIER_TIMER_EXPIRY (R48). -/
def execBarrierTimerExpiry (s : State) : Result :=
  .next (if s.barrierIn .stage then
      match s.waitsForStage with
      | some k => expireStage k s
      | none => s
    else s)

/-- COMPLETION_WAIT_EXPIRY (R59). -/
def execCompletionWaitExpiry (s : State) : Result :=
  .next (if s.barrierIn .completion then expireNonForced (barrierStopped s) else s)

/-- CLOSING_WAIT_EXPIRY (R16). -/
def execClosingWaitExpiry (s : State) : Result := .next (if s.barrierIn .closing then forcedClose s else s)

/-- REVERSE_BARRIER_EXPIRY (R95). -/
def execReverseBarrierExpiry (s : State) : Result :=
  .next (if s.barrierIn .reverse then stall (barrierStopped s) else s)

/-! ### Holds -/

/-- DEFER_HOLD_EXPIRY (R28). -/
def execDeferHoldExpiry (s : State) : Result :=
  .next (if s.request.deferHold.isSome then testPropose (s.withRequest { s.request with deferHold := none }) else s)

/-- RE_ENTRY_LOCKOUT_EXPIRY (R29). -/
def execReEntryLockoutExpiry (s : State) : Result :=
  .next (if s.request.lockout.isSome then testPropose (s.withRequest { s.request with lockout := none }) else s)

/-- SETTLED in REST with the REST image flag set (R27). -/
def State.mayDemote (s : State) : Bool :=
  s.agreement.phase == .settled && s.agreement.believed == some .rest && s.agreement.restImage

/-- DEMOTE_TIMER_EXPIRY (R27). -/
def execDemoteTimerExpiry (s : State) : Result :=
  .next (if s.wake.demote.isSome then
      let s := stopDemote s
      if s.mayDemote then proposeDemote s else s
    else s)

/-- MINIMUM_DWELL_EXPIRY (R123). -/
def execMinimumDwellExpiry (s : State) : Result :=
  .next (if s.wake.minDwell.isSome then testAnnounce (s.withWake { s.wake with minDwell := none }) else s)

/-- FAULT_HOLD_EXPIRY (R109). -/
def execFaultHoldExpiry (s : State) : Result :=
  .next (if s.wake.faultHold.isSome then testAnnounce (s.withWake { s.wake with faultHold := none }) else s)

/-! ### Presence -/

/-- SILENCE_TIMER_EXPIRY (R143, R148). Where the last member of the barring set goes SILENT, PEER_LOST is judged in MUTE with
the belief still held, before the station leaves for CENSUS (the model's choice, log 54). -/
def execSilenceTimerExpiry (peer : StationId) (s : State) : Result :=
  .next (if (s.peerAt peer).silence.isSome then checkLeaveMute (silencePeer peer s) else s)

/-- BEAT_TICK (R145). -/
def execBeatTick (s : State) : Result := .next (if s.presence.beatTimer.isSome then beatTickEffect s else s)

/-- CENSUS_WINDOW_EXPIRY (R150): the window restarts while an open flag is heard, else OFF and 0 are adopted. -/
def execCensusWindowExpiry (s : State) : Result :=
  .next (if s.presence.censusWindow.isSome then
      if s.openHeard then s.withPresence { s.presence with censusWindow := some s.system.censusWindow }
      else adopt .off 0 s
    else s)

/-- BARRED_RETRY_EXPIRY (R148): the timer restarts; the CENSUS is filled, or the expiry held while an open flag is
heard. An expiry that fills the CENSUS takes an earlier one still held with it (the model's choice, log 43). -/
def execBarredRetryExpiry (s : State) : Result :=
  .next (if s.presence.barredRetry.isSome then
      let s := s.withPresence { s.presence with barredRetry := some s.system.barredRetry, retryHeld := s.openHeard }
      if s.openHeard then s else fillCensus s
    else s)

end Sys2Proof.Machine
end

