-- ==== Sys2Proof/Machine/RailEvents.lean ====
section
/-! DEFINITION. Commands: the rail channels' counters, power-good edges and dropout timers (R64 to R73). -/

namespace Sys2Proof.Machine

open Sys2Proof

/-! ### Counters -/

/-- SETTLE_WINDOW_EXPIRY (R65). -/
def execSettleWindowExpiry (ch : Fin 6) (s : State) : Result :=
  .next (if (s.rail ch).state = .rising then deliverNotices (failRail ch .failedUp .railTimeout s) else s)

/-- HOLD_UP_END (R66). -/
def execHoldUpEnd (ch : Fin 6) (s : State) : Result :=
  .next (if (s.rail ch).state = .holdingUp then
      deliverNotices (railNotices ch (s.rail ch).issuer .changed (enterOn ch s))
    else s)

/-- DISCHARGE_WINDOW_EXPIRY (R67). -/
def execDischargeWindowExpiry (ch : Fin 6) (s : State) : Result :=
  .next (if (s.rail ch).state = .falling then deliverNotices (failRail ch .failedDown .railStuck s) else s)

/-- HOLD_DOWN_END (R68). -/
def execHoldDownEnd (ch : Fin 6) (s : State) : Result :=
  .next (if (s.rail ch).state = .holdingDown then
      deliverNotices (railNotices ch (s.rail ch).issuer .changed (enterLow ch .off s))
    else s)

/-! ### Power-good edges -/

/-- Write the level of a power-good pin. -/
def setPowerGood (ch : Fin 6) (l : Level) (s : State) : State :=
  { s with pins := { s.pins with powerGood := tabSet s.pins.powerGood ch l } }

/-- A dropout (R72): the count rises, and at the threshold RAIL_UNSTABLE is raised and the count becomes 0. -/
def dropout (ch : Fin 6) (s : State) : State :=
  let n := (s.rail ch).dropouts + 1
  if n < (s.railParams ch).dropoutThreshold then s.withRail ch { s.rail ch with dropouts := n }
  else raiseRailCondition ch false (s.withRail ch { s.rail ch with dropouts := 0 })

/-- Power-good rises in ON (R71): a dropout if the filter was running, the end of a loss if the marker was set. -/
def riseOn (ch : Fin 6) (s : State) : State :=
  if (s.rail ch).filter.isSome then dropout ch (s.withRail ch { s.rail ch with filter := none })
  else s.withRail ch { s.rail ch with loss := false }

/-- Power-good falls in ON (R71): the filter starts where monitoring is active and no loss stands. -/
def fallOn (ch : Fin 6) (s : State) : State :=
  if (s.rail ch).window.isSome && !(s.rail ch).loss then
    s.withRail ch { s.rail ch with filter := some (s.railParams ch).dropoutFilter }
  else s

/-- What a rising edge does, by the rail state (R65, R68, R71). -/
def judgeRise (ch : Fin 6) (s : State) : State :=
  match (s.rail ch).state with
  | .rising => deliverNotices (afterHold ch (s.rail ch).issuer (enterHoldingUp ch s))
  | .holdingDown =>
    deliverNotices (bounceRail ch .falling (s.railParams ch).dischargeWindow .failedDown .railStuck s)
  | .on => riseOn ch s
  | _ => s

/-- What a falling edge does, by the rail state (R66, R67, R69, R71). -/
def judgeFall (ch : Fin 6) (s : State) : State :=
  match (s.rail ch).state with
  | .holdingUp => deliverNotices (bounceRail ch .rising (s.railParams ch).settleWindow .failedUp .railTimeout s)
  | .falling => deliverNotices (afterHold ch (s.rail ch).issuer (enterHoldingDown ch s))
  | .failedDown => s.withRail ch { s.rail ch with state := .off }
  | .on => fallOn ch s
  | _ => s

/-- Power-good rises: an edge, if the pin was low, judged by the rail state (R63). -/
def powerGoodRises (ch : Fin 6) (s : State) : State :=
  if s.powerGood ch = .high then s else judgeRise ch (setPowerGood ch .high s)

/-- Power-good falls: an edge, if the pin was high, judged by the rail state (R63). -/
def powerGoodFalls (ch : Fin 6) (s : State) : State :=
  if s.powerGood ch = .low then s else judgeFall ch (setPowerGood ch .low s)

/-- POWER_GOOD_RISE_RISING (R65). -/
def execPowerGoodRiseRising (ch : Fin 6) (s : State) : Result := .next (powerGoodRises ch s)

/-- POWER_GOOD_FALL_HOLDING_UP (R66). -/
def execPowerGoodFallHoldingUp (ch : Fin 6) (s : State) : Result := .next (powerGoodFalls ch s)

/-- POWER_GOOD_FALL_FALLING (R67). -/
def execPowerGoodFallFalling (ch : Fin 6) (s : State) : Result := .next (powerGoodFalls ch s)

/-- POWER_GOOD_RISE_HOLDING_DOWN (R68). -/
def execPowerGoodRiseHoldingDown (ch : Fin 6) (s : State) : Result := .next (powerGoodRises ch s)

/-- POWER_GOOD_FALL_FAILED_DOWN (R69). -/
def execPowerGoodFallFailedDown (ch : Fin 6) (s : State) : Result := .next (powerGoodFalls ch s)

/-- POWER_GOOD_FALL_ON (R71). -/
def execPowerGoodFallOn (ch : Fin 6) (s : State) : Result := .next (powerGoodFalls ch s)

/-- POWER_GOOD_RISE_ON (R71). -/
def execPowerGoodRiseOn (ch : Fin 6) (s : State) : Result := .next (powerGoodRises ch s)

/-! ### Dropout timers -/

/-- DROPOUT_FILTER_EXPIRY (R71). -/
def execDropoutFilterExpiry (ch : Fin 6) (s : State) : Result :=
  .next (if (s.rail ch).filter.isSome then
      raiseRailCondition ch true (s.withRail ch { s.rail ch with filter := none, loss := true })
    else s)

/-- DROPOUT_WINDOW_EXPIRY (R72). -/
def execDropoutWindowExpiry (ch : Fin 6) (s : State) : Result :=
  .next (if (s.rail ch).window.isSome then
      s.withRail ch { s.rail ch with dropouts := 0, window := some (s.railParams ch).dropoutWindow }
    else s)

end Sys2Proof.Machine
end

