-- ==== Sys2Proof/Machine/SignalEvents.lean ====
section
/-! DEFINITION. Commands: the ends of pulses, AWAITs and WAITs, and changes of the sense inputs (R75 to R77). -/

namespace Sys2Proof.Machine

open Sys2Proof

/-- The executor's action in progress is a PULSE of this signal. -/
def runsPulse (i : Fin 4) : Option Running → Bool
  | some (.forward _ (.pulse j _)) => i == j
  | _ => false

/-- The executor's action in progress is an AWAIT of this sense, and of this level where one is given. -/
def runsAwait (i : Fin 2) (l : Option Level) : Option Running → Bool
  | some (.forward _ (.await j m _)) => i == j && (l.isNone || l == some m)
  | _ => false

/-- The executor's action in progress is a WAIT. -/
def runsWait : Option Running → Bool
  | some (.forward _ (.wait _)) => true
  | _ => false

/-- PULSE_END (R75). -/
def execPulseEnd (i : Fin 4) (s : State) : Result :=
  .next (if (s.signalAt i).pulse.isSome then
      let s := endPulse i s
      if runsPulse i s.executor.running then execComplete .changed s else s
    else s)

/-- Write the level of a sense pin. -/
def setSense (i : Fin 2) (l : Level) (s : State) : State :=
  { s with pins := { s.pins with sense := tabSet s.pins.sense i l } }

/-- SENSE_CHANGE (R76): an AWAIT of this level completes. -/
def execSenseChange (i : Fin 2) (l : Level) (s : State) : Result :=
  .next (let s := setSense i l s
    if runsAwait i (some l) s.executor.running then execComplete .changed (s.withAwait i none) else s)

/-- AWAIT_TIMEOUT (R76, R78): SENSE_TIMEOUT is raised, and the AWAIT fails. -/
def execAwaitTimeout (i : Fin 2) (s : State) : Result :=
  .next (if (tabGet s.channel.awaits i).isSome then
      let s := raiseFault .senseTimeout (senseTarget i) .severe (s.withAwait i none)
      if runsAwait i none s.executor.running then execComplete .failed s else s
    else s)

/-- WAIT_END (R77). -/
def execWaitEnd (s : State) : Result :=
  .next (if s.channel.waitCounter.isSome then
      let s := s.withWait none
      if runsWait s.executor.running then execComplete .changed s else s
    else s)

end Sys2Proof.Machine
end

