-- ==== Sys2Proof/Machine/RequestEvents.lean ====
section
/-! DEFINITION. Commands: an edge of SLPREQ and the end of a REQACK pulse (R20, R24). -/

namespace Sys2Proof.Machine

open Sys2Proof

/-- Latch a request and test R21 (R20, R21). -/
def takeRequest (r : Request) (s : State) : State := testPropose (latchRequest r s)

/-- An SLPREQ edge, by its request type (R20). -/
def requestEdge (type1 type0 imgrdy : Level) (s : State) : State :=
  match type1, type0 with
  | .low, .low => s
  | .low, .high => takeRequest ⟨.enterRest, imgrdy.isHigh, .lines⟩ s
  | .high, .low => if imgrdy.isHigh then takeRequest ⟨.enterStow, false, .lines⟩ s else answer .low s
  | .high, .high => takeRequest ⟨.enterOff, false, .lines⟩ s

/-- SLPREQ_EDGE (R20): ignored in LOADING and CONFIG_FAULT. -/
def execSlpreqEdge (type1 type0 imgrdy : Level) (s : State) : Result :=
  .next (if s.agreement.phase.loaded then requestEdge type1 type0 imgrdy s else s)

/-- REQACK_PULSE_END (R24). -/
def execReqackPulseEnd (s : State) : Result :=
  .next (s.withRequest { s.request with pulses := s.request.pulses - 1 })

end Sys2Proof.Machine
end

