-- ==== Sys2Proof/Machine/WakeEvents.lean ====
section
/-! DEFINITION. Commands: changes of the wake inputs and the ends of their counters and windows (R25, R26, R114 to R117). -/

namespace Sys2Proof.Machine

open Sys2Proof

/-- Write the level of a wake input pin. -/
def setWakePin (i : Fin 8) (l : Level) (s : State) : State :=
  { s with pins := { s.pins with wake := tabSet s.pins.wake i l } }

/-! ### LEVEL and COUNT -/

/-- A LEVEL input after its pin may have changed (R114). -/
def levelAfter (d : WakeInputDef) (active qualifies : Bool) (w : WakeInput) : WakeInput :=
  if !active then { w with level := .idle, hold := none }
  else if qualifies then startedInput d active w
  else w

/-- LEVEL_INPUT_CHANGE (R114). -/
def execLevelInputChange (i : Fin 8) (l : Level) (s : State) : Result :=
  .next (let s := setWakePin i l s
    if (s.wakeDef i).kind = .level then
      s.withWakeInput i (levelAfter (s.wakeDef i) (s.wakeActive i) s.qualifies (s.wakeInput i))
    else s)

/-- LEVEL_HOLD_END (R114). -/
def execLevelHoldEnd (i : Fin 8) (s : State) : Result :=
  .next (if (s.wakeInput i).hold.isSome then
      qualify i (s.withWakeInput i { s.wakeInput i with level := .spent, hold := none })
    else s)

/-- An active edge counted (R115): at 65535 the count stays, and the first such edge of a window raises WAKE_OVERFLOW. -/
def countActiveEdge (i : Fin 8) (s : State) : State :=
  let w := s.wakeInput i
  if w.edges < 65535 then s.withWakeInput i { w with edges := w.edges + 1 }
  else if w.overflow then s
  else (raiseFault .wakeOverflow (eightTarget i) .notice s).withWakeInput i { w with overflow := true }

/-- COUNT_EDGE (R115): counted while qualification runs. -/
def execCountEdge (i : Fin 8) (s : State) : Result :=
  .next (if (s.wakeDef i).kind = .count && s.qualifies then countActiveEdge i s else s)

/-- OWN_WINDOW_EXPIRY (R115, R116). -/
def execOwnWindowExpiry (i : Fin 8) (s : State) : Result :=
  .next (if (s.wakeInput i).ownWindow.isSome then
      judgeWindow (s.withWakeInput i { s.wakeInput i with ownWindow := some (s.wakeDef i).ownLength }) i
    else s)

/-- COMMON_WINDOW_EXPIRY (R115, R116). Inputs that qualify at the same expiry are taken in ascending order, where R119
lets either be taken first (the model's choice, log 42). -/
def execCommonWindowExpiry (s : State) : Result :=
  .next (if s.wake.commonWindow.isSome then
      let s := restartCommon s
      (allWakes.filter fun i => s.isCommonInput i).foldl judgeWindow s
    else s)

/-! ### BUTTON -/

/-- The button input is read: from the settle signal that ends census to the next reset or entry to CENSUS (R117). The
common window runs over just that time (R116). -/
def State.readsButton (s : State) : Bool :=
  s.agreement.phase.loaded && s.agreement.phase != .census && s.wake.commonWindow.isSome

/-- A change of the raw button input starts the debounce counter; a change back stops it (R117). -/
def debounceAfter (d : WakeInputDef) (active pressed : Bool) : Timer := if active == pressed then none else some d.debounce

/-- BUTTON_INPUT_CHANGE (R117). -/
def execButtonInputChange (i : Fin 8) (l : Level) (s : State) : Result :=
  .next (let s := setWakePin i l s
    if (s.wakeDef i).kind = .button && s.readsButton then
      s.withWake { s.wake with debounce := debounceAfter (s.wakeDef i) (s.wakeActive i) s.wake.pressed }
    else s)

/-- A debounced press (R117): it qualifies in REST, STOW and OFF, and the long-press counter starts. -/
def buttonPressed (i : Fin 8) (s : State) : State :=
  let s := s.withWake { s.wake with pressed := true }
  let s := if asleep s.agreement.believed then qualify i s else s
  s.withWake { s.wake with longPress := some (s.wakeDef i).longPress }

/-- A short press in SETTLED RUN (R25). -/
def shortPress (s : State) : State :=
  if s.agreement.phase == .settled && s.agreement.believed == some .run then
    match s.station.shortPress with
    | .nothing => s
    | .enterRest => takeRequest ⟨.enterRest, false, .button⟩ s
    | .enterOff => takeRequest ⟨.enterOff, false, .button⟩ s
  else s

/-- A debounced release (R117): before the long-press time it is a short press. -/
def buttonReleased (s : State) : State :=
  let short := s.wake.longPress.isSome
  let s := s.withWake { s.wake with pressed := false, longPress := none }
  if short then shortPress s else s

/-- DEBOUNCE_END (R117). -/
def execDebounceEnd (s : State) : Result :=
  .next (if s.wake.debounce.isSome then
      let s := s.withWake { s.wake with debounce := none }
      match s.buttonInput with
      | some i => if s.wakeActive i then buttonPressed i s else buttonReleased s
      | none => s
    else s)

/-- The phases and states in which a long press is reported (R26). -/
def State.longPressReported (s : State) : Bool :=
  (s.agreement.phase == .settled && s.agreement.believed == some .run) || s.votingOrStaging

/-- LONG_PRESS_END (R26). -/
def execLongPressEnd (s : State) : Result :=
  .next (if s.wake.longPress.isSome then
      let s := s.withWake { s.wake with longPress := none }
      if s.wake.pressed && s.longPressReported then fillForcedPropose s else s
    else s)

end Sys2Proof.Machine
end

