-- ==== Sys2Proof/Machine/PortCommands.lean ====
section
/-! DEFINITION. Commands: the transfers of the maintenance port (R162 to R166). -/

namespace Sys2Proof.Machine

open Sys2Proof

/-- STATUS (R163): the snapshot is taken, then every new flag is cleared. -/
def execStatus (w : PortWrite) (s : State) : Result :=
  .next (onPort w.addr (fun s => clearNewFlags (select s.statusBytes (takenAcks 1 w.extra) s)) s)

/-- A PEER argument in range: the snapshot, then the presence-changed flag cleared (R164). -/
def readPeer (i : StationId) (acks : List Bool) (s : State) : State := clearChanged i (select (s.peerBytes i) acks s)

/-- PEER (R162, R164): without its argument, or with one out of range, the command is discarded. -/
def execPeer (argument : Option Byte) (w : PortWrite) (s : State) : Result :=
  .next (onPort w.addr (fun s =>
    match argument with
    | none => noteAcks (takenAcks 1 0) s
    | some a =>
      if h : a.toNat < 8 then readPeer ⟨a.toNat, h⟩ (takenAcks 2 w.extra) s
      else noteAcks (takenAcks 1 (1 + w.extra)) s) s)

/-- TXN (R165). -/
def execTxn (w : PortWrite) (s : State) : Result :=
  .next (onPort w.addr (fun s => select s.txnBytes (takenAcks 1 w.extra) s) s)

/-- HISTORY (R162, R164): without its argument, or with one out of range, the command is discarded. -/
def execHistory (argument : Option Byte) (w : PortWrite) (s : State) : Result :=
  .next (onPort w.addr (fun s =>
    match argument with
    | none => noteAcks (takenAcks 1 0) s
    | some a =>
      if a.toNat < 4 then select (s.historyBytes a.toNat) (takenAcks 2 w.extra) s
      else noteAcks (takenAcks 1 (1 + w.extra)) s) s)

/-- WAKEQ (R165). -/
def execWakeq (w : PortWrite) (s : State) : Result :=
  .next (onPort w.addr (fun s => select s.wakeqBytes (takenAcks 1 w.extra) s) s)

/-- FAULTS (R165). -/
def execFaults (w : PortWrite) (s : State) : Result :=
  .next (onPort w.addr (fun s => select s.faultsBytes (takenAcks 1 w.extra) s) s)

/-- STACK (R165). -/
def execStack (w : PortWrite) (s : State) : Result :=
  .next (onPort w.addr (fun s => select s.stackBytes (takenAcks 1 w.extra) s) s)

/-- ACK_FAULTS (R100, R166). -/
def execAckFaults (w : PortWrite) (s : State) : Result :=
  .next (onPort w.addr (fun s => emptyLatched (select s.ackBytes (takenAcks 1 w.extra) s)) s)

/-- RESTART (R160, R166). -/
def execRestart (w : PortWrite) (s : State) : Result :=
  .next (onPort w.addr (fun s => noteAcks (takenAcks 1 w.extra) (warmReset .restart s)) s)

/-- UNKNOWN_COMMAND (R162): neither the code nor any further byte is acknowledged; the transfer selects nothing. -/
def execUnknownCommand (w : CodeWrite) (s : State) : Result :=
  .next (onPort w.addr (noteAcks (takenAcks 0 (1 + w.extra))) s)

/-- The bytes of a read come out and the snapshot is consumed (R162). -/
def readSnapshot (count : Nat) (s : State) : State :=
  s.withPort { selected := none, acks := takenAcks 0 0, output := readBytes count s.port.selected }

/-- SNAPSHOT_READ (R162). -/
def execSnapshotRead (r : PortRead) (s : State) : Result := .next (onPort r.addr (readSnapshot r.count) s)

end Sys2Proof.Machine
end

