-- ==== Sys2Proof/Machine/Dispatch.lean ====
section
/-! DEFINITION. The dispatch: one arm for each command, each one direct call of its meaning. -/

namespace Sys2Proof.Machine

open Sys2Proof

def exec (i : Instr) (s : State) : Host.Outcome State Fault Refusal :=
  match i with
  | .por => Sys2Proof.Machine.execPor s
  | .pinReset => Sys2Proof.Machine.execPinReset s
  | .loadDone image => Sys2Proof.Machine.execLoadDone image s
  | .loadFailure => Sys2Proof.Machine.execLoadFailure s
  | .integration => Sys2Proof.Machine.execIntegration s
  | .frameStart => Sys2Proof.Machine.execFrameStart s
  | .lostArbitration winner => Sys2Proof.Machine.execLostArbitration winner s
  | .frameRejected rx => Sys2Proof.Machine.execFrameRejected rx s
  | .proposeDelivered sender number kind imageBacked inh => Sys2Proof.Machine.execProposeDelivered sender number kind imageBacked inh s
  | .forcedProposeDelivered sender number kind imageBacked => Sys2Proof.Machine.execForcedProposeDelivered sender number kind imageBacked s
  | .wakeDelivered sender number target input => Sys2Proof.Machine.execWakeDelivered sender number target input s
  | .voteDelivered sender number answer => Sys2Proof.Machine.execVoteDelivered sender number answer s
  | .stageForwardDelivered sender number stage => Sys2Proof.Machine.execStageForwardDelivered sender number stage s
  | .stageUnwindDelivered sender number stage => Sys2Proof.Machine.execStageUnwindDelivered sender number stage s
  | .abortDelivered sender number reason => Sys2Proof.Machine.execAbortDelivered sender number reason s
  | .faultDelivered sender number code target => Sys2Proof.Machine.execFaultDelivered sender number code target s
  | .beatDelivered sender number body => Sys2Proof.Machine.execBeatDelivered sender number body s
  | .censusDelivered sender signature cause => Sys2Proof.Machine.execCensusDelivered sender signature cause s
  | .voteWindowExpiry => Sys2Proof.Machine.execVoteWindowExpiry s
  | .voteGuardExpiry => Sys2Proof.Machine.execVoteGuardExpiry s
  | .barrierTimerExpiry => Sys2Proof.Machine.execBarrierTimerExpiry s
  | .completionWaitExpiry => Sys2Proof.Machine.execCompletionWaitExpiry s
  | .closingWaitExpiry => Sys2Proof.Machine.execClosingWaitExpiry s
  | .reverseBarrierExpiry => Sys2Proof.Machine.execReverseBarrierExpiry s
  | .deferHoldExpiry => Sys2Proof.Machine.execDeferHoldExpiry s
  | .reEntryLockoutExpiry => Sys2Proof.Machine.execReEntryLockoutExpiry s
  | .demoteTimerExpiry => Sys2Proof.Machine.execDemoteTimerExpiry s
  | .minimumDwellExpiry => Sys2Proof.Machine.execMinimumDwellExpiry s
  | .faultHoldExpiry => Sys2Proof.Machine.execFaultHoldExpiry s
  | .silenceTimerExpiry peer => Sys2Proof.Machine.execSilenceTimerExpiry peer s
  | .beatTick => Sys2Proof.Machine.execBeatTick s
  | .censusWindowExpiry => Sys2Proof.Machine.execCensusWindowExpiry s
  | .barredRetryExpiry => Sys2Proof.Machine.execBarredRetryExpiry s
  | .settleWindowExpiry rail => Sys2Proof.Machine.execSettleWindowExpiry rail s
  | .holdUpEnd rail => Sys2Proof.Machine.execHoldUpEnd rail s
  | .dischargeWindowExpiry rail => Sys2Proof.Machine.execDischargeWindowExpiry rail s
  | .holdDownEnd rail => Sys2Proof.Machine.execHoldDownEnd rail s
  | .powerGoodRiseRising rail => Sys2Proof.Machine.execPowerGoodRiseRising rail s
  | .powerGoodFallHoldingUp rail => Sys2Proof.Machine.execPowerGoodFallHoldingUp rail s
  | .powerGoodFallFalling rail => Sys2Proof.Machine.execPowerGoodFallFalling rail s
  | .powerGoodRiseHoldingDown rail => Sys2Proof.Machine.execPowerGoodRiseHoldingDown rail s
  | .powerGoodFallFailedDown rail => Sys2Proof.Machine.execPowerGoodFallFailedDown rail s
  | .powerGoodFallOn rail => Sys2Proof.Machine.execPowerGoodFallOn rail s
  | .powerGoodRiseOn rail => Sys2Proof.Machine.execPowerGoodRiseOn rail s
  | .dropoutFilterExpiry rail => Sys2Proof.Machine.execDropoutFilterExpiry rail s
  | .dropoutWindowExpiry rail => Sys2Proof.Machine.execDropoutWindowExpiry rail s
  | .pulseEnd signal => Sys2Proof.Machine.execPulseEnd signal s
  | .senseChange sense level => Sys2Proof.Machine.execSenseChange sense level s
  | .awaitTimeout sense => Sys2Proof.Machine.execAwaitTimeout sense s
  | .waitEnd => Sys2Proof.Machine.execWaitEnd s
  | .slpreqEdge type1 type0 imgrdy => Sys2Proof.Machine.execSlpreqEdge type1 type0 imgrdy s
  | .reqackPulseEnd => Sys2Proof.Machine.execReqackPulseEnd s
  | .levelInputChange input level => Sys2Proof.Machine.execLevelInputChange input level s
  | .levelHoldEnd input => Sys2Proof.Machine.execLevelHoldEnd input s
  | .countEdge input => Sys2Proof.Machine.execCountEdge input s
  | .ownWindowExpiry input => Sys2Proof.Machine.execOwnWindowExpiry input s
  | .commonWindowExpiry => Sys2Proof.Machine.execCommonWindowExpiry s
  | .buttonInputChange input level => Sys2Proof.Machine.execButtonInputChange input level s
  | .debounceEnd => Sys2Proof.Machine.execDebounceEnd s
  | .longPressEnd => Sys2Proof.Machine.execLongPressEnd s
  | .status w => Sys2Proof.Machine.execStatus w s
  | .peer argument w => Sys2Proof.Machine.execPeer argument w s
  | .txn w => Sys2Proof.Machine.execTxn w s
  | .history argument w => Sys2Proof.Machine.execHistory argument w s
  | .wakeq w => Sys2Proof.Machine.execWakeq w s
  | .faults w => Sys2Proof.Machine.execFaults w s
  | .stack w => Sys2Proof.Machine.execStack w s
  | .ackFaults w => Sys2Proof.Machine.execAckFaults w s
  | .restart w => Sys2Proof.Machine.execRestart w s
  | .unknownCommand w => Sys2Proof.Machine.execUnknownCommand w s
  | .snapshotRead r => Sys2Proof.Machine.execSnapshotRead r s
  | .discardedAtThisStationAlone rx => Sys2Proof.Machine.execDiscardedAtThisStationAlone rx s

end Sys2Proof.Machine
end

