-- ==== Sys2Proof/Machine/Step.lean ====
section
/-! DEFINITION. One step: the command at the front of the queue, or, with none waiting, one millisecond of the local time
base. -/

namespace Sys2Proof.Machine

open Sys2Proof

/-- With no command waiting the time base counts one millisecond (manual, 6.3). -/
def tick (s : State) : State := { s with time := s.time + 1 }

/-- One step (R160 for the time base's reset; the queue is the model's own). -/
def step (s : State) : Host.Outcome State Fault Refusal :=
  match s.pending with
  | [] => .next (tick s)
  | c :: rest => exec c { s with pending := rest }

/-- The state with the command that a word spells put at the front of its queue; unchanged where it spells none. -/
def State.withFetchWord (s : State) (nbits w : Nat) : State :=
  match decodeTableWord nbits w with
  | some c => { s with pending := c :: s.pending }
  | none => s

/-- A write transfer on the maintenance port joins the queue as the command that its bytes are (R162). -/
def State.withPortWrite (s : State) (addr : I2cAddress) (bytes : List Byte) : State :=
  { s with pending := s.pending ++ (writtenCommand addr bytes).toList }

end Sys2Proof.Machine
end

