-- ==== Sys2Proof/WellFormed.lean ====
section
/-! DEFINITION. The well-formed commands: the operands that the events of the manual can carry (R20, R131, R145, R155,
R162). -/

namespace Sys2Proof

open Machine

/-- A stage a STAGE frame can carry past the form check (R131). -/
def stageOk (stage : Nat) : Bool := decide (1 ≤ stage) && decide (stage ≤ 12)

/-- A fault code a FAULT frame can carry: 1 to 8 (R97, R131). -/
def codeOk (code : FaultCode) : Bool := decide (code.code ≤ 8)

/-- A phase that has a code on the link (R7). -/
def phaseOk (p : Phase) : Bool := p.loaded

/-- A command code the port knows (R163 to R166). -/
def knownCode (code : Byte) : Bool := (codeCommand 0 code []).isSome

/-- A further byte can follow only an argument (R162). -/
def argumentOk (argument : Option Byte) (extra : Nat) : Bool := argument.isSome || extra == 0

/-- A reception holds at least the arbitration, transaction and shortest body fields with the check (R129). -/
def receptionOk (rx : Reception) : Bool := decide (30 ≤ rx.bits.length)

/-- The bytes of an image have the lengths that its header declares, as the loader read them (R154, R155). -/
def imageOk (i : Image) : Bool :=
  i.header.length == 13 && word16 i.header 5 == i.systemBytes.length && word16 i.header 7 == i.stationBytes.length &&
    word16 i.header 9 == i.planBytes.length

/-- A BEAT carries a phase that has a code, and state 0 with the phase CENSUS (R7, R130). -/
def beatOk (b : BeatBody) : Bool := phaseOk b.phase && (b.phase != .census || b.state == .run)

/-- The well-formed commands. -/
def Instr.wellFormed : Instr → Bool
  | .loadDone i => imageOk i
  | .frameRejected rx => receptionOk rx
  | .discardedAtThisStationAlone rx => receptionOk rx
  | .stageForwardDelivered _ _ stage => stageOk stage
  | .stageUnwindDelivered _ _ stage => stageOk stage
  | .faultDelivered _ _ code target => codeOk code && targetSuits code target
  | .beatDelivered _ _ b => beatOk b
  | .peer argument w => argumentOk argument w.extra
  | .history argument w => argumentOk argument w.extra
  | .unknownCommand w => !knownCode w.code
  | .snapshotRead r => decide (1 ≤ r.count)
  | _ => true

/-- The well-formed frames: what passes the form check (R131). -/
def Frame.wellFormed (f : Frame) : Bool :=
  match f.body with
  | .fault code target => codeOk code && targetSuits code target
  | .stage _ stage => stageOk stage
  | .beat b => phaseOk b.phase
  | _ => true

end Sys2Proof
end

