-- ==== Sys2Proof/Safety.lean ====
section
/-! DEFINITION. What a run is, and the conditions on one state that claims about every step are stated in terms of. -/

namespace Sys2Proof

/-! ### Groups of commands -/

/-- The commands that reset the station (R160). -/
def Instr.isReset : Instr → Bool
  | .por => true
  | .pinReset => true
  | .restart _ => true
  | _ => false

/-- The commands that end the image read (R154). -/
def Instr.endsLoad : Instr → Bool
  | .loadDone _ => true
  | .loadFailure => true
  | _ => false

/-- The commands that are an edge of a power-good, sense or wake input pin. -/
def Instr.movesPin : Instr → Bool
  | .powerGoodRiseRising _ => true
  | .powerGoodFallHoldingUp _ => true
  | .powerGoodFallFalling _ => true
  | .powerGoodRiseHoldingDown _ => true
  | .powerGoodFallFailedDown _ => true
  | .powerGoodFallOn _ => true
  | .powerGoodRiseOn _ => true
  | .senseChange _ _ => true
  | .levelInputChange _ _ => true
  | .buttonInputChange _ _ => true
  | _ => false

/-- The address of a command that is a transfer of the maintenance port (R162). -/
def Instr.transferTo : Instr → Option I2cAddress
  | .status w => some w.addr
  | .peer _ w => some w.addr
  | .txn w => some w.addr
  | .history _ w => some w.addr
  | .wakeq w => some w.addr
  | .faults w => some w.addr
  | .stack w => some w.addr
  | .ackFaults w => some w.addr
  | .restart w => some w.addr
  | .unknownCommand w => some w.addr
  | .snapshotRead r => some r.addr
  | _ => none

/-- The commands that are a transfer of the maintenance port (R162). -/
def Instr.isTransfer (c : Instr) : Bool := c.transferTo.isSome

/-- The sender of the frame that a delivery command delivers. -/
def Instr.deliveredFrom : Instr → Option StationId
  | .proposeDelivered i _ _ _ _ => some i
  | .forcedProposeDelivered i _ _ _ => some i
  | .wakeDelivered i _ _ _ => some i
  | .voteDelivered i _ _ => some i
  | .stageForwardDelivered i _ _ => some i
  | .stageUnwindDelivered i _ _ => some i
  | .abortDelivered i _ _ => some i
  | .faultDelivered i _ _ _ => some i
  | .beatDelivered i _ _ => some i
  | .censusDelivered i _ _ => some i
  | _ => none

/-- A CENSUS is delivered: the one frame taken from an EXCLUDED peer (R142). -/
def Instr.isCensus : Instr → Bool
  | .censusDelivered _ _ _ => true
  | _ => false

/-- Groups of commands by what they can touch. -/
inductive CommandGroup where
  | reset
  | load
  | link
  | rejection
  | delivery
  | voteTimer
  | barrier
  | closing
  | beat
  | census
  | silence
  | request
  | wake
  | rail
  | dropout
  | signal
  | transfer
deriving DecidableEq, Repr

/-- The group of a command. -/
def Instr.group : Instr → CommandGroup
  | .por => .reset
  | .pinReset => .reset
  | .restart _ => .reset
  | .loadDone _ => .load
  | .loadFailure => .load
  | .integration => .link
  | .frameStart => .link
  | .lostArbitration _ => .link
  | .discardedAtThisStationAlone _ => .link
  | .frameRejected _ => .rejection
  | .proposeDelivered _ _ _ _ _ => .delivery
  | .forcedProposeDelivered _ _ _ _ => .delivery
  | .wakeDelivered _ _ _ _ => .delivery
  | .voteDelivered _ _ _ => .delivery
  | .stageForwardDelivered _ _ _ => .delivery
  | .stageUnwindDelivered _ _ _ => .delivery
  | .abortDelivered _ _ _ => .delivery
  | .faultDelivered _ _ _ _ => .delivery
  | .beatDelivered _ _ _ => .delivery
  | .censusDelivered _ _ _ => .delivery
  | .voteWindowExpiry => .voteTimer
  | .voteGuardExpiry => .voteTimer
  | .barrierTimerExpiry => .barrier
  | .completionWaitExpiry => .barrier
  | .reverseBarrierExpiry => .barrier
  | .closingWaitExpiry => .closing
  | .deferHoldExpiry => .request
  | .reEntryLockoutExpiry => .request
  | .slpreqEdge _ _ _ => .request
  | .reqackPulseEnd => .request
  | .demoteTimerExpiry => .wake
  | .minimumDwellExpiry => .wake
  | .faultHoldExpiry => .wake
  | .levelInputChange _ _ => .wake
  | .levelHoldEnd _ => .wake
  | .countEdge _ => .wake
  | .ownWindowExpiry _ => .wake
  | .commonWindowExpiry => .wake
  | .buttonInputChange _ _ => .wake
  | .debounceEnd => .wake
  | .longPressEnd => .wake
  | .silenceTimerExpiry _ => .silence
  | .beatTick => .beat
  | .barredRetryExpiry => .beat
  | .censusWindowExpiry => .census
  | .settleWindowExpiry _ => .rail
  | .holdUpEnd _ => .rail
  | .dischargeWindowExpiry _ => .rail
  | .holdDownEnd _ => .rail
  | .powerGoodRiseRising _ => .rail
  | .powerGoodFallHoldingUp _ => .rail
  | .powerGoodFallFalling _ => .rail
  | .powerGoodRiseHoldingDown _ => .rail
  | .powerGoodFallFailedDown _ => .rail
  | .powerGoodFallOn _ => .rail
  | .powerGoodRiseOn _ => .rail
  | .dropoutFilterExpiry _ => .dropout
  | .dropoutWindowExpiry _ => .dropout
  | .pulseEnd _ => .signal
  | .senseChange _ _ => .signal
  | .awaitTimeout _ => .signal
  | .waitEnd => .signal
  | .status _ => .transfer
  | .peer _ _ => .transfer
  | .txn _ => .transfer
  | .history _ _ => .transfer
  | .wakeq _ => .transfer
  | .faults _ => .transfer
  | .stack _ => .transfer
  | .ackFaults _ => .transfer
  | .unknownCommand _ => .transfer
  | .snapshotRead _ => .transfer

namespace Machine

/-! ### Runs -/

/-- The states that steps lead to. -/
inductive Reaches : State → State → Prop where
  | here (s : State) : Reaches s s
  | step {s t u : State} (h : Reaches s t) (e : Machine.step t = .next u) : Reaches s u

/-- A state from which no run stops. -/
def Safe (s : State) : Prop := ∀ t, Reaches s t → ∃ u, Machine.step t = .next u

/-- A condition that every step keeps. -/
def Kept (inv : State → Prop) : Prop := ∀ s t, inv s → Machine.step s = .next t → inv t

/-! ### Conditions on one state -/

/-- The station hears this sender: it takes part on the link, and the sender is another station, not EXCLUDED (R142). -/
def State.hears (s : State) (i : StationId) : Prop :=
  s.onLink = true ∧ i ≠ s.me ∧ (s.peerAt i).presence ≠ .excluded

/-- The station takes a frame of this sender: it takes part on the link, and the sender is itself or a peer that is not
EXCLUDED (R134, R142). -/
def State.takes (s : State) (i : StationId) : Prop := s.onLink = true ∧ (i = s.me ∨ (s.peerAt i).presence ≠ .excluded)

/-- A station is awaited in a vote that this station would open for this originator (R6, R34). -/
def State.awaitsSome (s : State) (originator : StationId) : Prop :=
  ∃ j, j ≠ originator ∧ setHas s.system.required j = true ∧ (j = s.me ∨ s.isPresent j = true)

/-- The BEAT slot holds a BEAT filled under this current number, 0 while it is absent (R129, R145). -/
def State.beatFilled (s : State) (number : Option TxnNumber) : Prop :=
  (s.slot .beat).queued = some (.beatDue (number.getD 0))

/-- The composed frame of this station with this number and body, made for no replaced request. -/
def State.ownReady (s : State) (n : TxnNumber) (body : Body) : Ready := { frame := s.ownFrame n body, forReplaced := false }

/-- The slot of a kind holds this frame of the station, queued. -/
def State.hasQueued (s : State) (k : FrameKind) (n : TxnNumber) (body : Body) : Prop :=
  (s.slot k).queued = some (.ready (s.ownReady n body))

/-- The station is sending this frame of its own: a delivery of the frame is then the delivery of an own frame (R134). -/
def State.sends (s : State) (f : Frame) : Prop := f.sender = s.me ∧ ∃ r, (s.slot f.body.kind).sending = some r ∧ r.frame = f

/-- The frame of a command that fills or empties a transmit slot: the slots, and what the owner of a purged frame does,
the announcing mark and the latch (R22, R124). -/
def State.withSlotsOf (s t : State) : State :=
  { s with link := { s.link with slots := t.link.slots }, wake := { s.wake with mark := t.wake.mark },
           request := { s.request with latch := t.request.latch } }

/-- The same, and what a condition latched without deferral touches (R99). -/
def State.withFaultsOf (s t : State) : State :=
  { s.withSlotsOf t with
    faults := { s.faults with latched := t.faults.latched, unrecorded := t.faults.unrecorded } }

/-- The frame of a delivery that no transaction hears of: the slots and what their owners do, the sender's entry of the peer
table, and the debt that an own frame pays (R142, R145). -/
def State.withDeliveryOf (s t : State) : State :=
  { s.withSlotsOf t with presence := { s.presence with peers := t.presence.peers, debt := t.presence.debt } }

/-- The latched fault list holds this pair, SEVERE where it is to be (R99). -/
def State.holdsFault (s : State) (code : FaultCode) (target : Target) (sev : Severity) : Prop :=
  ∃ e ∈ s.faults.latched, e.code = code ∧ e.target = target ∧ (sev = .severe → e.severity = .severe)

/-- From one state to another this one condition was latched, by R99: a further occurrence of its pair, a new entry at the
end, or, with the list full, one more unrecorded condition. -/
def Latched (s t : State) (code : FaultCode) (target : Target) (sev : Severity) : Prop :=
  ((∃ e ∈ s.faults.latched, e.code = code ∧ e.target = target) →
    t.faults.unrecorded = s.faults.unrecorded ∧
    t.faults.latched = s.faults.latched.map fun e => if e.code = code ∧ e.target = target then
        { e with
          severity := if sev = .severe then .severe else e.severity, lastTime := s.time
          count := min (e.count + 1) 255 }
      else e) ∧
  ((∀ e ∈ s.faults.latched, ¬ (e.code = code ∧ e.target = target)) →
    (s.faults.latched.length < 8 → t.faults.unrecorded = s.faults.unrecorded ∧
      t.faults.latched = s.faults.latched ++ [⟨code, target, sev, s.time, s.time, 1⟩]) ∧
    (8 ≤ s.faults.latched.length →
      t.faults.unrecorded = min (s.faults.unrecorded + 1) 255 ∧ t.faults.latched = s.faults.latched))

/-- From one state to another the condition was latched before any other: its pair stands in the list, or the list was full
already and the unrecorded count was raised (R99). -/
def LatchedFirst (s t : State) (code : FaultCode) (target : Target) (sev : Severity) : Prop :=
  t.holdsFault code target sev ∨
    (8 ≤ s.faults.latched.length ∧ min (s.faults.unrecorded + 1) 255 ≤ t.faults.unrecorded)

/-- From one state to another the condition was latched, others perhaps before it: its pair stands in the list, or the list
is full and the unrecorded count was raised (R99). -/
def LatchedAmong (s t : State) (code : FaultCode) (target : Target) (sev : Severity) : Prop :=
  t.holdsFault code target sev ∨
    (8 ≤ t.faults.latched.length ∧ min (s.faults.unrecorded + 1) 255 ≤ t.faults.unrecorded)

/-- From one state to another the record was closed with this outcome and cause: a new history entry stands at the head,
with the record's number and kind, over the entries kept (R15, R18). -/
def Archived (s t : State) (r : Record) (o : TxnOutcome) (c : Cause) : Prop :=
  ∃ e, t.agreement.history = (e :: s.agreement.history).take 4 ∧ e.number = r.number ∧ e.kind = r.kind ∧ e.outcome = o ∧
    e.cause = some c ∧ e.originator = r.originator ∧ e.duration = s.time - r.openedAt ∧ e.isNew = true

/-- The record is one that a forced descent opened with: ENTER_OFF, forced, and everything else as an opening writes it
(R4, R10, R13). -/
def OpensDescent (s : State) (r : Record) (number : TxnNumber) (cause : OpeningCause) (originator : StationId)
    (faults : List (FaultCode × StationId)) : Prop :=
  r.number = number ∧ r.kind = .enterOff ∧ r.forced = true ∧ r.originator = originator ∧ r.openingCause = cause ∧
    r.outcome = .accepted ∧ r.openedAt = s.time ∧ r.faults = faults ∧ r.missing = 0 ∧
    r.consent = r.participants &&& s.system.required

/-! ### Frames that are discarded -/

/-- A STAGE of this sender, number and stage does not match: the phase takes none, or the number, the sender or the stage
number is none of the open transaction's (R8, R55). -/
def State.discardsStage (s : State) (sender : StationId) (number : TxnNumber) (stage : Nat) : Prop :=
  (s.agreement.phase ≠ .staging ∧ s.agreement.phase ≠ .unwinding ∧ s.agreement.phase ≠ .descending ∧
    s.silentDescent = false) ∨
  ∀ r, s.agreement.record = some r →
    r.number ≠ number ∨ setHas r.participants sender = false ∨ stage = 0 ∨ s.lastStage r.kind < stage

/-- The agreement engine discards the frame of this delivery without effect, as stale or ignored: the cells of R8's table
that say so. In CENSUS an opening frame is one of them while no alignment runs (R152). -/
def State.discards (s : State) : Instr → Prop
  | .proposeDelivered _ _ _ _ _ =>
    s.agreement.phase = .mute ∨ (s.agreement.phase = .census ∧ s.presence.alignment = none)
  | .forcedProposeDelivered _ _ _ _ =>
    (s.agreement.phase = .mute ∧ (s.recordOpen = true ∨ s.agreement.believed = none)) ∨
      (s.agreement.phase = .census ∧ s.presence.alignment = none)
  | .wakeDelivered _ _ _ _ =>
    s.agreement.phase = .voting ∨ s.agreement.phase = .staging ∨ s.agreement.phase = .unwinding ∨
      s.agreement.phase = .mute ∨ (s.agreement.phase = .census ∧ s.presence.alignment = none)
  | .voteDelivered i n _ =>
    s.agreement.phase ≠ .voting ∨ ∀ r, s.agreement.record = some r →
      r.number ≠ n ∨ setHas r.participants i = false ∨ i = r.originator ∨ tabGet r.votes i ≠ none
  | .stageForwardDelivered i n k => s.discardsStage i n k
  | .stageUnwindDelivered i n k => s.discardsStage i n k
  | .abortDelivered i n _ =>
    (s.agreement.phase ≠ .voting ∧ s.agreement.phase ≠ .staging) ∨ ∀ r, s.agreement.record = some r →
      r.number ≠ n ∨ setHas r.participants i = false ∨ (s.agreement.phase = .staging ∧ r.committed = true)
  | .faultDelivered _ _ _ _ =>
    (s.agreement.phase = .mute ∧ s.recordOpen = false ∧ s.agreement.believed = none) ∨
      (s.agreement.phase = .census ∧ s.presence.alignment = none)
  | _ => False

/-! ### Answers -/

/-- The answers that the chipset gets for a request: one where its source is LINES, else none (R23). -/
def answersFor : Option Request → Nat
  | some r => if r.source = .lines then 1 else 0
  | none => 0

/-- From one state to another so many answers of this level were given: that many REQACK pulses begun, and RESULT at the
level where there is one (R24, log 12). -/
def Answered (s t : State) (l : Level) (n : Nat) : Prop :=
  t.request.pulses = s.request.pulses + n ∧ t.request.result = if n = 0 then s.request.result else l

/-- The answers to the request in the latch at a settle signal in this believed state: in RUN it stays, elsewhere it is
cleared, answered low (R17, R23). -/
def latchAnswers (believed : Option SystemState) (latch : Option Latch) : Nat :=
  if believed = some .run then 0 else answersFor (latch.map Latch.request)

/-! ### Phases and what fits them -/

/-- The record is of a transaction in progress with this outcome and forced flag, and carries the current number. -/
def State.runs (s : State) (o : TxnOutcome) (forced : Bool) : Prop :=
  ∃ r, s.agreement.record = some r ∧ r.outcome = o ∧ r.forced = forced ∧ s.agreement.number = some r.number

/-- A forced ENTER_OFF is open: the record of a descent. -/
def State.runsDescent (s : State) : Prop := s.runs .accepted true ∧ s.kind = .enterOff

/-- The phase and the record fit: an open transaction has the outcome, the forced flag and the number that its phase
gives, and no other phase has one open (R5, R7, R9). -/
def RecordFitsPhase (s : State) : Prop :=
  match s.agreement.phase with
  | .voting => s.runs .opened false ∧ s.committed = false
  | .staging => s.runs .accepted false
  | .unwinding => s.runs .accepted false ∧ s.committed = false
  | .descending => s.runsDescent
  | .mute => s.recordOpen = true → s.runsDescent
  | _ => s.recordOpen = false

/-- The stage executor works in STAGING, UNWINDING, DESCENDING and a silent descent; otherwise it stands in IDLE, with
every register as after a reset (R45). -/
def ExecutorFitsPhase (s : State) : Prop :=
  s.forwardWork = true ∨ s.agreement.phase = .unwinding ∨ s.executor = Executor.idle

/-- The vote is timed in VOTING only (R36), and the census window and the alignment run in CENSUS only, never both (R150,
R152). -/
def TimersFitPhase (s : State) : Prop :=
  (s.agreement.phase ≠ .voting → s.agreement.voteWindow = none ∧ s.agreement.voteGuard = none) ∧
  (s.agreement.phase ≠ .census → s.presence.censusWindow = none ∧ s.presence.alignment = none) ∧
  (s.presence.alignment = none ∨ s.presence.censusWindow = none)

/-- The transaction invariant. -/
def TransactionFits (s : State) : Prop := RecordFitsPhase s ∧ ExecutorFitsPhase s ∧ TimersFitPhase s

/-- A slot holds frames of its own kind only (R136). -/
def SlotHolds (k : FrameKind) (x : Slot) : Prop :=
  (∀ r, x.queued = some (.ready r) → r.frame.body.kind = k) ∧ (∀ n, x.queued = some (.beatDue n) → k = .beat) ∧
  (∀ r, x.sending = some r → r.frame.body.kind = k)

/-- A slot with no frame in it. -/
def Slot.isEmpty (x : Slot) : Prop := x.queued = none ∧ x.sending = none

/-- The transmit slots: each holds frames of its own kind, at most one is sending (R136), and in MUTE every slot is empty,
but for that of CENSUS while BARRED (R139). -/
def LinkFits (s : State) : Prop :=
  (∀ k, SlotHolds k (s.slot k)) ∧
  (∀ j k, (s.slot j).sending ≠ none → (s.slot k).sending ≠ none → j = k) ∧
  (s.agreement.phase = .mute → ∀ k, k ≠ .census ∨ s.presence.muteCause ≠ .barred → (s.slot k).isEmpty)

/-- A peer's entry: its silence timer runs exactly while it is PRESENT (R142, R143, R146), its miss count is at most 3,
and a count of 3 is EXCLUDED (R38). -/
def PeerFits (p : Peer) : Prop :=
  (p.silence.isSome = true ↔ p.presence = .present) ∧ p.misses ≤ 3 ∧ (p.misses = 3 → p.presence = .excluded) ∧
  p.rejoins ≤ 255

/-- The peer table and the beat debt (R38, R141 to R146). -/
def PeersFit (s : State) : Prop := (∀ i, PeerFits (s.peerAt i)) ∧ s.presence.debt ≤ 4

/-- The latched fault list: at most 8 entries of distinct pairs, each counted 1 to 255 (R99). -/
def LatchedFits (l : List FaultEntry) : Prop :=
  l.length ≤ 8 ∧ (l.map fun e => (e.code, e.target)).Nodup ∧ ∀ e ∈ l, 1 ≤ e.count ∧ e.count ≤ 255

/-- The deferred fault list: one entry for each rail, each counted 1 to 255 (R102). -/
def DeferredFits (l : List DeferredEntry) : Prop := (l.map fun e => e.rail).Nodup ∧ ∀ e ∈ l, 1 ≤ e.count ∧ e.count ≤ 255

/-- The wake queue: one entry for each input, at most 2 failed announcements each (R118, R121), and the announcing mark
names an entry (R118). -/
def WakeQueueFits (w : WakeUnit) : Prop :=
  (w.queue.map fun e => e.input).Nodup ∧ (∀ e ∈ w.queue, e.attempts ≤ 2 ∧ e.repeats ≤ 255) ∧
  (∀ i, w.mark = some i → ∃ e ∈ w.queue, e.input = i) ∧ ∀ i, (tabGet w.inputs i).edges ≤ 65535

/-- The defer streak of every kind is at most 3 (R35). -/
def StreaksFit (t : PerProposal Nat) : Prop := t.enterRest ≤ 3 ∧ t.enterStow ≤ 3 ∧ t.enterOff ≤ 3 ∧ t.demote ≤ 3

/-- The record's fault list holds at most four pairs, and its overflow count is at most 255 (R4). -/
def FaultListFits (r : Record) : Prop := r.faults.length ≤ 4 ∧ r.faultOverflow ≤ 255

/-- The lists and counts that stand without regard to the loaded image, within the bounds the manual gives. The unwind
stack (R86) and the dropout and bounce counts (R66, R68, R72) are bounded by what the loaded image holds and stand apart. -/
def ListsFit (s : State) : Prop :=
  LatchedFits s.faults.latched ∧ s.faults.unrecorded ≤ 255 ∧ DeferredFits s.faults.deferred ∧ WakeQueueFits s.wake ∧
  s.agreement.history.length ≤ 4 ∧ s.agreement.lateProposals ≤ 255 ∧ StreaksFit s.agreement.streaks ∧
  s.link.receiveErrors ≤ 65535 ∧ s.channel.corrections ≤ 255 ∧ (∀ k, (s.slot k).rejections ≤ 7) ∧
  ∀ r, s.agreement.record = some r → FaultListFits r

/-! ### Openings -/

/-- The purges of an opening (R10, R138), from the state before the command: no queued WAKE or PROPOSE is left, but for a
forced PROPOSE, which is queued again under the number behind the new one in VOTING and STAGING (R26); one on the line
carries the purge mark; and at a forced opening no queued FAULT(PEER_LOST) is left. -/
def OpeningPurges (s t : State) : Prop :=
  (∀ r, (t.slot .wake).queued ≠ some (.ready r)) ∧
  (s.forcedQueued = true → t.agreement.phase = .voting ∨ t.agreement.phase = .staging →
    t.hasQueued .propose t.nextNumber (.propose .enterOff true false)) ∧
  (s.forcedQueued = false ∨ (t.agreement.phase ≠ .voting ∧ t.agreement.phase ≠ .staging) →
    ∀ r, (t.slot .propose).queued ≠ some (.ready r)) ∧
  (∀ k, k = .wake ∨ k = .propose → (t.slot k).sending.isSome = true → (t.slot k).purgeMark = true) ∧
  (t.forced = true → ∀ r tgt, (t.slot .fault).queued = some (.ready r) → r.frame.body ≠ .fault .peerLost tgt)

/-- What the owners do at an opening that is not their frame's: the latched request whose PROPOSE was purged waits again
(R22); the purge of a queued WAKE clears the announcing mark, and the wake queue stands (R124). -/
def OwnersToldOfPurge (s t : State) : Prop :=
  (∀ r l k img, (s.slot .propose).queued = some (.ready r) → r.frame.body = .propose k false img → k ≠ .demote →
    r.forReplaced = false → s.request.latch = some l → t.request.latch = some { l with queued := false }) ∧
  t.wake.queue = s.wake.queue ∧
  (∀ r w x, (s.slot .wake).queued = some (.ready r) → r.frame.body = .wake w x → t.wake.mark = none) ∧
  ((∀ k, SlotHolds k (s.slot k)) → (∀ r, (s.slot .wake).queued ≠ some (.ready r)) → t.wake.mark = s.wake.mark)

/-- The station's own WAKE opened: its slot is empty and the debt paid, the entry that the announcing mark named is
ANNOUNCED, and the mark is cleared (R124, R137, R145). -/
def OwnWakeTaken (s t : State) : Prop :=
  (t.slot .wake).sending = none ∧ t.presence.debt = 0 ∧ t.wake.mark = none ∧
  (∀ i, s.wake.mark = some i →
    t.wake.queue = s.wake.queue.map fun e => if e.input = i then { e with state := .announced } else e) ∧
  (s.wake.mark = none → t.wake.queue = s.wake.queue)

/-! ### The settle correction -/

/-- From one state to another the outputs were brought toward a row (R43). Every signal stands at its cell. A standing rail
that is enabled has its cell's enable, and a rail with an action in progress holds the correction behind it (log 18). The
count rises by one for each output that differs. -/
def OutputsCorrected (s t : State) (row : ProfileRow) : Prop :=
  (∀ i, t.signal i = tabGet row.signals i) ∧
  (∀ ch, (s.railParams ch).enabled = true → (s.rail ch).state.standing = true → t.enable ch = tabGet row.rails ch) ∧
  (∀ ch, s.railDiffers row ch = true → (s.rail ch).state.standing = false → t.rail ch = { s.rail ch with
    held := (s.rail ch).held ++ [⟨.correction, tabGet row.rails ch == .high⟩] }) ∧
  (∀ i, s.signalDiffers row i = false → t.signalAt i = s.signalAt i) ∧
  t.channel.corrections = (if s.outputsDiffer row then min (s.channel.corrections + (s.alignmentSteps row).length) 255
    else s.channel.corrections)

/-- From one state to another the channel block was corrected toward a row (R43), and a rail that does not differ was left
alone. -/
def Corrected (s t : State) (row : ProfileRow) : Prop :=
  OutputsCorrected s t row ∧ ∀ ch, s.railDiffers row ch = false → t.rail ch = s.rail ch

/-- From one state to another monitoring started on every rail in ON that does not differ from the row: with count 0, the
loss marker clear, a fresh window, and the filter where power-good reads low (R71). -/
def MonitoringStarts (s t : State) (row : ProfileRow) : Prop :=
  ∀ ch, (s.rail ch).state = .on → s.railDiffers row ch = false → t.rail ch = { s.rail ch with
    dropouts := 0, loss := false, window := some (s.railParams ch).dropoutWindow
    filter := if s.powerGood ch = .low then some (s.railParams ch).dropoutFilter else none }

/-! ### Alignment -/

/-- The rail that an alignment step leaves as it is issued (R44, R64 to R67, R152). Behind an action in progress the step is
held (log 18). A RAISE goes to RISING, or, with power-good high already, to HOLDING_UP, or ON at once at a hold-up of 0; a
DROP stops dropout monitoring and goes to FALLING, or, with power-good low already, to HOLDING_DOWN, or OFF at once at a
hold-down of 0. -/
def alignedRail (p : RailParams) (pg : Level) (up : Bool) (r : Rail) : Rail :=
  match r.state.standing, up, pg with
  | false, _, _ => { r with held := r.held ++ [⟨.alignment, up⟩] }
  | true, true, .low =>
    { r with state := .rising, counter := some p.settleWindow, bounces := 0, issuer := some .alignment }
  | true, true, .high =>
    if p.holdUp = 0 then { r with state := .on, counter := none, bounces := 0, issuer := none }
    else { r with state := .holdingUp, counter := some p.holdUp, bounces := 0, issuer := some .alignment }
  | true, false, .high =>
    { r with
      state := .falling, counter := some p.dischargeWindow, bounces := 0, issuer := some .alignment
      filter := none, window := none }
  | true, false, .low =>
    if p.holdDown = 0 then
      { r with state := .off, counter := none, bounces := 0, issuer := none, filter := none, window := none }
    else
      { r with
        state := .holdingDown, counter := some p.holdDown, bounces := 0, issuer := some .alignment
        filter := none, window := none }

/-- A rail channel as an alignment step issued now leaves it. -/
def State.alignedRail (s : State) (ch : Fin 6) (up : Bool) : Rail :=
  Machine.alignedRail (s.railParams ch) (s.powerGood ch) up (s.rail ch)

/-- An alignment step issued now does not complete at once: the rail has an action in progress then. -/
def State.stepTakesTime (s : State) : Change → Bool
  | .raise ch => !(s.alignedRail ch true).state.standing
  | .drop ch => !(s.alignedRail ch false).state.standing
  | _ => false

/-- From one state to another these alignment steps were issued on the rails, and no other rail was touched. -/
def StepsIssued (s t : State) (steps : List Change) : Prop :=
  ∀ ch, (.raise ch ∈ steps → t.rail ch = s.alignedRail ch true) ∧
    (.drop ch ∈ steps → t.rail ch = s.alignedRail ch false) ∧
    (.raise ch ∉ steps → .drop ch ∉ steps → t.rail ch = s.rail ch)

/-! ### The settle evaluation -/

/-- From one state to another the wake queue was evaluated at a settle signal in this believed state (R121). In RUN it is
emptied. Elsewhere an entry whose input is not allowed there is removed, a PENDING one stays, and an ANNOUNCED one is PENDING
again with one attempt more, but for the third, which removes it with WAKE_FAILED latched; what remains keeps its order. The
announcing mark is cleared, and one set again names a PENDING entry. -/
def Evaluated (s t : State) (st : SystemState) : Prop :=
  (st = .run → t.wake.queue = []) ∧
  (st ≠ .run →
    (t.wake.queue.map fun e => e.input).Sublist (s.wake.queue.map fun e => e.input) ∧
    (∀ e, e ∈ t.wake.queue ↔ ∃ e₀ ∈ s.wake.queue, (s.wakeDef e₀.input).allowedIn st = true ∧
      ((e₀.state = .pending ∧ e = e₀) ∨ (e₀.state = .announced ∧ e₀.attempts < 2 ∧
        e = { e₀ with attempts := e₀.attempts + 1, state := .pending }))) ∧
    ∀ e ∈ s.wake.queue, (s.wakeDef e.input).allowedIn st = true → e.state = .announced → 2 ≤ e.attempts →
      LatchedAmong s t .wakeFailed (eightTarget e.input) .notice) ∧
  ∀ i, t.wake.mark = some i → ∃ e ∈ t.wake.queue, e.input = i ∧ e.state = .pending

/-! ### The settle signal -/

/-- The gates of R122, but for the announcing mark and the queue: SETTLED in REST, STOW or OFF, no dwell running in REST, no
fault hold, and every member of the quorum set PRESENT, the own ID counting as PRESENT. -/
def State.gatesOpen (s : State) : Prop :=
  s.agreement.phase = .settled ∧
  (s.agreement.believed = some .rest ∨ s.agreement.believed = some .stow ∨ s.agreement.believed = some .off) ∧
  (s.agreement.believed = some .rest → s.wake.minDwell = none) ∧ s.wake.faultHold = none ∧
  ∀ i, setHas s.system.quorum i = true → i = s.me ∨ (s.peerAt i).presence = .present

/-- This entry is the oldest PENDING one of the queue (R122). -/
def IsOldestPending (q : List WakeEntry) (e : WakeEntry) : Prop :=
  ∃ older newer, q = older ++ e :: newer ∧ e.state = .pending ∧ ∀ x ∈ older, x.state ≠ .pending

/-- The WAKE of this input is queued, RESUME in REST and RISE elsewhere, under the number behind the current one, and the
announcing mark names it (R122). -/
def State.announces (s : State) (i : Fin 8) : Prop :=
  s.wake.mark = some i ∧
    s.hasQueued .wake s.nextNumber (.wake (if s.agreement.believed = some .rest then .resume else .rise) i)

/-- A wake input after the settle signal. Its own window starts at the end of census (R116). In RUN qualification stops: a
LEVEL input is IDLE with its hold stopped, and a count is 0 with its overflow flag clear. Elsewhere a LEVEL input in IDLE
that reads active begins its hold (R113, R114). -/
def inputSettled (census : Bool) (believed : Option SystemState) (d : WakeInputDef) (active : Bool) (w : WakeInput) :
    WakeInput :=
  let w := { w with ownWindow :=
    if census = true ∧ d.kind = .count ∧ d.window = .own then some d.ownLength else w.ownWindow }
  if asleep believed then
    (if d.kind = .level ∧ active = true ∧ w.level = .idle then { w with level := .holding, hold := some d.holdTime } else w)
  else { w with level := .idle, hold := none, edges := 0, overflow := false }

/-- From one state to another the wake unit acted on the settle signal (R17). `closed` is the kind and outcome of the
transaction just closed, `none` at the end of census. The common window restarts; the minimum dwell starts after
ENTER_REST COMPLETED, unless its setting is 0; the demote timer starts in REST with the REST image flag set, with the
defer hold as its length after DEMOTE declined, deferred or left without quorum; at the end of census the debounced state
is taken from the button with no press made; and with every gate open the oldest PENDING entry is announced, else
none. -/
def WakeSettled (closed : Option (Kind × TxnOutcome)) (s t : State) : Prop :=
  t.wake.commonWindow = some s.station.commonWindow ∧
  t.wake.minDwell = (if closed = some (.enterRest, .completed) ∧ s.system.minDwell ≠ 0 then some s.system.minDwell
    else s.wake.minDwell) ∧
  t.wake.demote = (if t.agreement.believed = some .rest ∧ t.agreement.restImage = true ∧ s.station.demoteMinutes ≠ 0 then
      some (if closed = some (.demote, .declined) ∨ closed = some (.demote, .deferred) ∨
        closed = some (.demote, .noQuorum) then s.system.deferHold else s.station.demoteMinutes * 60000)
    else s.wake.demote) ∧
  (∀ i, t.wakeInput i =
    inputSettled closed.isNone t.agreement.believed (s.wakeDef i) (s.wakeActive i) (s.wakeInput i)) ∧
  t.wake.pressed = (if closed = none then (match s.buttonInput with | some b => s.wakeActive b | none => false)
    else s.wake.pressed) ∧
  t.wake.debounce = s.wake.debounce ∧ t.wake.longPress = s.wake.longPress ∧
  (∀ e, IsOldestPending t.wake.queue e → t.gatesOpen → t.announces e.input) ∧ (¬ t.gatesOpen → t.wake.mark = none)

/-- From one state to another the request unit acted on the settle signal (R17). After a wake kind COMPLETED the re-entry
lockout starts, unless its setting is 0, and the refreshed-view set becomes the participant set (R29, R30). In RUN the defer
hold starts after an entry kind DEFERRED (R28), and a WAITING request is proposed where R21 lets it, else the PROPOSE slot
stands. In another state the latch is cleared and the defer hold stops (R23, R28). -/
def RequestSettled (closed : Option (Kind × TxnOutcome)) (s t : State) : Prop :=
  (∀ k, closed = some (k, .completed) → k.isWake = true →
    t.request.lockout = (if s.system.lockout = 0 then s.request.lockout else some s.system.lockout) ∧
    t.request.refresh = s.participants) ∧
  ((∀ k, closed = some (k, .completed) → k.isWake = false) → t.request.lockout = s.request.lockout) ∧
  (t.agreement.believed ≠ some .run → t.request.latch = none ∧ t.request.deferHold = none) ∧
  (t.agreement.believed = some .run →
    (∀ k, closed = some (k, .deferred) → k.isEntry = true → t.request.deferHold = some s.system.deferHold) ∧
    ((∀ k, closed = some (k, .deferred) → k.isEntry = false) → t.request.deferHold = s.request.deferHold) ∧
    (t.request.lockout = none ∧ t.request.refresh = 0 ∧ t.request.deferHold = none ∧ s.forcedQueued = false ∧
        s.forcedSending = false →
      ∀ l, s.request.latch = some l → l.queued = false → t.request.latch = some { l with queued := true } ∧
        t.hasQueued .propose t.nextNumber
          (.propose l.request.kind false (l.request.imageBacked && l.request.kind == .enterRest))) ∧
    (t.request.lockout.isSome = true ∨ t.request.refresh ≠ 0 ∨ t.request.deferHold.isSome = true ∨
      s.forcedQueued = true ∨ s.forcedSending = true → t.slot .propose = s.slot .propose))

/-- From one state to another the presence unit acted on the settle signal: T_beat is recomputed, the beat timer restarts
where it changed (R144), and in RUN and REST every quorum member then SILENT is PEER_LOST, with a FAULT standing in its
slot, and no other is (R143). -/
def PresenceSettled (s t : State) : Prop :=
  t.presence.beat = some (if t.agreement.believed = some .run then s.system.beatRun else s.system.beatLow) ∧
  t.presence.beatTimer = (if t.presence.beat = s.presence.beat then s.presence.beatTimer else t.presence.beat) ∧
  (∀ i, i ≠ s.me → setHas s.system.quorum i = true → (t.peerAt i).presence = .silent →
    t.agreement.believed = some .run ∨ t.agreement.believed = some .rest →
    LatchedAmong s t .peerLost (eightTarget i) .severe ∧ (t.slot .fault).queued.isSome = true) ∧
  ∀ e ∈ t.faults.latched, e.code = .peerLost → e ∈ s.faults.latched ∨
    ((t.agreement.believed = some .run ∨ t.agreement.believed = some .rest) ∧
      ∃ i, i ≠ s.me ∧ setHas s.system.quorum i = true ∧ (t.peerAt i).presence = .silent ∧ e.target = eightTarget i)

/-- From one state to another the settle signal was given and its neighbours acted on it (R17), but for the evaluation of the
wake queue (`Evaluated`) and the channel block (`Corrected`). -/
def Settled (closed : Option (Kind × TxnOutcome)) (s t : State) : Prop :=
  t.agreement.phase = .settled ∧ WakeSettled closed s t ∧ RequestSettled closed s t ∧ PresenceSettled s t

/-! ### Reading a response of the maintenance port -/

/-- The number that these bytes of a response spell, most significant byte first (R162). -/
def bytesAt (bs : List Byte) (start count : Nat) : Nat :=
  ((bs.drop start).take count).foldl (fun n b => 256 * n + b.toNat) 0

/-- A field of one byte of a response: its lowest bit and its width. -/
def bitsAt (bs : List Byte) (place low width : Nat) : Nat := (bs.getD place 0).toNat / 2 ^ low % 2 ^ width

/-- The numbers of the code lists of R163 to R165, each in the order its list has. -/
def ResponseCodes : Prop :=
  [Phase.census, .settled, .voting, .staging, .unwinding, .descending, .mute].map Phase.code = List.range 7 ∧
  [some SystemState.run, some .rest, some .stow, some .off, none].map believedCode = List.range 5 ∧
  [ResetCause.por, .pinReset, .restart].map ResetCause.code = List.range 3 ∧
  [MuteCause.none, .linkFault, .barred].map MuteCause.code = List.range 3 ∧
  [SubState.idle, .waiting, .acting, .reporting, .undoing].map SubState.code = List.range 5 ∧
  [RailState.off, .rising, .holdingUp, .on, .falling, .holdingDown, .failedUp, .failedDown].map RailState.code =
    List.range 8 ∧
  [PresenceValue.absent, .present, .silent, .excluded].map PresenceValue.code = List.range 4 ∧
  [TxnOutcome.opened, .completed, .declined, .deferred, .noQuorum, .aborted, .superseded, .forcedDone, .accepted].map
    TxnOutcome.code = List.range 9 ∧
  [none, some Cause.propose, some .wakeOpening, some .fault, some .forcedPropose, some .peerRestart, some .mute,
    some .wakeAbort, some .timeout, some .noQuorum, some .inhibit, some .lockout, some .faultPending, some .noImage,
    some .refreshPending].map causeCode = List.range 15

/-- The counts that responses show, in the ranges the manual gives (R163 to R165). -/
def CountsInRange (s : State) : Prop :=
  s.executor.cursor.getD 0 ≤ 13 ∧ s.executor.stack.length ≤ 16 ∧ s.presence.debt ≤ 4 ∧ s.faults.latched.length ≤ 8 ∧
  s.faults.deferred.length ≤ 6 ∧ s.agreement.history.length ≤ 4 ∧ s.wake.queue.length ≤ 8 ∧
  s.link.receiveErrors ≤ 65535 ∧ s.agreement.lateProposals ≤ 255 ∧ s.channel.corrections ≤ 255 ∧
  s.faults.unrecorded ≤ 255 ∧ (∀ ch, (s.rail ch).dropouts ≤ 15) ∧
  (∀ i, (s.peerAt i).misses ≤ 3 ∧ (s.peerAt i).rejoins ≤ 255) ∧ (∀ e ∈ s.agreement.history, e.deferred ≤ 6) ∧
  (∀ e ∈ s.wake.queue, e.repeats ≤ 255 ∧ e.attempts ≤ 2) ∧ (∀ e ∈ s.faults.latched, e.count ≤ 255) ∧
  (∀ e ∈ s.faults.deferred, e.stage ≤ 13 ∧ e.count ≤ 255) ∧ (∀ r ∈ s.executor.stack, r.stage ≤ 12) ∧
  ∀ r, s.agreement.record = some r → FaultListFits r ∧ r.unwindTop.getD 0 ≤ 12

/-- The bytes of STATUS (R163). The order of the bits of byte 17 is the model's choice (log 40). -/
def StatusLayout (s : State) (bs : List Byte) : Prop :=
  bs.length = 18 ∧ bitsAt bs 0 0 3 = s.agreement.phase.code ∧ bitsAt bs 0 3 3 = believedCode s.agreement.believed ∧
  bitsAt bs 0 6 1 = s.txnOpen.toNat ∧ bitsAt bs 0 7 1 = s.agreement.restImage.toNat ∧
  bytesAt bs 1 1 = (s.agreement.number.getD 0).toNat ∧ bitsAt bs 2 0 2 = s.loader.resetCause.code ∧
  bitsAt bs 2 2 1 = s.agreement.number.isSome.toNat ∧ bitsAt bs 2 3 2 = s.faultSummary.val ∧
  bitsAt bs 2 5 1 = s.executor.halted.toNat ∧ bitsAt bs 2 6 2 = s.presence.muteCause.code ∧
  bitsAt bs 3 0 3 = s.executor.sub.code ∧ bitsAt bs 3 4 4 = s.executor.cursor.getD 0 ∧
  bitsAt bs 4 0 5 = s.executor.stack.length ∧ bitsAt bs 4 5 3 = s.presence.debt ∧
  bitsAt bs 5 0 4 = s.faults.latched.length ∧ bitsAt bs 5 4 3 = s.faults.deferred.length ∧
  bitsAt bs 5 7 1 = s.attn.toNat ∧ bitsAt bs 6 0 3 = (s.agreement.history.filter fun e => e.isNew).length ∧
  bitsAt bs 6 3 4 = s.wake.queue.length ∧ bitsAt bs 6 7 1 = s.stateOk.toNat ∧
  bytesAt bs 7 2 = s.link.receiveErrors ∧ bytesAt bs 9 1 = s.agreement.lateProposals ∧
  bytesAt bs 10 1 = s.channel.corrections ∧
  (∀ ch : Fin 6, bitsAt bs (11 + ch.val) 0 4 = (s.rail ch).state.code ∧
    bitsAt bs (11 + ch.val) 4 4 = (s.rail ch).dropouts) ∧
  (∀ i : Fin 2, bitsAt bs 17 i.val 1 = (s.sense i).bit) ∧
  ∀ ch : Fin 6, bitsAt bs 17 (2 + ch.val) 1 = (s.powerGood ch).bit

/-- The bytes of PEER for an entry; the own ID's reads as that of a peer never heard (R164). -/
def PeerLayout (s : State) (i : StationId) (p : Peer) (bs : List Byte) : Prop :=
  bs.length = 5 ∧ bitsAt bs 0 0 2 = p.presence.code ∧ bitsAt bs 0 2 1 = p.changed.toNat ∧
  bitsAt bs 0 3 1 = p.silence.isSome.toNat ∧ bitsAt bs 0 4 2 = p.misses ∧
  bitsAt bs 0 6 2 = (match p.lastReset with | some c => c.code | none => 3) ∧
  bitsAt bs 1 0 3 = (match p.lastState with | some x => x.code | none => 7) ∧
  bitsAt bs 1 3 3 = (match p.lastPhase with | some x => x.code | none => 7) ∧ bitsAt bs 1 6 1 = p.lastOpen.toNat ∧
  bitsAt bs 1 7 1 = p.lastNumber.isSome.toNat ∧ bytesAt bs 2 1 = (p.lastNumber.getD 0).toNat ∧
  bitsAt bs 3 0 2 = p.summary.val ∧ bitsAt bs 3 2 1 = (setHas s.system.required i).toNat ∧
  bitsAt bs 3 3 1 = (setHas s.system.quorum i).toNat ∧ bitsAt bs 3 4 1 = (setHas s.presence.barring i).toNat ∧
  bytesAt bs 4 1 = p.rejoins

/-- The bytes of HISTORY for an entry held (R164). -/
def HistoryLayout (e : HistoryEntry) (bs : List Byte) : Prop :=
  bs.length = 10 ∧ bitsAt bs 0 0 3 = e.kind.code ∧ bitsAt bs 0 5 1 = e.forced.toNat ∧
  bitsAt bs 0 6 1 = e.isNew.toNat ∧ bitsAt bs 0 7 1 = 1 ∧ bitsAt bs 1 0 4 = e.outcome.code ∧
  bitsAt bs 1 4 4 = causeCode e.cause ∧ bytesAt bs 2 1 = e.number.toNat ∧ bitsAt bs 3 0 3 = e.originator.val ∧
  bitsAt bs 3 3 1 = e.wakeSource.isSome.toNat ∧
  bitsAt bs 3 4 3 = (match e.wakeSource with | some w => w.1.val | none => 0) ∧
  bitsAt bs 4 0 3 = (match e.wakeSource with | some w => w.2.val | none => 0) ∧ bitsAt bs 4 4 3 = e.deferred ∧
  bytesAt bs 5 1 = e.missing.toNat ∧ bytesAt bs 6 4 = e.duration.toNat

/-- The bytes of WAKEQ (R165). -/
def WakeqLayout (s : State) (bs : List Byte) : Prop :=
  bs.length = 2 + 8 * s.wake.queue.length ∧ bytesAt bs 0 1 = s.wake.queue.length ∧
  bytesAt bs 1 1 = (match s.wake.mark with | some i => i.val | none => 255) ∧
  ∀ n e, s.wake.queue[n]? = some e → bytesAt bs (2 + 8 * n) 1 = e.input.val ∧
    bytesAt bs (3 + 8 * n) 4 = e.qualifiedAt.toNat ∧ bytesAt bs (7 + 8 * n) 1 = e.repeats ∧
    bytesAt bs (8 + 8 * n) 1 = e.attempts ∧
    bytesAt bs (9 + 8 * n) 1 = (match e.state with | .pending => 0 | .announced => 1)

/-- The bytes of FAULTS (R165). -/
def FaultsLayout (s : State) (bs : List Byte) : Prop :=
  bs.length = 3 + 12 * s.faults.latched.length + 4 * s.faults.deferred.length ∧
  bytesAt bs 0 1 = s.faults.latched.length ∧ bytesAt bs 1 1 = s.faults.unrecorded ∧
  (∀ n e, s.faults.latched[n]? = some e → bytesAt bs (2 + 12 * n) 1 = e.code.code ∧
    bytesAt bs (3 + 12 * n) 1 = e.target.toNat ∧
    bytesAt bs (4 + 12 * n) 1 = (match e.severity with | .notice => 0 | .severe => 1) ∧
    bytesAt bs (5 + 12 * n) 4 = e.firstTime.toNat ∧ bytesAt bs (9 + 12 * n) 4 = e.lastTime.toNat ∧
    bytesAt bs (13 + 12 * n) 1 = e.count) ∧
  bytesAt bs (2 + 12 * s.faults.latched.length) 1 = s.faults.deferred.length ∧
  ∀ n e, s.faults.deferred[n]? = some e →
    bytesAt bs (3 + 12 * s.faults.latched.length + 4 * n) 1 = e.rail.val ∧
    bytesAt bs (4 + 12 * s.faults.latched.length + 4 * n) 1 =
      (if e.loss then FaultCode.railLoss else .railUnstable).code ∧
    bytesAt bs (5 + 12 * s.faults.latched.length + 4 * n) 1 = e.stage ∧
    bytesAt bs (6 + 12 * s.faults.latched.length + 4 * n) 1 = e.count

/-- The bytes of STACK (R165). -/
def StackLayout (s : State) (bs : List Byte) : Prop :=
  bs.length = 1 + 5 * s.executor.stack.length ∧ bytesAt bs 0 1 = s.executor.stack.length ∧
  ∀ n r, s.executor.stack[n]? = some r → bytesAt bs (1 + 5 * n) 1 = r.number.toNat ∧
    bytesAt bs (2 + 5 * n) 1 = r.stage ∧
    (bytesAt bs (3 + 5 * n) 1, bytesAt bs (4 + 5 * n) 1) = (match r.change with
      | .raise ch => (0, ch.val)
      | .drop ch => (1, ch.val)
      | .setHigh i => (2, i.val)
      | .setLow i => (3, i.val)) ∧
    bytesAt bs (5 + 5 * n) 1 = r.prior.bit

/-- A field with a presence byte at this place: 0 where it is absent, else 1 and then its value (R165). -/
def optionAt (bs : List Byte) (start count : Nat) : Option Nat → Prop
  | none => bytesAt bs start 1 = 0
  | some v => bytesAt bs start 1 = 1 ∧ bytesAt bs (start + 1) count = v

/-- How many bytes such a field takes. -/
def optionSize (count : Nat) (present : Bool) : Nat := if present then 1 + count else 1

/-- The bytes of TXN for a record, in the field order of R4 (R165). -/
def TxnLayout (r : Record) (isOpen : Bool) (bs : List Byte) : Prop :=
  let outcomeAt := 17 + optionSize 2 r.wakeSource.isSome
  let abortAt := outcomeAt + 1 + optionSize 1 r.outcomeCause.isSome
  let doneAt := abortAt + optionSize 1 r.abortCause.isSome
  let missingAt := doneAt + 25 + optionSize 1 r.unwindTop.isSome
  let faultsAt := missingAt + optionSize 1 r.forced
  let overflowAt := faultsAt + optionSize (1 + 2 * r.faults.length) r.forced
  let timesAt := overflowAt + optionSize 1 r.forced
  let committedAt := timesAt + 4 + optionSize 4 r.acceptedAt.isSome
  let stagesAt := committedAt + optionSize 4 r.committedAt.isSome
  bytesAt bs 0 1 = (if isOpen then 1 else 2) ∧ bytesAt bs 1 1 = r.number.toNat ∧ bytesAt bs 2 1 = r.kind.code ∧
  bytesAt bs 3 1 = r.forced.toNat ∧ bytesAt bs 4 1 = r.imageBacked.toNat ∧ bytesAt bs 5 1 = r.originator.val ∧
  bytesAt bs 6 1 = r.openingCause.cause.code ∧
  optionAt bs 7 2 (r.wakeSource.map fun w => 256 * w.1.val + w.2.val) ∧
  bytesAt bs (outcomeAt - 10) 1 = r.participants.toNat ∧ bytesAt bs (outcomeAt - 9) 1 = r.consent.toNat ∧
  (∀ i : StationId, bytesAt bs (outcomeAt - 8 + i.val) 1 = (match tabGet r.votes i with
    | none => 0
    | some .accept => 16
    | some .defer => 33
    | some (.decline d) => 48 + d.code)) ∧
  bytesAt bs outcomeAt 1 = r.outcome.code ∧ optionAt bs (outcomeAt + 1) 1 (r.outcomeCause.map Cause.code) ∧
  optionAt bs abortAt 1 (r.abortCause.map fun a => (abortCauseOf a).code) ∧
  (∀ k : Fin 12, bytesAt bs (doneAt + k.val) 1 = (tabGet r.forward k).toNat ∧
    bytesAt bs (doneAt + 12 + k.val) 1 = (tabGet r.unwind k).toNat) ∧
  bytesAt bs (doneAt + 24) 1 = r.committed.toNat ∧ optionAt bs (doneAt + 25) 1 r.unwindTop ∧
  optionAt bs missingAt 1 (if r.forced then some r.missing.toNat else none) ∧
  optionAt bs faultsAt 1 (if r.forced then some r.faults.length else none) ∧
  (r.forced = true → ∀ n p, r.faults[n]? = some p →
    bytesAt bs (faultsAt + 2 + 2 * n) 1 = p.1.code ∧ bytesAt bs (faultsAt + 3 + 2 * n) 1 = p.2.val) ∧
  optionAt bs overflowAt 1 (if r.forced then some r.faultOverflow else none) ∧
  bytesAt bs timesAt 4 = r.openedAt.toNat ∧ optionAt bs (timesAt + 4) 4 (r.acceptedAt.map BitVec.toNat) ∧
  optionAt bs committedAt 4 (r.committedAt.map BitVec.toNat) ∧
  (∀ k : Fin 12, bytesAt bs (stagesAt + 4 * k.val) 4 = (match tabGet r.stageTimes k with
    | some t => t.toNat
    | none => 0xFFFFFFFF)) ∧
  optionAt bs (stagesAt + 48) 4 (r.closedAt.map BitVec.toNat) ∧
  bs.length = stagesAt + 48 + optionSize 4 r.closedAt.isSome

/-! ### The vote policy -/

/-- An inhibit input that reads high is configured for this action at the kind (R31). -/
def State.inhibitedTo (s : State) (inh : Inhibits) (k : Kind) (a : InhibitAction) : Prop :=
  (inh.inh0 = .high ∧ inhibitFor (tabGet s.station.inhibits 0) k = a) ∨
    (inh.inh1 = .high ∧ inhibitFor (tabGet s.station.inhibits 1) k = a)

end Machine

end Sys2Proof
end

