-- ==== Sys2Proof/Certificates/Slice0/Obligations.lean ====
section
/-! DEFINITION. The statements about the station, group by group: what a step is, the resets and the load, the link, the
deliveries, the timers, the channels, the wake and request inputs, the maintenance port, and the invariants. -/

section Statements

open Sys2Proof Sys2Proof.Machine

/-! ### Steps and resets -/

/-- A step takes the command at the front of the queue and answers what `exec` answers on the rest of the queue. With an
empty queue the time base counts one millisecond (the model's choice, log 2). -/
def Obligations.StepRunsFrontCommand : Prop :=
  (∀ (c : Instr) (rest : List Instr) (s : State), s.pending = c :: rest → step s = exec c { s with pending := rest }) ∧
  ∀ s : State, s.pending = [] → step s = .next { s with time := s.time + 1 }

/-- Every command completes in every state, one whose event cannot occur there among them (the model's reading of the
whole manual, log 33, and its choice, log 4), and leaves the queue alone. Only a reset touches the time base and the reset
cause, only the edges of pins touch the pin levels, only a reset or the end of the load touches the loaded image, and only
a reset or a transfer touches the port. -/
def Obligations.EveryCommandCompletes : Prop :=
  ∀ (c : Instr) (s : State), ∃ t, exec c s = .next t ∧ t.pending = s.pending ∧
    (c.isReset = false → t.time = s.time ∧ t.loader.resetCause = s.loader.resetCause) ∧
    (c.movesPin = false → t.pins = s.pins) ∧
    (c.isReset = false → c.endsLoad = false → t.loader = s.loader) ∧
    (c.isReset = false → c.isTransfer = false → t.port = s.port)

/-- The frame of the commands, for each of the 17 groups, in every state: what stands outside the fields named is
unchanged. A reset keeps the pins and the queue, and all but POR the history and the latched list too. That T_beat stands
where a rejection makes the station MUTE is the model's choice (log 52). -/
def Obligations.CommandsLeaveOtherBlocks : Prop :=
  ∀ (c : Instr) (s : State), ∃ t, exec c s = .next t ∧
    (c.group = .transfer → t = { s with
      port := t.port, presence := { s.presence with peers := t.presence.peers }
      agreement := { s.agreement with history := t.agreement.history }
      faults := { s.faults with latched := t.faults.latched, unrecorded := t.faults.unrecorded } }) ∧
    (c.group = .link → t = { s.withSlotsOf t with link := t.link }) ∧
    (c.group = .request → t = { s.withSlotsOf t with
      request := { t.request with underVote := s.request.underVote, refresh := s.request.refresh } }) ∧
    (c.group = .wake → t = { s.withFaultsOf t with
      pins := { s.pins with wake := t.pins.wake }, wake := t.wake
      request := { t.request with
        underVote := s.request.underVote, lockout := s.request.lockout, refresh := s.request.refresh } }) ∧
    (c.group = .voteTimer → t = { s.withSlotsOf t with
      agreement := { s.agreement with voteWindow := t.agreement.voteWindow, voteGuard := t.agreement.voteGuard } }) ∧
    (c.group = .barrier → t = { s.withFaultsOf t with
      agreement := { s.agreement with record := t.agreement.record }, executor := t.executor
      channel := { t.channel with corrections := s.channel.corrections } }) ∧
    (c.group = .beat → t = { s.withFaultsOf t with
      presence := { s.presence with
        debt := t.presence.debt, beatTimer := t.presence.beatTimer, barredRetry := t.presence.barredRetry
        retryHeld := t.presence.retryHeld } }) ∧
    (c.group = .dropout → t = { s.withFaultsOf t with
      faults := t.faults, channel := { s.channel with rails := t.channel.rails } }) ∧
    (c.group = .signal → t = { s.withFaultsOf t with
      pins := { s.pins with sense := t.pins.sense }, executor := t.executor
      channel := { t.channel with corrections := s.channel.corrections } }) ∧
    (c.group = .rail → t = { s with
      pins := { s.pins with powerGood := t.pins.powerGood }, link := { s.link with slots := t.link.slots }
      agreement := { s.agreement with phase := t.agreement.phase }
      presence := { s.presence with
        alignment := t.presence.alignment, beat := t.presence.beat, beatTimer := t.presence.beatTimer }
      executor := t.executor, channel := t.channel
      wake := { t.wake with
        debounce := s.wake.debounce, longPress := s.wake.longPress, faultHold := s.wake.faultHold }
      request := { t.request with underVote := s.request.underVote }, faults := t.faults }) ∧
    (c.group = .delivery → t = { s with
      link := { s.link with slots := t.link.slots }, agreement := t.agreement, presence := t.presence
      executor := t.executor, channel := t.channel, wake := t.wake, request := t.request, faults := t.faults }) ∧
    (c.group = .reset → t.pins = s.pins ∧ t.pending = s.pending ∧
      (c ≠ .por → t.agreement.history = s.agreement.history ∧ t.faults.latched = s.faults.latched ∧
        t.faults.unrecorded = s.faults.unrecorded)) ∧
    (c.group = .load → t = { s.withSlotsOf t with
      agreement := { s.agreement with phase := t.agreement.phase }
      presence := { s.presence with
        beat := t.presence.beat, beatTimer := t.presence.beatTimer, debt := t.presence.debt
        censusWindow := t.presence.censusWindow }
      channel := t.channel, loader := { t.loader with resetCause := s.loader.resetCause } }) ∧
    (c.group = .rejection → t = { s with
      link := { t.link with integrated := s.link.integrated }
      agreement := { s.agreement with
        phase := t.agreement.phase, record := t.agreement.record, history := t.agreement.history
        voteWindow := t.agreement.voteWindow, voteGuard := t.agreement.voteGuard }
      presence := { t.presence with
        peers := s.presence.peers, barring := s.presence.barring, beat := s.presence.beat }
      executor := t.executor, channel := { t.channel with corrections := s.channel.corrections }
      wake := { s.wake with inputs := t.wake.inputs, mark := t.wake.mark, demote := t.wake.demote }
      request := { t.request with
        deferHold := s.request.deferHold, lockout := s.request.lockout, refresh := s.request.refresh }
      faults := t.faults }) ∧
    (c.group = .closing → t = { s with
      link := { s.link with slots := t.link.slots }
      agreement := { t.agreement with
        lateProposals := s.agreement.lateProposals, streaks := s.agreement.streaks }
      presence := { t.presence with
        peers := s.presence.peers, barring := s.presence.barring, alignment := s.presence.alignment }
      executor := t.executor
      channel := { t.channel with awaits := s.channel.awaits, waitCounter := s.channel.waitCounter }
      wake := t.wake, request := { t.request with underVote := s.request.underVote }, faults := t.faults }) ∧
    (c.group = .census → t = { s with
      link := { s.link with slots := t.link.slots }
      agreement := { s.agreement with
        phase := t.agreement.phase, believed := t.agreement.believed, restImage := t.agreement.restImage
        number := t.agreement.number }
      presence := { s.presence with
        beat := t.presence.beat, beatTimer := t.presence.beatTimer, censusWindow := t.presence.censusWindow
        alignment := t.presence.alignment }
      channel := { t.channel with awaits := s.channel.awaits, waitCounter := s.channel.waitCounter }
      wake := { t.wake with
        debounce := s.wake.debounce, longPress := s.wake.longPress, faultHold := s.wake.faultHold }
      request := { t.request with underVote := s.request.underVote }
      faults := { t.faults with deferred := s.faults.deferred } }) ∧
    (c.group = .silence → t = { s with
      link := { s.link with slots := t.link.slots }
      agreement := { s.agreement with
        phase := t.agreement.phase, believed := t.agreement.believed, number := t.agreement.number }
      presence := { t.presence with alignment := s.presence.alignment }
      channel := { s.channel with rails := t.channel.rails }
      wake := { s.wake with
        inputs := t.wake.inputs, debounce := t.wake.debounce, longPress := t.wake.longPress
        commonWindow := t.wake.commonWindow, mark := t.wake.mark }
      request := { s.request with latch := t.request.latch, refresh := t.request.refresh }
      faults := { t.faults with deferred := s.faults.deferred } })

/-- POR leaves the reset state, and the reset state holds the values the manual gives. The levels of the input pins and
the waiting commands are not the station's (log 1). -/
def Obligations.PowerOnReset : Prop :=
  (∀ s : State, exec .por s = .next { State.reset with pins := s.pins, pending := s.pending }) ∧
  State.reset.agreement = Agreement.blank ∧ Agreement.blank.phase = .loading ∧ Agreement.blank.believed = none ∧
  Agreement.blank.restImage = false ∧ Agreement.blank.number = none ∧ Agreement.blank.record = none ∧
  Agreement.blank.history = [] ∧ Agreement.blank.lateProposals = 0 ∧ Agreement.blank.streaks = ⟨0, 0, 0, 0⟩ ∧
  State.reset.time = 0 ∧ State.reset.link.integrated = false ∧ State.reset.link.receiveErrors = 0 ∧
  (∀ k, State.reset.slot k = Slot.blank) ∧
  (∀ i, State.reset.peerAt i = Peer.blank) ∧ Peer.blank.presence = .absent ∧ Peer.blank.misses = 0 ∧
  State.reset.presence.barring = 0 ∧ State.reset.presence.muteCause = .none ∧ State.reset.presence.beat = none ∧
  State.reset.presence.debt = 0 ∧ State.reset.executor = Executor.idle ∧ Executor.idle.stack = [] ∧
  Executor.idle.sub = .idle ∧ Executor.idle.halted = false ∧
  (∀ ch, State.reset.rail ch = Rail.still .off ∧ State.reset.enable ch = .low) ∧ (∀ i, State.reset.signal i = .low) ∧
  State.reset.channel.corrections = 0 ∧ State.reset.wake.queue = [] ∧ State.reset.wake.mark = none ∧
  State.reset.wake.pressed = false ∧ State.reset.request.latch = none ∧ State.reset.request.underVote = none ∧
  State.reset.request.refresh = 0 ∧ State.reset.reqack = false ∧ State.reset.request.result = .low ∧
  State.reset.faults.latched = [] ∧ State.reset.faults.unrecorded = 0 ∧ State.reset.faults.deferred = [] ∧
  State.reset.loader.image = none ∧ State.reset.loader.resetCause = .por ∧ State.reset.port.selected = none ∧
  State.reset.attn = false ∧ State.reset.stateOk = false ∧ State.reset.slk = none ∧ State.reset.chipSelect = true ∧
  State.reset.spiAddress = some 0

/-- A pin reset, and a RESTART written to the port's address where the port answers, hold every output at its level,
keep the latched list with its unrecorded count and the outcome history, and return everything else to its reset
value: SLK is released and the image is read again. The plan signature 0 is the model's choice (log 47). A RESTART
that the port does not answer is not acknowledged and does nothing. -/
def Obligations.WarmResetKeepsOutputsAndRecords : Prop :=
  (∀ (c : Instr) (cause : ResetCause) (s : State),
    (c = .pinReset ∧ cause = .pinReset) ∨ (∃ w, c = .restart w ∧ cause = .restart ∧ s.answers w.addr = true) →
    ∃ t, exec c s = .next t ∧
      (∀ ch, t.enable ch = s.enable ch ∧ t.rail ch = Rail.still (if s.enable ch = .high then .on else .off)) ∧
      (∀ i, t.signal i = s.signal i ∧ (t.signalAt i).pulse = none) ∧ t.channel.corrections = 0 ∧
      (∀ i, tabGet t.channel.awaits i = none) ∧ t.channel.waitCounter = none ∧
      t.faults = { s.faults with deferred := [] } ∧ t.agreement = { Agreement.blank with history := s.agreement.history } ∧
      t.loader = { image := none, signature := 0, resetCause := cause, bytesRead := none } ∧ t.time = 0 ∧
      t.link = Link.blank ∧ t.presence = Presence.blank ∧ t.executor = Executor.idle ∧ t.wake = WakeUnit.blank ∧
      t.request = RequestUnit.blank ∧ t.port.selected = none ∧ t.pins = s.pins ∧ t.slk = none ∧
      t.chipSelect = true ∧ t.spiAddress = some 0) ∧
  ∀ (w : PortWrite) (s : State), s.answers w.addr = false →
    exec (.restart w) s = .next { s with port := { s.port with acks := [false] } }

/-- Load done with an image that passes every check: the bytes read are those of its length field and the chip select is
released, the tables are filled, the phase is CENSUS, a CENSUS is queued, the census window and the beat timer run, and the
rail channels that are not enabled are low. Integration then lets it take part on the link; without a loaded image it
changes nothing (log 4). -/
def Obligations.LoadDoneStartsCensus : Prop :=
  (∀ (i : Image) (s : State), s.agreement.phase = .loading → imageValid i = true →
    ∃ t, exec (.loadDone i) s = .next t ∧ t.agreement = { s.agreement with phase := .census } ∧
      t.loader = { s.loader with
        image := some i, signature := crc16 i.systemBytes, bytesRead := some (word16 i.header 2) } ∧
      t.chipSelect = false ∧ t.spiAddress = none ∧
      (t.slot .census).queued =
        some (.ready ⟨⟨i.stationId, 0, .census (crc16 i.systemBytes) s.loader.resetCause⟩, false⟩) ∧
      t.presence = { s.presence with
        censusWindow := some i.system.censusWindow, beat := some i.system.beatLow,
        beatTimer := some i.system.beatLow, debt := 0 } ∧
      (∀ ch, (tabGet i.station.rails ch).enabled = true → t.rail ch = s.rail ch) ∧
      (∀ ch, (tabGet i.station.rails ch).enabled = false → t.enable ch = .low) ∧
      t.channel = { s.channel with rails := t.channel.rails } ∧ t.executor = s.executor ∧ t.faults = s.faults) ∧
  ∀ s : State,
    (s.agreement.phase.loaded = true →
      exec .integration s = .next { s with link := { s.link with integrated := true } }) ∧
    (s.agreement.phase.loaded = false → exec .integration s = .next s)

/-- A failed check, told by LOAD_FAILURE or found in the image of LOAD_DONE (log 8), leads from LOADING to CONFIG_FAULT
with every output low, SLK and the chip select released. The image that LOAD_DONE brings tells how many bytes were read: its
length field's number, or those up to the header check that ended the read (log 44). Outside LOADING neither event changes
anything (log 4). -/
def Obligations.FailedLoadIsConfigFault : Prop :=
  (∀ s : State, s.agreement.phase = .loading → exec .loadFailure s =
    .next { s with agreement := { s.agreement with phase := .configFault }, channel := Channel.blank }) ∧
  (∀ (i : Image) (s : State), imageValid i = false → s.agreement.phase = .loading → exec (.loadDone i) s =
    .next { s with
      agreement := { s.agreement with phase := .configFault }, channel := Channel.blank
      loader := { s.loader with bytesRead := some (readLength i.header) } }) ∧
  (∀ header : List Byte,
    (header.take 2 ≠ [0x5A, 0x53] → readLength header = 2) ∧
    (header.take 2 = [0x5A, 0x53] → word16 header 2 < 13 ∨ 2048 < word16 header 2 → readLength header = 4) ∧
    (header.take 2 = [0x5A, 0x53] → 13 ≤ word16 header 2 → word16 header 2 ≤ 2048 →
      readLength header = (if 7 < (header.getD 4 0).toNat then 5
        else if 13 + word16 header 5 + word16 header 7 + word16 header 9 = word16 header 2 then word16 header 2
        else 11))) ∧
  (∀ s : State, s.agreement.phase = .configFault → s.slk = none ∧ s.chipSelect = false ∧ s.spiAddress = none ∧
    s.attn = false ∧ s.stateOk = false ∧ ∀ a, s.answers a = false) ∧
  ∀ (c : Instr) (s : State), c.endsLoad = true → s.agreement.phase ≠ .loading → exec c s = .next s

/-! ### The link -/

/-- At an idle point the queued frame of lowest class moves to the sending place of its slot, a BEAT composed now,
nothing else changes, and its bits go out on SLK. A BEAT carries the number it was filled with (DEDUCED, log 53), the
believed state, 0 in CENSUS, the open flag, the phase, the fault summary and the peers held EXCLUDED. Off the link,
with a frame being sent, or with nothing queued, nothing starts. SLK is released where no frame is being sent, and off
the link. -/
def Obligations.LowestClassStarts : Prop :=
  (∀ (s : State) (k : FrameKind) (q : Queued), s.onLink = true → (∀ j, (s.slot j).sending = none) →
    (s.slot k).queued = some q → (∀ j, j.class < k.class → (s.slot j).queued = none) →
    ∃ t, exec .frameStart s = .next t ∧
      t.slot k = { s.slot k with queued := none, sending := some (s.startedFrame q) } ∧
      (∀ j, j ≠ k → t.slot j = s.slot j) ∧
      t = { s with link := { s.link with slots := t.link.slots } } ∧ t.slk = some (s.startedFrame q).frame.line) ∧
  (∀ (s : State) (r : Ready), s.startedFrame (.ready r) = r) ∧
  (∀ (n : TxnNumber) (s : State), ∃ b, s.startedFrame (.beatDue n) = s.ownReady n (.beat b) ∧
    (s.agreement.phase = .census → b.state.code = 0) ∧
    (s.agreement.phase ≠ .census → ∀ st, s.agreement.believed = some st → b.state = st) ∧
    (b.openFlag = true ↔ s.agreement.phase = .voting ∨ s.agreement.phase = .staging ∨ s.agreement.phase = .unwinding ∨
      s.agreement.phase = .descending ∨ (s.agreement.phase = .mute ∧ s.recordOpen = true)) ∧
    b.phase = s.agreement.phase ∧ b.summary = s.faultSummary ∧
    ∀ i, setHas b.exclusion i = true ↔ i ≠ s.me ∧ (s.peerAt i).presence = .excluded) ∧
  (∀ s : State, s.onLink = false ∨ (∀ j, (s.slot j).sending = none) → s.slk = none) ∧
  ∀ s : State, s.onLink = false ∨ (∃ j, (s.slot j).sending ≠ none) ∨ (∀ j, (s.slot j).queued = none) →
    exec .frameStart s = .next s

/-- The fault summary of a BEAT is read as it is composed, and follows the two lists; the fault cause of ATTN is
present while the latched list is not empty, and the list is kept by a pin reset and a RESTART (R104). -/
def Obligations.FaultSummaryAndAttn : Prop :=
  (∀ (n : TxnNumber) (s : State), (s.slot .beat).queued = some (.beatDue n) → s.onLink = true → (∀ j, (s.slot j).sending = none) →
    (∀ j, j.class < FrameKind.beat.class → (s.slot j).queued = none) →
    ∃ t r b, exec .frameStart s = .next t ∧ (t.slot .beat).sending = some r ∧ r.frame.sender = s.me ∧
      r.frame.body = .beat b ∧ b.summary = s.faultSummary) ∧
  (∀ s : State,
    ((∃ e ∈ s.faults.latched, e.severity = .severe) → s.faultSummary = 2) ∧
    ((∀ e ∈ s.faults.latched, e.severity ≠ .severe) → s.faults.deferred ≠ [] → s.faultSummary = 3) ∧
    ((∀ e ∈ s.faults.latched, e.severity ≠ .severe) → s.faults.deferred = [] → s.faults.latched ≠ [] →
      s.faultSummary = 1) ∧
    (s.faults.latched = [] → s.faults.deferred = [] → s.faultSummary = 0)) ∧
  (∀ s : State, s.agreement.phase.loaded = true →
    (s.attn = true ↔ s.faults.latched ≠ [] ∨ ∃ e ∈ s.agreement.history, e.isNew = true)) ∧
  (∀ s : State, s.agreement.phase.loaded = false → s.attn = false) ∧
  ∀ (c : Instr) (s : State), c = .pinReset ∨ (∃ w, c = .restart w) →
    ∃ t, exec c s = .next t ∧ t.faults.latched = s.faults.latched

/-- Bitwise arbitration: a station loses exactly to a lower value, and then stops sending: with no purge mark and no newer
frame, its frame is queued again with the count it had, and no other slot changes. At a PROPOSE or a WAKE the owner then
tests for a new one (R22, R124), and for every other kind nothing else changes. A station whose value is not beaten (the
model's choice, log 11), or that sends nothing, changes nothing. On SLK a sender that reads back every bit as sent drives its
dominant bits and no others; one that reads another bit back in the arbitration field drives nothing behind that bit, and at
a mismatch it holds the line dominant from the next bit through its reject slot and two end bits. -/
def Obligations.LosingFrameIsQueuedAgain : Prop :=
  (∀ (own : Nat) (winner : BitVec 6), own < 64 → (losesTo own winner = true ↔ winner.toNat < own)) ∧
  (∀ (winner : BitVec 6) (s : State) (k : FrameKind) (r : Ready), s.sendingKind = some k →
    (s.slot k).sending = some r →
    (losesTo (s.sendingValue k) winner = true → ∃ t, exec (.lostArbitration winner) s = .next t ∧
      (t.slot k).sending = none ∧
      ((s.slot k).purgeMark = false → (s.slot k).queued = none →
        (∀ j, j ≠ k → t.slot j = s.slot j) ∧
        ∃ s', s' = s.withSlot k
            { queued := some (.ready r), sending := none, rejections := (s.slot k).rejections, purgeMark := false } ∧
          (k = .propose → t = testPropose s' ∧ ((∀ l, s.request.latch = some l → l.queued = true) → t = s')) ∧
          (k = .wake → t = testAnnounce s' ∧ (s.wake.mark.isSome = true → t = s')) ∧
          (k ≠ .propose → k ≠ .wake → t = s')) ∧
      t = { s with link := { s.link with slots := t.link.slots }, wake := { s.wake with mark := t.wake.mark },
                   request := { s.request with latch := t.request.latch } }) ∧
    (losesTo (s.sendingValue k) winner = false → exec (.lostArbitration winner) s = .next s)) ∧
  (∀ (f : Frame) (read : List Bool) (m p : Nat) (b : Bool), (∀ q, q < m → read[q]? = f.line[q]?) →
    f.line[m]? = some b → read[m]? = some (!b) →
    (m < 7 → (f.holds read p = true ↔ p ≤ m ∧ f.line[p]? = some false)) ∧
    (7 ≤ m → m < f.rejectSlot →
      (f.holds read p = true ↔ (p ≤ m ∧ f.line[p]? = some false) ∨ (m < p ∧ p ≤ f.rejectSlot + 2)))) ∧
  (∀ (f : Frame) (read : List Bool) (p : Nat), (∀ q, q < f.rejectSlot → read[q]? = f.line[q]?) →
    (f.holds read p = true ↔ f.line[p]? = some false)) ∧
  ∀ (winner : BitVec 6) (s : State), s.sendingKind = none → exec (.lostArbitration winner) s = .next s

/-- A rejected frame: its sender queues it again with the rejection count one higher, below the eighth, and at a
PROPOSE or a WAKE the owner then tests for a new one. With a purge mark, or with a newer frame waiting, a frame
rejected or beaten in arbitration is dropped instead and its owner told: a WAKE clears the announcing mark, a PROPOSE
of the latched request makes the latch wait again, and a forced PROPOSE is queued again while a long press still
applies (log 20). A station that is not sending only counts its own finding, as does one that discards a delivered
frame alone; if that frame is its own, its sending place empties (log 46). Off the link nothing changes. The eighth
rejection of one frame in a row latches LINK_FAULT as SEVERE and makes the station MUTE with every slot empty, so that
no FAULT is sent, also where the frame carries a purge mark (the model's choice, log 55). A MUTE station rejects
nothing. -/
def Obligations.RejectedFrameIsSentAgain : Prop :=
  (∀ (rx : Reception) (s s' : State) (k : FrameKind) (r : Ready), s.onLink = true → s.sendingKind = some k →
    (s.slot k).sending = some r → (s.slot k).purgeMark = false → (s.slot k).queued = none →
    (s.slot k).rejections < 7 → s' = (judgeReception rx s).withSlot k
      { queued := some (.ready r), sending := none, rejections := (s.slot k).rejections + 1, purgeMark := false } →
    (k ≠ .propose → k ≠ .wake → exec (.frameRejected rx) s = .next s') ∧
    (k = .propose → exec (.frameRejected rx) s = .next (testPropose s') ∧
      ((∀ l, s.request.latch = some l → l.queued = true) → exec (.frameRejected rx) s = .next s')) ∧
    (k = .wake → exec (.frameRejected rx) s = .next (testAnnounce s') ∧
      (s.wake.mark.isSome = true → exec (.frameRejected rx) s = .next s'))) ∧
  (∀ (c : Instr) (winner : BitVec 6) (rx : Reception) (s s₀ s' : State) (k : FrameKind) (r : Ready),
    s.onLink = true → s.sendingKind = some k → (s.slot k).sending = some r → r.frame.body.kind = k →
    (c = .lostArbitration winner ∧ losesTo (s.sendingValue k) winner = true ∧ s₀ = s) ∨
      (c = .frameRejected rx ∧ (s.slot k).rejections < 7 ∧ s₀ = judgeReception rx s) →
    (s.slot k).purgeMark = true ∨ (s.slot k).queued.isSome = true →
    s' = s₀.withSlot k { queued := (s.slot k).queued, sending := none, rejections := 0, purgeMark := false } →
    (k ≠ .propose → k ≠ .wake → exec c s = .next s') ∧
    (k = .wake → exec c s = .next (testAnnounce { s' with wake := { s'.wake with mark := none } })) ∧
    (∀ kd img, r.frame.body = .propose kd false img →
      (kd = .demote ∨ r.forReplaced = true → exec c s = .next (testPropose s')) ∧
      (kd ≠ .demote → r.forReplaced = false → exec c s = .next (testPropose { s' with
        request := { s'.request with latch := s.request.latch.map fun l => { l with queued := false } } }))) ∧
    (∀ kd img, r.frame.body = .propose kd true img →
      (s.votingOrStaging = false ∨ (s.slot k).queued.isSome = true → exec c s = .next (testPropose s')) ∧
      (s.votingOrStaging = true → (s.slot k).queued = none → ∃ t, exec c s = .next t ∧
        t.hasQueued .propose s.nextNumber (.propose .enterOff true false)))) ∧
  (∀ (rx : Reception) (s : State) (k : FrameKind), s.onLink = true → s.sendingKind = some k →
    exec (.discardedAtThisStationAlone rx) s = .next ((judgeReception rx s).withSlot k
      { queued := (s.slot k).queued, sending := none, rejections := 0, purgeMark := false })) ∧
  (∀ (c : Instr) (rx : Reception) (s : State), s.onLink = true → s.sendingKind = none →
    c = .frameRejected rx ∨ c = .discardedAtThisStationAlone rx →
    exec c s = .next { s with link := { s.link with
      receiveErrors := if rx.inError s.system.linkRate then min (s.link.receiveErrors + 1) 65535
        else s.link.receiveErrors } }) ∧
  (∀ (c : Instr) (rx : Reception) (s : State), s.onLink = false →
    c = .frameRejected rx ∨ c = .discardedAtThisStationAlone rx → exec c s = .next s) ∧
  ∀ (rx : Reception) (s : State) (k : FrameKind), s.onLink = true → s.sendingKind = some k →
    7 ≤ (s.slot k).rejections →
    ∃ t, exec (.frameRejected rx) s = .next t ∧ t.agreement.phase = .mute ∧ t.presence.muteCause = .linkFault ∧
      (∀ j, t.slot j = Slot.blank) ∧ LatchedFirst s t .linkFault noTarget .severe ∧ ∀ other, t.rejects other = false

/-- The form check: the covered bits of a well-formed frame read back as that frame, and no other bits are read as a
frame at all. -/
def Obligations.ReadFrameInvertsCovered : Prop :=
  ∀ (bits : List Bool) (f : Frame), readFrame bits = some f ↔ f.wellFormed = true ∧ bits = f.covered

/-- A receiver finds a well-formed frame in error exactly when its check differs from the CRC-8 of the covered bits or an
edge is farther than a quarter of a bit time from its boundary, and covered bits that are those of no well-formed frame always,
whatever their check and their edges: a form error. It then rejects the frame: it holds SLK dominant through the reject slot
and two end bits, and after a length error from the bit behind the error on, for at least one bit. A station that finds no
error, or is MUTE, holds SLK only where its own frame does. -/
def Obligations.ReceiverJudgesCheckAndEdges : Prop :=
  (∀ (s : State) (read : List Bool) (rx : Reception) (metAt p : Nat),
    (s.onLink = false → s.holdsSlk read rx metAt p = false) ∧
    (s.onLink = true → s.agreement.phase = .mute ∨ rx.inError s.system.linkRate = false →
      (s.sendingKind = none → s.holdsSlk read rx metAt p = false) ∧
      ∀ k r, s.sendingKind = some k → (s.slot k).sending = some r →
        s.holdsSlk read rx metAt p = r.frame.holds read p) ∧
    (s.onLink = true → s.agreement.phase ≠ .mute → s.sendingKind = none →
      ((∃ d ∈ rx.edges, s.system.linkRate.bitTime / 4 < d) →
        (s.holdsSlk read rx metAt p = true ↔ metAt < p ∧ (p ≤ rx.bits.length + 3 ∨ p = metAt + 1))) ∧
      ((∀ d ∈ rx.edges, d ≤ s.system.linkRate.bitTime / 4) → rx.inError s.system.linkRate = true →
        (s.holdsSlk read rx metAt p = true ↔ rx.bits.length + 1 ≤ p ∧ p ≤ rx.bits.length + 3)))) ∧
  (∀ (f : Frame) (chk : BitVec 8) (edges : List Nat) (rate : LinkRate), f.wellFormed = true →
    (Reception.inError rate ⟨f.covered ++ fieldBits 8 chk.toNat, edges⟩ = true ↔
      chk ≠ crc8 f.covered ∨ ∃ d ∈ edges, rate.bitTime / 4 < d)) ∧
  ∀ (bits : List Bool) (chk : BitVec 8) (edges : List Nat) (s : State),
    (∀ f : Frame, f.wellFormed = true → bits ≠ f.covered) →
    Reception.inError s.system.linkRate ⟨bits ++ fieldBits 8 chk.toNat, edges⟩ = true ∧
      (s.onLink = true → s.agreement.phase ≠ .mute → s.rejects ⟨bits ++ fieldBits 8 chk.toNat, edges⟩ = true)

/-! ### Deliveries: who is heard -/

/-- A delivery to a station that is not on the link changes nothing, nor does a delivered frame other than CENSUS from an
EXCLUDED peer. A frame that R8 makes stale or has ignored (`State.discards`: in a phase that takes none of its kind, or a VOTE,
STAGE or ABORT of another number, of a station that does not participate or with a stage outside 1 to S, a VOTE of the
originator or a second one, an ABORT of a committed transaction) leaves the agreement engine, the executor, the channels, the
faults and everything else: only the slots with what their owners do, the sender's entry of the peer table and the debt that an
own frame pays can change. -/
def Obligations.UnheardDeliveriesChangeNothing : Prop :=
  ∀ (c : Instr) (i : StationId) (s : State), c.deliveredFrom = some i →
    (s.onLink = false → exec c s = .next s) ∧
    (c.isCensus = false → i ≠ s.me → (s.peerAt i).presence = .excluded → exec c s = .next s) ∧
    (s.takes i → s.discards c →
      ∃ t, exec c s = .next t ∧ t.agreement = s.agreement ∧ t.executor = s.executor ∧ t.channel = s.channel ∧
        t.faults = s.faults ∧ t = s.withDeliveryOf t ∧ ∀ j, j ≠ i → t.peerAt j = s.peerAt j)

/-- A delivered frame other than CENSUS makes its sender PRESENT and starts its silence timer at five times T_beat; no
other entry of the peer table changes. ABORT stands apart: ABORT(NO_QUORUM) counts misses. -/
def Obligations.HeardPeerIsPresent : Prop :=
  ∀ (c : Instr) (i : StationId) (s : State), c.deliveredFrom = some i → c.isCensus = false →
    (∀ n r, c ≠ .abortDelivered i n r) → s.hears i →
    ∃ t, exec c s = .next t ∧ (t.peerAt i).presence = .present ∧
      (t.peerAt i).silence = some (5 * s.presence.beat.getD 0) ∧ ∀ j, j ≠ i → t.peerAt j = s.peerAt j

/-! ### Deliveries: openings -/

/-- A valid non-forced PROPOSE in SETTLED opens the next number in VOTING: the record as R11 gives it, with the
participants frozen, the vote timed by the window at the originator and by the guard elsewhere, and the VOTE of the vote
policy queued at every other station: the first of its seven rows that matches. Every queued PROPOSE and WAKE is purged, and
its owner told. Where nobody is awaited the vote is decided at the opening: ACCEPTED, in STAGING. -/
def Obligations.ProposeOpensVoting : Prop :=
  (∀ (inh : Inhibits) (k : Kind) (s : State),
    (s.inhibitedTo inh k .decline → s.votePolicy inh k = .decline .inhibit) ∧
    (¬ s.inhibitedTo inh k .decline →
      (s.request.lockout.isSome = true → k.isEntry = true → s.votePolicy inh k = .decline .lockout) ∧
      (s.request.lockout = none ∨ k.isEntry = false →
        (s.request.refresh ≠ 0 → s.votePolicy inh k = .decline .refreshPending) ∧
        (s.request.refresh = 0 →
          ((∃ e ∈ s.faults.latched, e.severity = .severe) → s.votePolicy inh k = .decline .faultPending) ∧
          ((∀ e ∈ s.faults.latched, e.severity ≠ .severe) →
            (k = .demote → s.agreement.restImage = false → s.votePolicy inh k = .decline .noImage) ∧
            (k ≠ .demote ∨ s.agreement.restImage = true →
              (s.inhibitedTo inh k .defer → s.votePolicy inh k = .defer) ∧
              (¬ s.inhibitedTo inh k .defer → s.votePolicy inh k = .accept))))))) ∧
  (∀ (i : StationId) (num n : TxnNumber) (k : Kind) (img : Bool) (inh : Inhibits) (s : State),
    s.takes i → s.agreement.phase = .settled → s.agreement.number = some n → ¬ s.awaitsSome i →
    (s.agreement.believed = some .run ∧ k.isEntry = true) ∨ (s.agreement.believed = some .rest ∧ k = .demote) →
    ∃ t r, exec (.proposeDelivered i num k img inh) s = .next t ∧ t.agreement.phase = .staging ∧
      t.agreement.number = some (n + 1) ∧ t.agreement.record = some r ∧ r.number = n + 1 ∧ r.kind = k ∧
      r.forced = false ∧ r.originator = i ∧ r.outcome = .accepted ∧ r.openedAt = s.time ∧ r.acceptedAt = some s.time ∧
      (r.committed = true ↔ s.commitStage k = 0) ∧
      (∀ j, setHas r.participants j = (j == s.me || j == i || s.isPresent j)) ∧
      t.agreement.voteWindow = none ∧ t.agreement.voteGuard = none ∧ streakOf t.agreement.streaks k = 0 ∧
      (∀ q, (t.slot .vote).queued = some (.ready q) → q.frame.number ≠ n + 1) ∧
      OpeningPurges s t ∧ (¬ s.sends ⟨i, num, .propose k false img⟩ → OwnersToldOfPurge s t) ∧
      t.agreement.believed = s.agreement.believed ∧ t.agreement.history = s.agreement.history ∧ t.faults = s.faults) ∧
  ∀ (i : StationId) (num n : TxnNumber) (k : Kind) (img : Bool) (inh : Inhibits) (s : State),
    s.takes i → s.agreement.phase = .settled → s.agreement.number = some n → s.awaitsSome i →
    (s.agreement.believed = some .run ∧ k.isEntry = true) ∨ (s.agreement.believed = some .rest ∧ k = .demote) →
    ∃ t r, exec (.proposeDelivered i num k img inh) s = .next t ∧ t.agreement.phase = .voting ∧
      t.agreement.number = some (n + 1) ∧ t.agreement.record = some r ∧ r.number = n + 1 ∧ r.kind = k ∧
      r.forced = false ∧ r.imageBacked = (img && k == .enterRest) ∧ r.originator = i ∧ r.outcome = .opened ∧
      r.openedAt = s.time ∧
      (∀ j, setHas r.participants j = (j == s.me || j == i || s.isPresent j)) ∧
      r.consent = r.participants &&& s.system.required ∧
      (∀ j, tabGet r.votes j = if j = i then some .accept else none) ∧
      (i = s.me → t.agreement.voteWindow = some s.system.voteWindow) ∧
      (i ≠ s.me → t.agreement.voteGuard = some (2 * s.system.voteWindow) ∧
        t.hasQueued .vote (n + 1) (.vote (s.votePolicy inh k))) ∧
      OpeningPurges s t ∧ (¬ s.sends ⟨i, num, .propose k false img⟩ → OwnersToldOfPurge s t) ∧
      t.agreement.believed = s.agreement.believed ∧ t.agreement.history = s.agreement.history ∧
      t.executor = s.executor ∧ t.channel = s.channel ∧ t.faults = s.faults

/-- The own PROPOSE made for the latched request is delivered and opens: the request goes under vote, unanswered, with the
count of REQACK pulses as it was (the model's choice, log 12), and the latch is absent. Every queued PROPOSE and WAKE is
purged. -/
def Obligations.OwnProposeGoesUnderVote : Prop :=
  ∀ (num n : TxnNumber) (k : Kind) (img : Bool) (inh : Inhibits) (l : Latch) (s : State),
    s.onLink = true → s.agreement.phase = .settled → s.agreement.believed = some .run → k.isEntry = true →
    s.agreement.number = some n → s.awaitsSome s.me → s.request.latch = some l →
    (s.slot .propose).sending = some (s.ownReady num (.propose k false img)) →
    ∃ t, exec (.proposeDelivered s.me num k img inh) s = .next t ∧ t.agreement.phase = .voting ∧
      t.request.latch = none ∧ t.request.underVote = some l.request ∧ (t.slot .propose).sending = none ∧
      t.presence.debt = 0 ∧ OpeningPurges s t ∧ Answered s t .low 0

/-- An opening frame that comes too late, or whose kind is not valid from the believed state, opens nothing: the
late-proposal count rises and nothing else of the agreement engine changes, nor anything but the slots, their owners, the
sender's entry of the peer table and the debt that an own frame pays. A forced PROPOSE of another kind than ENTER_OFF is late in
SETTLED, VOTING, STAGING, UNWINDING and DESCENDING, and in MUTE where ENTER_OFF would open a silent descent (DEDUCED, log 22).
The station's own PROPOSE so discarded makes the latched request wait again. Its own WAKE that opens nothing clears the
announcing mark and leaves the wake queue; in SETTLED the announcement is then tested again. -/
def Obligations.LateOpeningsAreCounted : Prop :=
  (∀ (c : Instr) (i : StationId) (s : State), s.takes i →
    (∃ num k img inh, c = .proposeDelivered i num k img inh ∧
      (s.agreement.phase = .voting ∨ s.agreement.phase = .staging ∨ s.agreement.phase = .unwinding ∨
        s.agreement.phase = .descending ∨
        (s.agreement.phase = .settled ∧ proposeValid k s.agreement.believed = false))) ∨
    (∃ num w x, c = .wakeDelivered i num w x ∧ s.agreement.phase = .settled ∧
      wakeValid w s.agreement.believed = false) ∨
    (∃ num k img, c = .forcedProposeDelivered i num k img ∧
      (s.agreement.phase = .descending ∨
        (k ≠ .enterOff ∧ s.agreement.number.isSome = true ∧
          (s.agreement.phase = .settled ∨ s.agreement.phase = .voting ∨ s.agreement.phase = .staging ∨
            s.agreement.phase = .unwinding ∨
            (s.agreement.phase = .mute ∧ s.recordOpen = false ∧ s.agreement.believed.isSome = true))))) →
    ∃ t, exec c s = .next t ∧
      t.agreement = { s.agreement with lateProposals := min (s.agreement.lateProposals + 1) 255 } ∧
      t.executor = s.executor ∧ t.channel = s.channel ∧ t.faults = s.faults ∧
      t = { s.withDeliveryOf t with agreement := t.agreement }) ∧
  (∀ (num : TxnNumber) (k : Kind) (img : Bool) (inh : Inhibits) (r : Ready) (l : Latch) (s : State), s.onLink = true →
    s.agreement.phase = .voting ∨ s.agreement.phase = .staging ∨ s.agreement.phase = .unwinding ∨
      s.agreement.phase = .descending →
    (s.slot .propose).sending = some r → r.frame = s.ownFrame num (.propose k false img) → k ≠ .demote →
    r.forReplaced = false → s.request.latch = some l →
    ∃ t, exec (.proposeDelivered s.me num k img inh) s = .next t ∧
      t.request = { s.request with latch := some { l with queued := false } } ∧ (t.slot .propose).sending = none) ∧
  ∀ (num : TxnNumber) (w : WakeTarget) (x : Fin 8) (s : State), s.onLink = true →
    s.sends (s.ownFrame num (.wake w x)) →
    ((s.agreement.phase = .settled ∧ wakeValid w s.agreement.believed = false) ∨
      s.discards (.wakeDelivered s.me num w x)) →
    ∃ t, exec (.wakeDelivered s.me num w x) s = .next t ∧ t.wake = { s.wake with mark := t.wake.mark } ∧
      (t.slot .wake).sending = none ∧ (s.agreement.phase ≠ .settled → t.wake.mark = none) ∧
      (s.agreement.phase = .settled →
        (∀ e, IsOldestPending s.wake.queue e → s.gatesOpen → t.announces e.input) ∧
        (¬ s.gatesOpen → t.wake.mark = none))

/-- A FAULT, or a forced PROPOSE of ENTER_OFF, in SETTLED opens a forced descent: the next number, a forced ENTER_OFF
record with the frozen participants, and DESCENDING with the believed state kept. Every queued PROPOSE, WAKE and
FAULT(PEER_LOST) is purged. In MUTE, with no descent open and a
believed state known, it opens a silent descent: MUTE stays and no STAGE is queued. -/
def Obligations.ForcedFrameOpensDescent : Prop :=
  (∀ (c : Instr) (i : StationId) (cause : OpeningCause) (fl : List (FaultCode × StationId)) (n : TxnNumber) (s : State),
    (∃ num code tgt, c = .faultDelivered i num code tgt ∧ cause = .fault ∧ fl = [(code, i)]) ∨
    (∃ num img, c = .forcedProposeDelivered i num .enterOff img ∧ cause = .forcedPropose ∧ fl = []) →
    s.takes i → s.agreement.phase = .mute → s.recordOpen = false → s.agreement.believed.isSome = true →
    s.agreement.number = some n →
    ∃ t r, exec c s = .next t ∧ t.agreement.phase = .mute ∧ t.silentDescent = true ∧ t.agreement.number = some (n + 1) ∧
      t.agreement.record = some r ∧ OpensDescent s r (n + 1) cause i fl ∧
      (∀ j, setHas r.participants j = (j == s.me || j == i || s.isPresent j)) ∧
      (t.slot .stage).queued = (s.slot .stage).queued ∧ OpeningPurges s t ∧ OwnersToldOfPurge s t ∧
      t.agreement.believed = s.agreement.believed ∧ t.agreement.history = s.agreement.history ∧ t.faults = s.faults) ∧
  ∀ (c : Instr) (i : StationId) (cause : OpeningCause) (fl : List (FaultCode × StationId)) (n : TxnNumber) (s : State),
    (∃ num code tgt, c = .faultDelivered i num code tgt ∧ cause = .fault ∧ fl = [(code, i)]) ∨
    (∃ num img, c = .forcedProposeDelivered i num .enterOff img ∧ cause = .forcedPropose ∧ fl = []) →
    s.takes i → s.agreement.phase = .settled → s.agreement.number = some n →
    ∃ t r, exec c s = .next t ∧ t.agreement.phase = .descending ∧ t.agreement.number = some (n + 1) ∧
      t.agreement.record = some r ∧ OpensDescent s r (n + 1) cause i fl ∧
      (∀ j, setHas r.participants j = (j == s.me || j == i || s.isPresent j)) ∧
      OpeningPurges s t ∧ OwnersToldOfPurge s t ∧
      t.agreement.believed = s.agreement.believed ∧ t.agreement.history = s.agreement.history ∧ t.faults = s.faults

/-- A FAULT, a forced PROPOSE of ENTER_OFF, or the CENSUS of a participant supersedes a transaction open in VOTING, STAGING
or UNWINDING: it is archived SUPERSEDED, the unwind stack and the deferred list are empty, the request under vote is
absent, answered low with one REQACK pulse where its source is LINES, and the forced descent opens under the next number, every
queued PROPOSE, WAKE and FAULT(PEER_LOST) purged. The count of pulses is the model's choice (log 12). -/
def Obligations.ForcedFrameSupersedes : Prop :=
  ∀ (c : Instr) (i : StationId) (cause : OpeningCause) (fl : List (FaultCode × StationId)) (n : TxnNumber) (r₀ : Record)
    (s : State),
    (∃ num code tgt, c = .faultDelivered i num code tgt ∧ cause = .fault ∧ fl = [(code, i)] ∧ s.takes i) ∨
    (∃ num img, c = .forcedProposeDelivered i num .enterOff img ∧ cause = .forcedPropose ∧ fl = [] ∧ s.takes i) ∨
    (∃ sig rc, c = .censusDelivered i sig rc ∧ cause = .peerRestart ∧ fl = [] ∧ s.onLink = true ∧
      setHas r₀.participants i = true) →
    s.agreement.phase.defers = true → s.agreement.number = some n → s.agreement.record = some r₀ →
    ∃ t r, exec c s = .next t ∧ t.agreement.phase = .descending ∧ t.agreement.number = some (n + 1) ∧
      t.agreement.record = some r ∧ OpensDescent s r (n + 1) cause i fl ∧ Archived s t r₀ .superseded cause.cause ∧
      t.executor.stack = [] ∧ t.faults.deferred = [] ∧ t.request.underVote = none ∧
      Answered s t .low (answersFor s.request.underVote) ∧ OpeningPurges s t ∧ OwnersToldOfPurge s t ∧
      t.agreement.voteWindow = none ∧ t.agreement.voteGuard = none ∧ t.agreement.believed = s.agreement.believed

/-- A valid WAKE in SETTLED opens a wake transaction under the next number, accepted at once, in STAGING; it is committed
at once exactly when C of its kind is 0. Where it is the station's own, the entry that the announcing mark names becomes
ANNOUNCED and the mark is cleared; another's leaves the queue. Every queued PROPOSE and WAKE is purged, and its owner told. -/
def Obligations.WakeOpensStaging : Prop :=
  ∀ (i : StationId) (num n : TxnNumber) (w : WakeTarget) (x : Fin 8) (s : State),
    s.takes i → s.agreement.phase = .settled → s.agreement.number = some n → wakeValid w s.agreement.believed = true →
    ∃ t r, exec (.wakeDelivered i num w x) s = .next t ∧ t.agreement.phase = .staging ∧
      t.agreement.number = some (n + 1) ∧ t.agreement.record = some r ∧ r.number = n + 1 ∧ r.kind = w.kind ∧
      r.forced = false ∧ r.originator = i ∧ r.openingCause = .wake ∧ r.wakeSource = some (i, x) ∧
      r.outcome = .accepted ∧ r.openedAt = s.time ∧ r.acceptedAt = some s.time ∧
      (r.committed = true ↔ s.commitStage w.kind = 0) ∧
      (∀ j, setHas r.participants j = (j == s.me || j == i || s.isPresent j)) ∧
      OpeningPurges s t ∧ (s.sends ⟨i, num, .wake w x⟩ → OwnWakeTaken s t) ∧
      (¬ s.sends ⟨i, num, .wake w x⟩ → OwnersToldOfPurge s t) ∧
      t.wake.demote = none ∧ t.agreement.believed = s.agreement.believed ∧ t.agreement.history = s.agreement.history

/-- A WAKE in DESCENDING closes the descent FORCED_DONE in OFF. A RISE then opens under the next number, with the purges of an
opening and, where it is the station's own, its entry ANNOUNCED (stated where every slot holds frames of its own kind, as in
every state of a run: LinkFits); a RESUME is late and leaves the station SETTLED, with the wake queue evaluated, the settle
signal acted on and, the executor's action abandoned, the outputs corrected toward OFF, behind a rail action still in progress
where there is one (the model's choice, log 18). -/
def Obligations.WakeEndsDescent : Prop :=
  ∀ (i : StationId) (num n : TxnNumber) (w : WakeTarget) (x : Fin 8) (r₀ : Record) (s : State),
    s.takes i → s.agreement.phase = .descending → s.agreement.number = some n → s.agreement.record = some r₀ →
    ∃ t r, exec (.wakeDelivered i num w x) s = .next t ∧ t.agreement.believed = some .off ∧
      Archived s t r₀ .forcedDone r₀.openingCause.cause ∧
      t.wake.faultHold = (if s.system.faultHold = 0 then none else some s.system.faultHold) ∧
      t.agreement.record = some r ∧
      (w = .rise → t.agreement.phase = .staging ∧ t.agreement.number = some (n + 1) ∧ r.kind = .rise ∧
        r.number = n + 1 ∧ r.wakeSource = some (i, x) ∧ OpeningPurges s t ∧
        (s.sends ⟨i, num, .wake w x⟩ → (∀ k, SlotHolds k (s.slot k)) → OwnWakeTaken s t) ∧
        (¬ s.sends ⟨i, num, .wake w x⟩ → OwnersToldOfPurge s t)) ∧
      (w = .resume → t.agreement.phase = .settled ∧ t.agreement.number = some n ∧ r.outcome = .forcedDone ∧
        t.agreement.lateProposals = min (s.agreement.lateProposals + 1) 255 ∧
        Evaluated s t .off ∧ Settled (some (.enterOff, .forcedDone)) s t ∧
        Corrected (abandonWork isExecutor s) t (s.profileRow .off))

/-! ### Deliveries: votes, reports and aborts -/

/-- The first matching VOTE of a participant is written in the vote list, and a peer's miss count becomes 0. Where it does
not decide the vote, nothing else of the agreement engine changes. -/
def Obligations.VoteIsRecorded : Prop :=
  ∀ (i : StationId) (a : Answer) (r r' : Record) (s : State),
    s.hears i → s.agreement.phase = .voting → s.agreement.record = some r → r.matches r.number i = true →
    i ≠ r.originator → tabGet r.votes i = none → r' = { r with votes := tabSet r.votes i (some a) } →
    setHas r.awaited i = false ∨ ((∀ d, a ≠ .decline d) ∧ r'.allVoted = false) →
    ∃ t, exec (.voteDelivered i r.number a) s = .next t ∧ t.agreement = { s.agreement with record := some r' } ∧
      (t.peerAt i).misses = 0 ∧ t.executor = s.executor ∧ t.channel = s.channel ∧ t.faults = s.faults

/-- The VOTE that decides. A DECLINE of an awaited participant closes DECLINED with its reason. The last awaited answer,
without a DEFER that counts, is ACCEPTED: STAGING, with the streak 0, the vote no longer timed, and a queued ABORT of the
number purged, but for an ABORT(WAKE), which is requested again unless C of the kind is 0. A DEFER among the answers
while the streak is below 3 closes DEFERRED and raises the streak. A request of the lines under vote is answered with one REQACK
pulse, RESULT high at ACCEPTED and low at DECLINED; at DEFERRED in RUN it returns to an absent latch, WAITING and unanswered,
else it is answered low, and the defer hold of an entry kind starts. The closes give the settle signal, with the wake queue
evaluated and the outputs corrected toward the row of the believed state, behind a rail action still in progress (the model's
choice, log 18). The count of pulses is the model's choice (log 12). -/
def Obligations.VoteDecides : Prop :=
  ∀ (i : StationId) (a : Answer) (r r' : Record) (s : State),
    s.takes i → s.agreement.phase = .voting → s.agreement.record = some r → r.matches r.number i = true →
    i ≠ r.originator → setHas r.awaited i = true → tabGet r.votes i = none →
    r' = { r with votes := tabSet r.votes i (some a) } →
    (∀ d, a = .decline d → ∃ t, exec (.voteDelivered i r.number a) s = .next t ∧ t.agreement.phase = .settled ∧
      Archived s t r .declined (declineCause d) ∧ streakOf t.agreement.streaks r.kind = 0 ∧
      t.agreement.believed = s.agreement.believed ∧ t.request.underVote = none ∧
      Answered s t .low (answersFor s.request.underVote + latchAnswers s.agreement.believed s.request.latch) ∧
      Settled (some (r.kind, .declined)) s t ∧
      ∀ st, s.agreement.believed = some st → Evaluated s t st ∧ Corrected s t (s.profileRow st)) ∧
    ((∀ d, a ≠ .decline d) → r'.allVoted = true →
      r'.someDefer = false ∨ 3 ≤ streakOf s.agreement.streaks r.kind →
      ∃ t r'', exec (.voteDelivered i r.number a) s = .next t ∧ t.agreement.phase = .staging ∧
        t.agreement.record = some r'' ∧ r''.outcome = .accepted ∧ r''.acceptedAt = some s.time ∧
        r''.number = r.number ∧ r''.votes = r'.votes ∧ streakOf t.agreement.streaks r.kind = 0 ∧
        t.agreement.voteWindow = none ∧ t.agreement.voteGuard = none ∧ t.request.underVote = none ∧
        t.request.latch.map Latch.request = s.request.latch.map Latch.request ∧
        Answered s t .high (answersFor s.request.underVote) ∧
        ∀ q, (s.slot .abort).queued = some (.ready q) → q.frame.number = r.number →
          (∀ x, q.frame.body = .abort (.wake x) → r.committed = false → 1 ≤ s.commitStage r.kind →
            t.hasQueued .abort r.number (.abort (.wake x))) ∧
          (q.frame.body = .abort .noQuorum ∨ q.frame.body = .abort .timeout ∨ s.commitStage r.kind = 0 →
            (t.slot .abort).queued = none)) ∧
    ((∀ d, a ≠ .decline d) → r'.allVoted = true → r'.someDefer = true →
      streakOf s.agreement.streaks r.kind < 3 → r.kind.isWake = false →
      ∃ t, exec (.voteDelivered i r.number a) s = .next t ∧ t.agreement.phase = .settled ∧
        Archived s t r .deferred .inhibit ∧
        streakOf t.agreement.streaks r.kind = streakOf s.agreement.streaks r.kind + 1 ∧
        t.agreement.believed = s.agreement.believed ∧ t.request.underVote = none ∧
        Settled (some (r.kind, .deferred)) s t ∧
        (∀ st, s.agreement.believed = some st → Evaluated s t st ∧ Corrected s t (s.profileRow st)) ∧
        (s.agreement.believed = some .run → r.kind.isEntry = true →
          t.request.deferHold = some s.system.deferHold ∧
          (∀ q, s.request.underVote = some q → s.request.latch = none →
            t.request.latch = some ⟨q, false⟩ ∧ Answered s t .low 0) ∧
          (s.request.underVote = none ∨ s.request.latch.isSome = true →
            t.request.latch.map Latch.request = s.request.latch.map Latch.request ∧
            Answered s t .low (answersFor s.request.underVote))))

/-- A matching STAGE(forward, k) of a participant, in STAGING, in a descent and in a silent descent, enters it in the forward
done-sets of stage k and of every stage below; in STAGING the transaction commits when the set of stage C is full. Stated
where the set of stage S is not full yet. In UNWINDING, full or not, it does no more than that: it starts no stage, commits and
completes nothing and leaves the unwind top. -/
def Obligations.ForwardReportFillsDoneSets : Prop :=
  ∀ (i : StationId) (k : Nat) (r : Record) (s : State),
    s.takes i → s.agreement.record = some r → setHas r.participants i = true → 1 ≤ k → k ≤ s.lastStage r.kind →
    s.agreement.phase = .unwinding ∨
      (setSubset r.participants (doneAt (enterForward r.forward k i) (s.lastStage r.kind)) = false ∧
        ((s.agreement.phase = .staging ∧ r.forced = false) ∨
          (s.agreement.phase = .descending ∨ s.silentDescent = true) ∧ r.forced = true)) →
    ∃ t r', exec (.stageForwardDelivered i r.number k) s = .next t ∧ t.agreement.phase = s.agreement.phase ∧
      t.agreement.record = some r' ∧ r'.forward = enterForward r.forward k i ∧ r'.unwind = r.unwind ∧
      r'.unwindTop = r.unwindTop ∧ (s.agreement.phase = .unwinding → t.executor = s.executor ∧ t.channel = s.channel) ∧
      (∀ m, 1 ≤ m → m ≤ 12 → ∀ j, setHas (doneAt r'.forward m) j =
        (setHas (doneAt r.forward m) j || (j == i && decide (m ≤ k)))) ∧
      (r'.committed = true ↔ r.committed = true ∨ (s.agreement.phase = .staging ∧
        setSubset r.participants (doneAt r'.forward (s.commitStage r.kind)) = true)) ∧
      t.agreement.believed = s.agreement.believed ∧ t.agreement.history = s.agreement.history ∧ t.faults = s.faults

/-- The STAGE(forward, k) that fills the done-set of stage S closes the transaction: a non-forced one COMPLETED, with its
target state believed, a forced one FORCED_DONE in OFF with the fault hold started. The executor returns to IDLE, with an
action still in progress abandoned (the model's choice, log 50). The wake queue is evaluated, and the settle correction brings
every output that differs toward the row of the state then believed, behind a rail action still in progress where there is
one (the model's choice, log 18). The settle signal starts what it is to start: the common window again, the minimum dwell after
ENTER_REST, the lockout and the refreshed-view set after a wake kind, the demote timer in REST with the image flag set, T_beat
and the beat timer where it changed, and PEER_LOST for each SILENT quorum member in RUN and REST; a request in the latch is
proposed in RUN, and cleared and answered low in another state, with one REQACK pulse (the model's choice, log 12). In a silent
descent the STAGE closes it FORCED_DONE in OFF with no settle signal: the outputs stand uncorrected, and the wake queue, the
request unit and the other entries of the peer table as they were. The station stays MUTE, with T_beat as it was (the model's
choice, log 52), or, BARRED with the barring set empty, goes to CENSUS. -/
def Obligations.LastForwardReportCloses : Prop :=
  ∀ (i : StationId) (k : Nat) (r : Record) (s : State),
    s.takes i → s.agreement.record = some r → setHas r.participants i = true → 1 ≤ k → k ≤ s.lastStage r.kind →
    setSubset r.participants (doneAt (enterForward r.forward k i) (s.lastStage r.kind)) = true →
    (s.agreement.phase = .staging → r.forced = false →
      ∃ t, exec (.stageForwardDelivered i r.number k) s = .next t ∧ t.agreement.phase = .settled ∧
        t.agreement.believed = some r.kind.target ∧ Archived s t r .completed r.openingCause.cause ∧
        t.agreement.restImage = (r.kind == .enterRest && r.imageBacked) ∧
        t.executor = Executor.idle ∧ t.faults.deferred = [] ∧ Corrected (endWork s) t (s.profileRow r.kind.target) ∧
        Evaluated s t r.kind.target ∧ Settled (some (r.kind, .completed)) s t ∧
        Answered s t .low (latchAnswers (some r.kind.target) s.request.latch)) ∧
    (s.agreement.phase = .descending → r.forced = true →
      ∃ t, exec (.stageForwardDelivered i r.number k) s = .next t ∧ t.agreement.phase = .settled ∧
        t.agreement.believed = some .off ∧ Archived s t r .forcedDone r.openingCause.cause ∧
        t.agreement.restImage = false ∧
        t.executor = Executor.idle ∧ Corrected (endWork s) t (s.profileRow .off) ∧ Evaluated s t .off ∧
        Settled (some (.enterOff, .forcedDone)) s t ∧ Answered s t .low (latchAnswers (some .off) s.request.latch) ∧
        t.wake.faultHold = (if s.system.faultHold = 0 then none else some s.system.faultHold)) ∧
    (s.silentDescent = true → r.forced = true →
      ∃ t r', exec (.stageForwardDelivered i r.number k) s = .next t ∧
        Archived s t r .forcedDone r.openingCause.cause ∧ t.agreement.record = some r' ∧ r'.outcome = .forcedDone ∧
        r'.missing = r.missing ∧ t.executor = Executor.idle ∧
        t.wake.faultHold = (if s.system.faultHold = 0 then none else some s.system.faultHold) ∧
        (LinkFits s → t.wake.queue = s.wake.queue ∧ t.wake.mark = s.wake.mark ∧ t.request = s.request ∧
          ∀ j, j ≠ i → t.peerAt j = s.peerAt j) ∧
        t.channel.signals = (endWork s).channel.signals ∧ t.channel.corrections = s.channel.corrections ∧
        (∀ ch, (t.rail ch).state = ((endWork s).rail ch).state) ∧
        (s.presence.muteCause ≠ .barred ∨ s.presence.barring ≠ 0 →
          t.agreement.phase = .mute ∧ t.agreement.believed = some .off ∧ t.agreement.number = s.agreement.number ∧
          t.agreement.restImage = false ∧ t.channel = (endWork s).channel ∧
          (LinkFits s → t.link = s.link ∧ t.presence = { s.presence with peers := t.presence.peers } ∧
            t.wake = { s.wake with faultHold := t.wake.faultHold })) ∧
        (s.presence.muteCause = .barred → s.presence.barring = 0 →
          t.agreement.phase = .census ∧ t.agreement.believed = none ∧ t.agreement.number = none ∧
          t.presence.muteCause = .none ∧ t.presence.barredRetry = none ∧
          t.presence.censusWindow = some s.system.censusWindow ∧
          t.hasQueued .census 0 (.census s.loader.signature s.loader.resetCause)))

/-- A matching STAGE(unwind, j) enters its sender in the unwind done-sets of level j and of every level above up to S. In
STAGING, in a descent and in a silent descent it does no more than that. In UNWINDING, when the set of level 1 is full, the
transaction closes ABORTED in the source state, in which the wake queue is evaluated, the outputs are corrected, behind a rail
action still in progress (the model's choice, log 18), and the settle signal is acted on: a request in the latch is cleared and
answered low outside RUN, with one REQACK pulse (the model's choice, log 12). An action still in progress is abandoned (the
model's choice, log 50). -/
def Obligations.UnwindReportFillsDoneSets : Prop :=
  ∀ (i : StationId) (j : Nat) (r : Record) (s : State),
    s.takes i → s.agreement.record = some r → setHas r.participants i = true → 1 ≤ j → j ≤ s.lastStage r.kind →
    (∀ m, 1 ≤ m → m ≤ 12 → ∀ x, setHas (doneAt (enterUnwind r.unwind j (s.lastStage r.kind) i) m) x =
      (setHas (doneAt r.unwind m) x || (x == i && decide (j ≤ m) && decide (m ≤ s.lastStage r.kind)))) ∧
    (s.agreement.phase = .staging ∨ s.agreement.phase = .descending ∨ s.silentDescent = true ∨
      (s.agreement.phase = .unwinding ∧
        setSubset r.participants (doneAt (enterUnwind r.unwind j (s.lastStage r.kind) i) 1) = false) →
      ∃ t, exec (.stageUnwindDelivered i r.number j) s = .next t ∧ t.agreement = { s.agreement with
          record := some { r with unwind := enterUnwind r.unwind j (s.lastStage r.kind) i } } ∧
        (s.agreement.phase ≠ .unwinding →
          t.executor = s.executor ∧ t.channel = s.channel ∧ t.faults = s.faults)) ∧
    (s.agreement.phase = .unwinding →
      setSubset r.participants (doneAt (enterUnwind r.unwind j (s.lastStage r.kind) i) 1) = true →
      ∃ t, exec (.stageUnwindDelivered i r.number j) s = .next t ∧ t.agreement.phase = .settled ∧
        t.agreement.believed = s.agreement.believed ∧
        (∀ a, r.abortCause = some a → Archived s t r .aborted (abortCauseOf a)) ∧ t.executor = Executor.idle ∧
        Settled (some (r.kind, .aborted)) s t ∧
        Answered s t .low (latchAnswers s.agreement.believed s.request.latch) ∧
        ∀ st, s.agreement.believed = some st → Evaluated s t st ∧ Corrected (endWork s) t (s.profileRow st))

/-- A matching ABORT in STAGING before commit turns the transaction to UNWINDING, with its cause and the unwind top: the
least of C and the greatest stage anybody reported plus one. The executor then undoes from that stage down: an action in
progress finishes first; else the top record of the stage leaves the stack and its undo is issued, a rail that was raised
falling, one that was dropped rising, and a signal going back at once; with no record of the stage left, its report is queued.
That a falling rail keeps its dropout count and loss marker is log 17 (DEDUCED). In a committed transaction, in UNWINDING and
in DESCENDING an ABORT changes nothing of the agreement engine. -/
def Obligations.AbortStartsUnwinding : Prop :=
  ∀ (i : StationId) (reason : AbortReason) (r : Record) (s : State),
    s.takes i → s.agreement.record = some r → setHas r.participants i = true →
    (s.agreement.phase = .staging → r.committed = false →
      ∃ t, exec (.abortDelivered i r.number reason) s = .next t ∧
        t.agreement = { s.agreement with
          phase := .unwinding
          record := some { r with
            abortCause := some reason
            unwindTop := some (min (greatestDone r.forward (s.lastStage r.kind) + 1) (s.commitStage r.kind)) } } ∧
        t.faults = s.faults ∧
        ∀ h e, h = min (greatestDone r.forward (s.lastStage r.kind) + 1) (s.commitStage r.kind) →
          e = { s.executor with
            sub := .undoing, cursor := some h, actionCursor := none, halted := false, barrier := none
            barrierExpired := false } →
          (s.executor.running.isSome = true → t.executor = e ∧ t.channel = s.channel) ∧
          (s.executor.running = none →
            (∀ u rest ch, s.executor.stack = u :: rest → u.stage = h → u.change = .raise ch →
              (s.railParams ch).enabled = true → (s.rail ch).state = .on → s.powerGood ch = .high →
              t.executor = { e with stack := rest, running := some (.undo u) } ∧
              t.rail ch = { s.rail ch with
                state := .falling, counter := some (s.railParams ch).dischargeWindow, filter := none, window := none
                bounces := 0, issuer := some .executor }) ∧
            (∀ u rest ch, s.executor.stack = u :: rest → u.stage = h → u.change = .drop ch →
              (s.railParams ch).enabled = true →
              (s.rail ch).state = .off ∨ (s.rail ch).state = .failedUp ∨ (s.rail ch).state = .failedDown →
              s.powerGood ch = .low →
              t.executor = { e with stack := rest, running := some (.undo u) } ∧
              t.rail ch = { s.rail ch with
                state := .rising, counter := some (s.railParams ch).settleWindow, bounces := 0
                issuer := some .executor }) ∧
            (∀ u i, s.executor.stack = [u] → u.stage = h → u.change = .setHigh i ∨ u.change = .setLow i →
              t.executor = { e with stack := [], sub := .reporting } ∧
              t.signal i = (if u.change = .setHigh i then .low else .high) ∧
              t.hasQueued .stage r.number (.stage .unwind h)) ∧
            ((∀ u, s.executor.stack.head? = some u → u.stage ≠ h) →
              t.executor = { e with sub := .reporting } ∧ t.channel = s.channel ∧
              t.hasQueued .stage r.number (.stage .unwind h)))) ∧
    ((s.agreement.phase = .staging ∧ r.committed = true) ∨ s.agreement.phase = .unwinding ∨
        s.agreement.phase = .descending →
      ∃ t, exec (.abortDelivered i r.number reason) s = .next t ∧ t.agreement = s.agreement ∧
        t.executor = s.executor ∧ t.channel = s.channel ∧ t.faults = s.faults)

/-- A matching ABORT in VOTING ends the vote: NO_QUORUM or ABORTED, archived with its cause, the believed state kept, a request
of the lines under vote answered low with one REQACK pulse (the model's choice, log 12), the wake queue evaluated, the settle
signal acted on, and the outputs corrected, behind a rail action still in progress (the model's choice, log 18).
ABORT(NO_QUORUM) raises the miss count of every awaited peer that has not answered, and a count of 3 is EXCLUDED. -/
def Obligations.AbortEndsVote : Prop :=
  ∀ (i : StationId) (reason : AbortReason) (r : Record) (s : State),
    s.takes i → s.agreement.phase = .voting → s.agreement.record = some r → setHas r.participants i = true →
    ∃ t, exec (.abortDelivered i r.number reason) s = .next t ∧ t.agreement.phase = .settled ∧
      Archived s t r (if reason = .noQuorum then .noQuorum else .aborted) (abortCauseOf reason) ∧
      t.agreement.believed = s.agreement.believed ∧ t.agreement.streaks = s.agreement.streaks ∧
      t.request.underVote = none ∧
      Answered s t .low (answersFor s.request.underVote + latchAnswers s.agreement.believed s.request.latch) ∧
      Settled (some (r.kind, if reason = .noQuorum then .noQuorum else .aborted)) s t ∧
      (∀ st, s.agreement.believed = some st → Evaluated s t st ∧ Corrected s t (s.profileRow st)) ∧
      (∀ j, (t.peerAt j).misses =
        if reason = .noQuorum ∧ setHas r.awaited j = true ∧ tabGet r.votes j = none ∧ j ≠ s.me
        then min ((s.peerAt j).misses + 1) 3 else (s.peerAt j).misses) ∧
      (reason = .noQuorum → ∀ j, setHas r.awaited j = true → tabGet r.votes j = none → j ≠ s.me →
        2 ≤ (s.peerAt j).misses → (t.peerAt j).presence = .excluded)

/-! ### Deliveries: BEAT and CENSUS -/

/-- A BEAT that does not list the station is mirrored in its sender's entry, and its sender leaves the refreshed-view set;
outside CENSUS and MUTE the agreement engine, the executor and the channels are untouched. In MUTE(BARRED) with no silent
descent its sender leaves the barring set, and when that set empties the station leaves for CENSUS with the believed state
UNKNOWN, the number absent, a CENSUS queued, the census window and the beat timer started, the barred-retry timer stopped
and no rail monitored; that this BEAT is not itself adopted from, and that the REST image flag stands, are DEDUCED (log 28,
log 35). A barred-retry expiry that was held fills its CENSUS at the first BEAT after which no open flag is heard, also where that
BEAT lists the station (the model's choice, log 56). The
station's own BEAT takes its own ID out of the refreshed-view set. -/
def Obligations.BeatIsMirrored : Prop :=
  (∀ (i : StationId) (n : TxnNumber) (b : BeatBody) (s : State),
    s.hears i → s.agreement.phase = .mute → s.presence.muteCause = .barred → s.presence.retryHeld = true →
    setHas b.exclusion s.me = true ∨ s.recordOpen = true ∨ setDrop s.presence.barring i ≠ 0 →
    ∃ t, exec (.beatDelivered i n b) s = .next t ∧ t.agreement = s.agreement ∧
      (b.openFlag = true ∨
          (∃ j, j ≠ i ∧ j ≠ s.me ∧ (s.peerAt j).presence = .present ∧ (s.peerAt j).lastOpen = true) →
        t.presence.retryHeld = true ∧ t.link = s.link) ∧
      (b.openFlag = false → (∀ j, j ≠ i → j ≠ s.me → (s.peerAt j).presence = .present → (s.peerAt j).lastOpen = false) →
        t.presence.retryHeld = false ∧ t.hasQueued .census 0 (.census s.loader.signature s.loader.resetCause))) ∧
  (∀ (n : TxnNumber) (b : BeatBody) (s : State), s.onLink = true →
    (s.slot .beat).sending = some (s.ownReady n (.beat b)) →
    ∃ t, exec (.beatDelivered s.me n b) s = .next t ∧ t.request.refresh = setDrop s.request.refresh s.me ∧
      t.presence = { s.presence with debt := 0 } ∧ (t.slot .beat).sending = none ∧ t.agreement = s.agreement ∧
      t.executor = s.executor ∧ t.channel = s.channel ∧ t.faults = s.faults) ∧
  (∀ (i : StationId) (n : TxnNumber) (b : BeatBody) (s : State),
    s.hears i → s.agreement.phase = .mute → s.presence.muteCause = .barred → s.recordOpen = false →
    setHas b.exclusion s.me = false →
    ∃ t, exec (.beatDelivered i n b) s = .next t ∧ t.presence.barring = setDrop s.presence.barring i ∧
      (setDrop s.presence.barring i ≠ 0 → t.agreement = s.agreement ∧ t.presence.muteCause = .barred ∧
        t.channel = s.channel) ∧
      (setDrop s.presence.barring i = 0 →
        t.agreement = { s.agreement with phase := .census, believed := none, number := none } ∧
        t.presence.muteCause = .none ∧ t.presence.censusWindow = some s.system.censusWindow ∧
        t.presence.beat = some s.system.beatLow ∧ t.presence.beatTimer = some s.system.beatLow ∧ t.presence.debt = 0 ∧
        t.presence.barredRetry = none ∧ t.presence.retryHeld = false ∧
        t.hasQueued .census 0 (.census s.loader.signature s.loader.resetCause) ∧
        ∀ ch, (s.rail ch).state = .on → t.rail ch = { s.rail ch with
          filter := none, window := none, dropouts := 0, loss := false })) ∧
  ∀ (i : StationId) (n : TxnNumber) (b : BeatBody) (s : State),
    s.hears i → s.agreement.phase.takesPart = true → setHas b.exclusion s.me = false →
    ∃ t, exec (.beatDelivered i n b) s = .next t ∧ (t.peerAt i).presence = .present ∧
      (t.peerAt i).lastState = (if b.phase = .census then (s.peerAt i).lastState else some b.state) ∧
      (t.peerAt i).lastPhase = some b.phase ∧ (t.peerAt i).lastOpen = b.openFlag ∧
      (t.peerAt i).lastNumber = some n ∧ (t.peerAt i).summary = b.summary ∧
      t.request.refresh = setDrop s.request.refresh i ∧ t.agreement = s.agreement ∧ t.executor = s.executor ∧
      t.channel = s.channel ∧ t.faults = s.faults

/-- A BEAT that lists the station in its exclusion map, in CENSUS or a phase that takes part, makes the station MUTE with
cause BARRED: nothing is left to send, the beat timer stops, the barred-retry timer runs, and a non-forced transaction is
archived SUPERSEDED with cause MUTE, its request under vote answered low. A request in the latch is cleared and answered low
too, each answer with one REQACK pulse (the model's choice, log 12). From CENSUS the census window stops (log 26), and
monitoring starts on every rail in ON (log 39). -/
def Obligations.BarringBeatMutes : Prop :=
  ∀ (i : StationId) (n : TxnNumber) (b : BeatBody) (s : State),
    s.hears i → s.agreement.phase.takesPart = true ∨ s.agreement.phase = .census → setHas b.exclusion s.me = true →
    ∃ t, exec (.beatDelivered i n b) s = .next t ∧ t.agreement.phase = .mute ∧ t.presence.muteCause = .barred ∧
      setHas t.presence.barring i = true ∧ (∀ k, t.slot k = Slot.blank) ∧ t.presence.beatTimer = none ∧
      t.presence.debt = 0 ∧ t.presence.censusWindow = none ∧
      t.presence.barredRetry = some s.system.barredRetry ∧ t.request.latch = none ∧ t.wake.mark = none ∧
      Answered s t .low ((if s.agreement.phase.defers then answersFor s.request.underVote else 0) +
        answersFor (s.request.latch.map Latch.request)) ∧
      (∀ r, s.agreement.phase.defers = true → s.agreement.record = some r → Archived s t r .superseded .mute) ∧
      (s.agreement.phase.defers = false → t.agreement = { s.agreement with phase := .mute }) ∧
      (s.agreement.phase = .census → s.recordOpen = false → ∀ ch, (s.rail ch).state = .on →
        (t.rail ch).window = some (s.railParams ch).dropoutWindow ∧ (t.rail ch).dropouts = 0 ∧ (t.rail ch).loss = false ∧
        (t.rail ch).filter = (if s.powerGood ch = .low then some (s.railParams ch).dropoutFilter else none))

/-- A settled, not open BEAT ends census: its state and number are adopted, the REST image flag is clear, the refreshed-view
set empty, and the station is SETTLED. An output that differs from the profile of RUN or REST is DOMAIN_LOST. In STOW and OFF
the outputs that differ are aligned first, one step behind the other: DROPs from rail 5 down, RAISEs from rail 0 up, signals
from 0 up. A DROP or RAISE that takes time, behind any steps that complete at once, leaves the station in CENSUS with the
steps behind it kept, and on a rail with an action in progress it is held behind that (the model's choice, log 18); where
every step completes at once, as where signals alone differ, the station is SETTLED at once with every output at its cell. A
BEAT with the open flag, or an opening frame, delivered while alignment runs withdraws the adoption: the believed state is
UNKNOWN, the number absent, no further step is issued, the step in progress is nobody's any more (the model's choice, log 18),
and the census window restarts. That a rail dropped by alignment keeps its dropout count and loss marker is log 17 (DEDUCED).
The settle signal that ends census starts the own windows and the common window, takes the debounced state from the button's
pin with no press made, recomputes T_beat, has the wake queue evaluated and the outputs corrected, behind a rail action still
in progress (log 18), and starts dropout monitoring on every rail in ON that is not dropped by the correction. -/
def Obligations.SettledBeatIsAdopted : Prop :=
  (∀ (i : StationId) (n : TxnNumber) (b : BeatBody) (s : State),
    s.hears i → s.agreement.phase = .census → s.presence.alignment = none → setHas b.exclusion s.me = false →
    b.phase = .settled → b.openFlag = false → b.state = .stow ∨ b.state = .off →
    (∀ done c rest, s.alignmentSteps (s.profileRow b.state) = done ++ c :: rest →
      (∀ d ∈ done, s.stepTakesTime d = false) → s.stepTakesTime c = true →
      ∃ t, exec (.beatDelivered i n b) s = .next t ∧
        t.agreement = { s.agreement with believed := some b.state, number := some n, restImage := false } ∧
        t.presence.alignment = some rest ∧ t.presence.censusWindow = none ∧ t.request.refresh = 0 ∧
        StepsIssued s t (done ++ [c]) ∧ t.channel = { s.channel with rails := t.channel.rails } ∧
        t.executor = s.executor ∧ t.faults = s.faults) ∧
    ((∀ d ∈ s.alignmentSteps (s.profileRow b.state), s.stepTakesTime d = false) →
      ∃ t, exec (.beatDelivered i n b) s = .next t ∧ t.agreement.phase = .settled ∧
        t.agreement.believed = some b.state ∧ t.agreement.number = some n ∧ t.presence.alignment = none ∧
        Settled none s t ∧ Evaluated s t b.state ∧ MonitoringStarts s t (s.profileRow b.state) ∧
        (∀ j, t.signal j = tabGet (s.profileRow b.state).signals j) ∧
        (∀ ch, s.railDiffers (s.profileRow b.state) ch = true →
          t.enable ch = tabGet (s.profileRow b.state).rails ch ∧ (t.rail ch).state.standing = true) ∧
        t.channel.corrections = s.channel.corrections)) ∧
  (∀ (c : Instr) (i : StationId) (s : State),
    (∃ n b, c = .beatDelivered i n b ∧ b.openFlag = true ∧ setHas b.exclusion s.me = false ∧ s.hears i) ∨
    (∃ n k img inh, c = .proposeDelivered i n k img inh ∧ s.takes i) ∨
    (∃ n k img, c = .forcedProposeDelivered i n k img ∧ s.takes i) ∨
    (∃ n w x, c = .wakeDelivered i n w x ∧ s.takes i) ∨
    (∃ n code tgt, c = .faultDelivered i n code tgt ∧ s.takes i) →
    s.agreement.phase = .census → s.presence.alignment.isSome = true →
    ∃ t, exec c s = .next t ∧ t.agreement = { s.agreement with believed := none, number := none } ∧
      t.presence.alignment = none ∧ t.presence.censusWindow = some s.system.censusWindow ∧
      (∀ ch, t.rail ch = { s.rail ch with
        issuer := if (s.rail ch).issuer = some .alignment then some .detached else (s.rail ch).issuer
        held := (t.rail ch).held }) ∧
      t.executor = s.executor ∧ t.faults = s.faults) ∧
  ∀ (i : StationId) (n : TxnNumber) (b : BeatBody) (s : State),
    s.hears i → s.agreement.phase = .census → s.presence.alignment = none → setHas b.exclusion s.me = false →
    b.phase = .settled → b.openFlag = false →
    b.state = .run ∨ b.state = .rest ∨ s.outputsDiffer (s.profileRow b.state) = false →
    ∃ t, exec (.beatDelivered i n b) s = .next t ∧ t.agreement.phase = .settled ∧
      t.agreement.believed = some b.state ∧ t.agreement.number = some n ∧ t.agreement.restImage = false ∧
      t.presence.censusWindow = none ∧ t.request.refresh = 0 ∧
      Settled none s t ∧ Evaluated s t b.state ∧ OutputsCorrected s t (s.profileRow b.state) ∧
      MonitoringStarts s t (s.profileRow b.state) ∧
      (b.state = .run ∨ b.state = .rest → s.outputsDiffer (s.profileRow b.state) = true →
        LatchedFirst s t .domainLost noTarget .severe ∧ (t.slot .fault).queued.isSome = true)

/-- A peer's CENSUS: with the station's own plan signature the peer is PRESENT with its miss count 0, one rejoin more
and its silence timer started, with another it is EXCLUDED with the timer stopped. A station that takes part answers
with a BEAT in its slot, filled with the current number, 0 while absent (that it stays as filled is DEDUCED, log 53). -/
def Obligations.CensusJudgesSignature : Prop :=
  ∀ (i : StationId) (sig : Signature) (rc : ResetCause) (s : State), s.onLink = true → i ≠ s.me →
    ∃ t, exec (.censusDelivered i sig rc) s = .next t ∧
      (t.peerAt i).lastReset = some rc ∧ (t.peerAt i).lastPhase = some .census ∧ (t.peerAt i).lastOpen = false ∧
      (t.peerAt i).lastNumber = none ∧ (t.peerAt i).changed = true ∧
      (sig = s.loader.signature → (t.peerAt i).presence = .present ∧ (t.peerAt i).misses = 0 ∧
        (t.peerAt i).silence = some (5 * s.presence.beat.getD 0) ∧
        (t.peerAt i).rejoins = min ((s.peerAt i).rejoins + 1) 255) ∧
      (sig ≠ s.loader.signature → (t.peerAt i).presence = .excluded ∧ (t.peerAt i).silence = none ∧
        (t.peerAt i).misses = (s.peerAt i).misses ∧ (t.peerAt i).rejoins = (s.peerAt i).rejoins ∧
        t.request.refresh = setDrop s.request.refresh i) ∧
      (∀ j, j ≠ i → t.peerAt j = s.peerAt j) ∧ (s.agreement.phase.takesPart = true → t.beatInSlot = true ∧
        (s.beatInSlot = false → t.beatFilled s.agreement.number))

/-! ### Timers of a transaction -/

/-- The vote window, or the guard, runs out in VOTING: it stops, and ABORT(NO_QUORUM) of the open number is queued where no
ABORT is queued already. A timer that is not running does nothing (log 4). -/
def Obligations.VoteTimersQueueNoQuorum : Prop :=
  (∀ s : State, s.agreement.voteWindow.isSome = true → s.agreement.phase = .voting → (s.slot .abort).queued = none →
    ∃ t, exec .voteWindowExpiry s = .next t ∧ t.hasQueued .abort s.openNumber (.abort .noQuorum) ∧
      t = { s with agreement := { s.agreement with voteWindow := none }, link := t.link }) ∧
  (∀ s : State, s.agreement.voteGuard.isSome = true → s.agreement.phase = .voting → (s.slot .abort).queued = none →
    ∃ t, exec .voteGuardExpiry s = .next t ∧ t.hasQueued .abort s.openNumber (.abort .noQuorum) ∧
      t = { s with agreement := { s.agreement with voteGuard := none }, link := t.link }) ∧
  (∀ s : State, s.agreement.voteWindow = none → exec .voteWindowExpiry s = .next s) ∧
  ∀ s : State, s.agreement.voteGuard = none → exec .voteGuardExpiry s = .next s

/-- A stage barrier, or the completion wait, runs out in STAGING: before commit ABORT(TIMEOUT) is queued, where no ABORT of
the number is; after commit STALL is latched SEVERE, FAULT(STALL) is queued where no FAULT is, and the executor halts. A
reverse barrier, or the final wait, that runs out in UNWINDING stalls in the same way. -/
def Obligations.BarrierExpiryAbortsOrStalls : Prop :=
  (∀ (c : Instr) (s : State), s.agreement.phase = .staging → s.forced = false →
    (c = .barrierTimerExpiry ∧ s.barrierIn .stage = true ∧ s.executor.sub = .waiting ∧
      ∃ k, s.executor.cursor = some k ∧ k ≤ s.lastStage s.kind) ∨
    (c = .completionWaitExpiry ∧ s.barrierIn .completion = true) →
    (s.committed = false → (s.slot .abort).queued = none →
      ∃ t, exec c s = .next t ∧ t.hasQueued .abort s.openNumber (.abort .timeout) ∧
        t = { s with executor := { s.executor with barrier := none, barrierExpired := true }, link := t.link }) ∧
    (s.committed = true → (s.slot .fault).queued = none →
      ∃ t, exec c s = .next t ∧ Latched s t .stall noTarget .severe ∧
        t.hasQueued .fault s.nextNumber (.fault .stall noTarget) ∧
        t = { s with executor := { s.executor with barrier := none, barrierExpired := true, halted := true }
                     link := t.link, faults := t.faults })) ∧
  ∀ s : State, s.barrierIn .reverse = true → s.agreement.phase = .unwinding → (s.slot .fault).queued = none →
    ∃ t, exec .reverseBarrierExpiry s = .next t ∧ Latched s t .stall noTarget .severe ∧
      t.hasQueued .fault s.nextNumber (.fault .stall noTarget) ∧
      t = { s with executor := { s.executor with barrier := none, barrierExpired := true, halted := true }
                   link := t.link, faults := t.faults }

/-- What a descent records. A stage barrier runs out in DESCENDING: the stations it finds missing enter the missing set, and
the stage starts. A FAULT delivered in DESCENDING enters the record's fault list, up to four, and then the overflow
count. -/
def Obligations.DescentRecordsMissingAndFaults : Prop :=
  (∀ (k : Nat) (r : Record) (s : State), s.agreement.phase = .descending → s.agreement.record = some r →
    r.forced = true → s.barrierIn .stage = true → s.executor.sub = .waiting → s.executor.cursor = some k → 2 ≤ k →
    k ≤ s.lastStage r.kind →
    ∃ t, exec .barrierTimerExpiry s = .next t ∧
      t.agreement = { s.agreement with record := some { r with
        missing := r.missing |||
          setMinus (s.waitSetAt r.kind k &&& r.participants) (doneAt r.forward (k - 1)) } } ∧
      t.executor.cursor = some k ∧ t.executor.sub ≠ .waiting ∧ t.executor.barrier = none ∧ t.faults = s.faults) ∧
  ∀ (i : StationId) (num : TxnNumber) (code : FaultCode) (tgt : Target) (r : Record) (s : State),
    s.takes i → s.agreement.phase = .descending → s.agreement.record = some r →
    ∃ t, exec (.faultDelivered i num code tgt) s = .next t ∧
      t.agreement.record = some (if r.faults.length < 4 then { r with faults := r.faults ++ [(code, i)] }
        else { r with faultOverflow := min (r.faultOverflow + 1) 255 }) ∧
      t.agreement = { s.agreement with record := t.agreement.record } ∧
      t.executor = s.executor ∧ t.channel = s.channel ∧ t.faults = s.faults

/-- The closing wait runs out: the descent closes FORCED_DONE in OFF with every participant that never reported stage S
missing. From DESCENDING the station is SETTLED, and its neighbours act on the settle signal: the wake queue is evaluated, the
outputs are corrected, behind a rail action still in progress (the model's choice, log 18), and a request of the lines in the
latch is answered low with one REQACK pulse (the model's choice, log 12). A silent descent closes with no settle signal: the
outputs stand uncorrected, and the wake queue, the request unit and the peer table as they were. It leaves the station MUTE,
or, BARRED with the barring set empty, lets it go to CENSUS with the believed state UNKNOWN, the number absent and a CENSUS
queued. That T_beat stays where the station stays MUTE is the model's choice (log 52). -/
def Obligations.ClosingWaitClosesDescent : Prop :=
  ∀ (r : Record) (s : State), s.barrierIn .closing = true → s.agreement.record = some r →
    s.agreement.phase = .descending ∨ s.agreement.phase = .mute →
    ∃ t r', exec .closingWaitExpiry s = .next t ∧ Archived s t r .forcedDone r.openingCause.cause ∧
      t.agreement.record = some r' ∧ r'.outcome = .forcedDone ∧
      r'.missing = r.missing ||| setMinus r.participants (doneAt r.forward (s.lastStage r.kind)) ∧
      t.executor = Executor.idle ∧
      t.wake.faultHold = (if s.system.faultHold = 0 then none else some s.system.faultHold) ∧
      (s.agreement.phase = .descending → t.agreement.phase = .settled ∧ t.agreement.believed = some .off ∧
        Settled (some (.enterOff, .forcedDone)) s t ∧ Evaluated s t .off ∧ Corrected s t (s.profileRow .off) ∧
        Answered s t .low (latchAnswers (some .off) s.request.latch)) ∧
      (s.agreement.phase = .mute → LinkFits s → t.channel.signals = s.channel.signals ∧
        (∀ ch, (t.rail ch).state = (s.rail ch).state) ∧ t.channel.corrections = s.channel.corrections ∧
        t.wake.queue = s.wake.queue ∧ t.wake.mark = s.wake.mark ∧ t.request = s.request ∧
        t.presence.peers = s.presence.peers) ∧
      (s.agreement.phase = .mute → s.presence.muteCause ≠ .barred ∨ s.presence.barring ≠ 0 →
        t.agreement.phase = .mute ∧ t.agreement.believed = some .off ∧ t.presence = s.presence ∧ t.channel = s.channel ∧
        (LinkFits s → t.link = s.link ∧ t.wake = { s.wake with faultHold := t.wake.faultHold })) ∧
      (s.agreement.phase = .mute → s.presence.muteCause = .barred → s.presence.barring = 0 →
        t.agreement.phase = .census ∧ t.agreement.believed = none ∧ t.agreement.number = none ∧
        t.presence.muteCause = .none ∧ t.presence.barredRetry = none ∧
        t.presence.censusWindow = some s.system.censusWindow ∧
        t.hasQueued .census 0 (.census s.loader.signature s.loader.resetCause))

/-! ### Holds -/

/-- The defer hold, or the re-entry lockout, ends: it stops. A WAITING request is then proposed where nothing else holds it
back, and becomes QUEUED; with the latch absent nothing else changes. The demote timer ends: it stops, and SETTLED in REST
with the REST image flag set a non-forced PROPOSE of DEMOTE is queued. -/
def Obligations.HoldEndProposes : Prop :=
  (∀ (c : Instr) (s : State),
    (c = .deferHoldExpiry ∧ s.request.deferHold.isSome = true ∧ s.request.lockout = none) ∨
    (c = .reEntryLockoutExpiry ∧ s.request.lockout.isSome = true ∧ s.request.deferHold = none) →
    (∀ l, s.request.latch = some l → l.queued = false → s.agreement.phase = .settled →
      s.agreement.believed = some .run → s.request.refresh = 0 → s.forcedQueued = false → s.forcedSending = false →
      ∃ t, exec c s = .next t ∧
        t.hasQueued .propose s.nextNumber
          (.propose l.request.kind false (l.request.imageBacked && l.request.kind == .enterRest)) ∧
        t.request = { s.request with deferHold := none, lockout := none, latch := some { l with queued := true } } ∧
        t.agreement = s.agreement) ∧
    (s.request.latch = none →
      exec c s = .next { s with request := { s.request with deferHold := none, lockout := none } })) ∧
  ∀ s : State, s.wake.demote.isSome = true →
    (s.agreement.phase = .settled → s.agreement.believed = some .rest → s.agreement.restImage = true →
      ∃ t, exec .demoteTimerExpiry s = .next t ∧ t.hasQueued .propose s.nextNumber (.propose .demote false false) ∧
        t.wake.demote = none ∧ t.agreement = s.agreement ∧ t.executor = s.executor ∧ t.faults = s.faults) ∧
    (s.agreement.phase ≠ .settled ∨ s.agreement.believed ≠ some .rest ∨ s.agreement.restImage = false →
      exec .demoteTimerExpiry s = .next { s with wake := { s.wake with demote := none } })

/-- The minimum dwell, or the fault hold, ends: it stops. Then, with every gate of R122 open (SETTLED in REST, STOW or OFF, the
announcing mark absent, no dwell running in REST, no fault hold, every member of the quorum set PRESENT, the own ID counting as
PRESENT), WAKE is queued for the oldest PENDING entry, RESUME in REST and RISE in STOW and OFF, and the mark names it. With no
PENDING entry, or with one of the gates closed, nothing else changes. -/
def Obligations.HoldEndAnnounces : Prop :=
  ∀ (c : Instr) (s s' : State),
    (c = .minimumDwellExpiry ∧ s.wake.minDwell.isSome = true ∧ s' = { s with wake := { s.wake with minDwell := none } }) ∨
    (c = .faultHoldExpiry ∧ s.wake.faultHold.isSome = true ∧
      s' = { s with wake := { s.wake with faultHold := none } }) →
    ((∀ e ∈ s.wake.queue, e.state ≠ .pending) → exec c s = .next s') ∧
    (s.agreement.phase ≠ .settled ∨ s.agreement.believed = none ∨ s.agreement.believed = some .run ∨
        s.wake.mark.isSome = true ∨ (s.agreement.believed = some .rest ∧ s'.wake.minDwell.isSome = true) ∨
        s'.wake.faultHold.isSome = true ∨
        (∃ j, setHas s.system.quorum j = true ∧ j ≠ s.me ∧ (s.peerAt j).presence ≠ .present) →
      exec c s = .next s') ∧
    (∀ e w, s.agreement.phase = .settled →
      (s.agreement.believed = some .rest ∧ s'.wake.minDwell = none ∧ w = .resume) ∨
        ((s.agreement.believed = some .stow ∨ s.agreement.believed = some .off) ∧ w = .rise) →
      s.wake.mark = none → s'.wake.faultHold = none →
      (∀ j, setHas s.system.quorum j = true → j = s.me ∨ (s.peerAt j).presence = .present) →
      IsOldestPending s.wake.queue e →
      ∃ t, exec c s = .next t ∧ t.hasQueued .wake s.nextNumber (.wake w e.input) ∧
        t.wake = { s'.wake with mark := some e.input } ∧ t.agreement = s.agreement ∧ t.faults = s.faults)

/-! ### Presence timers -/

/-- A PRESENT peer's silence timer ends: the peer is SILENT with the timer stopped and the changed flag set, and leaves the
refreshed-view set; a quorum member missed in RUN or REST with no transaction open is PEER_LOST, also where its leaving the
barring set ends MUTE(BARRED) (the model's choice, log 54). -/
def Obligations.SilentPeerIsLost : Prop :=
  ∀ (i : StationId) (s : State), (s.peerAt i).silence.isSome = true → (s.peerAt i).presence = .present →
    ∃ t, exec (.silenceTimerExpiry i) s = .next t ∧
      t.peerAt i = { s.peerAt i with presence := .silent, silence := none, changed := true } ∧
      (∀ j, j ≠ i → t.peerAt j = s.peerAt j) ∧ t.request.refresh = setDrop s.request.refresh i ∧
      (setHas s.system.quorum i = true → s.txnOpen = false →
        s.agreement.believed = some .run ∨ s.agreement.believed = some .rest →
        Latched s t .peerLost (eightTarget i) .severe)

/-- A tick raises the beat debt, at most to 4, and restarts the beat timer; at 2 or more a BEAT stands in the slot,
filled with the current number, 0 while absent (that it stays as filled is DEDUCED, log 53), and as the debt reaches 4
BEAT_OVERDUE is latched. With the beat timer not running there is no tick (log 4). -/
def Obligations.BeatTickRaisesDebt : Prop :=
  (∀ s : State, s.presence.beatTimer.isSome = true → s.agreement.phase ≠ .mute →
    ∃ t, exec .beatTick s = .next t ∧ t.presence.debt = min (s.presence.debt + 1) 4 ∧
      t.presence.beatTimer = s.presence.beat ∧
      (1 ≤ s.presence.debt → t.beatInSlot = true ∧ (s.beatInSlot = false → t.beatFilled s.agreement.number)) ∧
      (s.presence.debt = 3 → Latched s t .beatOverdue noTarget .notice) ∧
      (s.presence.debt = 0 → t.link = s.link) ∧ (s.presence.debt ≠ 3 → t.faults = s.faults) ∧
      t.agreement = s.agreement ∧ t.executor = s.executor ∧ t.channel = s.channel) ∧
  ∀ s : State, s.presence.beatTimer = none → exec .beatTick s = .next s

/-- The census window ends: with an open flag heard it restarts and nothing else changes; else OFF and number 0 are adopted,
and where no output differs the station is SETTLED, and its neighbours act on the settle signal. The barred-retry timer ends
and restarts: while an open flag is heard the expiry is held, else a CENSUS is queued, which stands for an expiry still held
too (log 43). -/
def Obligations.CensusTimers : Prop :=
  (∀ s : State, s.presence.censusWindow.isSome = true →
    (s.openHeard = true → exec .censusWindowExpiry s =
      .next { s with presence := { s.presence with censusWindow := some s.system.censusWindow } }) ∧
    (s.openHeard = false → s.outputsDiffer (s.profileRow .off) = false →
      ∃ t, exec .censusWindowExpiry s = .next t ∧ t.agreement.phase = .settled ∧ t.agreement.believed = some .off ∧
        t.agreement.number = some 0 ∧ t.agreement.restImage = false ∧ t.presence.censusWindow = none ∧
        t.request.refresh = 0 ∧ Settled none s t ∧ Evaluated s t .off ∧ MonitoringStarts s t (s.profileRow .off))) ∧
  ∀ s : State, s.presence.barredRetry.isSome = true →
    (s.openHeard = true → exec .barredRetryExpiry s =
      .next { s with presence := { s.presence with barredRetry := some s.system.barredRetry, retryHeld := true } }) ∧
    (s.openHeard = false → s.agreement.phase = .mute → s.presence.muteCause = .barred →
      ∃ t, exec .barredRetryExpiry s = .next t ∧
        t.hasQueued .census 0 (.census s.loader.signature s.loader.resetCause) ∧
        t.presence = { s.presence with barredRetry := some s.system.barredRetry, retryHeld := false } ∧
        t.agreement = s.agreement ∧ t.executor = s.executor ∧ t.faults = s.faults)

/-! ### Rail channels -/

/-- The settle window, or the discharge window, runs out, or a bounce reaches the dropout threshold: the rail fails,
its enable low, RAIL_TIMEOUT or RAIL_STUCK is latched SEVERE, with FAULT queued where the phase requests one and none is
queued, and the stage executor halts where the action, or the undo, was its own. The condition raises the entry of its
pair, makes a new one, or, where the list is full, raises the unrecorded count, up to 255. Stated with nothing held behind
the action, no alignment running and no forced transaction. -/
def Obligations.RailWindowExpiryFails : Prop :=
  (∀ (c : Instr) (ch : Fin 6) (code : FaultCode) (failed : RailState) (s : State),
    (c = .settleWindowExpiry ch ∧ (s.rail ch).state = .rising ∧ code = .railTimeout ∧ failed = .failedUp) ∨
    (c = .dischargeWindowExpiry ch ∧ (s.rail ch).state = .falling ∧ code = .railStuck ∧ failed = .failedDown) →
    (s.rail ch).held = [] → s.presence.alignment = none → s.forced = false →
    ∃ t, exec c s = .next t ∧ t.rail ch = { s.rail ch with state := failed, counter := none, issuer := none } ∧
      t.enable ch = .low ∧ Latched s t code (railTarget ch) .severe ∧ (∀ j, j ≠ ch → t.rail j = s.rail j) ∧
      (s.agreement.phase.requestsFault = true → (s.slot .fault).queued = none →
        t.hasQueued .fault s.nextNumber (.fault code (railTarget ch))) ∧
      ((s.rail ch).issuer = some .executor → s.executor.running.isSome = true →
        t.executor = { s.executor with running := none, halted := true }) ∧
      ((s.rail ch).issuer ≠ some .executor → t.executor = s.executor) ∧
      t.channel.signals = s.channel.signals ∧ t.agreement = s.agreement) ∧
  ∀ (c : Instr) (ch : Fin 6) (code : FaultCode) (failed : RailState) (l : Level) (s : State),
    (c = .powerGoodFallHoldingUp ch ∧ (s.rail ch).state = .holdingUp ∧ s.powerGood ch = .high ∧ l = .low ∧
      code = .railTimeout ∧ failed = .failedUp) ∨
    (c = .powerGoodRiseHoldingDown ch ∧ (s.rail ch).state = .holdingDown ∧ s.powerGood ch = .low ∧ l = .high ∧
      code = .railStuck ∧ failed = .failedDown) →
    (s.railParams ch).dropoutThreshold ≤ (s.rail ch).bounces + 1 →
    (s.rail ch).held = [] → s.presence.alignment = none → s.forced = false →
    ∃ t, exec c s = .next t ∧ t.rail ch = { s.rail ch with
        state := failed, counter := none, issuer := none, bounces := (s.rail ch).bounces + 1 } ∧
      t.enable ch = .low ∧ Latched s t code (railTarget ch) .severe ∧ (∀ j, j ≠ ch → t.rail j = s.rail j) ∧
      t.pins = { s.pins with powerGood := tabSet s.pins.powerGood ch l } ∧
      (s.agreement.phase.requestsFault = true → (s.slot .fault).queued = none →
        t.hasQueued .fault s.nextNumber (.fault code (railTarget ch))) ∧
      ((s.rail ch).issuer = some .executor → s.executor.running.isSome = true →
        t.executor = { s.executor with running := none, halted := true }) ∧
      ((s.rail ch).issuer ≠ some .executor → t.executor = s.executor) ∧ t.agreement = s.agreement

/-- The hold-up or the hold-down ends. Of a correction or a detached step: the rail is ON, with monitoring where the phase has
it active, or OFF, and nothing else changes. Of a step of a running alignment: the next rail step is issued, the steps behind
it kept, and held behind an action in progress (the model's choice, log 18); with signals alone behind it, or nothing, each
signal goes to its cell at once, the station is SETTLED, and its neighbours act on the settle signal. Of a recorded action of
the stage executor at a stage of at most C in a non-forced transaction: its record stands on the unwind stack before commit,
and after it no record is pushed. -/
def Obligations.HoldEndCompletesRailAction : Prop :=
  ∀ (c : Instr) (ch : Fin 6) (up : Bool) (s : State),
    (c = .holdUpEnd ch ∧ up = true ∧ (s.rail ch).state = .holdingUp) ∨
    (c = .holdDownEnd ch ∧ up = false ∧ (s.rail ch).state = .holdingDown) →
    (s.rail ch).held = [] →
    ((s.rail ch).issuer = some .correction ∨ (s.rail ch).issuer = some .detached →
      ∃ t, exec c s = .next t ∧ (t.rail ch).state = (if up then .on else .off) ∧ (t.rail ch).counter = none ∧
        (t.rail ch).issuer = none ∧
        (up = true → s.agreement.phase.monitors = true →
          (t.rail ch).window = some (s.railParams ch).dropoutWindow ∧ (t.rail ch).dropouts = 0 ∧
          (t.rail ch).loss = false) ∧
        (∀ j, j ≠ ch → t.rail j = s.rail j) ∧
        t = { s with channel := { s.channel with rails := t.channel.rails } }) ∧
    (∀ (stage : Nat) (x : Change), x = (if up then .raise ch else .drop ch) → (s.rail ch).issuer = some .executor →
      s.executor.running = some (.forward stage (.change x true)) → s.executor.sub = .acting → s.forced = false →
      stage ≤ s.commitStage s.kind → s.agreement.phase = .staging →
      ∃ t, exec c s = .next t ∧ t.agreement = s.agreement ∧
        (s.committed = false →
          { number := s.openNumber, stage := stage, change := x, prior := if up then .low else .high } ∈
            t.executor.stack) ∧
        (s.committed = true → t.executor.stack = s.executor.stack)) ∧
    (∀ (j : Fin 6) (on : Bool) (x : Change) (rest : List Change), x = (if on then .raise j else .drop j) → j ≠ ch →
      (s.rail ch).issuer = some .alignment → s.presence.alignment = some (x :: rest) →
      (s.railParams j).enabled = true → s.enable j = (if on then .low else .high) → s.stepTakesTime x = true →
      ∃ t, exec c s = .next t ∧ t.presence = { s.presence with alignment := some rest } ∧
        (t.rail ch).state = (if up then .on else .off) ∧ (t.rail ch).counter = none ∧ (t.rail ch).issuer = none ∧
        t.rail j = s.alignedRail j on ∧ (∀ m, m ≠ ch → m ≠ j → t.rail m = s.rail m) ∧
        t = { s with presence := t.presence, channel := { s.channel with rails := t.channel.rails } }) ∧
    (∀ rest, (s.rail ch).issuer = some .alignment → s.presence.alignment = some rest →
      (∀ x ∈ rest, ∃ i, x = .setHigh i ∨ x = .setLow i) →
      ∃ t, exec c s = .next t ∧ t.agreement = { s.agreement with phase := .settled } ∧ t.presence.alignment = none ∧
        Settled none s t ∧ t.presence.censusWindow = s.presence.censusWindow ∧
        ∀ st, s.agreement.believed = some st → Evaluated s t st ∧
          (∀ i, t.signal i = tabGet (s.profileRow st).signals i) ∧
          (rest = s.alignmentSteps (s.profileRow st) → t.channel.corrections = s.channel.corrections))

/-- A rising edge of power-good. In RISING it starts the hold-up, and a hold-up of 0 makes the rail ON at once; in
HOLDING_DOWN it is a bounce that returns the rail to FALLING below the threshold; in ON it ends a loss or, with the
filter running, is a dropout, RAIL_UNSTABLE at the threshold, deferred where the rail is tolerant; in any other state
only the pin changes. A pin that is high already has no edge (log 4). Each of the three commands is one event (log 3). -/
def Obligations.PowerGoodRises : Prop :=
  ∀ (c : Instr) (ch : Fin 6) (s s' : State),
    c = .powerGoodRiseRising ch ∨ c = .powerGoodRiseHoldingDown ch ∨ c = .powerGoodRiseOn ch →
    s' = { s with pins := { s.pins with powerGood := tabSet s.pins.powerGood ch .high } } →
    (s.powerGood ch = .high → exec c s = .next s) ∧
    (s.powerGood ch = .low →
      ((s.rail ch).state = .rising → 0 < (s.railParams ch).holdUp →
        exec c s = .next (s'.withRail ch
          { s.rail ch with state := .holdingUp, counter := some (s.railParams ch).holdUp })) ∧
      ((s.rail ch).state = .rising → (s.railParams ch).holdUp = 0 → (s.rail ch).held = [] →
        (s.rail ch).issuer = some .correction ∨ (s.rail ch).issuer = some .detached →
        ∃ t, exec c s = .next t ∧ (t.rail ch).state = .on ∧ (t.rail ch).counter = none ∧ (t.rail ch).issuer = none ∧
          (∀ j, j ≠ ch → t.rail j = s.rail j) ∧ t = { s' with channel := { s.channel with rails := t.channel.rails } }) ∧
      ((s.rail ch).state = .holdingDown → (s.rail ch).bounces + 1 < (s.railParams ch).dropoutThreshold →
        exec c s = .next (s'.withRail ch
          { s.rail ch with state := .falling, counter := some (s.railParams ch).dischargeWindow
                           bounces := (s.rail ch).bounces + 1 })) ∧
      ((s.rail ch).state = .on → (s.rail ch).filter = none →
        exec c s = .next (s'.withRail ch { s.rail ch with loss := false })) ∧
      ((s.rail ch).state = .on → (s.rail ch).filter.isSome = true →
        (s.rail ch).dropouts + 1 < (s.railParams ch).dropoutThreshold →
        exec c s = .next (s'.withRail ch { s.rail ch with filter := none, dropouts := (s.rail ch).dropouts + 1 })) ∧
      ((s.rail ch).state = .on → (s.rail ch).filter.isSome = true →
        (s.railParams ch).dropoutThreshold ≤ (s.rail ch).dropouts + 1 →
        ∃ t, exec c s = .next t ∧ t.rail ch = { s.rail ch with filter := none, dropouts := 0 } ∧
          ((s.railParams ch).tolerant = false ∨ s.agreement.phase.defers = false →
            Latched s t .railUnstable (railTarget ch) (s.railParams ch).unstable) ∧
          ((s.railParams ch).tolerant = true → s.agreement.phase.defers = true →
            t.faults.latched = s.faults.latched ∧ ∃ e ∈ t.faults.deferred, e.rail = ch)) ∧
      ((s.rail ch).state = .off ∨ (s.rail ch).state = .holdingUp ∨ (s.rail ch).state = .falling ∨
        (s.rail ch).state = .failedUp ∨ (s.rail ch).state = .failedDown → exec c s = .next s'))

/-- A falling edge of power-good. In HOLDING_UP it is a bounce that returns the rail to RISING below the threshold, in
FALLING it starts the hold-down, and a hold-down of 0 makes the rail OFF at once, in FAILED_DOWN it makes the rail OFF,
in ON it starts the filter where monitoring is active and no loss stands; in any other state only the pin changes. A pin
that is low already has no edge (log 4). Each of the four commands is one event (log 3). -/
def Obligations.PowerGoodFalls : Prop :=
  ∀ (c : Instr) (ch : Fin 6) (s s' : State),
    c = .powerGoodFallHoldingUp ch ∨ c = .powerGoodFallFalling ch ∨ c = .powerGoodFallFailedDown ch ∨
      c = .powerGoodFallOn ch →
    s' = { s with pins := { s.pins with powerGood := tabSet s.pins.powerGood ch .low } } →
    (s.powerGood ch = .low → exec c s = .next s) ∧
    (s.powerGood ch = .high →
      ((s.rail ch).state = .holdingUp → (s.rail ch).bounces + 1 < (s.railParams ch).dropoutThreshold →
        exec c s = .next (s'.withRail ch
          { s.rail ch with state := .rising, counter := some (s.railParams ch).settleWindow
                           bounces := (s.rail ch).bounces + 1 })) ∧
      ((s.rail ch).state = .falling → 0 < (s.railParams ch).holdDown →
        exec c s = .next (s'.withRail ch
          { s.rail ch with state := .holdingDown, counter := some (s.railParams ch).holdDown })) ∧
      ((s.rail ch).state = .falling → (s.railParams ch).holdDown = 0 → (s.rail ch).held = [] →
        (s.rail ch).issuer = some .correction ∨ (s.rail ch).issuer = some .detached →
        ∃ t, exec c s = .next t ∧ (t.rail ch).state = .off ∧ (t.rail ch).counter = none ∧ (t.rail ch).issuer = none ∧
          (∀ j, j ≠ ch → t.rail j = s.rail j) ∧ t = { s' with channel := { s.channel with rails := t.channel.rails } }) ∧
      ((s.rail ch).state = .failedDown → exec c s = .next (s'.withRail ch { s.rail ch with state := .off })) ∧
      ((s.rail ch).state = .on → (s.rail ch).window.isSome = true → (s.rail ch).loss = false →
        exec c s = .next (s'.withRail ch { s.rail ch with filter := some (s.railParams ch).dropoutFilter })) ∧
      ((s.rail ch).state = .on → (s.rail ch).window = none ∨ (s.rail ch).loss = true → exec c s = .next s') ∧
      ((s.rail ch).state = .off ∨ (s.rail ch).state = .rising ∨ (s.rail ch).state = .holdingDown ∨
        (s.rail ch).state = .failedUp → exec c s = .next s'))

/-- The dropout filter ends: the loss marker is set and RAIL_LOSS is latched SEVERE, where the list is full by the unrecorded
count, or deferred on a tolerant rail in
VOTING, STAGING and UNWINDING. The dropout window ends: the count becomes 0 and the window restarts. -/
def Obligations.DropoutTimers : Prop :=
  (∀ (ch : Fin 6) (s : State), (s.rail ch).filter.isSome = true →
    ∃ t, exec (.dropoutFilterExpiry ch) s = .next t ∧ t.rail ch = { s.rail ch with filter := none, loss := true } ∧
      ((s.railParams ch).tolerant = false ∨ s.agreement.phase.defers = false →
        Latched s t .railLoss (railTarget ch) .severe ∧ t.faults.deferred = s.faults.deferred) ∧
      ((s.railParams ch).tolerant = true → s.agreement.phase.defers = true →
        t.faults.latched = s.faults.latched ∧ t.link = s.link ∧
        ∃ e ∈ t.faults.deferred, e.rail = ch ∧ e.loss = true) ∧
      t.agreement = s.agreement ∧ t.executor = s.executor) ∧
  ∀ (ch : Fin 6) (s : State), (s.rail ch).window.isSome = true →
    exec (.dropoutWindowExpiry ch) s = .next (s.withRail ch
      { s.rail ch with dropouts := 0, window := some (s.railParams ch).dropoutWindow })

/-! ### Signals, senses and WAIT -/

/-- The ends of a PULSE, an AWAIT and a WAIT, and a change of a sense input. The pulsed signal returns to its level, the
sense level is written, the counters stop; an AWAIT that runs out latches SENSE_TIMEOUT as SEVERE and, in a non-forced
transaction, halts the executor. Each of PULSE, AWAIT and WAIT that ends as it should, and in a descent an AWAIT that runs
out, completes the executor's action: with nothing left to do in the stage, the report of the stage is queued, and in a silent
descent the completion stands in for its delivery: the executor waits for the next stage's wait-set or, after stage S, for the
close. Stated of a silent descent where that wait-set is not full, for then the next stage starts in the same step. -/
def Obligations.SignalAndSenseEvents : Prop :=
  (∀ (i : Fin 4) (prior : Level) (w : Nat) (s : State), s.signalAt i = { state := .pulsing prior, pulse := some w } →
    runsPulse i s.executor.running = false →
    exec (.pulseEnd i) s = .next (s.withSignal i { state := signalAt prior, pulse := none })) ∧
  (∀ (i : Fin 2) (l : Level) (s : State), ∃ t, exec (.senseChange i l) s = .next t ∧
    t.pins = { s.pins with sense := tabSet s.pins.sense i l } ∧
    (runsAwait i (some l) s.executor.running = false →
      t = { s with pins := { s.pins with sense := tabSet s.pins.sense i l } })) ∧
  (∀ (i : Fin 2) (s : State), (tabGet s.channel.awaits i).isSome = true →
    ∃ t, exec (.awaitTimeout i) s = .next t ∧ Latched s t .senseTimeout (senseTarget i) .severe ∧
      (runsAwait i none s.executor.running = false → tabGet t.channel.awaits i = none ∧ t.executor = s.executor) ∧
      (runsAwait i none s.executor.running = true → s.forced = false →
        tabGet t.channel.awaits i = none ∧ t.executor = { s.executor with running := none, halted := true })) ∧
  (∀ s : State, s.channel.waitCounter.isSome = true → runsWait s.executor.running = false →
    exec .waitEnd s = .next { s with channel := { s.channel with waitCounter := none } }) ∧
  ∀ (c : Instr) (a : Action) (k m : Nat) (s : State),
    (∃ i w, a = .pulse i w ∧ c = .pulseEnd i ∧ (s.signalAt i).pulse.isSome = true) ∨
    (∃ i l w, a = .await i l w ∧ c = .senseChange i l) ∨
    (∃ i l w, a = .await i l w ∧ c = .awaitTimeout i ∧ (tabGet s.channel.awaits i).isSome = true ∧ s.forced = true) ∨
    (∃ w, a = .wait w ∧ c = .waitEnd ∧ s.channel.waitCounter.isSome = true) →
    s.executor.running = some (.forward k a) → s.executor.sub = .acting → s.executor.halted = false →
    s.executor.cursor = some k → s.executor.actionCursor = some m → (s.actionsAt s.kind k).length = m + 1 →
    (s.silentDescent = true → k = s.lastStage s.kind ∨ s.shortOf (k + 1) ≠ 0) →
    ∃ t, exec c s = .next t ∧ t.agreement = s.agreement ∧
      ((∀ i, c ≠ .awaitTimeout i) → t.faults = s.faults) ∧
      (∀ i w prior, a = .pulse i w → (s.signalAt i).state = .pulsing prior →
        t.signalAt i = { state := signalAt prior, pulse := none } ∧ (∀ j, j ≠ i → t.signalAt j = s.signalAt j) ∧
        t.channel.awaits = s.channel.awaits ∧ t.channel.waitCounter = s.channel.waitCounter) ∧
      (∀ i l w, a = .await i l w → tabGet t.channel.awaits i = none ∧
        (∀ j, j ≠ i → tabGet t.channel.awaits j = tabGet s.channel.awaits j) ∧
        t.channel.signals = s.channel.signals ∧ t.channel.waitCounter = s.channel.waitCounter) ∧
      (∀ w, a = .wait w → t.channel.waitCounter = none ∧ t.channel.signals = s.channel.signals ∧
        t.channel.awaits = s.channel.awaits) ∧
      t.channel.rails = s.channel.rails ∧
      (s.agreement.phase ≠ .mute →
        t.executor = { s.executor with sub := .reporting, running := none, actionCursor := some (m + 1) } ∧
        t.hasQueued .stage s.openNumber (.stage .forward k)) ∧
      (s.silentDescent = true → (t.slot .stage).queued = (s.slot .stage).queued ∧
        (k = s.lastStage s.kind → s.forced = true → t.executor = { s.executor with
          sub := .waiting, running := none, cursor := some (k + 1), actionCursor := some (m + 1)
          barrier := some ⟨.closing, s.waitLimit s.kind k⟩, barrierExpired := false }) ∧
        (k ≠ s.lastStage s.kind → s.shortOf (k + 1) ≠ 0 → t.executor = { s.executor with
          sub := .waiting, running := none, cursor := some (k + 1), actionCursor := some (m + 1)
          barrier := some ⟨.stage, s.waitLimit s.kind (k + 1)⟩, barrierExpired := false }))

/-! ### Requests and wake inputs -/

/-- An edge of SLPREQ latches ENTER_REST, with the level of IMGRDY as its flag, ENTER_STOW, where IMGRDY is high, or
ENTER_OFF; the type RUN is ignored, and ENTER_STOW with IMGRDY low is answered low at once. A replaced request of the lines
is answered low. In LOADING and CONFIG_FAULT the edge is ignored. The model counts the REQACK pulses begun and not ended
(log 12): an answer adds one, and the end of a pulse takes one away, if there is one (log 4). -/
def Obligations.SlpreqLatchesRequest : Prop :=
  (∀ (t1 t0 img : Level) (r : Request) (s : State), s.agreement.phase.loaded = true →
    (t1 = .low ∧ t0 = .high ∧ r = ⟨.enterRest, img.isHigh, .lines⟩) ∨
    (t1 = .high ∧ t0 = .low ∧ img = .high ∧ r = ⟨.enterStow, false, .lines⟩) ∨
    (t1 = .high ∧ t0 = .high ∧ r = ⟨.enterOff, false, .lines⟩) →
    ∃ t q, exec (.slpreqEdge t1 t0 img) s = .next t ∧ t.request.latch = some ⟨r, q⟩ ∧
      t.request.deferHold = none ∧ t.agreement = s.agreement ∧ t.executor = s.executor ∧ t.faults = s.faults ∧
      (∀ l, s.request.latch = some l → l.request.source = .lines →
        t.request.result = .low ∧ t.request.pulses = s.request.pulses + 1) ∧
      (s.request.latch = none → t.request.pulses = s.request.pulses)) ∧
  (∀ (img : Level) (s : State), exec (.slpreqEdge .low .low img) s = .next s) ∧
  (∀ s : State, s.agreement.phase.loaded = true → exec (.slpreqEdge .high .low .low) s =
    .next { s with request := { s.request with result := .low, pulses := s.request.pulses + 1 } }) ∧
  (∀ (t1 t0 img : Level) (s : State), s.agreement.phase.loaded = false →
    exec (.slpreqEdge t1 t0 img) s = .next s) ∧
  ∀ s : State, exec .reqackPulseEnd s =
    .next { s with request := { s.request with pulses := s.request.pulses - 1 } }

/-- A LEVEL input that leaves its active level is IDLE with its counter stopped; one that becomes active while qualification
runs, from IDLE, begins its hold. The end of the hold makes it SPENT and qualifies it: a new PENDING entry for an input
with none, or one repeat more. In VOTING, and in STAGING before commit, of an entry kind or DEMOTE whose target state allows
the input, it requests ABORT(WAKE), which takes the place of a queued ABORT of another cause and leaves an ABORT(WAKE); an
input that is not allowed there requests none, nor does any input in another phase than these and SETTLED. -/
def Obligations.LevelInputQualifies : Prop :=
  (∀ (i : Fin 8) (l : Level) (s s' : State), (s.wakeDef i).kind = .level →
    s' = { s with pins := { s.pins with wake := tabSet s.pins.wake i l } } →
    (l ≠ (s.wakeDef i).activeLevel → exec (.levelInputChange i l) s =
      .next (s'.withWakeInput i { s.wakeInput i with level := .idle, hold := none })) ∧
    (l = (s.wakeDef i).activeLevel → s.qualifies = true → (s.wakeInput i).level = .idle →
      exec (.levelInputChange i l) s = .next (s'.withWakeInput i
        { s.wakeInput i with level := .holding, hold := some (s.wakeDef i).holdTime })) ∧
    (l = (s.wakeDef i).activeLevel → s.qualifies = false ∨ (s.wakeInput i).level ≠ .idle →
      exec (.levelInputChange i l) s = .next s')) ∧
  ∀ (i : Fin 8) (s : State), (s.wakeInput i).hold.isSome = true →
    ∃ t, exec (.levelHoldEnd i) s = .next t ∧
      t.wakeInput i = { s.wakeInput i with level := .spent, hold := none } ∧
      ((∀ e ∈ s.wake.queue, e.input ≠ i) → t.wake.queue = s.wake.queue ++ [⟨i, s.time, 0, 0, .pending⟩]) ∧
      (∀ e ∈ s.wake.queue, e.input = i → { e with repeats := min (e.repeats + 1) 255 } ∈ t.wake.queue) ∧
      (s.agreement.phase = .voting ∨ s.agreement.phase = .staging → s.committed = false →
        s.kind.isEntry = true ∨ s.kind = .demote → (s.wakeDef i).allowedIn s.kind.target = true →
        ((s.slot .abort).queued = none ∨
            (∃ q, (s.slot .abort).queued = some (.ready q) ∧ ∀ x, q.frame.body ≠ .abort (.wake x)) →
          t.hasQueued .abort s.openNumber (.abort (.wake i))) ∧
        ((∃ q x, (s.slot .abort).queued = some (.ready q) ∧ q.frame.number = s.openNumber ∧
            q.frame.body = .abort (.wake x)) → t.link = s.link)) ∧
      (s.agreement.phase ≠ .settled →
        (s.agreement.phase ≠ .voting ∧ s.agreement.phase ≠ .staging) ∨ s.committed = true ∨
          (s.kind.isEntry = false ∧ s.kind ≠ .demote) ∨ (s.wakeDef i).allowedIn s.kind.target = false →
        t.link = s.link) ∧
      t.agreement = s.agreement ∧ t.executor = s.executor ∧ t.faults = s.faults

/-- An active edge of a COUNT input is counted while qualification runs, up to 65535; the first edge past it in a window
latches WAKE_OVERFLOW. At the end of a window the count is cleared, the window restarts, and a count that reached the
threshold qualifies the input. -/
def Obligations.CountWindowQualifies : Prop :=
  (∀ (i : Fin 8) (s : State), (s.wakeDef i).kind = .count → s.qualifies = true →
    ((s.wakeInput i).edges < 65535 → exec (.countEdge i) s =
      .next (s.withWakeInput i { s.wakeInput i with edges := (s.wakeInput i).edges + 1 })) ∧
    (65535 ≤ (s.wakeInput i).edges → (s.wakeInput i).overflow = false →
      ∃ t, exec (.countEdge i) s = .next t ∧ t.wakeInput i = { s.wakeInput i with overflow := true } ∧
        Latched s t .wakeOverflow (eightTarget i) .notice) ∧
    (65535 ≤ (s.wakeInput i).edges → (s.wakeInput i).overflow = true → exec (.countEdge i) s = .next s)) ∧
  (∀ (i : Fin 8) (s : State), s.qualifies = false → exec (.countEdge i) s = .next s) ∧
  (∀ (i : Fin 8) (s : State), (s.wakeInput i).ownWindow.isSome = true →
    ∃ t, exec (.ownWindowExpiry i) s = .next t ∧
      t.wakeInput i = { s.wakeInput i with
        edges := 0, overflow := false, ownWindow := some (s.wakeDef i).ownLength } ∧
      ((s.wakeInput i).edges < (s.wakeDef i).threshold → t.wake.queue = s.wake.queue) ∧
      ((s.wakeDef i).threshold ≤ (s.wakeInput i).edges → ∃ e ∈ t.wake.queue, e.input = i)) ∧
  ∀ s : State, s.wake.commonWindow.isSome = true →
    ∃ t, exec .commonWindowExpiry s = .next t ∧ t.wake.commonWindow = some s.station.commonWindow ∧
      ∀ i, (s.isCommonInput i = true → (t.wakeInput i).edges = 0 ∧ (t.wakeInput i).overflow = false ∧
          ((s.wakeDef i).threshold ≤ (s.wakeInput i).edges → ∃ e ∈ t.wake.queue, e.input = i)) ∧
        (s.isCommonInput i = false → t.wakeInput i = s.wakeInput i)

/-- The button. A change away from the debounced state starts the debounce counter, and a change back stops it; an input of
another kind, or a button that is not read, only moves its pin (log 4). A debounced press starts the long-press counter, and
in REST, STOW and OFF qualifies; a debounced release stops it. A release before the long-press time, SETTLED in RUN, is a
short press, which latches the request that the station section gives, answering a replaced request of the lines with one
REQACK pulse more (log 12); elsewhere it latches none. The long press,
SETTLED in RUN or with a vote or a plan under way before a descent, queues a forced PROPOSE of ENTER_OFF. -/
def Obligations.ButtonEvents : Prop :=
  (∀ (i : Fin 8) (l : Level) (s : State), (s.wakeDef i).kind = .button → s.readsButton = true →
    exec (.buttonInputChange i l) s = .next { s with
      pins := { s.pins with wake := tabSet s.pins.wake i l }
      wake := { s.wake with
        debounce := if (l == (s.wakeDef i).activeLevel) = s.wake.pressed then none
          else some (s.wakeDef i).debounce } }) ∧
  (∀ (i : Fin 8) (l : Level) (s : State), (s.wakeDef i).kind ≠ .button ∨ s.readsButton = false →
    exec (.buttonInputChange i l) s = .next { s with pins := { s.pins with wake := tabSet s.pins.wake i l } }) ∧
  (∀ (i : Fin 8) (s : State), s.wake.debounce.isSome = true → s.buttonInput = some i →
    ∃ t, exec .debounceEnd s = .next t ∧ t.wake.debounce = none ∧ t.wake.pressed = s.wakeActive i ∧
      (s.wakeActive i = true → t.wake.longPress = some (s.wakeDef i).longPress ∧
        (asleep s.agreement.believed = true → ∃ e ∈ t.wake.queue, e.input = i) ∧
        (asleep s.agreement.believed = false → t.wake.queue = s.wake.queue)) ∧
      (s.wakeActive i = false → t.wake.longPress = none ∧ t.wake.queue = s.wake.queue ∧
        (∀ k, s.wake.longPress.isSome = true → s.agreement.phase = .settled → s.agreement.believed = some .run →
          (s.station.shortPress = .enterRest ∧ k = .enterRest) ∨ (s.station.shortPress = .enterOff ∧ k = .enterOff) →
          ∃ q, t.request.latch = some ⟨⟨k, false, .button⟩, q⟩ ∧ t.request.deferHold = none ∧
            (∀ l, s.request.latch = some l → l.request.source = .lines →
              t.request.result = .low ∧ t.request.pulses = s.request.pulses + 1)) ∧
        (s.wake.longPress = none ∨ s.agreement.phase ≠ .settled ∨ s.agreement.believed ≠ some .run ∨
          s.station.shortPress = .nothing → t.request = s.request ∧ t.link = s.link)) ∧
      t.agreement = s.agreement ∧ t.executor = s.executor) ∧
  ∀ s : State, s.wake.longPress.isSome = true →
    (s.wake.pressed = true → (s.agreement.phase = .settled ∧ s.agreement.believed = some .run) ∨
        s.agreement.phase = .voting ∨ s.agreement.phase = .staging →
      ∃ t, exec .longPressEnd s = .next t ∧ t.hasQueued .propose s.nextNumber (.propose .enterOff true false) ∧
        t.wake.longPress = none ∧ t.agreement = s.agreement) ∧
    (s.wake.pressed = false ∨ s.longPressReported = false →
      exec .longPressEnd s = .next { s with wake := { s.wake with longPress := none } })

/-! ### The maintenance port -/

/-- The read commands, each by its code, written to the port's address: a write that joins an empty queue is the
command the next step runs, the response is built at the command and becomes the selected snapshot, the code and a
valid argument are acknowledged and further bytes are not. STATUS then clears every new flag, and PEER the
presence-changed flag of its entry; nothing else changes. Each response has the bytes of its table, with every count
in the range the manual gives. The order of the bits in byte 17 of STATUS, and the level shown there for a channel
that is not enabled, are the model's choice (log 40), as are byte 2 of PEER while no number is held (log 49) and byte
0 of HISTORY where no entry is (log 48); which fields of TXN have a presence byte is DEDUCED (log 14). -/
def Obligations.ReadCommandsSnapshot : Prop :=
  (∀ (a : I2cAddress) (rest : List Byte),
    writtenCommand a (0x01 :: rest) = some (.status ⟨a, rest.length⟩) ∧
    writtenCommand a [0x02] = some (.peer none ⟨a, 0⟩) ∧
    (∀ x, writtenCommand a (0x02 :: x :: rest) = some (.peer (some x) ⟨a, rest.length⟩)) ∧
    writtenCommand a (0x03 :: rest) = some (.txn ⟨a, rest.length⟩) ∧
    writtenCommand a [0x04] = some (.history none ⟨a, 0⟩) ∧
    (∀ x, writtenCommand a (0x04 :: x :: rest) = some (.history (some x) ⟨a, rest.length⟩)) ∧
    writtenCommand a (0x05 :: rest) = some (.wakeq ⟨a, rest.length⟩) ∧
    writtenCommand a (0x06 :: rest) = some (.faults ⟨a, rest.length⟩) ∧
    writtenCommand a (0x07 :: rest) = some (.stack ⟨a, rest.length⟩)) ∧
  (∀ (a : I2cAddress) (bytes : List Byte) (c : Instr) (s : State), writtenCommand a bytes = some c → s.pending = [] →
    step (s.withPortWrite a bytes) = exec c s) ∧
  (∀ (w : PortWrite) (s : State), s.answers w.addr = true →
    exec (.status w) s = .next { s with
      port := { s.port with selected := some s.statusBytes, acks := [true, true] ++ List.replicate w.extra false }
      agreement := { s.agreement with history := s.agreement.history.map fun e => { e with isNew := false } } } ∧
    (∀ i : StationId, exec (.peer (some (BitVec.ofNat 8 i.val)) w) s = .next ({ s with
      port := { s.port with
        selected := some (s.peerBytes i), acks := [true, true, true] ++ List.replicate w.extra false } }.withPeer i
          { s.peerAt i with changed := false })) ∧
    exec (.txn w) s = .next { s with
      port := { s.port with selected := some s.txnBytes, acks := [true, true] ++ List.replicate w.extra false } } ∧
    (∀ n : Fin 4, exec (.history (some (BitVec.ofNat 8 n.val)) w) s = .next { s with
      port := { s.port with
        selected := some (s.historyBytes n.val), acks := [true, true, true] ++ List.replicate w.extra false } }) ∧
    exec (.wakeq w) s = .next { s with
      port := { s.port with selected := some s.wakeqBytes, acks := [true, true] ++ List.replicate w.extra false } } ∧
    exec (.faults w) s = .next { s with
      port := { s.port with selected := some s.faultsBytes, acks := [true, true] ++ List.replicate w.extra false } } ∧
    exec (.stack w) s = .next { s with
      port := { s.port with selected := some s.stackBytes, acks := [true, true] ++ List.replicate w.extra false } }) ∧
  ResponseCodes ∧
  ∀ s : State, CountsInRange s →
    StatusLayout s s.statusBytes ∧
    (∀ i : StationId, PeerLayout s i (if i = s.me then Peer.blank else s.peerAt i) (s.peerBytes i)) ∧
    (∀ n e, s.agreement.history[n]? = some e → HistoryLayout e (s.historyBytes n)) ∧
    (∀ n, s.agreement.history[n]? = none → s.historyBytes n = List.replicate 10 0) ∧
    (s.agreement.record = none → s.txnBytes = [0]) ∧
    (∀ r, s.agreement.record = some r → TxnLayout r s.txnOpen s.txnBytes) ∧
    WakeqLayout s s.wakeqBytes ∧ FaultsLayout s s.faultsBytes ∧ StackLayout s s.stackBytes

/-- ACK_FAULTS empties the latched list and zeroes its unrecorded count, and touches nothing else but the port; its
response is the number of entries removed and the count before. The fault cause of ATTN falls, row 4 of the vote policy
no longer matches, the next summary is read from the deferred list alone, and a condition raised next is the first
entry of the emptied list (R100). A second ACK_FAULTS is taken in the same way. -/
def Obligations.AckFaultsEmptiesLatchedList : Prop :=
  ∀ (w : PortWrite) (s : State), s.answers w.addr = true →
    ∃ t, exec (.ackFaults w) s = .next t ∧
      t = { s with
        faults := { s.faults with latched := [], unrecorded := 0 }
        port := { s.port with
          selected := some [BitVec.ofNat 8 s.faults.latched.length, BitVec.ofNat 8 s.faults.unrecorded]
          acks := [true, true] ++ List.replicate w.extra false } } ∧
      t.attn = s.hasNewEntry ∧ t.faultSummary = (if s.faults.deferred = [] then 0 else 3) ∧
      (∀ inh k, t.votePolicy inh k ≠ .decline .faultPending) ∧
      (∀ code tgt sev, (latchFault code tgt sev t).faults.latched = [⟨code, tgt, sev, s.time, s.time, 1⟩]) ∧
      ∀ more, more.addr = w.addr → ∃ u, exec (.ackFaults more) t = .next u ∧ u.faults = t.faults ∧ u.port.selected = some [0, 0]

/-- The codes of ACK_FAULTS and RESTART are 0xA1 and 0xC3; every other code but those of the seven read commands is
unknown. The port answers its own address alone, and none without a loaded image. An unknown code with any bytes
behind it, and PEER or HISTORY without its argument or with one out of range, select nothing new: only the acknowledge
bits change, and what was selected before stays so (log 13). A read returns the snapshot's bytes, 0xFF past them or
with none selected, and consumes it. Where the port does not answer, the address is not acknowledged and nothing else
changes. -/
def Obligations.OtherTransfers : Prop :=
  (∀ (a : I2cAddress) (rest : List Byte),
    writtenCommand a (0xA1 :: rest) = some (.ackFaults ⟨a, rest.length⟩) ∧
    writtenCommand a (0xC3 :: rest) = some (.restart ⟨a, rest.length⟩) ∧
    ∀ code : Byte, (code = 0 ∨ (7 < code.toNat ∧ code ≠ 0xA1 ∧ code ≠ 0xC3)) →
      writtenCommand a (code :: rest) = some (.unknownCommand ⟨a, code, rest.length⟩)) ∧
  (∀ (a : I2cAddress) (s : State),
    s.answers a = true ↔ s.agreement.phase.loaded = true ∧ s.station.address = a.toNat) ∧
  (∀ (w : CodeWrite) (s : State), s.answers w.addr = true → exec (.unknownCommand w) s =
    .next { s with port := { s.port with acks := [true, false] ++ List.replicate w.extra false } }) ∧
  (∀ (w : PortWrite) (s : State), s.answers w.addr = true →
    exec (.peer none w) s = .next { s with port := { s.port with acks := [true, true] } } ∧
    exec (.history none w) s = .next { s with port := { s.port with acks := [true, true] } } ∧
    (∀ a : Byte, 8 ≤ a.toNat → exec (.peer (some a) w) s = .next { s with port := { s.port with
      acks := [true, true] ++ List.replicate (1 + w.extra) false } }) ∧
    (∀ a : Byte, 4 ≤ a.toNat → exec (.history (some a) w) s = .next { s with port := { s.port with
      acks := [true, true] ++ List.replicate (1 + w.extra) false } })) ∧
  (∀ (r : PortRead) (s : State), s.answers r.addr = true →
    ∃ t, exec (.snapshotRead r) s = .next t ∧ t = { s with port := t.port } ∧ t.port.selected = none ∧
      t.port.output.length = r.count ∧ ∀ i, i < r.count →
        t.port.output[i]? = some (match s.port.selected with
          | some bs => bs.getD i 0xFF
          | none => 0xFF)) ∧
  ∀ (c : Instr) (a : I2cAddress) (s : State), c.transferTo = some a → s.answers a = false →
    exec c s = .next { s with port := { s.port with acks := [false] } }

/-! ### Invariants -/

/-- Every step keeps the transaction invariant: the record fits the phase, the executor works only in a transaction under
way, and the vote, census and alignment timers run only in their phases. That the census window does not run in MUTE rests on
log 26. -/
def Obligations.TransactionFitsIsKept : Prop := Kept TransactionFits

/-- Every step keeps the transmit slots in order: frames of their own kind, at most one being sent, and nothing to send in
MUTE but the CENSUS of a barred station. -/
def Obligations.LinkFitsIsKept : Prop := Kept LinkFits

/-- Every step keeps the peer table in order: a silence timer runs exactly at a PRESENT peer (that it stops at an exclusion
by misses is log 21), and three misses are EXCLUDED. -/
def Obligations.PeersFitIsKept : Prop := Kept PeersFit

/-- Every step keeps the fault lists, the wake queue, the history, the record's fault list, the slots' rejection counts, the
streaks and the saturating counts within their bounds. The unwind stack and the rails' dropout and bounce counts, which the
loaded image bounds, are not part of it. -/
def Obligations.ListsFitIsKept : Prop := Kept ListsFit

/-- The invariants hold at reset. -/
def Obligations.InvariantsHoldAtReset : Prop :=
  TransactionFits State.reset ∧ LinkFits State.reset ∧ PeersFit State.reset ∧ ListsFit State.reset

end Statements
end

