-- ==== Sys2Proof/Laws/State.lean ====
section
/-! SUPPORT. One lemma for each field of the state and each update of one block, and what a fold keeps, so that no later
proof unfolds a record update. -/

namespace Sys2Proof.Machine

open Sys2Proof

/-! ### withRecord -/

@[simp] theorem State.withRecord_time (s : State) (r : Record) : (s.withRecord r).time = s.time := rfl
@[simp] theorem State.withRecord_pins (s : State) (r : Record) : (s.withRecord r).pins = s.pins := rfl
@[simp] theorem State.withRecord_link (s : State) (r : Record) : (s.withRecord r).link = s.link := rfl
@[simp] theorem State.withRecord_agreement_phase (s : State) (r : Record) :
    (s.withRecord r).agreement.phase = s.agreement.phase := rfl
@[simp] theorem State.withRecord_agreement_believed (s : State) (r : Record) :
    (s.withRecord r).agreement.believed = s.agreement.believed := rfl
@[simp] theorem State.withRecord_agreement_restImage (s : State) (r : Record) :
    (s.withRecord r).agreement.restImage = s.agreement.restImage := rfl
@[simp] theorem State.withRecord_agreement_number (s : State) (r : Record) :
    (s.withRecord r).agreement.number = s.agreement.number := rfl
@[simp] theorem State.withRecord_agreement_record (s : State) (r : Record) :
    (s.withRecord r).agreement.record = some r := rfl
@[simp] theorem State.withRecord_agreement_history (s : State) (r : Record) :
    (s.withRecord r).agreement.history = s.agreement.history := rfl
@[simp] theorem State.withRecord_agreement_lateProposals (s : State) (r : Record) :
    (s.withRecord r).agreement.lateProposals = s.agreement.lateProposals := rfl
@[simp] theorem State.withRecord_agreement_streaks (s : State) (r : Record) :
    (s.withRecord r).agreement.streaks = s.agreement.streaks := rfl
@[simp] theorem State.withRecord_agreement_voteWindow (s : State) (r : Record) :
    (s.withRecord r).agreement.voteWindow = s.agreement.voteWindow := rfl
@[simp] theorem State.withRecord_agreement_voteGuard (s : State) (r : Record) :
    (s.withRecord r).agreement.voteGuard = s.agreement.voteGuard := rfl
@[simp] theorem State.withRecord_presence (s : State) (r : Record) : (s.withRecord r).presence = s.presence := rfl
@[simp] theorem State.withRecord_executor (s : State) (r : Record) : (s.withRecord r).executor = s.executor := rfl
@[simp] theorem State.withRecord_channel (s : State) (r : Record) : (s.withRecord r).channel = s.channel := rfl
@[simp] theorem State.withRecord_wake (s : State) (r : Record) : (s.withRecord r).wake = s.wake := rfl
@[simp] theorem State.withRecord_request (s : State) (r : Record) : (s.withRecord r).request = s.request := rfl
@[simp] theorem State.withRecord_faults (s : State) (r : Record) : (s.withRecord r).faults = s.faults := rfl
@[simp] theorem State.withRecord_loader (s : State) (r : Record) : (s.withRecord r).loader = s.loader := rfl
@[simp] theorem State.withRecord_port (s : State) (r : Record) : (s.withRecord r).port = s.port := rfl
@[simp] theorem State.withRecord_pending (s : State) (r : Record) : (s.withRecord r).pending = s.pending := rfl

/-! ### withPhase -/

@[simp] theorem State.withPhase_time (s : State) (p : Phase) : (s.withPhase p).time = s.time := rfl
@[simp] theorem State.withPhase_pins (s : State) (p : Phase) : (s.withPhase p).pins = s.pins := rfl
@[simp] theorem State.withPhase_link (s : State) (p : Phase) : (s.withPhase p).link = s.link := rfl
@[simp] theorem State.withPhase_agreement_phase (s : State) (p : Phase) :
    (s.withPhase p).agreement.phase = p := rfl
@[simp] theorem State.withPhase_agreement_believed (s : State) (p : Phase) :
    (s.withPhase p).agreement.believed = s.agreement.believed := rfl
@[simp] theorem State.withPhase_agreement_restImage (s : State) (p : Phase) :
    (s.withPhase p).agreement.restImage = s.agreement.restImage := rfl
@[simp] theorem State.withPhase_agreement_number (s : State) (p : Phase) :
    (s.withPhase p).agreement.number = s.agreement.number := rfl
@[simp] theorem State.withPhase_agreement_record (s : State) (p : Phase) :
    (s.withPhase p).agreement.record = s.agreement.record := rfl
@[simp] theorem State.withPhase_agreement_history (s : State) (p : Phase) :
    (s.withPhase p).agreement.history = s.agreement.history := rfl
@[simp] theorem State.withPhase_agreement_lateProposals (s : State) (p : Phase) :
    (s.withPhase p).agreement.lateProposals = s.agreement.lateProposals := rfl
@[simp] theorem State.withPhase_agreement_streaks (s : State) (p : Phase) :
    (s.withPhase p).agreement.streaks = s.agreement.streaks := rfl
@[simp] theorem State.withPhase_agreement_voteWindow (s : State) (p : Phase) :
    (s.withPhase p).agreement.voteWindow = s.agreement.voteWindow := rfl
@[simp] theorem State.withPhase_agreement_voteGuard (s : State) (p : Phase) :
    (s.withPhase p).agreement.voteGuard = s.agreement.voteGuard := rfl
@[simp] theorem State.withPhase_presence (s : State) (p : Phase) : (s.withPhase p).presence = s.presence := rfl
@[simp] theorem State.withPhase_executor (s : State) (p : Phase) : (s.withPhase p).executor = s.executor := rfl
@[simp] theorem State.withPhase_channel (s : State) (p : Phase) : (s.withPhase p).channel = s.channel := rfl
@[simp] theorem State.withPhase_wake (s : State) (p : Phase) : (s.withPhase p).wake = s.wake := rfl
@[simp] theorem State.withPhase_request (s : State) (p : Phase) : (s.withPhase p).request = s.request := rfl
@[simp] theorem State.withPhase_faults (s : State) (p : Phase) : (s.withPhase p).faults = s.faults := rfl
@[simp] theorem State.withPhase_loader (s : State) (p : Phase) : (s.withPhase p).loader = s.loader := rfl
@[simp] theorem State.withPhase_port (s : State) (p : Phase) : (s.withPhase p).port = s.port := rfl
@[simp] theorem State.withPhase_pending (s : State) (p : Phase) : (s.withPhase p).pending = s.pending := rfl

/-! ### withPeer -/

@[simp] theorem State.withPeer_time (s : State) (i : StationId) (p : Peer) : (s.withPeer i p).time = s.time := rfl
@[simp] theorem State.withPeer_pins (s : State) (i : StationId) (p : Peer) : (s.withPeer i p).pins = s.pins := rfl
@[simp] theorem State.withPeer_link (s : State) (i : StationId) (p : Peer) : (s.withPeer i p).link = s.link := rfl
@[simp] theorem State.withPeer_agreement (s : State) (i : StationId) (p : Peer) :
    (s.withPeer i p).agreement = s.agreement := rfl
@[simp] theorem State.withPeer_presence_peers (s : State) (i : StationId) (p : Peer) :
    (s.withPeer i p).presence.peers = tabSet s.presence.peers i p := rfl
@[simp] theorem State.withPeer_presence_barring (s : State) (i : StationId) (p : Peer) :
    (s.withPeer i p).presence.barring = s.presence.barring := rfl
@[simp] theorem State.withPeer_presence_muteCause (s : State) (i : StationId) (p : Peer) :
    (s.withPeer i p).presence.muteCause = s.presence.muteCause := rfl
@[simp] theorem State.withPeer_presence_beat (s : State) (i : StationId) (p : Peer) :
    (s.withPeer i p).presence.beat = s.presence.beat := rfl
@[simp] theorem State.withPeer_presence_beatTimer (s : State) (i : StationId) (p : Peer) :
    (s.withPeer i p).presence.beatTimer = s.presence.beatTimer := rfl
@[simp] theorem State.withPeer_presence_debt (s : State) (i : StationId) (p : Peer) :
    (s.withPeer i p).presence.debt = s.presence.debt := rfl
@[simp] theorem State.withPeer_presence_censusWindow (s : State) (i : StationId) (p : Peer) :
    (s.withPeer i p).presence.censusWindow = s.presence.censusWindow := rfl
@[simp] theorem State.withPeer_presence_barredRetry (s : State) (i : StationId) (p : Peer) :
    (s.withPeer i p).presence.barredRetry = s.presence.barredRetry := rfl
@[simp] theorem State.withPeer_presence_retryHeld (s : State) (i : StationId) (p : Peer) :
    (s.withPeer i p).presence.retryHeld = s.presence.retryHeld := rfl
@[simp] theorem State.withPeer_presence_alignment (s : State) (i : StationId) (p : Peer) :
    (s.withPeer i p).presence.alignment = s.presence.alignment := rfl
@[simp] theorem State.withPeer_executor (s : State) (i : StationId) (p : Peer) :
    (s.withPeer i p).executor = s.executor := rfl
@[simp] theorem State.withPeer_channel (s : State) (i : StationId) (p : Peer) :
    (s.withPeer i p).channel = s.channel := rfl
@[simp] theorem State.withPeer_wake (s : State) (i : StationId) (p : Peer) : (s.withPeer i p).wake = s.wake := rfl
@[simp] theorem State.withPeer_request (s : State) (i : StationId) (p : Peer) :
    (s.withPeer i p).request = s.request := rfl
@[simp] theorem State.withPeer_faults (s : State) (i : StationId) (p : Peer) :
    (s.withPeer i p).faults = s.faults := rfl
@[simp] theorem State.withPeer_loader (s : State) (i : StationId) (p : Peer) :
    (s.withPeer i p).loader = s.loader := rfl
@[simp] theorem State.withPeer_port (s : State) (i : StationId) (p : Peer) : (s.withPeer i p).port = s.port := rfl
@[simp] theorem State.withPeer_pending (s : State) (i : StationId) (p : Peer) :
    (s.withPeer i p).pending = s.pending := rfl

/-! ### withRail -/

@[simp] theorem State.withRail_time (s : State) (ch : Fin 6) (r : Rail) : (s.withRail ch r).time = s.time := rfl
@[simp] theorem State.withRail_pins (s : State) (ch : Fin 6) (r : Rail) : (s.withRail ch r).pins = s.pins := rfl
@[simp] theorem State.withRail_link (s : State) (ch : Fin 6) (r : Rail) : (s.withRail ch r).link = s.link := rfl
@[simp] theorem State.withRail_agreement (s : State) (ch : Fin 6) (r : Rail) :
    (s.withRail ch r).agreement = s.agreement := rfl
@[simp] theorem State.withRail_presence (s : State) (ch : Fin 6) (r : Rail) :
    (s.withRail ch r).presence = s.presence := rfl
@[simp] theorem State.withRail_executor (s : State) (ch : Fin 6) (r : Rail) :
    (s.withRail ch r).executor = s.executor := rfl
@[simp] theorem State.withRail_channel_rails (s : State) (ch : Fin 6) (r : Rail) :
    (s.withRail ch r).channel.rails = tabSet s.channel.rails ch r := rfl
@[simp] theorem State.withRail_channel_signals (s : State) (ch : Fin 6) (r : Rail) :
    (s.withRail ch r).channel.signals = s.channel.signals := rfl
@[simp] theorem State.withRail_channel_awaits (s : State) (ch : Fin 6) (r : Rail) :
    (s.withRail ch r).channel.awaits = s.channel.awaits := rfl
@[simp] theorem State.withRail_channel_waitCounter (s : State) (ch : Fin 6) (r : Rail) :
    (s.withRail ch r).channel.waitCounter = s.channel.waitCounter := rfl
@[simp] theorem State.withRail_channel_corrections (s : State) (ch : Fin 6) (r : Rail) :
    (s.withRail ch r).channel.corrections = s.channel.corrections := rfl
@[simp] theorem State.withRail_wake (s : State) (ch : Fin 6) (r : Rail) : (s.withRail ch r).wake = s.wake := rfl
@[simp] theorem State.withRail_request (s : State) (ch : Fin 6) (r : Rail) :
    (s.withRail ch r).request = s.request := rfl
@[simp] theorem State.withRail_faults (s : State) (ch : Fin 6) (r : Rail) : (s.withRail ch r).faults = s.faults := rfl
@[simp] theorem State.withRail_loader (s : State) (ch : Fin 6) (r : Rail) : (s.withRail ch r).loader = s.loader := rfl
@[simp] theorem State.withRail_port (s : State) (ch : Fin 6) (r : Rail) : (s.withRail ch r).port = s.port := rfl
@[simp] theorem State.withRail_pending (s : State) (ch : Fin 6) (r : Rail) :
    (s.withRail ch r).pending = s.pending := rfl

/-! ### withSignal -/

@[simp] theorem State.withSignal_time (s : State) (i : Fin 4) (x : Signal) : (s.withSignal i x).time = s.time := rfl
@[simp] theorem State.withSignal_pins (s : State) (i : Fin 4) (x : Signal) : (s.withSignal i x).pins = s.pins := rfl
@[simp] theorem State.withSignal_link (s : State) (i : Fin 4) (x : Signal) : (s.withSignal i x).link = s.link := rfl
@[simp] theorem State.withSignal_agreement (s : State) (i : Fin 4) (x : Signal) :
    (s.withSignal i x).agreement = s.agreement := rfl
@[simp] theorem State.withSignal_presence (s : State) (i : Fin 4) (x : Signal) :
    (s.withSignal i x).presence = s.presence := rfl
@[simp] theorem State.withSignal_executor (s : State) (i : Fin 4) (x : Signal) :
    (s.withSignal i x).executor = s.executor := rfl
@[simp] theorem State.withSignal_channel_rails (s : State) (i : Fin 4) (x : Signal) :
    (s.withSignal i x).channel.rails = s.channel.rails := rfl
@[simp] theorem State.withSignal_channel_signals (s : State) (i : Fin 4) (x : Signal) :
    (s.withSignal i x).channel.signals = tabSet s.channel.signals i x := rfl
@[simp] theorem State.withSignal_channel_awaits (s : State) (i : Fin 4) (x : Signal) :
    (s.withSignal i x).channel.awaits = s.channel.awaits := rfl
@[simp] theorem State.withSignal_channel_waitCounter (s : State) (i : Fin 4) (x : Signal) :
    (s.withSignal i x).channel.waitCounter = s.channel.waitCounter := rfl
@[simp] theorem State.withSignal_channel_corrections (s : State) (i : Fin 4) (x : Signal) :
    (s.withSignal i x).channel.corrections = s.channel.corrections := rfl
@[simp] theorem State.withSignal_wake (s : State) (i : Fin 4) (x : Signal) : (s.withSignal i x).wake = s.wake := rfl
@[simp] theorem State.withSignal_request (s : State) (i : Fin 4) (x : Signal) :
    (s.withSignal i x).request = s.request := rfl
@[simp] theorem State.withSignal_faults (s : State) (i : Fin 4) (x : Signal) :
    (s.withSignal i x).faults = s.faults := rfl
@[simp] theorem State.withSignal_loader (s : State) (i : Fin 4) (x : Signal) :
    (s.withSignal i x).loader = s.loader := rfl
@[simp] theorem State.withSignal_port (s : State) (i : Fin 4) (x : Signal) : (s.withSignal i x).port = s.port := rfl
@[simp] theorem State.withSignal_pending (s : State) (i : Fin 4) (x : Signal) :
    (s.withSignal i x).pending = s.pending := rfl

/-! ### withAwait -/

@[simp] theorem State.withAwait_time (s : State) (i : Fin 2) (t : Timer) : (s.withAwait i t).time = s.time := rfl
@[simp] theorem State.withAwait_pins (s : State) (i : Fin 2) (t : Timer) : (s.withAwait i t).pins = s.pins := rfl
@[simp] theorem State.withAwait_link (s : State) (i : Fin 2) (t : Timer) : (s.withAwait i t).link = s.link := rfl
@[simp] theorem State.withAwait_agreement (s : State) (i : Fin 2) (t : Timer) :
    (s.withAwait i t).agreement = s.agreement := rfl
@[simp] theorem State.withAwait_presence (s : State) (i : Fin 2) (t : Timer) :
    (s.withAwait i t).presence = s.presence := rfl
@[simp] theorem State.withAwait_executor (s : State) (i : Fin 2) (t : Timer) :
    (s.withAwait i t).executor = s.executor := rfl
@[simp] theorem State.withAwait_channel_rails (s : State) (i : Fin 2) (t : Timer) :
    (s.withAwait i t).channel.rails = s.channel.rails := rfl
@[simp] theorem State.withAwait_channel_signals (s : State) (i : Fin 2) (t : Timer) :
    (s.withAwait i t).channel.signals = s.channel.signals := rfl
@[simp] theorem State.withAwait_channel_awaits (s : State) (i : Fin 2) (t : Timer) :
    (s.withAwait i t).channel.awaits = tabSet s.channel.awaits i t := rfl
@[simp] theorem State.withAwait_channel_waitCounter (s : State) (i : Fin 2) (t : Timer) :
    (s.withAwait i t).channel.waitCounter = s.channel.waitCounter := rfl
@[simp] theorem State.withAwait_channel_corrections (s : State) (i : Fin 2) (t : Timer) :
    (s.withAwait i t).channel.corrections = s.channel.corrections := rfl
@[simp] theorem State.withAwait_wake (s : State) (i : Fin 2) (t : Timer) : (s.withAwait i t).wake = s.wake := rfl
@[simp] theorem State.withAwait_request (s : State) (i : Fin 2) (t : Timer) :
    (s.withAwait i t).request = s.request := rfl
@[simp] theorem State.withAwait_faults (s : State) (i : Fin 2) (t : Timer) :
    (s.withAwait i t).faults = s.faults := rfl
@[simp] theorem State.withAwait_loader (s : State) (i : Fin 2) (t : Timer) :
    (s.withAwait i t).loader = s.loader := rfl
@[simp] theorem State.withAwait_port (s : State) (i : Fin 2) (t : Timer) : (s.withAwait i t).port = s.port := rfl
@[simp] theorem State.withAwait_pending (s : State) (i : Fin 2) (t : Timer) :
    (s.withAwait i t).pending = s.pending := rfl

/-! ### withWait -/

@[simp] theorem State.withWait_time (s : State) (t : Timer) : (s.withWait t).time = s.time := rfl
@[simp] theorem State.withWait_pins (s : State) (t : Timer) : (s.withWait t).pins = s.pins := rfl
@[simp] theorem State.withWait_link (s : State) (t : Timer) : (s.withWait t).link = s.link := rfl
@[simp] theorem State.withWait_agreement (s : State) (t : Timer) : (s.withWait t).agreement = s.agreement := rfl
@[simp] theorem State.withWait_presence (s : State) (t : Timer) : (s.withWait t).presence = s.presence := rfl
@[simp] theorem State.withWait_executor (s : State) (t : Timer) : (s.withWait t).executor = s.executor := rfl
@[simp] theorem State.withWait_channel_rails (s : State) (t : Timer) :
    (s.withWait t).channel.rails = s.channel.rails := rfl
@[simp] theorem State.withWait_channel_signals (s : State) (t : Timer) :
    (s.withWait t).channel.signals = s.channel.signals := rfl
@[simp] theorem State.withWait_channel_awaits (s : State) (t : Timer) :
    (s.withWait t).channel.awaits = s.channel.awaits := rfl
@[simp] theorem State.withWait_channel_waitCounter (s : State) (t : Timer) :
    (s.withWait t).channel.waitCounter = t := rfl
@[simp] theorem State.withWait_channel_corrections (s : State) (t : Timer) :
    (s.withWait t).channel.corrections = s.channel.corrections := rfl
@[simp] theorem State.withWait_wake (s : State) (t : Timer) : (s.withWait t).wake = s.wake := rfl
@[simp] theorem State.withWait_request (s : State) (t : Timer) : (s.withWait t).request = s.request := rfl
@[simp] theorem State.withWait_faults (s : State) (t : Timer) : (s.withWait t).faults = s.faults := rfl
@[simp] theorem State.withWait_loader (s : State) (t : Timer) : (s.withWait t).loader = s.loader := rfl
@[simp] theorem State.withWait_port (s : State) (t : Timer) : (s.withWait t).port = s.port := rfl
@[simp] theorem State.withWait_pending (s : State) (t : Timer) : (s.withWait t).pending = s.pending := rfl

/-! ### withWakeInput -/

@[simp] theorem State.withWakeInput_time (s : State) (i : Fin 8) (w : WakeInput) :
    (s.withWakeInput i w).time = s.time := rfl
@[simp] theorem State.withWakeInput_pins (s : State) (i : Fin 8) (w : WakeInput) :
    (s.withWakeInput i w).pins = s.pins := rfl
@[simp] theorem State.withWakeInput_link (s : State) (i : Fin 8) (w : WakeInput) :
    (s.withWakeInput i w).link = s.link := rfl
@[simp] theorem State.withWakeInput_agreement (s : State) (i : Fin 8) (w : WakeInput) :
    (s.withWakeInput i w).agreement = s.agreement := rfl
@[simp] theorem State.withWakeInput_presence (s : State) (i : Fin 8) (w : WakeInput) :
    (s.withWakeInput i w).presence = s.presence := rfl
@[simp] theorem State.withWakeInput_executor (s : State) (i : Fin 8) (w : WakeInput) :
    (s.withWakeInput i w).executor = s.executor := rfl
@[simp] theorem State.withWakeInput_channel (s : State) (i : Fin 8) (w : WakeInput) :
    (s.withWakeInput i w).channel = s.channel := rfl
@[simp] theorem State.withWakeInput_wake_inputs (s : State) (i : Fin 8) (w : WakeInput) :
    (s.withWakeInput i w).wake.inputs = tabSet s.wake.inputs i w := rfl
@[simp] theorem State.withWakeInput_wake_pressed (s : State) (i : Fin 8) (w : WakeInput) :
    (s.withWakeInput i w).wake.pressed = s.wake.pressed := rfl
@[simp] theorem State.withWakeInput_wake_debounce (s : State) (i : Fin 8) (w : WakeInput) :
    (s.withWakeInput i w).wake.debounce = s.wake.debounce := rfl
@[simp] theorem State.withWakeInput_wake_longPress (s : State) (i : Fin 8) (w : WakeInput) :
    (s.withWakeInput i w).wake.longPress = s.wake.longPress := rfl
@[simp] theorem State.withWakeInput_wake_commonWindow (s : State) (i : Fin 8) (w : WakeInput) :
    (s.withWakeInput i w).wake.commonWindow = s.wake.commonWindow := rfl
@[simp] theorem State.withWakeInput_wake_queue (s : State) (i : Fin 8) (w : WakeInput) :
    (s.withWakeInput i w).wake.queue = s.wake.queue := rfl
@[simp] theorem State.withWakeInput_wake_mark (s : State) (i : Fin 8) (w : WakeInput) :
    (s.withWakeInput i w).wake.mark = s.wake.mark := rfl
@[simp] theorem State.withWakeInput_wake_minDwell (s : State) (i : Fin 8) (w : WakeInput) :
    (s.withWakeInput i w).wake.minDwell = s.wake.minDwell := rfl
@[simp] theorem State.withWakeInput_wake_faultHold (s : State) (i : Fin 8) (w : WakeInput) :
    (s.withWakeInput i w).wake.faultHold = s.wake.faultHold := rfl
@[simp] theorem State.withWakeInput_wake_demote (s : State) (i : Fin 8) (w : WakeInput) :
    (s.withWakeInput i w).wake.demote = s.wake.demote := rfl
@[simp] theorem State.withWakeInput_request (s : State) (i : Fin 8) (w : WakeInput) :
    (s.withWakeInput i w).request = s.request := rfl
@[simp] theorem State.withWakeInput_faults (s : State) (i : Fin 8) (w : WakeInput) :
    (s.withWakeInput i w).faults = s.faults := rfl
@[simp] theorem State.withWakeInput_loader (s : State) (i : Fin 8) (w : WakeInput) :
    (s.withWakeInput i w).loader = s.loader := rfl
@[simp] theorem State.withWakeInput_port (s : State) (i : Fin 8) (w : WakeInput) :
    (s.withWakeInput i w).port = s.port := rfl
@[simp] theorem State.withWakeInput_pending (s : State) (i : Fin 8) (w : WakeInput) :
    (s.withWakeInput i w).pending = s.pending := rfl

/-! ### withSlot -/

@[simp] theorem State.withSlot_time (s : State) (k : FrameKind) (x : Slot) : (s.withSlot k x).time = s.time := rfl
@[simp] theorem State.withSlot_pins (s : State) (k : FrameKind) (x : Slot) : (s.withSlot k x).pins = s.pins := rfl
@[simp] theorem State.withSlot_link_integrated (s : State) (k : FrameKind) (x : Slot) :
    (s.withSlot k x).link.integrated = s.link.integrated := rfl
@[simp] theorem State.withSlot_link_slots (s : State) (k : FrameKind) (x : Slot) :
    (s.withSlot k x).link.slots = tabSet s.link.slots k.class x := rfl
@[simp] theorem State.withSlot_link_receiveErrors (s : State) (k : FrameKind) (x : Slot) :
    (s.withSlot k x).link.receiveErrors = s.link.receiveErrors := rfl
@[simp] theorem State.withSlot_agreement (s : State) (k : FrameKind) (x : Slot) :
    (s.withSlot k x).agreement = s.agreement := rfl
@[simp] theorem State.withSlot_presence (s : State) (k : FrameKind) (x : Slot) :
    (s.withSlot k x).presence = s.presence := rfl
@[simp] theorem State.withSlot_executor (s : State) (k : FrameKind) (x : Slot) :
    (s.withSlot k x).executor = s.executor := rfl
@[simp] theorem State.withSlot_channel (s : State) (k : FrameKind) (x : Slot) :
    (s.withSlot k x).channel = s.channel := rfl
@[simp] theorem State.withSlot_wake (s : State) (k : FrameKind) (x : Slot) : (s.withSlot k x).wake = s.wake := rfl
@[simp] theorem State.withSlot_request (s : State) (k : FrameKind) (x : Slot) :
    (s.withSlot k x).request = s.request := rfl
@[simp] theorem State.withSlot_faults (s : State) (k : FrameKind) (x : Slot) :
    (s.withSlot k x).faults = s.faults := rfl
@[simp] theorem State.withSlot_loader (s : State) (k : FrameKind) (x : Slot) :
    (s.withSlot k x).loader = s.loader := rfl
@[simp] theorem State.withSlot_port (s : State) (k : FrameKind) (x : Slot) : (s.withSlot k x).port = s.port := rfl
@[simp] theorem State.withSlot_pending (s : State) (k : FrameKind) (x : Slot) :
    (s.withSlot k x).pending = s.pending := rfl

/-! ### withExecutor -/

@[simp] theorem State.withExecutor_time (s : State) (e : Executor) : (s.withExecutor e).time = s.time := rfl
@[simp] theorem State.withExecutor_pins (s : State) (e : Executor) : (s.withExecutor e).pins = s.pins := rfl
@[simp] theorem State.withExecutor_link (s : State) (e : Executor) : (s.withExecutor e).link = s.link := rfl
@[simp] theorem State.withExecutor_agreement (s : State) (e : Executor) :
    (s.withExecutor e).agreement = s.agreement := rfl
@[simp] theorem State.withExecutor_presence (s : State) (e : Executor) :
    (s.withExecutor e).presence = s.presence := rfl
@[simp] theorem State.withExecutor_executor (s : State) (e : Executor) : (s.withExecutor e).executor = e := rfl
@[simp] theorem State.withExecutor_channel (s : State) (e : Executor) : (s.withExecutor e).channel = s.channel := rfl
@[simp] theorem State.withExecutor_wake (s : State) (e : Executor) : (s.withExecutor e).wake = s.wake := rfl
@[simp] theorem State.withExecutor_request (s : State) (e : Executor) : (s.withExecutor e).request = s.request := rfl
@[simp] theorem State.withExecutor_faults (s : State) (e : Executor) : (s.withExecutor e).faults = s.faults := rfl
@[simp] theorem State.withExecutor_loader (s : State) (e : Executor) : (s.withExecutor e).loader = s.loader := rfl
@[simp] theorem State.withExecutor_port (s : State) (e : Executor) : (s.withExecutor e).port = s.port := rfl
@[simp] theorem State.withExecutor_pending (s : State) (e : Executor) : (s.withExecutor e).pending = s.pending := rfl

/-! ### withWake -/

@[simp] theorem State.withWake_time (s : State) (w : WakeUnit) : (s.withWake w).time = s.time := rfl
@[simp] theorem State.withWake_pins (s : State) (w : WakeUnit) : (s.withWake w).pins = s.pins := rfl
@[simp] theorem State.withWake_link (s : State) (w : WakeUnit) : (s.withWake w).link = s.link := rfl
@[simp] theorem State.withWake_agreement (s : State) (w : WakeUnit) : (s.withWake w).agreement = s.agreement := rfl
@[simp] theorem State.withWake_presence (s : State) (w : WakeUnit) : (s.withWake w).presence = s.presence := rfl
@[simp] theorem State.withWake_executor (s : State) (w : WakeUnit) : (s.withWake w).executor = s.executor := rfl
@[simp] theorem State.withWake_channel (s : State) (w : WakeUnit) : (s.withWake w).channel = s.channel := rfl
@[simp] theorem State.withWake_wake (s : State) (w : WakeUnit) : (s.withWake w).wake = w := rfl
@[simp] theorem State.withWake_request (s : State) (w : WakeUnit) : (s.withWake w).request = s.request := rfl
@[simp] theorem State.withWake_faults (s : State) (w : WakeUnit) : (s.withWake w).faults = s.faults := rfl
@[simp] theorem State.withWake_loader (s : State) (w : WakeUnit) : (s.withWake w).loader = s.loader := rfl
@[simp] theorem State.withWake_port (s : State) (w : WakeUnit) : (s.withWake w).port = s.port := rfl
@[simp] theorem State.withWake_pending (s : State) (w : WakeUnit) : (s.withWake w).pending = s.pending := rfl

/-! ### withRequest -/

@[simp] theorem State.withRequest_time (s : State) (r : RequestUnit) : (s.withRequest r).time = s.time := rfl
@[simp] theorem State.withRequest_pins (s : State) (r : RequestUnit) : (s.withRequest r).pins = s.pins := rfl
@[simp] theorem State.withRequest_link (s : State) (r : RequestUnit) : (s.withRequest r).link = s.link := rfl
@[simp] theorem State.withRequest_agreement (s : State) (r : RequestUnit) :
    (s.withRequest r).agreement = s.agreement := rfl
@[simp] theorem State.withRequest_presence (s : State) (r : RequestUnit) :
    (s.withRequest r).presence = s.presence := rfl
@[simp] theorem State.withRequest_executor (s : State) (r : RequestUnit) :
    (s.withRequest r).executor = s.executor := rfl
@[simp] theorem State.withRequest_channel (s : State) (r : RequestUnit) : (s.withRequest r).channel = s.channel := rfl
@[simp] theorem State.withRequest_wake (s : State) (r : RequestUnit) : (s.withRequest r).wake = s.wake := rfl
@[simp] theorem State.withRequest_request (s : State) (r : RequestUnit) : (s.withRequest r).request = r := rfl
@[simp] theorem State.withRequest_faults (s : State) (r : RequestUnit) : (s.withRequest r).faults = s.faults := rfl
@[simp] theorem State.withRequest_loader (s : State) (r : RequestUnit) : (s.withRequest r).loader = s.loader := rfl
@[simp] theorem State.withRequest_port (s : State) (r : RequestUnit) : (s.withRequest r).port = s.port := rfl
@[simp] theorem State.withRequest_pending (s : State) (r : RequestUnit) : (s.withRequest r).pending = s.pending := rfl

/-! ### withPresence -/

@[simp] theorem State.withPresence_time (s : State) (p : Presence) : (s.withPresence p).time = s.time := rfl
@[simp] theorem State.withPresence_pins (s : State) (p : Presence) : (s.withPresence p).pins = s.pins := rfl
@[simp] theorem State.withPresence_link (s : State) (p : Presence) : (s.withPresence p).link = s.link := rfl
@[simp] theorem State.withPresence_agreement (s : State) (p : Presence) :
    (s.withPresence p).agreement = s.agreement := rfl
@[simp] theorem State.withPresence_presence (s : State) (p : Presence) : (s.withPresence p).presence = p := rfl
@[simp] theorem State.withPresence_executor (s : State) (p : Presence) :
    (s.withPresence p).executor = s.executor := rfl
@[simp] theorem State.withPresence_channel (s : State) (p : Presence) : (s.withPresence p).channel = s.channel := rfl
@[simp] theorem State.withPresence_wake (s : State) (p : Presence) : (s.withPresence p).wake = s.wake := rfl
@[simp] theorem State.withPresence_request (s : State) (p : Presence) : (s.withPresence p).request = s.request := rfl
@[simp] theorem State.withPresence_faults (s : State) (p : Presence) : (s.withPresence p).faults = s.faults := rfl
@[simp] theorem State.withPresence_loader (s : State) (p : Presence) : (s.withPresence p).loader = s.loader := rfl
@[simp] theorem State.withPresence_port (s : State) (p : Presence) : (s.withPresence p).port = s.port := rfl
@[simp] theorem State.withPresence_pending (s : State) (p : Presence) : (s.withPresence p).pending = s.pending := rfl

/-! ### withAgreement -/

@[simp] theorem State.withAgreement_time (s : State) (a : Agreement) : (s.withAgreement a).time = s.time := rfl
@[simp] theorem State.withAgreement_pins (s : State) (a : Agreement) : (s.withAgreement a).pins = s.pins := rfl
@[simp] theorem State.withAgreement_link (s : State) (a : Agreement) : (s.withAgreement a).link = s.link := rfl
@[simp] theorem State.withAgreement_agreement (s : State) (a : Agreement) : (s.withAgreement a).agreement = a := rfl
@[simp] theorem State.withAgreement_presence (s : State) (a : Agreement) :
    (s.withAgreement a).presence = s.presence := rfl
@[simp] theorem State.withAgreement_executor (s : State) (a : Agreement) :
    (s.withAgreement a).executor = s.executor := rfl
@[simp] theorem State.withAgreement_channel (s : State) (a : Agreement) :
    (s.withAgreement a).channel = s.channel := rfl
@[simp] theorem State.withAgreement_wake (s : State) (a : Agreement) : (s.withAgreement a).wake = s.wake := rfl
@[simp] theorem State.withAgreement_request (s : State) (a : Agreement) :
    (s.withAgreement a).request = s.request := rfl
@[simp] theorem State.withAgreement_faults (s : State) (a : Agreement) : (s.withAgreement a).faults = s.faults := rfl
@[simp] theorem State.withAgreement_loader (s : State) (a : Agreement) : (s.withAgreement a).loader = s.loader := rfl
@[simp] theorem State.withAgreement_port (s : State) (a : Agreement) : (s.withAgreement a).port = s.port := rfl
@[simp] theorem State.withAgreement_pending (s : State) (a : Agreement) :
    (s.withAgreement a).pending = s.pending := rfl

/-! ### withPort -/

@[simp] theorem State.withPort_time (s : State) (p : Port) : (s.withPort p).time = s.time := rfl
@[simp] theorem State.withPort_pins (s : State) (p : Port) : (s.withPort p).pins = s.pins := rfl
@[simp] theorem State.withPort_link (s : State) (p : Port) : (s.withPort p).link = s.link := rfl
@[simp] theorem State.withPort_agreement (s : State) (p : Port) : (s.withPort p).agreement = s.agreement := rfl
@[simp] theorem State.withPort_presence (s : State) (p : Port) : (s.withPort p).presence = s.presence := rfl
@[simp] theorem State.withPort_executor (s : State) (p : Port) : (s.withPort p).executor = s.executor := rfl
@[simp] theorem State.withPort_channel (s : State) (p : Port) : (s.withPort p).channel = s.channel := rfl
@[simp] theorem State.withPort_wake (s : State) (p : Port) : (s.withPort p).wake = s.wake := rfl
@[simp] theorem State.withPort_request (s : State) (p : Port) : (s.withPort p).request = s.request := rfl
@[simp] theorem State.withPort_faults (s : State) (p : Port) : (s.withPort p).faults = s.faults := rfl
@[simp] theorem State.withPort_loader (s : State) (p : Port) : (s.withPort p).loader = s.loader := rfl
@[simp] theorem State.withPort_port (s : State) (p : Port) : (s.withPort p).port = p := rfl
@[simp] theorem State.withPort_pending (s : State) (p : Port) : (s.withPort p).pending = s.pending := rfl

/-! ### Folds -/

/-- A fold keeps what each of its steps keeps. -/
theorem foldl_keep {α β : Type} (g : State → β) {f : State → α → State} (h : ∀ s a, g (f s a) = g s) (l : List α)
    (s : State) : g (l.foldl f s) = g s := by
  induction l generalizing s with
  | nil => rfl
  | cons a l ih => rw [List.foldl_cons, ih, h]

end Sys2Proof.Machine
end

