-- ==== Sys2Proof/Laws/FramesLink.lean ====
section
/-! SUPPORT. What each operation on the link slots, the shared tables and the fault lists leaves unchanged. The lemma `f_keeps` lists, for
an operation `f`, every block, or field of a block, that it never writes. -/

namespace Sys2Proof.Machine

open Sys2Proof

@[simp] theorem State.onRecord_keeps (f : Record → Record) (s : State) :
    (State.onRecord f s).time = s.time ∧ (State.onRecord f s).pins = s.pins ∧ (State.onRecord f s).link = s.link ∧
    (State.onRecord f s).agreement.phase = s.agreement.phase ∧
    (State.onRecord f s).agreement.believed = s.agreement.believed ∧
    (State.onRecord f s).agreement.restImage = s.agreement.restImage ∧
    (State.onRecord f s).agreement.number = s.agreement.number ∧
    (State.onRecord f s).agreement.history = s.agreement.history ∧
    (State.onRecord f s).agreement.lateProposals = s.agreement.lateProposals ∧
    (State.onRecord f s).agreement.streaks = s.agreement.streaks ∧
    (State.onRecord f s).agreement.voteWindow = s.agreement.voteWindow ∧
    (State.onRecord f s).agreement.voteGuard = s.agreement.voteGuard ∧ (State.onRecord f s).presence = s.presence ∧
    (State.onRecord f s).executor = s.executor ∧ (State.onRecord f s).channel = s.channel ∧
    (State.onRecord f s).wake = s.wake ∧ (State.onRecord f s).request = s.request ∧
    (State.onRecord f s).faults = s.faults ∧ (State.onRecord f s).loader = s.loader ∧
    (State.onRecord f s).port = s.port ∧ (State.onRecord f s).pending = s.pending := by
  unfold State.onRecord
  split <;> simp

@[simp] theorem countLate_keeps (s : State) :
    (countLate s).time = s.time ∧ (countLate s).pins = s.pins ∧ (countLate s).link = s.link ∧
    (countLate s).agreement.phase = s.agreement.phase ∧ (countLate s).agreement.believed = s.agreement.believed ∧
    (countLate s).agreement.restImage = s.agreement.restImage ∧ (countLate s).agreement.number = s.agreement.number ∧
    (countLate s).agreement.record = s.agreement.record ∧ (countLate s).agreement.history = s.agreement.history ∧
    (countLate s).agreement.streaks = s.agreement.streaks ∧
    (countLate s).agreement.voteWindow = s.agreement.voteWindow ∧
    (countLate s).agreement.voteGuard = s.agreement.voteGuard ∧ (countLate s).presence = s.presence ∧
    (countLate s).executor = s.executor ∧ (countLate s).channel = s.channel ∧ (countLate s).wake = s.wake ∧
    (countLate s).request = s.request ∧ (countLate s).faults = s.faults ∧ (countLate s).loader = s.loader ∧
    (countLate s).port = s.port ∧ (countLate s).pending = s.pending := by
  simp [countLate]

@[simp] theorem clearMark_keeps (s : State) :
    (clearMark s).time = s.time ∧ (clearMark s).pins = s.pins ∧ (clearMark s).link = s.link ∧
    (clearMark s).agreement = s.agreement ∧ (clearMark s).presence = s.presence ∧
    (clearMark s).executor = s.executor ∧ (clearMark s).channel = s.channel ∧
    (clearMark s).wake.inputs = s.wake.inputs ∧ (clearMark s).wake.pressed = s.wake.pressed ∧
    (clearMark s).wake.debounce = s.wake.debounce ∧ (clearMark s).wake.longPress = s.wake.longPress ∧
    (clearMark s).wake.commonWindow = s.wake.commonWindow ∧ (clearMark s).wake.queue = s.wake.queue ∧
    (clearMark s).wake.minDwell = s.wake.minDwell ∧ (clearMark s).wake.faultHold = s.wake.faultHold ∧
    (clearMark s).wake.demote = s.wake.demote ∧ (clearMark s).request = s.request ∧ (clearMark s).faults = s.faults ∧
    (clearMark s).loader = s.loader ∧ (clearMark s).port = s.port ∧ (clearMark s).pending = s.pending := by
  simp [clearMark]

@[simp] theorem clearSending_keeps (k : FrameKind) (s : State) :
    (clearSending k s).time = s.time ∧ (clearSending k s).pins = s.pins ∧
    (clearSending k s).link.integrated = s.link.integrated ∧
    (clearSending k s).link.receiveErrors = s.link.receiveErrors ∧ (clearSending k s).agreement = s.agreement ∧
    (clearSending k s).presence = s.presence ∧ (clearSending k s).executor = s.executor ∧
    (clearSending k s).channel = s.channel ∧ (clearSending k s).wake = s.wake ∧
    (clearSending k s).request = s.request ∧ (clearSending k s).faults = s.faults ∧
    (clearSending k s).loader = s.loader ∧ (clearSending k s).port = s.port ∧ (clearSending k s).pending = s.pending := by
  simp [clearSending]

@[simp] theorem countReceiveError_keeps (s : State) :
    (countReceiveError s).time = s.time ∧ (countReceiveError s).pins = s.pins ∧
    (countReceiveError s).link.integrated = s.link.integrated ∧ (countReceiveError s).link.slots = s.link.slots ∧
    (countReceiveError s).agreement = s.agreement ∧ (countReceiveError s).presence = s.presence ∧
    (countReceiveError s).executor = s.executor ∧ (countReceiveError s).channel = s.channel ∧
    (countReceiveError s).wake = s.wake ∧ (countReceiveError s).request = s.request ∧
    (countReceiveError s).faults = s.faults ∧ (countReceiveError s).loader = s.loader ∧
    (countReceiveError s).port = s.port ∧ (countReceiveError s).pending = s.pending := by
  simp [countReceiveError]

@[simp] theorem latchWaits_keeps (s : State) :
    (latchWaits s).time = s.time ∧ (latchWaits s).pins = s.pins ∧ (latchWaits s).link = s.link ∧
    (latchWaits s).agreement = s.agreement ∧ (latchWaits s).presence = s.presence ∧
    (latchWaits s).executor = s.executor ∧ (latchWaits s).channel = s.channel ∧ (latchWaits s).wake = s.wake ∧
    (latchWaits s).request.underVote = s.request.underVote ∧ (latchWaits s).request.deferHold = s.request.deferHold ∧
    (latchWaits s).request.lockout = s.request.lockout ∧ (latchWaits s).request.refresh = s.request.refresh ∧
    (latchWaits s).request.pulses = s.request.pulses ∧ (latchWaits s).request.result = s.request.result ∧
    (latchWaits s).faults = s.faults ∧ (latchWaits s).loader = s.loader ∧ (latchWaits s).port = s.port ∧
    (latchWaits s).pending = s.pending := by
  unfold latchWaits
  split <;> simp

@[simp] theorem reportPurged_keeps (r : Ready) (s : State) :
    (reportPurged r s).time = s.time ∧ (reportPurged r s).pins = s.pins ∧ (reportPurged r s).link = s.link ∧
    (reportPurged r s).agreement = s.agreement ∧ (reportPurged r s).presence = s.presence ∧
    (reportPurged r s).executor = s.executor ∧ (reportPurged r s).channel = s.channel ∧
    (reportPurged r s).wake.inputs = s.wake.inputs ∧ (reportPurged r s).wake.pressed = s.wake.pressed ∧
    (reportPurged r s).wake.debounce = s.wake.debounce ∧ (reportPurged r s).wake.longPress = s.wake.longPress ∧
    (reportPurged r s).wake.commonWindow = s.wake.commonWindow ∧ (reportPurged r s).wake.queue = s.wake.queue ∧
    (reportPurged r s).wake.minDwell = s.wake.minDwell ∧ (reportPurged r s).wake.faultHold = s.wake.faultHold ∧
    (reportPurged r s).wake.demote = s.wake.demote ∧ (reportPurged r s).request.underVote = s.request.underVote ∧
    (reportPurged r s).request.deferHold = s.request.deferHold ∧
    (reportPurged r s).request.lockout = s.request.lockout ∧ (reportPurged r s).request.refresh = s.request.refresh ∧
    (reportPurged r s).request.pulses = s.request.pulses ∧ (reportPurged r s).request.result = s.request.result ∧
    (reportPurged r s).faults = s.faults ∧ (reportPurged r s).loader = s.loader ∧ (reportPurged r s).port = s.port ∧
    (reportPurged r s).pending = s.pending := by
  unfold reportPurged
  (repeat' split) <;> simp

@[simp] theorem reportQueued_keeps (q : Option Queued) (s : State) :
    (reportQueued q s).time = s.time ∧ (reportQueued q s).pins = s.pins ∧ (reportQueued q s).link = s.link ∧
    (reportQueued q s).agreement = s.agreement ∧ (reportQueued q s).presence = s.presence ∧
    (reportQueued q s).executor = s.executor ∧ (reportQueued q s).channel = s.channel ∧
    (reportQueued q s).wake.inputs = s.wake.inputs ∧ (reportQueued q s).wake.pressed = s.wake.pressed ∧
    (reportQueued q s).wake.debounce = s.wake.debounce ∧ (reportQueued q s).wake.longPress = s.wake.longPress ∧
    (reportQueued q s).wake.commonWindow = s.wake.commonWindow ∧ (reportQueued q s).wake.queue = s.wake.queue ∧
    (reportQueued q s).wake.minDwell = s.wake.minDwell ∧ (reportQueued q s).wake.faultHold = s.wake.faultHold ∧
    (reportQueued q s).wake.demote = s.wake.demote ∧ (reportQueued q s).request.underVote = s.request.underVote ∧
    (reportQueued q s).request.deferHold = s.request.deferHold ∧
    (reportQueued q s).request.lockout = s.request.lockout ∧ (reportQueued q s).request.refresh = s.request.refresh ∧
    (reportQueued q s).request.pulses = s.request.pulses ∧ (reportQueued q s).request.result = s.request.result ∧
    (reportQueued q s).faults = s.faults ∧ (reportQueued q s).loader = s.loader ∧ (reportQueued q s).port = s.port ∧
    (reportQueued q s).pending = s.pending := by
  unfold reportQueued
  split <;> simp

@[simp] theorem emptySlots_keeps (s : State) :
    (emptySlots s).time = s.time ∧ (emptySlots s).pins = s.pins ∧
    (emptySlots s).link.integrated = s.link.integrated ∧ (emptySlots s).link.receiveErrors = s.link.receiveErrors ∧
    (emptySlots s).agreement = s.agreement ∧ (emptySlots s).presence = s.presence ∧
    (emptySlots s).executor = s.executor ∧ (emptySlots s).channel = s.channel ∧
    (emptySlots s).wake.inputs = s.wake.inputs ∧ (emptySlots s).wake.pressed = s.wake.pressed ∧
    (emptySlots s).wake.debounce = s.wake.debounce ∧ (emptySlots s).wake.longPress = s.wake.longPress ∧
    (emptySlots s).wake.commonWindow = s.wake.commonWindow ∧ (emptySlots s).wake.queue = s.wake.queue ∧
    (emptySlots s).wake.minDwell = s.wake.minDwell ∧ (emptySlots s).wake.faultHold = s.wake.faultHold ∧
    (emptySlots s).wake.demote = s.wake.demote ∧ (emptySlots s).request.underVote = s.request.underVote ∧
    (emptySlots s).request.deferHold = s.request.deferHold ∧ (emptySlots s).request.lockout = s.request.lockout ∧
    (emptySlots s).request.refresh = s.request.refresh ∧ (emptySlots s).request.pulses = s.request.pulses ∧
    (emptySlots s).request.result = s.request.result ∧ (emptySlots s).faults = s.faults ∧
    (emptySlots s).loader = s.loader ∧ (emptySlots s).port = s.port ∧ (emptySlots s).pending = s.pending := by
  unfold emptySlots
  dsimp only
  exact
    ⟨foldl_keep (fun s => s.time) (fun s a => by simp) _ _, foldl_keep (fun s => s.pins) (fun s a => by simp) _ _,
     foldl_keep (fun s => s.link.integrated) (fun s a => by simp) _ _,
     foldl_keep (fun s => s.link.receiveErrors) (fun s a => by simp) _ _,
     foldl_keep (fun s => s.agreement) (fun s a => by simp) _ _,
     foldl_keep (fun s => s.presence) (fun s a => by simp) _ _,
     foldl_keep (fun s => s.executor) (fun s a => by simp) _ _,
     foldl_keep (fun s => s.channel) (fun s a => by simp) _ _,
     foldl_keep (fun s => s.wake.inputs) (fun s a => by simp) _ _,
     foldl_keep (fun s => s.wake.pressed) (fun s a => by simp) _ _,
     foldl_keep (fun s => s.wake.debounce) (fun s a => by simp) _ _,
     foldl_keep (fun s => s.wake.longPress) (fun s a => by simp) _ _,
     foldl_keep (fun s => s.wake.commonWindow) (fun s a => by simp) _ _,
     foldl_keep (fun s => s.wake.queue) (fun s a => by simp) _ _,
     foldl_keep (fun s => s.wake.minDwell) (fun s a => by simp) _ _,
     foldl_keep (fun s => s.wake.faultHold) (fun s a => by simp) _ _,
     foldl_keep (fun s => s.wake.demote) (fun s a => by simp) _ _,
     foldl_keep (fun s => s.request.underVote) (fun s a => by simp) _ _,
     foldl_keep (fun s => s.request.deferHold) (fun s a => by simp) _ _,
     foldl_keep (fun s => s.request.lockout) (fun s a => by simp) _ _,
     foldl_keep (fun s => s.request.refresh) (fun s a => by simp) _ _,
     foldl_keep (fun s => s.request.pulses) (fun s a => by simp) _ _,
     foldl_keep (fun s => s.request.result) (fun s a => by simp) _ _,
     foldl_keep (fun s => s.faults) (fun s a => by simp) _ _,
     foldl_keep (fun s => s.loader) (fun s a => by simp) _ _, foldl_keep (fun s => s.port) (fun s a => by simp) _ _,
     foldl_keep (fun s => s.pending) (fun s a => by simp) _ _⟩

@[simp] theorem fillSlot_keeps (k : FrameKind) (q : Queued) (s : State) :
    (fillSlot k q s).time = s.time ∧ (fillSlot k q s).pins = s.pins ∧
    (fillSlot k q s).link.integrated = s.link.integrated ∧
    (fillSlot k q s).link.receiveErrors = s.link.receiveErrors ∧ (fillSlot k q s).agreement = s.agreement ∧
    (fillSlot k q s).presence = s.presence ∧ (fillSlot k q s).executor = s.executor ∧
    (fillSlot k q s).channel = s.channel ∧ (fillSlot k q s).wake.inputs = s.wake.inputs ∧
    (fillSlot k q s).wake.pressed = s.wake.pressed ∧ (fillSlot k q s).wake.debounce = s.wake.debounce ∧
    (fillSlot k q s).wake.longPress = s.wake.longPress ∧ (fillSlot k q s).wake.commonWindow = s.wake.commonWindow ∧
    (fillSlot k q s).wake.queue = s.wake.queue ∧ (fillSlot k q s).wake.minDwell = s.wake.minDwell ∧
    (fillSlot k q s).wake.faultHold = s.wake.faultHold ∧ (fillSlot k q s).wake.demote = s.wake.demote ∧
    (fillSlot k q s).request.underVote = s.request.underVote ∧
    (fillSlot k q s).request.deferHold = s.request.deferHold ∧ (fillSlot k q s).request.lockout = s.request.lockout ∧
    (fillSlot k q s).request.refresh = s.request.refresh ∧ (fillSlot k q s).request.pulses = s.request.pulses ∧
    (fillSlot k q s).request.result = s.request.result ∧ (fillSlot k q s).faults = s.faults ∧
    (fillSlot k q s).loader = s.loader ∧ (fillSlot k q s).port = s.port ∧ (fillSlot k q s).pending = s.pending := by
  unfold fillSlot
  split <;> simp

@[simp] theorem fillBeat_keeps (s : State) :
    (fillBeat s).time = s.time ∧ (fillBeat s).pins = s.pins ∧ (fillBeat s).link.integrated = s.link.integrated ∧
    (fillBeat s).link.receiveErrors = s.link.receiveErrors ∧ (fillBeat s).agreement = s.agreement ∧
    (fillBeat s).presence = s.presence ∧ (fillBeat s).executor = s.executor ∧ (fillBeat s).channel = s.channel ∧
    (fillBeat s).wake.inputs = s.wake.inputs ∧ (fillBeat s).wake.pressed = s.wake.pressed ∧
    (fillBeat s).wake.debounce = s.wake.debounce ∧ (fillBeat s).wake.longPress = s.wake.longPress ∧
    (fillBeat s).wake.commonWindow = s.wake.commonWindow ∧ (fillBeat s).wake.queue = s.wake.queue ∧
    (fillBeat s).wake.minDwell = s.wake.minDwell ∧ (fillBeat s).wake.faultHold = s.wake.faultHold ∧
    (fillBeat s).wake.demote = s.wake.demote ∧ (fillBeat s).request.underVote = s.request.underVote ∧
    (fillBeat s).request.deferHold = s.request.deferHold ∧ (fillBeat s).request.lockout = s.request.lockout ∧
    (fillBeat s).request.refresh = s.request.refresh ∧ (fillBeat s).request.pulses = s.request.pulses ∧
    (fillBeat s).request.result = s.request.result ∧ (fillBeat s).faults = s.faults ∧
    (fillBeat s).loader = s.loader ∧ (fillBeat s).port = s.port ∧ (fillBeat s).pending = s.pending := by
  unfold fillBeat
  split <;> simp

@[simp] theorem fillFrame_keeps (number : TxnNumber) (body : Body) (s : State) :
    (fillFrame number body s).time = s.time ∧ (fillFrame number body s).pins = s.pins ∧
    (fillFrame number body s).link.integrated = s.link.integrated ∧
    (fillFrame number body s).link.receiveErrors = s.link.receiveErrors ∧
    (fillFrame number body s).agreement = s.agreement ∧ (fillFrame number body s).presence = s.presence ∧
    (fillFrame number body s).executor = s.executor ∧ (fillFrame number body s).channel = s.channel ∧
    (fillFrame number body s).wake.inputs = s.wake.inputs ∧ (fillFrame number body s).wake.pressed = s.wake.pressed ∧
    (fillFrame number body s).wake.debounce = s.wake.debounce ∧
    (fillFrame number body s).wake.longPress = s.wake.longPress ∧
    (fillFrame number body s).wake.commonWindow = s.wake.commonWindow ∧
    (fillFrame number body s).wake.queue = s.wake.queue ∧ (fillFrame number body s).wake.minDwell = s.wake.minDwell ∧
    (fillFrame number body s).wake.faultHold = s.wake.faultHold ∧
    (fillFrame number body s).wake.demote = s.wake.demote ∧
    (fillFrame number body s).request.underVote = s.request.underVote ∧
    (fillFrame number body s).request.deferHold = s.request.deferHold ∧
    (fillFrame number body s).request.lockout = s.request.lockout ∧
    (fillFrame number body s).request.refresh = s.request.refresh ∧
    (fillFrame number body s).request.pulses = s.request.pulses ∧
    (fillFrame number body s).request.result = s.request.result ∧ (fillFrame number body s).faults = s.faults ∧
    (fillFrame number body s).loader = s.loader ∧ (fillFrame number body s).port = s.port ∧
    (fillFrame number body s).pending = s.pending := by
  simp [fillFrame]

@[simp] theorem fillCensus_keeps (s : State) :
    (fillCensus s).time = s.time ∧ (fillCensus s).pins = s.pins ∧
    (fillCensus s).link.integrated = s.link.integrated ∧ (fillCensus s).link.receiveErrors = s.link.receiveErrors ∧
    (fillCensus s).agreement = s.agreement ∧ (fillCensus s).presence = s.presence ∧
    (fillCensus s).executor = s.executor ∧ (fillCensus s).channel = s.channel ∧
    (fillCensus s).wake.inputs = s.wake.inputs ∧ (fillCensus s).wake.pressed = s.wake.pressed ∧
    (fillCensus s).wake.debounce = s.wake.debounce ∧ (fillCensus s).wake.longPress = s.wake.longPress ∧
    (fillCensus s).wake.commonWindow = s.wake.commonWindow ∧ (fillCensus s).wake.queue = s.wake.queue ∧
    (fillCensus s).wake.minDwell = s.wake.minDwell ∧ (fillCensus s).wake.faultHold = s.wake.faultHold ∧
    (fillCensus s).wake.demote = s.wake.demote ∧ (fillCensus s).request.underVote = s.request.underVote ∧
    (fillCensus s).request.deferHold = s.request.deferHold ∧ (fillCensus s).request.lockout = s.request.lockout ∧
    (fillCensus s).request.refresh = s.request.refresh ∧ (fillCensus s).request.pulses = s.request.pulses ∧
    (fillCensus s).request.result = s.request.result ∧ (fillCensus s).faults = s.faults ∧
    (fillCensus s).loader = s.loader ∧ (fillCensus s).port = s.port ∧ (fillCensus s).pending = s.pending := by
  simp [fillCensus]

@[simp] theorem fillForcedPropose_keeps (s : State) :
    (fillForcedPropose s).time = s.time ∧ (fillForcedPropose s).pins = s.pins ∧
    (fillForcedPropose s).link.integrated = s.link.integrated ∧
    (fillForcedPropose s).link.receiveErrors = s.link.receiveErrors ∧ (fillForcedPropose s).agreement = s.agreement ∧
    (fillForcedPropose s).presence = s.presence ∧ (fillForcedPropose s).executor = s.executor ∧
    (fillForcedPropose s).channel = s.channel ∧ (fillForcedPropose s).wake.inputs = s.wake.inputs ∧
    (fillForcedPropose s).wake.pressed = s.wake.pressed ∧ (fillForcedPropose s).wake.debounce = s.wake.debounce ∧
    (fillForcedPropose s).wake.longPress = s.wake.longPress ∧
    (fillForcedPropose s).wake.commonWindow = s.wake.commonWindow ∧ (fillForcedPropose s).wake.queue = s.wake.queue ∧
    (fillForcedPropose s).wake.minDwell = s.wake.minDwell ∧ (fillForcedPropose s).wake.faultHold = s.wake.faultHold ∧
    (fillForcedPropose s).wake.demote = s.wake.demote ∧
    (fillForcedPropose s).request.underVote = s.request.underVote ∧
    (fillForcedPropose s).request.deferHold = s.request.deferHold ∧
    (fillForcedPropose s).request.lockout = s.request.lockout ∧
    (fillForcedPropose s).request.refresh = s.request.refresh ∧
    (fillForcedPropose s).request.pulses = s.request.pulses ∧
    (fillForcedPropose s).request.result = s.request.result ∧ (fillForcedPropose s).faults = s.faults ∧
    (fillForcedPropose s).loader = s.loader ∧ (fillForcedPropose s).port = s.port ∧
    (fillForcedPropose s).pending = s.pending := by
  simp [fillForcedPropose]

@[simp] theorem judgeReception_keeps (rx : Reception) (s : State) :
    (judgeReception rx s).time = s.time ∧ (judgeReception rx s).pins = s.pins ∧
    (judgeReception rx s).link.integrated = s.link.integrated ∧ (judgeReception rx s).link.slots = s.link.slots ∧
    (judgeReception rx s).agreement = s.agreement ∧ (judgeReception rx s).presence = s.presence ∧
    (judgeReception rx s).executor = s.executor ∧ (judgeReception rx s).channel = s.channel ∧
    (judgeReception rx s).wake = s.wake ∧ (judgeReception rx s).request = s.request ∧
    (judgeReception rx s).faults = s.faults ∧ (judgeReception rx s).loader = s.loader ∧
    (judgeReception rx s).port = s.port ∧ (judgeReception rx s).pending = s.pending := by
  unfold judgeReception
  split <;> simp

@[simp] theorem purgeKind_keeps (k : FrameKind) (test : Frame → Bool) (s : State) :
    (purgeKind k test s).time = s.time ∧ (purgeKind k test s).pins = s.pins ∧
    (purgeKind k test s).link.integrated = s.link.integrated ∧
    (purgeKind k test s).link.receiveErrors = s.link.receiveErrors ∧ (purgeKind k test s).agreement = s.agreement ∧
    (purgeKind k test s).presence = s.presence ∧ (purgeKind k test s).executor = s.executor ∧
    (purgeKind k test s).channel = s.channel ∧ (purgeKind k test s).wake.inputs = s.wake.inputs ∧
    (purgeKind k test s).wake.pressed = s.wake.pressed ∧ (purgeKind k test s).wake.debounce = s.wake.debounce ∧
    (purgeKind k test s).wake.longPress = s.wake.longPress ∧
    (purgeKind k test s).wake.commonWindow = s.wake.commonWindow ∧ (purgeKind k test s).wake.queue = s.wake.queue ∧
    (purgeKind k test s).wake.minDwell = s.wake.minDwell ∧ (purgeKind k test s).wake.faultHold = s.wake.faultHold ∧
    (purgeKind k test s).wake.demote = s.wake.demote ∧ (purgeKind k test s).request.underVote = s.request.underVote ∧
    (purgeKind k test s).request.deferHold = s.request.deferHold ∧
    (purgeKind k test s).request.lockout = s.request.lockout ∧
    (purgeKind k test s).request.refresh = s.request.refresh ∧
    (purgeKind k test s).request.pulses = s.request.pulses ∧ (purgeKind k test s).request.result = s.request.result ∧
    (purgeKind k test s).faults = s.faults ∧ (purgeKind k test s).loader = s.loader ∧
    (purgeKind k test s).port = s.port ∧ (purgeKind k test s).pending = s.pending := by
  unfold purgeKind
  dsimp only
  (repeat' split) <;> simp

@[simp] theorem purgeNumber_keeps (k : FrameKind) (n : TxnNumber) (s : State) :
    (purgeNumber k n s).time = s.time ∧ (purgeNumber k n s).pins = s.pins ∧
    (purgeNumber k n s).link.integrated = s.link.integrated ∧
    (purgeNumber k n s).link.receiveErrors = s.link.receiveErrors ∧ (purgeNumber k n s).agreement = s.agreement ∧
    (purgeNumber k n s).presence = s.presence ∧ (purgeNumber k n s).executor = s.executor ∧
    (purgeNumber k n s).channel = s.channel ∧ (purgeNumber k n s).wake.inputs = s.wake.inputs ∧
    (purgeNumber k n s).wake.pressed = s.wake.pressed ∧ (purgeNumber k n s).wake.debounce = s.wake.debounce ∧
    (purgeNumber k n s).wake.longPress = s.wake.longPress ∧
    (purgeNumber k n s).wake.commonWindow = s.wake.commonWindow ∧ (purgeNumber k n s).wake.queue = s.wake.queue ∧
    (purgeNumber k n s).wake.minDwell = s.wake.minDwell ∧ (purgeNumber k n s).wake.faultHold = s.wake.faultHold ∧
    (purgeNumber k n s).wake.demote = s.wake.demote ∧ (purgeNumber k n s).request.underVote = s.request.underVote ∧
    (purgeNumber k n s).request.deferHold = s.request.deferHold ∧
    (purgeNumber k n s).request.lockout = s.request.lockout ∧
    (purgeNumber k n s).request.refresh = s.request.refresh ∧ (purgeNumber k n s).request.pulses = s.request.pulses ∧
    (purgeNumber k n s).request.result = s.request.result ∧ (purgeNumber k n s).faults = s.faults ∧
    (purgeNumber k n s).loader = s.loader ∧ (purgeNumber k n s).port = s.port ∧
    (purgeNumber k n s).pending = s.pending := by
  simp [purgeNumber]

@[simp] theorem purgeTransaction_keeps (n : TxnNumber) (s : State) :
    (purgeTransaction n s).time = s.time ∧ (purgeTransaction n s).pins = s.pins ∧
    (purgeTransaction n s).link.integrated = s.link.integrated ∧
    (purgeTransaction n s).link.receiveErrors = s.link.receiveErrors ∧
    (purgeTransaction n s).agreement = s.agreement ∧ (purgeTransaction n s).presence = s.presence ∧
    (purgeTransaction n s).executor = s.executor ∧ (purgeTransaction n s).channel = s.channel ∧
    (purgeTransaction n s).wake.inputs = s.wake.inputs ∧ (purgeTransaction n s).wake.pressed = s.wake.pressed ∧
    (purgeTransaction n s).wake.debounce = s.wake.debounce ∧
    (purgeTransaction n s).wake.longPress = s.wake.longPress ∧
    (purgeTransaction n s).wake.commonWindow = s.wake.commonWindow ∧
    (purgeTransaction n s).wake.queue = s.wake.queue ∧ (purgeTransaction n s).wake.minDwell = s.wake.minDwell ∧
    (purgeTransaction n s).wake.faultHold = s.wake.faultHold ∧ (purgeTransaction n s).wake.demote = s.wake.demote ∧
    (purgeTransaction n s).request.underVote = s.request.underVote ∧
    (purgeTransaction n s).request.deferHold = s.request.deferHold ∧
    (purgeTransaction n s).request.lockout = s.request.lockout ∧
    (purgeTransaction n s).request.refresh = s.request.refresh ∧
    (purgeTransaction n s).request.pulses = s.request.pulses ∧
    (purgeTransaction n s).request.result = s.request.result ∧ (purgeTransaction n s).faults = s.faults ∧
    (purgeTransaction n s).loader = s.loader ∧ (purgeTransaction n s).port = s.port ∧
    (purgeTransaction n s).pending = s.pending := by
  simp [purgeTransaction]

@[simp] theorem requeueForced_keeps (took : Bool) (s : State) :
    (requeueForced took s).time = s.time ∧ (requeueForced took s).pins = s.pins ∧
    (requeueForced took s).link.integrated = s.link.integrated ∧
    (requeueForced took s).link.receiveErrors = s.link.receiveErrors ∧
    (requeueForced took s).agreement = s.agreement ∧ (requeueForced took s).presence = s.presence ∧
    (requeueForced took s).executor = s.executor ∧ (requeueForced took s).channel = s.channel ∧
    (requeueForced took s).wake.inputs = s.wake.inputs ∧ (requeueForced took s).wake.pressed = s.wake.pressed ∧
    (requeueForced took s).wake.debounce = s.wake.debounce ∧
    (requeueForced took s).wake.longPress = s.wake.longPress ∧
    (requeueForced took s).wake.commonWindow = s.wake.commonWindow ∧
    (requeueForced took s).wake.queue = s.wake.queue ∧ (requeueForced took s).wake.minDwell = s.wake.minDwell ∧
    (requeueForced took s).wake.faultHold = s.wake.faultHold ∧ (requeueForced took s).wake.demote = s.wake.demote ∧
    (requeueForced took s).request.underVote = s.request.underVote ∧
    (requeueForced took s).request.deferHold = s.request.deferHold ∧
    (requeueForced took s).request.lockout = s.request.lockout ∧
    (requeueForced took s).request.refresh = s.request.refresh ∧
    (requeueForced took s).request.pulses = s.request.pulses ∧
    (requeueForced took s).request.result = s.request.result ∧ (requeueForced took s).faults = s.faults ∧
    (requeueForced took s).loader = s.loader ∧ (requeueForced took s).port = s.port ∧
    (requeueForced took s).pending = s.pending := by
  unfold requeueForced
  split <;> simp

@[simp] theorem returnFrame_keeps (k : FrameKind) (count : Nat) (s : State) :
    (returnFrame k count s).time = s.time ∧ (returnFrame k count s).pins = s.pins ∧
    (returnFrame k count s).link.integrated = s.link.integrated ∧
    (returnFrame k count s).link.receiveErrors = s.link.receiveErrors ∧
    (returnFrame k count s).agreement = s.agreement ∧ (returnFrame k count s).presence = s.presence ∧
    (returnFrame k count s).executor = s.executor ∧ (returnFrame k count s).channel = s.channel ∧
    (returnFrame k count s).wake.inputs = s.wake.inputs ∧ (returnFrame k count s).wake.pressed = s.wake.pressed ∧
    (returnFrame k count s).wake.debounce = s.wake.debounce ∧
    (returnFrame k count s).wake.longPress = s.wake.longPress ∧
    (returnFrame k count s).wake.commonWindow = s.wake.commonWindow ∧
    (returnFrame k count s).wake.queue = s.wake.queue ∧ (returnFrame k count s).wake.minDwell = s.wake.minDwell ∧
    (returnFrame k count s).wake.faultHold = s.wake.faultHold ∧ (returnFrame k count s).wake.demote = s.wake.demote ∧
    (returnFrame k count s).request.underVote = s.request.underVote ∧
    (returnFrame k count s).request.deferHold = s.request.deferHold ∧
    (returnFrame k count s).request.lockout = s.request.lockout ∧
    (returnFrame k count s).request.refresh = s.request.refresh ∧
    (returnFrame k count s).request.pulses = s.request.pulses ∧
    (returnFrame k count s).request.result = s.request.result ∧ (returnFrame k count s).faults = s.faults ∧
    (returnFrame k count s).loader = s.loader ∧ (returnFrame k count s).port = s.port ∧
    (returnFrame k count s).pending = s.pending := by
  unfold returnFrame
  dsimp only
  (repeat' split) <;> simp

@[simp] theorem startSlot_keeps (k : FrameKind) (s : State) :
    (startSlot k s).time = s.time ∧ (startSlot k s).pins = s.pins ∧
    (startSlot k s).link.integrated = s.link.integrated ∧ (startSlot k s).link.receiveErrors = s.link.receiveErrors ∧
    (startSlot k s).agreement = s.agreement ∧ (startSlot k s).presence = s.presence ∧
    (startSlot k s).executor = s.executor ∧ (startSlot k s).channel = s.channel ∧ (startSlot k s).wake = s.wake ∧
    (startSlot k s).request = s.request ∧ (startSlot k s).faults = s.faults ∧ (startSlot k s).loader = s.loader ∧
    (startSlot k s).port = s.port ∧ (startSlot k s).pending = s.pending := by
  unfold startSlot
  dsimp only
  (repeat' split) <;> simp

@[simp] theorem deferFault_keeps (ch : Fin 6) (loss : Bool) (s : State) :
    (deferFault ch loss s).time = s.time ∧ (deferFault ch loss s).pins = s.pins ∧
    (deferFault ch loss s).link = s.link ∧ (deferFault ch loss s).agreement = s.agreement ∧
    (deferFault ch loss s).presence = s.presence ∧ (deferFault ch loss s).executor = s.executor ∧
    (deferFault ch loss s).channel = s.channel ∧ (deferFault ch loss s).wake = s.wake ∧
    (deferFault ch loss s).request = s.request ∧ (deferFault ch loss s).faults.latched = s.faults.latched ∧
    (deferFault ch loss s).faults.unrecorded = s.faults.unrecorded ∧ (deferFault ch loss s).loader = s.loader ∧
    (deferFault ch loss s).port = s.port ∧ (deferFault ch loss s).pending = s.pending := by
  unfold deferFault
  split <;> simp

@[simp] theorem latchFault_keeps (code : FaultCode) (target : Target) (sev : Severity) (s : State) :
    (latchFault code target sev s).time = s.time ∧ (latchFault code target sev s).pins = s.pins ∧
    (latchFault code target sev s).link = s.link ∧ (latchFault code target sev s).agreement = s.agreement ∧
    (latchFault code target sev s).presence = s.presence ∧ (latchFault code target sev s).executor = s.executor ∧
    (latchFault code target sev s).channel = s.channel ∧ (latchFault code target sev s).wake = s.wake ∧
    (latchFault code target sev s).request = s.request ∧
    (latchFault code target sev s).faults.deferred = s.faults.deferred ∧
    (latchFault code target sev s).loader = s.loader ∧ (latchFault code target sev s).port = s.port ∧
    (latchFault code target sev s).pending = s.pending := by
  unfold latchFault
  (repeat' split) <;> simp

@[simp] theorem requestFault_keeps (code : FaultCode) (target : Target) (s : State) :
    (requestFault code target s).time = s.time ∧ (requestFault code target s).pins = s.pins ∧
    (requestFault code target s).link.integrated = s.link.integrated ∧
    (requestFault code target s).link.receiveErrors = s.link.receiveErrors ∧
    (requestFault code target s).agreement = s.agreement ∧ (requestFault code target s).presence = s.presence ∧
    (requestFault code target s).executor = s.executor ∧ (requestFault code target s).channel = s.channel ∧
    (requestFault code target s).wake.inputs = s.wake.inputs ∧
    (requestFault code target s).wake.pressed = s.wake.pressed ∧
    (requestFault code target s).wake.debounce = s.wake.debounce ∧
    (requestFault code target s).wake.longPress = s.wake.longPress ∧
    (requestFault code target s).wake.commonWindow = s.wake.commonWindow ∧
    (requestFault code target s).wake.queue = s.wake.queue ∧
    (requestFault code target s).wake.minDwell = s.wake.minDwell ∧
    (requestFault code target s).wake.faultHold = s.wake.faultHold ∧
    (requestFault code target s).wake.demote = s.wake.demote ∧
    (requestFault code target s).request.underVote = s.request.underVote ∧
    (requestFault code target s).request.deferHold = s.request.deferHold ∧
    (requestFault code target s).request.lockout = s.request.lockout ∧
    (requestFault code target s).request.refresh = s.request.refresh ∧
    (requestFault code target s).request.pulses = s.request.pulses ∧
    (requestFault code target s).request.result = s.request.result ∧ (requestFault code target s).faults = s.faults ∧
    (requestFault code target s).loader = s.loader ∧ (requestFault code target s).port = s.port ∧
    (requestFault code target s).pending = s.pending := by
  unfold requestFault
  split <;> simp

@[simp] theorem disposeFault_keeps (code : FaultCode) (target : Target) (sev : Severity) (send : Bool) (s : State) :
    (disposeFault code target sev send s).time = s.time ∧ (disposeFault code target sev send s).pins = s.pins ∧
    (disposeFault code target sev send s).link.integrated = s.link.integrated ∧
    (disposeFault code target sev send s).link.receiveErrors = s.link.receiveErrors ∧
    (disposeFault code target sev send s).agreement = s.agreement ∧
    (disposeFault code target sev send s).presence = s.presence ∧
    (disposeFault code target sev send s).executor = s.executor ∧
    (disposeFault code target sev send s).channel = s.channel ∧
    (disposeFault code target sev send s).wake.inputs = s.wake.inputs ∧
    (disposeFault code target sev send s).wake.pressed = s.wake.pressed ∧
    (disposeFault code target sev send s).wake.debounce = s.wake.debounce ∧
    (disposeFault code target sev send s).wake.longPress = s.wake.longPress ∧
    (disposeFault code target sev send s).wake.commonWindow = s.wake.commonWindow ∧
    (disposeFault code target sev send s).wake.queue = s.wake.queue ∧
    (disposeFault code target sev send s).wake.minDwell = s.wake.minDwell ∧
    (disposeFault code target sev send s).wake.faultHold = s.wake.faultHold ∧
    (disposeFault code target sev send s).wake.demote = s.wake.demote ∧
    (disposeFault code target sev send s).request.underVote = s.request.underVote ∧
    (disposeFault code target sev send s).request.deferHold = s.request.deferHold ∧
    (disposeFault code target sev send s).request.lockout = s.request.lockout ∧
    (disposeFault code target sev send s).request.refresh = s.request.refresh ∧
    (disposeFault code target sev send s).request.pulses = s.request.pulses ∧
    (disposeFault code target sev send s).request.result = s.request.result ∧
    (disposeFault code target sev send s).faults.deferred = s.faults.deferred ∧
    (disposeFault code target sev send s).loader = s.loader ∧ (disposeFault code target sev send s).port = s.port ∧
    (disposeFault code target sev send s).pending = s.pending := by
  unfold disposeFault
  split <;> simp

@[simp] theorem judgeEntry_keeps (send : Bool) (s : State) (e : DeferredEntry) :
    (judgeEntry send s e).time = s.time ∧ (judgeEntry send s e).pins = s.pins ∧
    (judgeEntry send s e).link.integrated = s.link.integrated ∧
    (judgeEntry send s e).link.receiveErrors = s.link.receiveErrors ∧ (judgeEntry send s e).agreement = s.agreement ∧
    (judgeEntry send s e).presence = s.presence ∧ (judgeEntry send s e).executor = s.executor ∧
    (judgeEntry send s e).channel = s.channel ∧ (judgeEntry send s e).wake.inputs = s.wake.inputs ∧
    (judgeEntry send s e).wake.pressed = s.wake.pressed ∧ (judgeEntry send s e).wake.debounce = s.wake.debounce ∧
    (judgeEntry send s e).wake.longPress = s.wake.longPress ∧
    (judgeEntry send s e).wake.commonWindow = s.wake.commonWindow ∧ (judgeEntry send s e).wake.queue = s.wake.queue ∧
    (judgeEntry send s e).wake.minDwell = s.wake.minDwell ∧ (judgeEntry send s e).wake.faultHold = s.wake.faultHold ∧
    (judgeEntry send s e).wake.demote = s.wake.demote ∧
    (judgeEntry send s e).request.underVote = s.request.underVote ∧
    (judgeEntry send s e).request.deferHold = s.request.deferHold ∧
    (judgeEntry send s e).request.lockout = s.request.lockout ∧
    (judgeEntry send s e).request.refresh = s.request.refresh ∧
    (judgeEntry send s e).request.pulses = s.request.pulses ∧
    (judgeEntry send s e).request.result = s.request.result ∧
    (judgeEntry send s e).faults.deferred = s.faults.deferred ∧ (judgeEntry send s e).loader = s.loader ∧
    (judgeEntry send s e).port = s.port ∧ (judgeEntry send s e).pending = s.pending := by
  simp [judgeEntry]

@[simp] theorem judgeDeferred_keeps (send : Bool) (s : State) :
    (judgeDeferred send s).time = s.time ∧ (judgeDeferred send s).pins = s.pins ∧
    (judgeDeferred send s).link.integrated = s.link.integrated ∧
    (judgeDeferred send s).link.receiveErrors = s.link.receiveErrors ∧
    (judgeDeferred send s).agreement = s.agreement ∧ (judgeDeferred send s).presence = s.presence ∧
    (judgeDeferred send s).executor = s.executor ∧ (judgeDeferred send s).channel = s.channel ∧
    (judgeDeferred send s).wake.inputs = s.wake.inputs ∧ (judgeDeferred send s).wake.pressed = s.wake.pressed ∧
    (judgeDeferred send s).wake.debounce = s.wake.debounce ∧
    (judgeDeferred send s).wake.longPress = s.wake.longPress ∧
    (judgeDeferred send s).wake.commonWindow = s.wake.commonWindow ∧
    (judgeDeferred send s).wake.queue = s.wake.queue ∧ (judgeDeferred send s).wake.minDwell = s.wake.minDwell ∧
    (judgeDeferred send s).wake.faultHold = s.wake.faultHold ∧ (judgeDeferred send s).wake.demote = s.wake.demote ∧
    (judgeDeferred send s).request.underVote = s.request.underVote ∧
    (judgeDeferred send s).request.deferHold = s.request.deferHold ∧
    (judgeDeferred send s).request.lockout = s.request.lockout ∧
    (judgeDeferred send s).request.refresh = s.request.refresh ∧
    (judgeDeferred send s).request.pulses = s.request.pulses ∧
    (judgeDeferred send s).request.result = s.request.result ∧ (judgeDeferred send s).loader = s.loader ∧
    (judgeDeferred send s).port = s.port ∧ (judgeDeferred send s).pending = s.pending := by
  unfold judgeDeferred
  dsimp only
  exact
    ⟨foldl_keep (fun s => s.time) (fun s a => by simp) _ _, foldl_keep (fun s => s.pins) (fun s a => by simp) _ _,
     foldl_keep (fun s => s.link.integrated) (fun s a => by simp) _ _,
     foldl_keep (fun s => s.link.receiveErrors) (fun s a => by simp) _ _,
     foldl_keep (fun s => s.agreement) (fun s a => by simp) _ _,
     foldl_keep (fun s => s.presence) (fun s a => by simp) _ _,
     foldl_keep (fun s => s.executor) (fun s a => by simp) _ _,
     foldl_keep (fun s => s.channel) (fun s a => by simp) _ _,
     foldl_keep (fun s => s.wake.inputs) (fun s a => by simp) _ _,
     foldl_keep (fun s => s.wake.pressed) (fun s a => by simp) _ _,
     foldl_keep (fun s => s.wake.debounce) (fun s a => by simp) _ _,
     foldl_keep (fun s => s.wake.longPress) (fun s a => by simp) _ _,
     foldl_keep (fun s => s.wake.commonWindow) (fun s a => by simp) _ _,
     foldl_keep (fun s => s.wake.queue) (fun s a => by simp) _ _,
     foldl_keep (fun s => s.wake.minDwell) (fun s a => by simp) _ _,
     foldl_keep (fun s => s.wake.faultHold) (fun s a => by simp) _ _,
     foldl_keep (fun s => s.wake.demote) (fun s a => by simp) _ _,
     foldl_keep (fun s => s.request.underVote) (fun s a => by simp) _ _,
     foldl_keep (fun s => s.request.deferHold) (fun s a => by simp) _ _,
     foldl_keep (fun s => s.request.lockout) (fun s a => by simp) _ _,
     foldl_keep (fun s => s.request.refresh) (fun s a => by simp) _ _,
     foldl_keep (fun s => s.request.pulses) (fun s a => by simp) _ _,
     foldl_keep (fun s => s.request.result) (fun s a => by simp) _ _,
     foldl_keep (fun s => s.loader) (fun s a => by simp) _ _, foldl_keep (fun s => s.port) (fun s a => by simp) _ _,
     foldl_keep (fun s => s.pending) (fun s a => by simp) _ _⟩

@[simp] theorem raiseFault_keeps (code : FaultCode) (target : Target) (sev : Severity) (s : State) :
    (raiseFault code target sev s).time = s.time ∧ (raiseFault code target sev s).pins = s.pins ∧
    (raiseFault code target sev s).link.integrated = s.link.integrated ∧
    (raiseFault code target sev s).link.receiveErrors = s.link.receiveErrors ∧
    (raiseFault code target sev s).agreement = s.agreement ∧ (raiseFault code target sev s).presence = s.presence ∧
    (raiseFault code target sev s).executor = s.executor ∧ (raiseFault code target sev s).channel = s.channel ∧
    (raiseFault code target sev s).wake.inputs = s.wake.inputs ∧
    (raiseFault code target sev s).wake.pressed = s.wake.pressed ∧
    (raiseFault code target sev s).wake.debounce = s.wake.debounce ∧
    (raiseFault code target sev s).wake.longPress = s.wake.longPress ∧
    (raiseFault code target sev s).wake.commonWindow = s.wake.commonWindow ∧
    (raiseFault code target sev s).wake.queue = s.wake.queue ∧
    (raiseFault code target sev s).wake.minDwell = s.wake.minDwell ∧
    (raiseFault code target sev s).wake.faultHold = s.wake.faultHold ∧
    (raiseFault code target sev s).wake.demote = s.wake.demote ∧
    (raiseFault code target sev s).request.underVote = s.request.underVote ∧
    (raiseFault code target sev s).request.deferHold = s.request.deferHold ∧
    (raiseFault code target sev s).request.lockout = s.request.lockout ∧
    (raiseFault code target sev s).request.refresh = s.request.refresh ∧
    (raiseFault code target sev s).request.pulses = s.request.pulses ∧
    (raiseFault code target sev s).request.result = s.request.result ∧
    (raiseFault code target sev s).faults.deferred = s.faults.deferred ∧
    (raiseFault code target sev s).loader = s.loader ∧ (raiseFault code target sev s).port = s.port ∧
    (raiseFault code target sev s).pending = s.pending := by
  simp [raiseFault]

@[simp] theorem raiseRailCondition_keeps (ch : Fin 6) (loss : Bool) (s : State) :
    (raiseRailCondition ch loss s).time = s.time ∧ (raiseRailCondition ch loss s).pins = s.pins ∧
    (raiseRailCondition ch loss s).link.integrated = s.link.integrated ∧
    (raiseRailCondition ch loss s).link.receiveErrors = s.link.receiveErrors ∧
    (raiseRailCondition ch loss s).agreement = s.agreement ∧ (raiseRailCondition ch loss s).presence = s.presence ∧
    (raiseRailCondition ch loss s).executor = s.executor ∧ (raiseRailCondition ch loss s).channel = s.channel ∧
    (raiseRailCondition ch loss s).wake.inputs = s.wake.inputs ∧
    (raiseRailCondition ch loss s).wake.pressed = s.wake.pressed ∧
    (raiseRailCondition ch loss s).wake.debounce = s.wake.debounce ∧
    (raiseRailCondition ch loss s).wake.longPress = s.wake.longPress ∧
    (raiseRailCondition ch loss s).wake.commonWindow = s.wake.commonWindow ∧
    (raiseRailCondition ch loss s).wake.queue = s.wake.queue ∧
    (raiseRailCondition ch loss s).wake.minDwell = s.wake.minDwell ∧
    (raiseRailCondition ch loss s).wake.faultHold = s.wake.faultHold ∧
    (raiseRailCondition ch loss s).wake.demote = s.wake.demote ∧
    (raiseRailCondition ch loss s).request.underVote = s.request.underVote ∧
    (raiseRailCondition ch loss s).request.deferHold = s.request.deferHold ∧
    (raiseRailCondition ch loss s).request.lockout = s.request.lockout ∧
    (raiseRailCondition ch loss s).request.refresh = s.request.refresh ∧
    (raiseRailCondition ch loss s).request.pulses = s.request.pulses ∧
    (raiseRailCondition ch loss s).request.result = s.request.result ∧
    (raiseRailCondition ch loss s).loader = s.loader ∧ (raiseRailCondition ch loss s).port = s.port ∧
    (raiseRailCondition ch loss s).pending = s.pending := by
  unfold raiseRailCondition
  split <;> simp

@[simp] theorem requestAbort_keeps (n : TxnNumber) (reason : AbortReason) (s : State) :
    (requestAbort n reason s).time = s.time ∧ (requestAbort n reason s).pins = s.pins ∧
    (requestAbort n reason s).link.integrated = s.link.integrated ∧
    (requestAbort n reason s).link.receiveErrors = s.link.receiveErrors ∧
    (requestAbort n reason s).agreement = s.agreement ∧ (requestAbort n reason s).presence = s.presence ∧
    (requestAbort n reason s).executor = s.executor ∧ (requestAbort n reason s).channel = s.channel ∧
    (requestAbort n reason s).wake.inputs = s.wake.inputs ∧ (requestAbort n reason s).wake.pressed = s.wake.pressed ∧
    (requestAbort n reason s).wake.debounce = s.wake.debounce ∧
    (requestAbort n reason s).wake.longPress = s.wake.longPress ∧
    (requestAbort n reason s).wake.commonWindow = s.wake.commonWindow ∧
    (requestAbort n reason s).wake.queue = s.wake.queue ∧ (requestAbort n reason s).wake.minDwell = s.wake.minDwell ∧
    (requestAbort n reason s).wake.faultHold = s.wake.faultHold ∧
    (requestAbort n reason s).wake.demote = s.wake.demote ∧
    (requestAbort n reason s).request.underVote = s.request.underVote ∧
    (requestAbort n reason s).request.deferHold = s.request.deferHold ∧
    (requestAbort n reason s).request.lockout = s.request.lockout ∧
    (requestAbort n reason s).request.refresh = s.request.refresh ∧
    (requestAbort n reason s).request.pulses = s.request.pulses ∧
    (requestAbort n reason s).request.result = s.request.result ∧ (requestAbort n reason s).faults = s.faults ∧
    (requestAbort n reason s).loader = s.loader ∧ (requestAbort n reason s).port = s.port ∧
    (requestAbort n reason s).pending = s.pending := by
  unfold requestAbort
  split <;> simp

end Sys2Proof.Machine
end

