-- ==== Sys2Proof/Laws/FramesChannel.lean ====
section
/-! SUPPORT. What each operation of the channel block and of the stage executor leaves unchanged. The lemma `f_keeps` lists, for
an operation `f`, every block, or field of a block, that it never writes. -/

namespace Sys2Proof.Machine

open Sys2Proof

@[simp] theorem setSignal_keeps (i : Fin 4) (l : Level) (s : State) :
    (setSignal i l s).time = s.time ∧ (setSignal i l s).pins = s.pins ∧ (setSignal i l s).link = s.link ∧
    (setSignal i l s).agreement = s.agreement ∧ (setSignal i l s).presence = s.presence ∧
    (setSignal i l s).executor = s.executor ∧ (setSignal i l s).channel.rails = s.channel.rails ∧
    (setSignal i l s).channel.awaits = s.channel.awaits ∧
    (setSignal i l s).channel.waitCounter = s.channel.waitCounter ∧
    (setSignal i l s).channel.corrections = s.channel.corrections ∧ (setSignal i l s).wake = s.wake ∧
    (setSignal i l s).request = s.request ∧ (setSignal i l s).faults = s.faults ∧
    (setSignal i l s).loader = s.loader ∧ (setSignal i l s).port = s.port ∧ (setSignal i l s).pending = s.pending := by
  simp [setSignal]

@[simp] theorem abandonPulse_keeps (i : Fin 4) (s : State) :
    (abandonPulse i s).time = s.time ∧ (abandonPulse i s).pins = s.pins ∧ (abandonPulse i s).link = s.link ∧
    (abandonPulse i s).agreement = s.agreement ∧ (abandonPulse i s).presence = s.presence ∧
    (abandonPulse i s).executor = s.executor ∧ (abandonPulse i s).channel.rails = s.channel.rails ∧
    (abandonPulse i s).channel.awaits = s.channel.awaits ∧
    (abandonPulse i s).channel.waitCounter = s.channel.waitCounter ∧
    (abandonPulse i s).channel.corrections = s.channel.corrections ∧ (abandonPulse i s).wake = s.wake ∧
    (abandonPulse i s).request = s.request ∧ (abandonPulse i s).faults = s.faults ∧
    (abandonPulse i s).loader = s.loader ∧ (abandonPulse i s).port = s.port ∧ (abandonPulse i s).pending = s.pending := by
  simp [abandonPulse]

@[simp] theorem abandonOther_keeps (r : Running) (s : State) :
    (abandonOther r s).time = s.time ∧ (abandonOther r s).pins = s.pins ∧ (abandonOther r s).link = s.link ∧
    (abandonOther r s).agreement = s.agreement ∧ (abandonOther r s).presence = s.presence ∧
    (abandonOther r s).executor = s.executor ∧ (abandonOther r s).channel.rails = s.channel.rails ∧
    (abandonOther r s).channel.corrections = s.channel.corrections ∧ (abandonOther r s).wake = s.wake ∧
    (abandonOther r s).request = s.request ∧ (abandonOther r s).faults = s.faults ∧
    (abandonOther r s).loader = s.loader ∧ (abandonOther r s).port = s.port ∧ (abandonOther r s).pending = s.pending := by
  unfold abandonOther
  split <;> simp

@[simp] theorem takeAction_keeps (ch : Fin 6) (iss : Issuer) (s : State) :
    (takeAction ch iss s).time = s.time ∧ (takeAction ch iss s).pins = s.pins ∧ (takeAction ch iss s).link = s.link ∧
    (takeAction ch iss s).agreement = s.agreement ∧ (takeAction ch iss s).presence = s.presence ∧
    (takeAction ch iss s).executor = s.executor ∧ (takeAction ch iss s).channel.signals = s.channel.signals ∧
    (takeAction ch iss s).channel.awaits = s.channel.awaits ∧
    (takeAction ch iss s).channel.waitCounter = s.channel.waitCounter ∧
    (takeAction ch iss s).channel.corrections = s.channel.corrections ∧ (takeAction ch iss s).wake = s.wake ∧
    (takeAction ch iss s).request = s.request ∧ (takeAction ch iss s).faults = s.faults ∧
    (takeAction ch iss s).loader = s.loader ∧ (takeAction ch iss s).port = s.port ∧
    (takeAction ch iss s).pending = s.pending := by
  simp [takeAction]

@[simp] theorem startMonitoring_keeps (ch : Fin 6) (s : State) :
    (startMonitoring ch s).time = s.time ∧ (startMonitoring ch s).pins = s.pins ∧
    (startMonitoring ch s).link = s.link ∧ (startMonitoring ch s).agreement = s.agreement ∧
    (startMonitoring ch s).presence = s.presence ∧ (startMonitoring ch s).executor = s.executor ∧
    (startMonitoring ch s).channel.signals = s.channel.signals ∧
    (startMonitoring ch s).channel.awaits = s.channel.awaits ∧
    (startMonitoring ch s).channel.waitCounter = s.channel.waitCounter ∧
    (startMonitoring ch s).channel.corrections = s.channel.corrections ∧ (startMonitoring ch s).wake = s.wake ∧
    (startMonitoring ch s).request = s.request ∧ (startMonitoring ch s).faults = s.faults ∧
    (startMonitoring ch s).loader = s.loader ∧ (startMonitoring ch s).port = s.port ∧
    (startMonitoring ch s).pending = s.pending := by
  simp [startMonitoring]

@[simp] theorem enterOn_keeps (ch : Fin 6) (s : State) :
    (enterOn ch s).time = s.time ∧ (enterOn ch s).pins = s.pins ∧ (enterOn ch s).link = s.link ∧
    (enterOn ch s).agreement = s.agreement ∧ (enterOn ch s).presence = s.presence ∧
    (enterOn ch s).executor = s.executor ∧ (enterOn ch s).channel.signals = s.channel.signals ∧
    (enterOn ch s).channel.awaits = s.channel.awaits ∧ (enterOn ch s).channel.waitCounter = s.channel.waitCounter ∧
    (enterOn ch s).channel.corrections = s.channel.corrections ∧ (enterOn ch s).wake = s.wake ∧
    (enterOn ch s).request = s.request ∧ (enterOn ch s).faults = s.faults ∧ (enterOn ch s).loader = s.loader ∧
    (enterOn ch s).port = s.port ∧ (enterOn ch s).pending = s.pending := by
  unfold enterOn
  dsimp only
  (repeat' split) <;> simp

@[simp] theorem enterTimed_keeps (ch : Fin 6) (state : RailState) (length : Nat) (s : State) :
    (enterTimed ch state length s).time = s.time ∧ (enterTimed ch state length s).pins = s.pins ∧
    (enterTimed ch state length s).link = s.link ∧ (enterTimed ch state length s).agreement = s.agreement ∧
    (enterTimed ch state length s).presence = s.presence ∧ (enterTimed ch state length s).executor = s.executor ∧
    (enterTimed ch state length s).channel.signals = s.channel.signals ∧
    (enterTimed ch state length s).channel.awaits = s.channel.awaits ∧
    (enterTimed ch state length s).channel.waitCounter = s.channel.waitCounter ∧
    (enterTimed ch state length s).channel.corrections = s.channel.corrections ∧
    (enterTimed ch state length s).wake = s.wake ∧ (enterTimed ch state length s).request = s.request ∧
    (enterTimed ch state length s).faults = s.faults ∧ (enterTimed ch state length s).loader = s.loader ∧
    (enterTimed ch state length s).port = s.port ∧ (enterTimed ch state length s).pending = s.pending := by
  simp [enterTimed]

@[simp] theorem enterHoldingUp_keeps (ch : Fin 6) (s : State) :
    (enterHoldingUp ch s).1.time = s.time ∧ (enterHoldingUp ch s).1.pins = s.pins ∧
    (enterHoldingUp ch s).1.link = s.link ∧ (enterHoldingUp ch s).1.agreement = s.agreement ∧
    (enterHoldingUp ch s).1.presence = s.presence ∧ (enterHoldingUp ch s).1.executor = s.executor ∧
    (enterHoldingUp ch s).1.channel.signals = s.channel.signals ∧
    (enterHoldingUp ch s).1.channel.awaits = s.channel.awaits ∧
    (enterHoldingUp ch s).1.channel.waitCounter = s.channel.waitCounter ∧
    (enterHoldingUp ch s).1.channel.corrections = s.channel.corrections ∧ (enterHoldingUp ch s).1.wake = s.wake ∧
    (enterHoldingUp ch s).1.request = s.request ∧ (enterHoldingUp ch s).1.faults = s.faults ∧
    (enterHoldingUp ch s).1.loader = s.loader ∧ (enterHoldingUp ch s).1.port = s.port ∧
    (enterHoldingUp ch s).1.pending = s.pending := by
  unfold enterHoldingUp
  split <;> simp

@[simp] theorem startRaise_keeps (ch : Fin 6) (iss : Issuer) (s : State) :
    (startRaise ch iss s).1.time = s.time ∧ (startRaise ch iss s).1.pins = s.pins ∧
    (startRaise ch iss s).1.link = s.link ∧ (startRaise ch iss s).1.agreement = s.agreement ∧
    (startRaise ch iss s).1.presence = s.presence ∧ (startRaise ch iss s).1.executor = s.executor ∧
    (startRaise ch iss s).1.channel.signals = s.channel.signals ∧
    (startRaise ch iss s).1.channel.awaits = s.channel.awaits ∧
    (startRaise ch iss s).1.channel.waitCounter = s.channel.waitCounter ∧
    (startRaise ch iss s).1.channel.corrections = s.channel.corrections ∧ (startRaise ch iss s).1.wake = s.wake ∧
    (startRaise ch iss s).1.request = s.request ∧ (startRaise ch iss s).1.faults = s.faults ∧
    (startRaise ch iss s).1.loader = s.loader ∧ (startRaise ch iss s).1.port = s.port ∧
    (startRaise ch iss s).1.pending = s.pending := by
  unfold startRaise
  dsimp only
  (repeat' split) <;> simp

@[simp] theorem enterLow_keeps (ch : Fin 6) (state : RailState) (s : State) :
    (enterLow ch state s).time = s.time ∧ (enterLow ch state s).pins = s.pins ∧ (enterLow ch state s).link = s.link ∧
    (enterLow ch state s).agreement = s.agreement ∧ (enterLow ch state s).presence = s.presence ∧
    (enterLow ch state s).executor = s.executor ∧ (enterLow ch state s).channel.signals = s.channel.signals ∧
    (enterLow ch state s).channel.awaits = s.channel.awaits ∧
    (enterLow ch state s).channel.waitCounter = s.channel.waitCounter ∧
    (enterLow ch state s).channel.corrections = s.channel.corrections ∧ (enterLow ch state s).wake = s.wake ∧
    (enterLow ch state s).request = s.request ∧ (enterLow ch state s).faults = s.faults ∧
    (enterLow ch state s).loader = s.loader ∧ (enterLow ch state s).port = s.port ∧
    (enterLow ch state s).pending = s.pending := by
  simp [enterLow]

@[simp] theorem enterHoldingDown_keeps (ch : Fin 6) (s : State) :
    (enterHoldingDown ch s).1.time = s.time ∧ (enterHoldingDown ch s).1.pins = s.pins ∧
    (enterHoldingDown ch s).1.link = s.link ∧ (enterHoldingDown ch s).1.agreement = s.agreement ∧
    (enterHoldingDown ch s).1.presence = s.presence ∧ (enterHoldingDown ch s).1.executor = s.executor ∧
    (enterHoldingDown ch s).1.channel.signals = s.channel.signals ∧
    (enterHoldingDown ch s).1.channel.awaits = s.channel.awaits ∧
    (enterHoldingDown ch s).1.channel.waitCounter = s.channel.waitCounter ∧
    (enterHoldingDown ch s).1.channel.corrections = s.channel.corrections ∧ (enterHoldingDown ch s).1.wake = s.wake ∧
    (enterHoldingDown ch s).1.request = s.request ∧ (enterHoldingDown ch s).1.faults = s.faults ∧
    (enterHoldingDown ch s).1.loader = s.loader ∧ (enterHoldingDown ch s).1.port = s.port ∧
    (enterHoldingDown ch s).1.pending = s.pending := by
  unfold enterHoldingDown
  split <;> simp

@[simp] theorem startDrop_keeps (ch : Fin 6) (iss : Issuer) (s : State) :
    (startDrop ch iss s).1.time = s.time ∧ (startDrop ch iss s).1.pins = s.pins ∧
    (startDrop ch iss s).1.link = s.link ∧ (startDrop ch iss s).1.agreement = s.agreement ∧
    (startDrop ch iss s).1.presence = s.presence ∧ (startDrop ch iss s).1.executor = s.executor ∧
    (startDrop ch iss s).1.channel.signals = s.channel.signals ∧
    (startDrop ch iss s).1.channel.awaits = s.channel.awaits ∧
    (startDrop ch iss s).1.channel.waitCounter = s.channel.waitCounter ∧
    (startDrop ch iss s).1.channel.corrections = s.channel.corrections ∧ (startDrop ch iss s).1.wake = s.wake ∧
    (startDrop ch iss s).1.request = s.request ∧ (startDrop ch iss s).1.faults = s.faults ∧
    (startDrop ch iss s).1.loader = s.loader ∧ (startDrop ch iss s).1.port = s.port ∧
    (startDrop ch iss s).1.pending = s.pending := by
  unfold startDrop
  dsimp only
  (repeat' split) <;> simp

@[simp] theorem startStanding_keeps (ch : Fin 6) (q : RailRequest) (s : State) :
    (startStanding ch q s).1.time = s.time ∧ (startStanding ch q s).1.pins = s.pins ∧
    (startStanding ch q s).1.link = s.link ∧ (startStanding ch q s).1.agreement = s.agreement ∧
    (startStanding ch q s).1.presence = s.presence ∧ (startStanding ch q s).1.executor = s.executor ∧
    (startStanding ch q s).1.channel.signals = s.channel.signals ∧
    (startStanding ch q s).1.channel.awaits = s.channel.awaits ∧
    (startStanding ch q s).1.channel.waitCounter = s.channel.waitCounter ∧
    (startStanding ch q s).1.channel.corrections = s.channel.corrections ∧ (startStanding ch q s).1.wake = s.wake ∧
    (startStanding ch q s).1.request = s.request ∧ (startStanding ch q s).1.faults = s.faults ∧
    (startStanding ch q s).1.loader = s.loader ∧ (startStanding ch q s).1.port = s.port ∧
    (startStanding ch q s).1.pending = s.pending := by
  unfold startStanding
  split <;> simp

@[simp] theorem serveHeld_keeps (ch : Fin 6) (l : List RailRequest) (s : State) :
    ((serveHeld ch l s).1).time = s.time ∧ ((serveHeld ch l s).1).pins = s.pins ∧
    ((serveHeld ch l s).1).link = s.link ∧ ((serveHeld ch l s).1).agreement = s.agreement ∧
    ((serveHeld ch l s).1).presence = s.presence ∧ ((serveHeld ch l s).1).executor = s.executor ∧
    ((serveHeld ch l s).1).channel.signals = s.channel.signals ∧
    ((serveHeld ch l s).1).channel.awaits = s.channel.awaits ∧
    ((serveHeld ch l s).1).channel.waitCounter = s.channel.waitCounter ∧
    ((serveHeld ch l s).1).channel.corrections = s.channel.corrections ∧ ((serveHeld ch l s).1).wake = s.wake ∧
    ((serveHeld ch l s).1).request = s.request ∧ ((serveHeld ch l s).1).faults = s.faults ∧
    ((serveHeld ch l s).1).loader = s.loader ∧ ((serveHeld ch l s).1).port = s.port ∧
    ((serveHeld ch l s).1).pending = s.pending := by
  induction l generalizing s with
  | nil => simp [serveHeld]
  | cons q rest ih =>
    have h := startStanding_keeps ch q s
    unfold serveHeld
    split
    · next s1 hs => simp_all
    · next s1 c hs => simp_all

@[simp] theorem serveRail_keeps (ch : Fin 6) (s : State) :
    (serveRail ch s).1.time = s.time ∧ (serveRail ch s).1.pins = s.pins ∧ (serveRail ch s).1.link = s.link ∧
    (serveRail ch s).1.agreement = s.agreement ∧ (serveRail ch s).1.presence = s.presence ∧
    (serveRail ch s).1.executor = s.executor ∧ (serveRail ch s).1.channel.signals = s.channel.signals ∧
    (serveRail ch s).1.channel.awaits = s.channel.awaits ∧
    (serveRail ch s).1.channel.waitCounter = s.channel.waitCounter ∧
    (serveRail ch s).1.channel.corrections = s.channel.corrections ∧ (serveRail ch s).1.wake = s.wake ∧
    (serveRail ch s).1.request = s.request ∧ (serveRail ch s).1.faults = s.faults ∧
    (serveRail ch s).1.loader = s.loader ∧ (serveRail ch s).1.port = s.port ∧ (serveRail ch s).1.pending = s.pending := by
  simp [serveRail]

@[simp] theorem abandonedState_keeps (ch : Fin 6) (s : State) :
    (abandonedState ch s).time = s.time ∧ (abandonedState ch s).pins = s.pins ∧ (abandonedState ch s).link = s.link ∧
    (abandonedState ch s).agreement = s.agreement ∧ (abandonedState ch s).presence = s.presence ∧
    (abandonedState ch s).executor = s.executor ∧ (abandonedState ch s).channel.signals = s.channel.signals ∧
    (abandonedState ch s).channel.awaits = s.channel.awaits ∧
    (abandonedState ch s).channel.waitCounter = s.channel.waitCounter ∧
    (abandonedState ch s).channel.corrections = s.channel.corrections ∧ (abandonedState ch s).wake = s.wake ∧
    (abandonedState ch s).request = s.request ∧ (abandonedState ch s).faults = s.faults ∧
    (abandonedState ch s).loader = s.loader ∧ (abandonedState ch s).port = s.port ∧
    (abandonedState ch s).pending = s.pending := by
  unfold abandonedState
  split <;> simp

@[simp] theorem abandonRail_keeps (who : Issuer → Bool) (ch : Fin 6) (s : State) :
    (abandonRail who ch s).time = s.time ∧ (abandonRail who ch s).pins = s.pins ∧
    (abandonRail who ch s).link = s.link ∧ (abandonRail who ch s).agreement = s.agreement ∧
    (abandonRail who ch s).presence = s.presence ∧ (abandonRail who ch s).executor = s.executor ∧
    (abandonRail who ch s).channel.signals = s.channel.signals ∧
    (abandonRail who ch s).channel.awaits = s.channel.awaits ∧
    (abandonRail who ch s).channel.waitCounter = s.channel.waitCounter ∧
    (abandonRail who ch s).channel.corrections = s.channel.corrections ∧ (abandonRail who ch s).wake = s.wake ∧
    (abandonRail who ch s).request = s.request ∧ (abandonRail who ch s).faults = s.faults ∧
    (abandonRail who ch s).loader = s.loader ∧ (abandonRail who ch s).port = s.port ∧
    (abandonRail who ch s).pending = s.pending := by
  unfold abandonRail
  dsimp only
  (repeat' split) <;> simp

@[simp] theorem abandonRails_keeps (who : Issuer → Bool) (s : State) :
    (abandonRails who s).time = s.time ∧ (abandonRails who s).pins = s.pins ∧ (abandonRails who s).link = s.link ∧
    (abandonRails who s).agreement = s.agreement ∧ (abandonRails who s).presence = s.presence ∧
    (abandonRails who s).executor = s.executor ∧ (abandonRails who s).channel.signals = s.channel.signals ∧
    (abandonRails who s).channel.awaits = s.channel.awaits ∧
    (abandonRails who s).channel.waitCounter = s.channel.waitCounter ∧
    (abandonRails who s).channel.corrections = s.channel.corrections ∧ (abandonRails who s).wake = s.wake ∧
    (abandonRails who s).request = s.request ∧ (abandonRails who s).faults = s.faults ∧
    (abandonRails who s).loader = s.loader ∧ (abandonRails who s).port = s.port ∧
    (abandonRails who s).pending = s.pending := by
  unfold abandonRails
  exact
    ⟨foldl_keep (fun s => s.time) (fun s a => by simp) _ _, foldl_keep (fun s => s.pins) (fun s a => by simp) _ _,
     foldl_keep (fun s => s.link) (fun s a => by simp) _ _,
     foldl_keep (fun s => s.agreement) (fun s a => by simp) _ _,
     foldl_keep (fun s => s.presence) (fun s a => by simp) _ _,
     foldl_keep (fun s => s.executor) (fun s a => by simp) _ _,
     foldl_keep (fun s => s.channel.signals) (fun s a => by simp) _ _,
     foldl_keep (fun s => s.channel.awaits) (fun s a => by simp) _ _,
     foldl_keep (fun s => s.channel.waitCounter) (fun s a => by simp) _ _,
     foldl_keep (fun s => s.channel.corrections) (fun s a => by simp) _ _,
     foldl_keep (fun s => s.wake) (fun s a => by simp) _ _, foldl_keep (fun s => s.request) (fun s a => by simp) _ _,
     foldl_keep (fun s => s.faults) (fun s a => by simp) _ _,
     foldl_keep (fun s => s.loader) (fun s a => by simp) _ _, foldl_keep (fun s => s.port) (fun s a => by simp) _ _,
     foldl_keep (fun s => s.pending) (fun s a => by simp) _ _⟩

@[simp] theorem abandonWork_keeps (who : Issuer → Bool) (s : State) :
    (abandonWork who s).time = s.time ∧ (abandonWork who s).pins = s.pins ∧ (abandonWork who s).link = s.link ∧
    (abandonWork who s).agreement = s.agreement ∧ (abandonWork who s).presence = s.presence ∧
    (abandonWork who s).executor.sub = s.executor.sub ∧ (abandonWork who s).executor.cursor = s.executor.cursor ∧
    (abandonWork who s).executor.actionCursor = s.executor.actionCursor ∧
    (abandonWork who s).executor.halted = s.executor.halted ∧
    (abandonWork who s).executor.barrier = s.executor.barrier ∧
    (abandonWork who s).executor.barrierExpired = s.executor.barrierExpired ∧
    (abandonWork who s).executor.stack = s.executor.stack ∧
    (abandonWork who s).channel.corrections = s.channel.corrections ∧ (abandonWork who s).wake = s.wake ∧
    (abandonWork who s).request = s.request ∧ (abandonWork who s).faults = s.faults ∧
    (abandonWork who s).loader = s.loader ∧ (abandonWork who s).port = s.port ∧
    (abandonWork who s).pending = s.pending := by
  unfold abandonWork
  dsimp only
  (repeat' split) <;> simp

@[simp] theorem railNotices_keeps (ch : Fin 6) (iss : Option Issuer) (c : Completion) (s : State) :
    (railNotices ch iss c s).1.time = s.time ∧ (railNotices ch iss c s).1.pins = s.pins ∧
    (railNotices ch iss c s).1.link = s.link ∧ (railNotices ch iss c s).1.agreement = s.agreement ∧
    (railNotices ch iss c s).1.presence = s.presence ∧ (railNotices ch iss c s).1.executor = s.executor ∧
    (railNotices ch iss c s).1.channel.signals = s.channel.signals ∧
    (railNotices ch iss c s).1.channel.awaits = s.channel.awaits ∧
    (railNotices ch iss c s).1.channel.waitCounter = s.channel.waitCounter ∧
    (railNotices ch iss c s).1.channel.corrections = s.channel.corrections ∧
    (railNotices ch iss c s).1.wake = s.wake ∧ (railNotices ch iss c s).1.request = s.request ∧
    (railNotices ch iss c s).1.faults = s.faults ∧ (railNotices ch iss c s).1.loader = s.loader ∧
    (railNotices ch iss c s).1.port = s.port ∧ (railNotices ch iss c s).1.pending = s.pending := by
  unfold railNotices
  dsimp only
  (repeat' split) <;> simp

@[simp] theorem afterHold_keeps (ch : Fin 6) (iss : Option Issuer) (x : State × Option Completion) :
    ((afterHold ch iss x).1).time = x.1.time ∧ ((afterHold ch iss x).1).pins = x.1.pins ∧
    ((afterHold ch iss x).1).link = x.1.link ∧ ((afterHold ch iss x).1).agreement = x.1.agreement ∧
    ((afterHold ch iss x).1).presence = x.1.presence ∧ ((afterHold ch iss x).1).executor = x.1.executor ∧
    ((afterHold ch iss x).1).channel.signals = x.1.channel.signals ∧
    ((afterHold ch iss x).1).channel.awaits = x.1.channel.awaits ∧
    ((afterHold ch iss x).1).channel.waitCounter = x.1.channel.waitCounter ∧
    ((afterHold ch iss x).1).channel.corrections = x.1.channel.corrections ∧
    ((afterHold ch iss x).1).wake = x.1.wake ∧ ((afterHold ch iss x).1).request = x.1.request ∧
    ((afterHold ch iss x).1).faults = x.1.faults ∧ ((afterHold ch iss x).1).loader = x.1.loader ∧
    ((afterHold ch iss x).1).port = x.1.port ∧ ((afterHold ch iss x).1).pending = x.1.pending := by
  obtain ⟨s, c | c⟩ := x <;> simp [afterHold]

@[simp] theorem failRail_keeps (ch : Fin 6) (state : RailState) (code : FaultCode) (s : State) :
    (failRail ch state code s).1.time = s.time ∧ (failRail ch state code s).1.pins = s.pins ∧
    (failRail ch state code s).1.link.integrated = s.link.integrated ∧
    (failRail ch state code s).1.link.receiveErrors = s.link.receiveErrors ∧
    (failRail ch state code s).1.agreement = s.agreement ∧ (failRail ch state code s).1.presence = s.presence ∧
    (failRail ch state code s).1.executor = s.executor ∧
    (failRail ch state code s).1.channel.signals = s.channel.signals ∧
    (failRail ch state code s).1.channel.awaits = s.channel.awaits ∧
    (failRail ch state code s).1.channel.waitCounter = s.channel.waitCounter ∧
    (failRail ch state code s).1.channel.corrections = s.channel.corrections ∧
    (failRail ch state code s).1.wake.inputs = s.wake.inputs ∧
    (failRail ch state code s).1.wake.pressed = s.wake.pressed ∧
    (failRail ch state code s).1.wake.debounce = s.wake.debounce ∧
    (failRail ch state code s).1.wake.longPress = s.wake.longPress ∧
    (failRail ch state code s).1.wake.commonWindow = s.wake.commonWindow ∧
    (failRail ch state code s).1.wake.queue = s.wake.queue ∧
    (failRail ch state code s).1.wake.minDwell = s.wake.minDwell ∧
    (failRail ch state code s).1.wake.faultHold = s.wake.faultHold ∧
    (failRail ch state code s).1.wake.demote = s.wake.demote ∧
    (failRail ch state code s).1.request.underVote = s.request.underVote ∧
    (failRail ch state code s).1.request.deferHold = s.request.deferHold ∧
    (failRail ch state code s).1.request.lockout = s.request.lockout ∧
    (failRail ch state code s).1.request.refresh = s.request.refresh ∧
    (failRail ch state code s).1.request.pulses = s.request.pulses ∧
    (failRail ch state code s).1.request.result = s.request.result ∧
    (failRail ch state code s).1.faults.deferred = s.faults.deferred ∧
    (failRail ch state code s).1.loader = s.loader ∧ (failRail ch state code s).1.port = s.port ∧
    (failRail ch state code s).1.pending = s.pending := by
  simp [failRail]

@[simp] theorem bounceRail_keeps (ch : Fin 6) (back : RailState) (length : Nat) (failed : RailState) (code : FaultCode) (s : State) :
    (bounceRail ch back length failed code s).1.time = s.time ∧
    (bounceRail ch back length failed code s).1.pins = s.pins ∧
    (bounceRail ch back length failed code s).1.link.integrated = s.link.integrated ∧
    (bounceRail ch back length failed code s).1.link.receiveErrors = s.link.receiveErrors ∧
    (bounceRail ch back length failed code s).1.agreement = s.agreement ∧
    (bounceRail ch back length failed code s).1.presence = s.presence ∧
    (bounceRail ch back length failed code s).1.executor = s.executor ∧
    (bounceRail ch back length failed code s).1.channel.signals = s.channel.signals ∧
    (bounceRail ch back length failed code s).1.channel.awaits = s.channel.awaits ∧
    (bounceRail ch back length failed code s).1.channel.waitCounter = s.channel.waitCounter ∧
    (bounceRail ch back length failed code s).1.channel.corrections = s.channel.corrections ∧
    (bounceRail ch back length failed code s).1.wake.inputs = s.wake.inputs ∧
    (bounceRail ch back length failed code s).1.wake.pressed = s.wake.pressed ∧
    (bounceRail ch back length failed code s).1.wake.debounce = s.wake.debounce ∧
    (bounceRail ch back length failed code s).1.wake.longPress = s.wake.longPress ∧
    (bounceRail ch back length failed code s).1.wake.commonWindow = s.wake.commonWindow ∧
    (bounceRail ch back length failed code s).1.wake.queue = s.wake.queue ∧
    (bounceRail ch back length failed code s).1.wake.minDwell = s.wake.minDwell ∧
    (bounceRail ch back length failed code s).1.wake.faultHold = s.wake.faultHold ∧
    (bounceRail ch back length failed code s).1.wake.demote = s.wake.demote ∧
    (bounceRail ch back length failed code s).1.request.underVote = s.request.underVote ∧
    (bounceRail ch back length failed code s).1.request.deferHold = s.request.deferHold ∧
    (bounceRail ch back length failed code s).1.request.lockout = s.request.lockout ∧
    (bounceRail ch back length failed code s).1.request.refresh = s.request.refresh ∧
    (bounceRail ch back length failed code s).1.request.pulses = s.request.pulses ∧
    (bounceRail ch back length failed code s).1.request.result = s.request.result ∧
    (bounceRail ch back length failed code s).1.faults.deferred = s.faults.deferred ∧
    (bounceRail ch back length failed code s).1.loader = s.loader ∧
    (bounceRail ch back length failed code s).1.port = s.port ∧
    (bounceRail ch back length failed code s).1.pending = s.pending := by
  unfold bounceRail
  dsimp only
  (repeat' split) <;> simp

@[simp] theorem countCorrection_keeps (s : State) :
    (countCorrection s).time = s.time ∧ (countCorrection s).pins = s.pins ∧ (countCorrection s).link = s.link ∧
    (countCorrection s).agreement = s.agreement ∧ (countCorrection s).presence = s.presence ∧
    (countCorrection s).executor = s.executor ∧ (countCorrection s).channel.rails = s.channel.rails ∧
    (countCorrection s).channel.signals = s.channel.signals ∧ (countCorrection s).channel.awaits = s.channel.awaits ∧
    (countCorrection s).channel.waitCounter = s.channel.waitCounter ∧ (countCorrection s).wake = s.wake ∧
    (countCorrection s).request = s.request ∧ (countCorrection s).faults = s.faults ∧
    (countCorrection s).loader = s.loader ∧ (countCorrection s).port = s.port ∧
    (countCorrection s).pending = s.pending := by
  simp [countCorrection]

@[simp] theorem issueRail_keeps (ch : Fin 6) (q : RailRequest) (s : State) :
    (issueRail ch q s).1.time = s.time ∧ (issueRail ch q s).1.pins = s.pins ∧ (issueRail ch q s).1.link = s.link ∧
    (issueRail ch q s).1.agreement = s.agreement ∧ (issueRail ch q s).1.presence = s.presence ∧
    (issueRail ch q s).1.executor = s.executor ∧ (issueRail ch q s).1.channel.signals = s.channel.signals ∧
    (issueRail ch q s).1.channel.awaits = s.channel.awaits ∧
    (issueRail ch q s).1.channel.waitCounter = s.channel.waitCounter ∧
    (issueRail ch q s).1.channel.corrections = s.channel.corrections ∧ (issueRail ch q s).1.wake = s.wake ∧
    (issueRail ch q s).1.request = s.request ∧ (issueRail ch q s).1.faults = s.faults ∧
    (issueRail ch q s).1.loader = s.loader ∧ (issueRail ch q s).1.port = s.port ∧
    (issueRail ch q s).1.pending = s.pending := by
  unfold issueRail
  (repeat' split) <;> simp

@[simp] theorem correctRail_keeps (row : ProfileRow) (s : State) (ch : Fin 6) :
    (correctRail row s ch).time = s.time ∧ (correctRail row s ch).pins = s.pins ∧
    (correctRail row s ch).link = s.link ∧ (correctRail row s ch).agreement = s.agreement ∧
    (correctRail row s ch).presence = s.presence ∧ (correctRail row s ch).executor = s.executor ∧
    (correctRail row s ch).channel.signals = s.channel.signals ∧
    (correctRail row s ch).channel.awaits = s.channel.awaits ∧
    (correctRail row s ch).channel.waitCounter = s.channel.waitCounter ∧ (correctRail row s ch).wake = s.wake ∧
    (correctRail row s ch).request = s.request ∧ (correctRail row s ch).faults = s.faults ∧
    (correctRail row s ch).loader = s.loader ∧ (correctRail row s ch).port = s.port ∧
    (correctRail row s ch).pending = s.pending := by
  unfold correctRail
  split <;> simp

@[simp] theorem correctSignal_keeps (row : ProfileRow) (s : State) (i : Fin 4) :
    (correctSignal row s i).time = s.time ∧ (correctSignal row s i).pins = s.pins ∧
    (correctSignal row s i).link = s.link ∧ (correctSignal row s i).agreement = s.agreement ∧
    (correctSignal row s i).presence = s.presence ∧ (correctSignal row s i).executor = s.executor ∧
    (correctSignal row s i).channel.rails = s.channel.rails ∧
    (correctSignal row s i).channel.awaits = s.channel.awaits ∧
    (correctSignal row s i).channel.waitCounter = s.channel.waitCounter ∧ (correctSignal row s i).wake = s.wake ∧
    (correctSignal row s i).request = s.request ∧ (correctSignal row s i).faults = s.faults ∧
    (correctSignal row s i).loader = s.loader ∧ (correctSignal row s i).port = s.port ∧
    (correctSignal row s i).pending = s.pending := by
  unfold correctSignal
  split <;> simp

@[simp] theorem detachAlignment_keeps (s : State) :
    (detachAlignment s).time = s.time ∧ (detachAlignment s).pins = s.pins ∧ (detachAlignment s).link = s.link ∧
    (detachAlignment s).agreement = s.agreement ∧ (detachAlignment s).presence = s.presence ∧
    (detachAlignment s).executor = s.executor ∧ (detachAlignment s).channel.signals = s.channel.signals ∧
    (detachAlignment s).channel.awaits = s.channel.awaits ∧
    (detachAlignment s).channel.waitCounter = s.channel.waitCounter ∧
    (detachAlignment s).channel.corrections = s.channel.corrections ∧ (detachAlignment s).wake = s.wake ∧
    (detachAlignment s).request = s.request ∧ (detachAlignment s).faults = s.faults ∧
    (detachAlignment s).loader = s.loader ∧ (detachAlignment s).port = s.port ∧
    (detachAlignment s).pending = s.pending := by
  simp [detachAlignment]

@[simp] theorem endPulse_keeps (i : Fin 4) (s : State) :
    (endPulse i s).time = s.time ∧ (endPulse i s).pins = s.pins ∧ (endPulse i s).link = s.link ∧
    (endPulse i s).agreement = s.agreement ∧ (endPulse i s).presence = s.presence ∧
    (endPulse i s).executor = s.executor ∧ (endPulse i s).channel.rails = s.channel.rails ∧
    (endPulse i s).channel.awaits = s.channel.awaits ∧ (endPulse i s).channel.waitCounter = s.channel.waitCounter ∧
    (endPulse i s).channel.corrections = s.channel.corrections ∧ (endPulse i s).wake = s.wake ∧
    (endPulse i s).request = s.request ∧ (endPulse i s).faults = s.faults ∧ (endPulse i s).loader = s.loader ∧
    (endPulse i s).port = s.port ∧ (endPulse i s).pending = s.pending := by
  unfold endPulse
  split <;> simp

@[simp] theorem issueSet_keeps (i : Fin 4) (l : Level) (s : State) :
    (issueSet i l s).1.time = s.time ∧ (issueSet i l s).1.pins = s.pins ∧ (issueSet i l s).1.link = s.link ∧
    (issueSet i l s).1.agreement = s.agreement ∧ (issueSet i l s).1.presence = s.presence ∧
    (issueSet i l s).1.executor = s.executor ∧ (issueSet i l s).1.channel.rails = s.channel.rails ∧
    (issueSet i l s).1.channel.awaits = s.channel.awaits ∧
    (issueSet i l s).1.channel.waitCounter = s.channel.waitCounter ∧
    (issueSet i l s).1.channel.corrections = s.channel.corrections ∧ (issueSet i l s).1.wake = s.wake ∧
    (issueSet i l s).1.request = s.request ∧ (issueSet i l s).1.faults = s.faults ∧
    (issueSet i l s).1.loader = s.loader ∧ (issueSet i l s).1.port = s.port ∧ (issueSet i l s).1.pending = s.pending := by
  unfold issueSet
  split <;> simp

@[simp] theorem issueChange_keeps (c : Change) (iss : Issuer) (s : State) :
    (issueChange c iss s).1.time = s.time ∧ (issueChange c iss s).1.pins = s.pins ∧
    (issueChange c iss s).1.link = s.link ∧ (issueChange c iss s).1.agreement = s.agreement ∧
    (issueChange c iss s).1.presence = s.presence ∧ (issueChange c iss s).1.executor = s.executor ∧
    (issueChange c iss s).1.channel.awaits = s.channel.awaits ∧
    (issueChange c iss s).1.channel.waitCounter = s.channel.waitCounter ∧
    (issueChange c iss s).1.channel.corrections = s.channel.corrections ∧ (issueChange c iss s).1.wake = s.wake ∧
    (issueChange c iss s).1.request = s.request ∧ (issueChange c iss s).1.faults = s.faults ∧
    (issueChange c iss s).1.loader = s.loader ∧ (issueChange c iss s).1.port = s.port ∧
    (issueChange c iss s).1.pending = s.pending := by
  unfold issueChange
  split <;> simp

@[simp] theorem issuePulse_keeps (i : Fin 4) (tenths : Nat) (s : State) :
    (issuePulse i tenths s).time = s.time ∧ (issuePulse i tenths s).pins = s.pins ∧
    (issuePulse i tenths s).link = s.link ∧ (issuePulse i tenths s).agreement = s.agreement ∧
    (issuePulse i tenths s).presence = s.presence ∧ (issuePulse i tenths s).executor = s.executor ∧
    (issuePulse i tenths s).channel.rails = s.channel.rails ∧
    (issuePulse i tenths s).channel.awaits = s.channel.awaits ∧
    (issuePulse i tenths s).channel.waitCounter = s.channel.waitCounter ∧
    (issuePulse i tenths s).channel.corrections = s.channel.corrections ∧ (issuePulse i tenths s).wake = s.wake ∧
    (issuePulse i tenths s).request = s.request ∧ (issuePulse i tenths s).faults = s.faults ∧
    (issuePulse i tenths s).loader = s.loader ∧ (issuePulse i tenths s).port = s.port ∧
    (issuePulse i tenths s).pending = s.pending := by
  simp [issuePulse]

@[simp] theorem issueAwait_keeps (i : Fin 2) (l : Level) (ms : Nat) (s : State) :
    (issueAwait i l ms s).1.time = s.time ∧ (issueAwait i l ms s).1.pins = s.pins ∧
    (issueAwait i l ms s).1.link = s.link ∧ (issueAwait i l ms s).1.agreement = s.agreement ∧
    (issueAwait i l ms s).1.presence = s.presence ∧ (issueAwait i l ms s).1.executor = s.executor ∧
    (issueAwait i l ms s).1.channel.rails = s.channel.rails ∧
    (issueAwait i l ms s).1.channel.signals = s.channel.signals ∧
    (issueAwait i l ms s).1.channel.waitCounter = s.channel.waitCounter ∧
    (issueAwait i l ms s).1.channel.corrections = s.channel.corrections ∧ (issueAwait i l ms s).1.wake = s.wake ∧
    (issueAwait i l ms s).1.request = s.request ∧ (issueAwait i l ms s).1.faults = s.faults ∧
    (issueAwait i l ms s).1.loader = s.loader ∧ (issueAwait i l ms s).1.port = s.port ∧
    (issueAwait i l ms s).1.pending = s.pending := by
  unfold issueAwait
  split <;> simp

@[simp] theorem issueAction_keeps (a : Action) (s : State) :
    (issueAction a s).1.time = s.time ∧ (issueAction a s).1.pins = s.pins ∧ (issueAction a s).1.link = s.link ∧
    (issueAction a s).1.agreement = s.agreement ∧ (issueAction a s).1.presence = s.presence ∧
    (issueAction a s).1.executor = s.executor ∧ (issueAction a s).1.channel.corrections = s.channel.corrections ∧
    (issueAction a s).1.wake = s.wake ∧ (issueAction a s).1.request = s.request ∧
    (issueAction a s).1.faults = s.faults ∧ (issueAction a s).1.loader = s.loader ∧
    (issueAction a s).1.port = s.port ∧ (issueAction a s).1.pending = s.pending := by
  unfold issueAction
  split <;> simp

@[simp] theorem settleCorrection_keeps (row : ProfileRow) (s : State) :
    (settleCorrection row s).time = s.time ∧ (settleCorrection row s).pins = s.pins ∧
    (settleCorrection row s).link = s.link ∧ (settleCorrection row s).agreement = s.agreement ∧
    (settleCorrection row s).presence = s.presence ∧ (settleCorrection row s).executor = s.executor ∧
    (settleCorrection row s).channel.awaits = s.channel.awaits ∧
    (settleCorrection row s).channel.waitCounter = s.channel.waitCounter ∧ (settleCorrection row s).wake = s.wake ∧
    (settleCorrection row s).request = s.request ∧ (settleCorrection row s).faults = s.faults ∧
    (settleCorrection row s).loader = s.loader ∧ (settleCorrection row s).port = s.port ∧
    (settleCorrection row s).pending = s.pending := by
  unfold settleCorrection
  exact
    ⟨(foldl_keep (fun s => s.time) (fun s a => by simp) _ _).trans (foldl_keep (fun s => s.time) (fun s a => by simp) _ _),
     (foldl_keep (fun s => s.pins) (fun s a => by simp) _ _).trans (foldl_keep (fun s => s.pins) (fun s a => by simp) _ _),
     (foldl_keep (fun s => s.link) (fun s a => by simp) _ _).trans (foldl_keep (fun s => s.link) (fun s a => by simp) _ _),
     (foldl_keep (fun s => s.agreement) (fun s a => by simp) _ _).trans (foldl_keep (fun s => s.agreement) (fun s a => by simp) _ _),
     (foldl_keep (fun s => s.presence) (fun s a => by simp) _ _).trans (foldl_keep (fun s => s.presence) (fun s a => by simp) _ _),
     (foldl_keep (fun s => s.executor) (fun s a => by simp) _ _).trans (foldl_keep (fun s => s.executor) (fun s a => by simp) _ _),
     (foldl_keep (fun s => s.channel.awaits) (fun s a => by simp) _ _).trans (foldl_keep (fun s => s.channel.awaits) (fun s a => by simp) _ _),
     (foldl_keep (fun s => s.channel.waitCounter) (fun s a => by simp) _ _).trans (foldl_keep (fun s => s.channel.waitCounter) (fun s a => by simp) _ _),
     (foldl_keep (fun s => s.wake) (fun s a => by simp) _ _).trans (foldl_keep (fun s => s.wake) (fun s a => by simp) _ _),
     (foldl_keep (fun s => s.request) (fun s a => by simp) _ _).trans (foldl_keep (fun s => s.request) (fun s a => by simp) _ _),
     (foldl_keep (fun s => s.faults) (fun s a => by simp) _ _).trans (foldl_keep (fun s => s.faults) (fun s a => by simp) _ _),
     (foldl_keep (fun s => s.loader) (fun s a => by simp) _ _).trans (foldl_keep (fun s => s.loader) (fun s a => by simp) _ _),
     (foldl_keep (fun s => s.port) (fun s a => by simp) _ _).trans (foldl_keep (fun s => s.port) (fun s a => by simp) _ _),
     (foldl_keep (fun s => s.pending) (fun s a => by simp) _ _).trans (foldl_keep (fun s => s.pending) (fun s a => by simp) _ _)⟩

@[simp] theorem startAllMonitoring_keeps (s : State) :
    (startAllMonitoring s).time = s.time ∧ (startAllMonitoring s).pins = s.pins ∧
    (startAllMonitoring s).link = s.link ∧ (startAllMonitoring s).agreement = s.agreement ∧
    (startAllMonitoring s).presence = s.presence ∧ (startAllMonitoring s).executor = s.executor ∧
    (startAllMonitoring s).channel.signals = s.channel.signals ∧
    (startAllMonitoring s).channel.awaits = s.channel.awaits ∧
    (startAllMonitoring s).channel.waitCounter = s.channel.waitCounter ∧
    (startAllMonitoring s).channel.corrections = s.channel.corrections ∧ (startAllMonitoring s).wake = s.wake ∧
    (startAllMonitoring s).request = s.request ∧ (startAllMonitoring s).faults = s.faults ∧
    (startAllMonitoring s).loader = s.loader ∧ (startAllMonitoring s).port = s.port ∧
    (startAllMonitoring s).pending = s.pending := by
  unfold startAllMonitoring
  exact
    ⟨foldl_keep (fun s => s.time) (fun s a => by split <;> simp) _ _,
     foldl_keep (fun s => s.pins) (fun s a => by split <;> simp) _ _,
     foldl_keep (fun s => s.link) (fun s a => by split <;> simp) _ _,
     foldl_keep (fun s => s.agreement) (fun s a => by split <;> simp) _ _,
     foldl_keep (fun s => s.presence) (fun s a => by split <;> simp) _ _,
     foldl_keep (fun s => s.executor) (fun s a => by split <;> simp) _ _,
     foldl_keep (fun s => s.channel.signals) (fun s a => by split <;> simp) _ _,
     foldl_keep (fun s => s.channel.awaits) (fun s a => by split <;> simp) _ _,
     foldl_keep (fun s => s.channel.waitCounter) (fun s a => by split <;> simp) _ _,
     foldl_keep (fun s => s.channel.corrections) (fun s a => by split <;> simp) _ _,
     foldl_keep (fun s => s.wake) (fun s a => by split <;> simp) _ _,
     foldl_keep (fun s => s.request) (fun s a => by split <;> simp) _ _,
     foldl_keep (fun s => s.faults) (fun s a => by split <;> simp) _ _,
     foldl_keep (fun s => s.loader) (fun s a => by split <;> simp) _ _,
     foldl_keep (fun s => s.port) (fun s a => by split <;> simp) _ _,
     foldl_keep (fun s => s.pending) (fun s a => by split <;> simp) _ _⟩

@[simp] theorem stopAllMonitoring_keeps (s : State) :
    (stopAllMonitoring s).time = s.time ∧ (stopAllMonitoring s).pins = s.pins ∧ (stopAllMonitoring s).link = s.link ∧
    (stopAllMonitoring s).agreement = s.agreement ∧ (stopAllMonitoring s).presence = s.presence ∧
    (stopAllMonitoring s).executor = s.executor ∧ (stopAllMonitoring s).channel.signals = s.channel.signals ∧
    (stopAllMonitoring s).channel.awaits = s.channel.awaits ∧
    (stopAllMonitoring s).channel.waitCounter = s.channel.waitCounter ∧
    (stopAllMonitoring s).channel.corrections = s.channel.corrections ∧ (stopAllMonitoring s).wake = s.wake ∧
    (stopAllMonitoring s).request = s.request ∧ (stopAllMonitoring s).faults = s.faults ∧
    (stopAllMonitoring s).loader = s.loader ∧ (stopAllMonitoring s).port = s.port ∧
    (stopAllMonitoring s).pending = s.pending := by
  simp [stopAllMonitoring]

@[simp] theorem setRunning_keeps (r : Running) (s : State) :
    (setRunning r s).time = s.time ∧ (setRunning r s).pins = s.pins ∧ (setRunning r s).link = s.link ∧
    (setRunning r s).agreement = s.agreement ∧ (setRunning r s).presence = s.presence ∧
    (setRunning r s).executor.sub = s.executor.sub ∧ (setRunning r s).executor.cursor = s.executor.cursor ∧
    (setRunning r s).executor.actionCursor = s.executor.actionCursor ∧
    (setRunning r s).executor.halted = s.executor.halted ∧ (setRunning r s).executor.barrier = s.executor.barrier ∧
    (setRunning r s).executor.barrierExpired = s.executor.barrierExpired ∧
    (setRunning r s).executor.stack = s.executor.stack ∧ (setRunning r s).channel = s.channel ∧
    (setRunning r s).wake = s.wake ∧ (setRunning r s).request = s.request ∧ (setRunning r s).faults = s.faults ∧
    (setRunning r s).loader = s.loader ∧ (setRunning r s).port = s.port ∧ (setRunning r s).pending = s.pending := by
  simp [setRunning]

@[simp] theorem pushRecord_keeps (stage : Nat) (a : Action) (c : Completion) (s : State) :
    (pushRecord stage a c s).time = s.time ∧ (pushRecord stage a c s).pins = s.pins ∧
    (pushRecord stage a c s).link = s.link ∧ (pushRecord stage a c s).agreement = s.agreement ∧
    (pushRecord stage a c s).presence = s.presence ∧ (pushRecord stage a c s).executor.sub = s.executor.sub ∧
    (pushRecord stage a c s).executor.cursor = s.executor.cursor ∧
    (pushRecord stage a c s).executor.actionCursor = s.executor.actionCursor ∧
    (pushRecord stage a c s).executor.halted = s.executor.halted ∧
    (pushRecord stage a c s).executor.barrier = s.executor.barrier ∧
    (pushRecord stage a c s).executor.barrierExpired = s.executor.barrierExpired ∧
    (pushRecord stage a c s).executor.running = s.executor.running ∧ (pushRecord stage a c s).channel = s.channel ∧
    (pushRecord stage a c s).wake = s.wake ∧ (pushRecord stage a c s).request = s.request ∧
    (pushRecord stage a c s).faults = s.faults ∧ (pushRecord stage a c s).loader = s.loader ∧
    (pushRecord stage a c s).port = s.port ∧ (pushRecord stage a c s).pending = s.pending := by
  unfold pushRecord
  split <;> simp

@[simp] theorem completeForward_keeps (stage : Nat) (a : Action) (c : Completion) (s : State) :
    (completeForward stage a c s).time = s.time ∧ (completeForward stage a c s).pins = s.pins ∧
    (completeForward stage a c s).link = s.link ∧ (completeForward stage a c s).agreement = s.agreement ∧
    (completeForward stage a c s).presence = s.presence ∧
    (completeForward stage a c s).executor.sub = s.executor.sub ∧
    (completeForward stage a c s).executor.cursor = s.executor.cursor ∧
    (completeForward stage a c s).executor.barrier = s.executor.barrier ∧
    (completeForward stage a c s).executor.barrierExpired = s.executor.barrierExpired ∧
    (completeForward stage a c s).channel = s.channel ∧ (completeForward stage a c s).wake = s.wake ∧
    (completeForward stage a c s).request = s.request ∧ (completeForward stage a c s).faults = s.faults ∧
    (completeForward stage a c s).loader = s.loader ∧ (completeForward stage a c s).port = s.port ∧
    (completeForward stage a c s).pending = s.pending := by
  unfold completeForward
  dsimp only
  (repeat' split) <;> simp

@[simp] theorem completeUndo_keeps (c : Completion) (s : State) :
    (completeUndo c s).time = s.time ∧ (completeUndo c s).pins = s.pins ∧ (completeUndo c s).link = s.link ∧
    (completeUndo c s).agreement = s.agreement ∧ (completeUndo c s).presence = s.presence ∧
    (completeUndo c s).executor.sub = s.executor.sub ∧ (completeUndo c s).executor.cursor = s.executor.cursor ∧
    (completeUndo c s).executor.actionCursor = s.executor.actionCursor ∧
    (completeUndo c s).executor.barrier = s.executor.barrier ∧
    (completeUndo c s).executor.barrierExpired = s.executor.barrierExpired ∧
    (completeUndo c s).executor.stack = s.executor.stack ∧ (completeUndo c s).channel = s.channel ∧
    (completeUndo c s).wake = s.wake ∧ (completeUndo c s).request = s.request ∧
    (completeUndo c s).faults = s.faults ∧ (completeUndo c s).loader = s.loader ∧ (completeUndo c s).port = s.port ∧
    (completeUndo c s).pending = s.pending := by
  unfold completeUndo
  split <;> simp

@[simp] theorem completeRunning_keeps (c : Completion) (s : State) :
    (completeRunning c s).time = s.time ∧ (completeRunning c s).pins = s.pins ∧ (completeRunning c s).link = s.link ∧
    (completeRunning c s).agreement = s.agreement ∧ (completeRunning c s).presence = s.presence ∧
    (completeRunning c s).executor.sub = s.executor.sub ∧ (completeRunning c s).executor.cursor = s.executor.cursor ∧
    (completeRunning c s).executor.barrier = s.executor.barrier ∧
    (completeRunning c s).executor.barrierExpired = s.executor.barrierExpired ∧
    (completeRunning c s).channel = s.channel ∧ (completeRunning c s).wake = s.wake ∧
    (completeRunning c s).request = s.request ∧ (completeRunning c s).faults = s.faults ∧
    (completeRunning c s).loader = s.loader ∧ (completeRunning c s).port = s.port ∧
    (completeRunning c s).pending = s.pending := by
  unfold completeRunning
  split <;> simp

@[simp] theorem afterIssue_keeps (r : Running) (x : State × Option Completion) :
    ((afterIssue r x).1).time = x.1.time ∧ ((afterIssue r x).1).pins = x.1.pins ∧
    ((afterIssue r x).1).link = x.1.link ∧ ((afterIssue r x).1).agreement = x.1.agreement ∧
    ((afterIssue r x).1).presence = x.1.presence ∧ ((afterIssue r x).1).executor.sub = x.1.executor.sub ∧
    ((afterIssue r x).1).executor.cursor = x.1.executor.cursor ∧
    ((afterIssue r x).1).executor.barrier = x.1.executor.barrier ∧
    ((afterIssue r x).1).executor.barrierExpired = x.1.executor.barrierExpired ∧
    ((afterIssue r x).1).channel = x.1.channel ∧ ((afterIssue r x).1).wake = x.1.wake ∧
    ((afterIssue r x).1).request = x.1.request ∧ ((afterIssue r x).1).faults = x.1.faults ∧
    ((afterIssue r x).1).loader = x.1.loader ∧ ((afterIssue r x).1).port = x.1.port ∧
    ((afterIssue r x).1).pending = x.1.pending := by
  obtain ⟨s, c | c⟩ := x <;> simp [afterIssue]

@[simp] theorem beginWaiting_keeps (cursor : Nat) (b : Option BarrierRun) (s : State) :
    (beginWaiting cursor b s).time = s.time ∧ (beginWaiting cursor b s).pins = s.pins ∧
    (beginWaiting cursor b s).link = s.link ∧ (beginWaiting cursor b s).agreement = s.agreement ∧
    (beginWaiting cursor b s).presence = s.presence ∧
    (beginWaiting cursor b s).executor.actionCursor = s.executor.actionCursor ∧
    (beginWaiting cursor b s).executor.halted = s.executor.halted ∧
    (beginWaiting cursor b s).executor.running = s.executor.running ∧
    (beginWaiting cursor b s).executor.stack = s.executor.stack ∧ (beginWaiting cursor b s).channel = s.channel ∧
    (beginWaiting cursor b s).wake = s.wake ∧ (beginWaiting cursor b s).request = s.request ∧
    (beginWaiting cursor b s).faults = s.faults ∧ (beginWaiting cursor b s).loader = s.loader ∧
    (beginWaiting cursor b s).port = s.port ∧ (beginWaiting cursor b s).pending = s.pending := by
  simp [beginWaiting]

@[simp] theorem beginStage_keeps (stage : Nat) (s : State) :
    (beginStage stage s).time = s.time ∧ (beginStage stage s).pins = s.pins ∧ (beginStage stage s).link = s.link ∧
    (beginStage stage s).agreement = s.agreement ∧ (beginStage stage s).presence = s.presence ∧
    (beginStage stage s).executor.halted = s.executor.halted ∧
    (beginStage stage s).executor.running = s.executor.running ∧
    (beginStage stage s).executor.stack = s.executor.stack ∧ (beginStage stage s).channel = s.channel ∧
    (beginStage stage s).wake = s.wake ∧ (beginStage stage s).request = s.request ∧
    (beginStage stage s).faults = s.faults ∧ (beginStage stage s).loader = s.loader ∧
    (beginStage stage s).port = s.port ∧ (beginStage stage s).pending = s.pending := by
  simp [beginStage]

@[simp] theorem afterReport_keeps (stage : Nat) (s : State) :
    (afterReport stage s).time = s.time ∧ (afterReport stage s).pins = s.pins ∧ (afterReport stage s).link = s.link ∧
    (afterReport stage s).agreement = s.agreement ∧ (afterReport stage s).presence = s.presence ∧
    (afterReport stage s).executor.halted = s.executor.halted ∧
    (afterReport stage s).executor.running = s.executor.running ∧
    (afterReport stage s).executor.stack = s.executor.stack ∧ (afterReport stage s).channel = s.channel ∧
    (afterReport stage s).wake = s.wake ∧ (afterReport stage s).request = s.request ∧
    (afterReport stage s).faults = s.faults ∧ (afterReport stage s).loader = s.loader ∧
    (afterReport stage s).port = s.port ∧ (afterReport stage s).pending = s.pending := by
  unfold afterReport
  dsimp only
  (repeat' split) <;> simp

@[simp] theorem barrierStopped_keeps (s : State) :
    (barrierStopped s).time = s.time ∧ (barrierStopped s).pins = s.pins ∧ (barrierStopped s).link = s.link ∧
    (barrierStopped s).agreement = s.agreement ∧ (barrierStopped s).presence = s.presence ∧
    (barrierStopped s).executor.sub = s.executor.sub ∧ (barrierStopped s).executor.cursor = s.executor.cursor ∧
    (barrierStopped s).executor.actionCursor = s.executor.actionCursor ∧
    (barrierStopped s).executor.halted = s.executor.halted ∧
    (barrierStopped s).executor.running = s.executor.running ∧ (barrierStopped s).executor.stack = s.executor.stack ∧
    (barrierStopped s).channel = s.channel ∧ (barrierStopped s).wake = s.wake ∧
    (barrierStopped s).request = s.request ∧ (barrierStopped s).faults = s.faults ∧
    (barrierStopped s).loader = s.loader ∧ (barrierStopped s).port = s.port ∧ (barrierStopped s).pending = s.pending := by
  simp [barrierStopped]

@[simp] theorem beginLevel_keeps (level : Nat) (s : State) :
    (beginLevel level s).time = s.time ∧ (beginLevel level s).pins = s.pins ∧ (beginLevel level s).link = s.link ∧
    (beginLevel level s).agreement = s.agreement ∧ (beginLevel level s).presence = s.presence ∧
    (beginLevel level s).executor.halted = s.executor.halted ∧
    (beginLevel level s).executor.running = s.executor.running ∧
    (beginLevel level s).executor.stack = s.executor.stack ∧ (beginLevel level s).channel = s.channel ∧
    (beginLevel level s).wake = s.wake ∧ (beginLevel level s).request = s.request ∧
    (beginLevel level s).faults = s.faults ∧ (beginLevel level s).loader = s.loader ∧
    (beginLevel level s).port = s.port ∧ (beginLevel level s).pending = s.pending := by
  simp [beginLevel]

@[simp] theorem reportStage_keeps (stage : Nat) (s : State) :
    (reportStage stage s).1.time = s.time ∧ (reportStage stage s).1.pins = s.pins ∧
    (reportStage stage s).1.link.integrated = s.link.integrated ∧
    (reportStage stage s).1.link.receiveErrors = s.link.receiveErrors ∧
    (reportStage stage s).1.agreement = s.agreement ∧ (reportStage stage s).1.presence = s.presence ∧
    (reportStage stage s).1.executor.halted = s.executor.halted ∧
    (reportStage stage s).1.executor.running = s.executor.running ∧
    (reportStage stage s).1.executor.stack = s.executor.stack ∧ (reportStage stage s).1.channel = s.channel ∧
    (reportStage stage s).1.wake.inputs = s.wake.inputs ∧ (reportStage stage s).1.wake.pressed = s.wake.pressed ∧
    (reportStage stage s).1.wake.debounce = s.wake.debounce ∧
    (reportStage stage s).1.wake.longPress = s.wake.longPress ∧
    (reportStage stage s).1.wake.commonWindow = s.wake.commonWindow ∧
    (reportStage stage s).1.wake.queue = s.wake.queue ∧ (reportStage stage s).1.wake.minDwell = s.wake.minDwell ∧
    (reportStage stage s).1.wake.faultHold = s.wake.faultHold ∧ (reportStage stage s).1.wake.demote = s.wake.demote ∧
    (reportStage stage s).1.request.underVote = s.request.underVote ∧
    (reportStage stage s).1.request.deferHold = s.request.deferHold ∧
    (reportStage stage s).1.request.lockout = s.request.lockout ∧
    (reportStage stage s).1.request.refresh = s.request.refresh ∧
    (reportStage stage s).1.request.pulses = s.request.pulses ∧
    (reportStage stage s).1.request.result = s.request.result ∧ (reportStage stage s).1.faults = s.faults ∧
    (reportStage stage s).1.loader = s.loader ∧ (reportStage stage s).1.port = s.port ∧
    (reportStage stage s).1.pending = s.pending := by
  unfold reportStage
  split <;> simp

@[simp] theorem reportLevel_keeps (level : Nat) (s : State) :
    (reportLevel level s).time = s.time ∧ (reportLevel level s).pins = s.pins ∧
    (reportLevel level s).link.integrated = s.link.integrated ∧
    (reportLevel level s).link.receiveErrors = s.link.receiveErrors ∧ (reportLevel level s).agreement = s.agreement ∧
    (reportLevel level s).presence = s.presence ∧ (reportLevel level s).executor.cursor = s.executor.cursor ∧
    (reportLevel level s).executor.actionCursor = s.executor.actionCursor ∧
    (reportLevel level s).executor.halted = s.executor.halted ∧
    (reportLevel level s).executor.barrier = s.executor.barrier ∧
    (reportLevel level s).executor.barrierExpired = s.executor.barrierExpired ∧
    (reportLevel level s).executor.running = s.executor.running ∧
    (reportLevel level s).executor.stack = s.executor.stack ∧ (reportLevel level s).channel = s.channel ∧
    (reportLevel level s).wake.inputs = s.wake.inputs ∧ (reportLevel level s).wake.pressed = s.wake.pressed ∧
    (reportLevel level s).wake.debounce = s.wake.debounce ∧ (reportLevel level s).wake.longPress = s.wake.longPress ∧
    (reportLevel level s).wake.commonWindow = s.wake.commonWindow ∧ (reportLevel level s).wake.queue = s.wake.queue ∧
    (reportLevel level s).wake.minDwell = s.wake.minDwell ∧ (reportLevel level s).wake.faultHold = s.wake.faultHold ∧
    (reportLevel level s).wake.demote = s.wake.demote ∧
    (reportLevel level s).request.underVote = s.request.underVote ∧
    (reportLevel level s).request.deferHold = s.request.deferHold ∧
    (reportLevel level s).request.lockout = s.request.lockout ∧
    (reportLevel level s).request.refresh = s.request.refresh ∧
    (reportLevel level s).request.pulses = s.request.pulses ∧
    (reportLevel level s).request.result = s.request.result ∧ (reportLevel level s).faults = s.faults ∧
    (reportLevel level s).loader = s.loader ∧ (reportLevel level s).port = s.port ∧
    (reportLevel level s).pending = s.pending := by
  simp [reportLevel]

@[simp] theorem execStep_keeps (s : State) :
    (execStep s).1.time = s.time ∧ (execStep s).1.pins = s.pins ∧
    (execStep s).1.link.integrated = s.link.integrated ∧ (execStep s).1.link.receiveErrors = s.link.receiveErrors ∧
    (execStep s).1.agreement = s.agreement ∧ (execStep s).1.presence = s.presence ∧
    (execStep s).1.channel.corrections = s.channel.corrections ∧ (execStep s).1.wake.inputs = s.wake.inputs ∧
    (execStep s).1.wake.pressed = s.wake.pressed ∧ (execStep s).1.wake.debounce = s.wake.debounce ∧
    (execStep s).1.wake.longPress = s.wake.longPress ∧ (execStep s).1.wake.commonWindow = s.wake.commonWindow ∧
    (execStep s).1.wake.queue = s.wake.queue ∧ (execStep s).1.wake.minDwell = s.wake.minDwell ∧
    (execStep s).1.wake.faultHold = s.wake.faultHold ∧ (execStep s).1.wake.demote = s.wake.demote ∧
    (execStep s).1.request.underVote = s.request.underVote ∧ (execStep s).1.request.deferHold = s.request.deferHold ∧
    (execStep s).1.request.lockout = s.request.lockout ∧ (execStep s).1.request.refresh = s.request.refresh ∧
    (execStep s).1.request.pulses = s.request.pulses ∧ (execStep s).1.request.result = s.request.result ∧
    (execStep s).1.faults = s.faults ∧ (execStep s).1.loader = s.loader ∧ (execStep s).1.port = s.port ∧
    (execStep s).1.pending = s.pending := by
  unfold execStep
  (repeat' split) <;> simp

@[simp] theorem execLoop_keeps (fuel : Nat) (s : State) :
    (execLoop fuel s).time = s.time ∧ (execLoop fuel s).pins = s.pins ∧
    (execLoop fuel s).link.integrated = s.link.integrated ∧
    (execLoop fuel s).link.receiveErrors = s.link.receiveErrors ∧ (execLoop fuel s).agreement = s.agreement ∧
    (execLoop fuel s).presence = s.presence ∧ (execLoop fuel s).channel.corrections = s.channel.corrections ∧
    (execLoop fuel s).wake.inputs = s.wake.inputs ∧ (execLoop fuel s).wake.pressed = s.wake.pressed ∧
    (execLoop fuel s).wake.debounce = s.wake.debounce ∧ (execLoop fuel s).wake.longPress = s.wake.longPress ∧
    (execLoop fuel s).wake.commonWindow = s.wake.commonWindow ∧ (execLoop fuel s).wake.queue = s.wake.queue ∧
    (execLoop fuel s).wake.minDwell = s.wake.minDwell ∧ (execLoop fuel s).wake.faultHold = s.wake.faultHold ∧
    (execLoop fuel s).wake.demote = s.wake.demote ∧ (execLoop fuel s).request.underVote = s.request.underVote ∧
    (execLoop fuel s).request.deferHold = s.request.deferHold ∧
    (execLoop fuel s).request.lockout = s.request.lockout ∧ (execLoop fuel s).request.refresh = s.request.refresh ∧
    (execLoop fuel s).request.pulses = s.request.pulses ∧ (execLoop fuel s).request.result = s.request.result ∧
    (execLoop fuel s).faults = s.faults ∧ (execLoop fuel s).loader = s.loader ∧ (execLoop fuel s).port = s.port ∧
    (execLoop fuel s).pending = s.pending := by
  induction fuel generalizing s with
  | zero => simp [execLoop]
  | succ fuel ih =>
    have h := execStep_keeps s
    unfold execLoop
    split
    · next s1 hs => simp_all
    · next s1 hs => simp_all

@[simp] theorem execRun_keeps (s : State) :
    (execRun s).time = s.time ∧ (execRun s).pins = s.pins ∧ (execRun s).link.integrated = s.link.integrated ∧
    (execRun s).link.receiveErrors = s.link.receiveErrors ∧ (execRun s).agreement = s.agreement ∧
    (execRun s).presence = s.presence ∧ (execRun s).channel.corrections = s.channel.corrections ∧
    (execRun s).wake.inputs = s.wake.inputs ∧ (execRun s).wake.pressed = s.wake.pressed ∧
    (execRun s).wake.debounce = s.wake.debounce ∧ (execRun s).wake.longPress = s.wake.longPress ∧
    (execRun s).wake.commonWindow = s.wake.commonWindow ∧ (execRun s).wake.queue = s.wake.queue ∧
    (execRun s).wake.minDwell = s.wake.minDwell ∧ (execRun s).wake.faultHold = s.wake.faultHold ∧
    (execRun s).wake.demote = s.wake.demote ∧ (execRun s).request.underVote = s.request.underVote ∧
    (execRun s).request.deferHold = s.request.deferHold ∧ (execRun s).request.lockout = s.request.lockout ∧
    (execRun s).request.refresh = s.request.refresh ∧ (execRun s).request.pulses = s.request.pulses ∧
    (execRun s).request.result = s.request.result ∧ (execRun s).faults = s.faults ∧ (execRun s).loader = s.loader ∧
    (execRun s).port = s.port ∧ (execRun s).pending = s.pending := by
  simp [execRun]

@[simp] theorem execComplete_keeps (c : Completion) (s : State) :
    (execComplete c s).time = s.time ∧ (execComplete c s).pins = s.pins ∧
    (execComplete c s).link.integrated = s.link.integrated ∧
    (execComplete c s).link.receiveErrors = s.link.receiveErrors ∧ (execComplete c s).agreement = s.agreement ∧
    (execComplete c s).presence = s.presence ∧ (execComplete c s).channel.corrections = s.channel.corrections ∧
    (execComplete c s).wake.inputs = s.wake.inputs ∧ (execComplete c s).wake.pressed = s.wake.pressed ∧
    (execComplete c s).wake.debounce = s.wake.debounce ∧ (execComplete c s).wake.longPress = s.wake.longPress ∧
    (execComplete c s).wake.commonWindow = s.wake.commonWindow ∧ (execComplete c s).wake.queue = s.wake.queue ∧
    (execComplete c s).wake.minDwell = s.wake.minDwell ∧ (execComplete c s).wake.faultHold = s.wake.faultHold ∧
    (execComplete c s).wake.demote = s.wake.demote ∧ (execComplete c s).request.underVote = s.request.underVote ∧
    (execComplete c s).request.deferHold = s.request.deferHold ∧
    (execComplete c s).request.lockout = s.request.lockout ∧ (execComplete c s).request.refresh = s.request.refresh ∧
    (execComplete c s).request.pulses = s.request.pulses ∧ (execComplete c s).request.result = s.request.result ∧
    (execComplete c s).faults = s.faults ∧ (execComplete c s).loader = s.loader ∧ (execComplete c s).port = s.port ∧
    (execComplete c s).pending = s.pending := by
  unfold execComplete
  split <;> simp

@[simp] theorem execIdle_keeps (s : State) :
    (execIdle s).time = s.time ∧ (execIdle s).pins = s.pins ∧ (execIdle s).link = s.link ∧
    (execIdle s).agreement = s.agreement ∧ (execIdle s).presence = s.presence ∧ (execIdle s).channel = s.channel ∧
    (execIdle s).wake = s.wake ∧ (execIdle s).request = s.request ∧ (execIdle s).faults = s.faults ∧
    (execIdle s).loader = s.loader ∧ (execIdle s).port = s.port ∧ (execIdle s).pending = s.pending := by
  simp [execIdle]

@[simp] theorem execStart_keeps (s : State) :
    (execStart s).time = s.time ∧ (execStart s).pins = s.pins ∧ (execStart s).link.integrated = s.link.integrated ∧
    (execStart s).link.receiveErrors = s.link.receiveErrors ∧ (execStart s).agreement = s.agreement ∧
    (execStart s).presence = s.presence ∧ (execStart s).channel.corrections = s.channel.corrections ∧
    (execStart s).wake.inputs = s.wake.inputs ∧ (execStart s).wake.pressed = s.wake.pressed ∧
    (execStart s).wake.debounce = s.wake.debounce ∧ (execStart s).wake.longPress = s.wake.longPress ∧
    (execStart s).wake.commonWindow = s.wake.commonWindow ∧ (execStart s).wake.queue = s.wake.queue ∧
    (execStart s).wake.minDwell = s.wake.minDwell ∧ (execStart s).wake.faultHold = s.wake.faultHold ∧
    (execStart s).wake.demote = s.wake.demote ∧ (execStart s).request.underVote = s.request.underVote ∧
    (execStart s).request.deferHold = s.request.deferHold ∧ (execStart s).request.lockout = s.request.lockout ∧
    (execStart s).request.refresh = s.request.refresh ∧ (execStart s).request.pulses = s.request.pulses ∧
    (execStart s).request.result = s.request.result ∧ (execStart s).faults = s.faults ∧
    (execStart s).loader = s.loader ∧ (execStart s).port = s.port ∧ (execStart s).pending = s.pending := by
  simp [execStart]

@[simp] theorem execUnwind_keeps (h : Nat) (s : State) :
    (execUnwind h s).time = s.time ∧ (execUnwind h s).pins = s.pins ∧
    (execUnwind h s).link.integrated = s.link.integrated ∧
    (execUnwind h s).link.receiveErrors = s.link.receiveErrors ∧ (execUnwind h s).agreement = s.agreement ∧
    (execUnwind h s).presence = s.presence ∧ (execUnwind h s).channel.corrections = s.channel.corrections ∧
    (execUnwind h s).wake.inputs = s.wake.inputs ∧ (execUnwind h s).wake.pressed = s.wake.pressed ∧
    (execUnwind h s).wake.debounce = s.wake.debounce ∧ (execUnwind h s).wake.longPress = s.wake.longPress ∧
    (execUnwind h s).wake.commonWindow = s.wake.commonWindow ∧ (execUnwind h s).wake.queue = s.wake.queue ∧
    (execUnwind h s).wake.minDwell = s.wake.minDwell ∧ (execUnwind h s).wake.faultHold = s.wake.faultHold ∧
    (execUnwind h s).wake.demote = s.wake.demote ∧ (execUnwind h s).request.underVote = s.request.underVote ∧
    (execUnwind h s).request.deferHold = s.request.deferHold ∧ (execUnwind h s).request.lockout = s.request.lockout ∧
    (execUnwind h s).request.refresh = s.request.refresh ∧ (execUnwind h s).request.pulses = s.request.pulses ∧
    (execUnwind h s).request.result = s.request.result ∧ (execUnwind h s).faults = s.faults ∧
    (execUnwind h s).loader = s.loader ∧ (execUnwind h s).port = s.port ∧ (execUnwind h s).pending = s.pending := by
  simp [execUnwind]

@[simp] theorem stall_keeps (s : State) :
    (stall s).time = s.time ∧ (stall s).pins = s.pins ∧ (stall s).link.integrated = s.link.integrated ∧
    (stall s).link.receiveErrors = s.link.receiveErrors ∧ (stall s).agreement = s.agreement ∧
    (stall s).presence = s.presence ∧ (stall s).executor.sub = s.executor.sub ∧
    (stall s).executor.cursor = s.executor.cursor ∧ (stall s).executor.actionCursor = s.executor.actionCursor ∧
    (stall s).executor.barrier = s.executor.barrier ∧ (stall s).executor.barrierExpired = s.executor.barrierExpired ∧
    (stall s).executor.running = s.executor.running ∧ (stall s).executor.stack = s.executor.stack ∧
    (stall s).channel = s.channel ∧ (stall s).wake.inputs = s.wake.inputs ∧ (stall s).wake.pressed = s.wake.pressed ∧
    (stall s).wake.debounce = s.wake.debounce ∧ (stall s).wake.longPress = s.wake.longPress ∧
    (stall s).wake.commonWindow = s.wake.commonWindow ∧ (stall s).wake.queue = s.wake.queue ∧
    (stall s).wake.minDwell = s.wake.minDwell ∧ (stall s).wake.faultHold = s.wake.faultHold ∧
    (stall s).wake.demote = s.wake.demote ∧ (stall s).request.underVote = s.request.underVote ∧
    (stall s).request.deferHold = s.request.deferHold ∧ (stall s).request.lockout = s.request.lockout ∧
    (stall s).request.refresh = s.request.refresh ∧ (stall s).request.pulses = s.request.pulses ∧
    (stall s).request.result = s.request.result ∧ (stall s).faults.deferred = s.faults.deferred ∧
    (stall s).loader = s.loader ∧ (stall s).port = s.port ∧ (stall s).pending = s.pending := by
  simp [stall]

@[simp] theorem expireNonForced_keeps (s : State) :
    (expireNonForced s).time = s.time ∧ (expireNonForced s).pins = s.pins ∧
    (expireNonForced s).link.integrated = s.link.integrated ∧
    (expireNonForced s).link.receiveErrors = s.link.receiveErrors ∧ (expireNonForced s).agreement = s.agreement ∧
    (expireNonForced s).presence = s.presence ∧ (expireNonForced s).executor.sub = s.executor.sub ∧
    (expireNonForced s).executor.cursor = s.executor.cursor ∧
    (expireNonForced s).executor.actionCursor = s.executor.actionCursor ∧
    (expireNonForced s).executor.barrier = s.executor.barrier ∧
    (expireNonForced s).executor.barrierExpired = s.executor.barrierExpired ∧
    (expireNonForced s).executor.running = s.executor.running ∧
    (expireNonForced s).executor.stack = s.executor.stack ∧ (expireNonForced s).channel = s.channel ∧
    (expireNonForced s).wake.inputs = s.wake.inputs ∧ (expireNonForced s).wake.pressed = s.wake.pressed ∧
    (expireNonForced s).wake.debounce = s.wake.debounce ∧ (expireNonForced s).wake.longPress = s.wake.longPress ∧
    (expireNonForced s).wake.commonWindow = s.wake.commonWindow ∧ (expireNonForced s).wake.queue = s.wake.queue ∧
    (expireNonForced s).wake.minDwell = s.wake.minDwell ∧ (expireNonForced s).wake.faultHold = s.wake.faultHold ∧
    (expireNonForced s).wake.demote = s.wake.demote ∧ (expireNonForced s).request.underVote = s.request.underVote ∧
    (expireNonForced s).request.deferHold = s.request.deferHold ∧
    (expireNonForced s).request.lockout = s.request.lockout ∧
    (expireNonForced s).request.refresh = s.request.refresh ∧ (expireNonForced s).request.pulses = s.request.pulses ∧
    (expireNonForced s).request.result = s.request.result ∧ (expireNonForced s).faults.deferred = s.faults.deferred ∧
    (expireNonForced s).loader = s.loader ∧ (expireNonForced s).port = s.port ∧
    (expireNonForced s).pending = s.pending := by
  unfold expireNonForced
  split <;> simp

@[simp] theorem recordMissing_keeps (missing : StationSet) (s : State) :
    (recordMissing missing s).time = s.time ∧ (recordMissing missing s).pins = s.pins ∧
    (recordMissing missing s).link = s.link ∧ (recordMissing missing s).agreement.phase = s.agreement.phase ∧
    (recordMissing missing s).agreement.believed = s.agreement.believed ∧
    (recordMissing missing s).agreement.restImage = s.agreement.restImage ∧
    (recordMissing missing s).agreement.number = s.agreement.number ∧
    (recordMissing missing s).agreement.history = s.agreement.history ∧
    (recordMissing missing s).agreement.lateProposals = s.agreement.lateProposals ∧
    (recordMissing missing s).agreement.streaks = s.agreement.streaks ∧
    (recordMissing missing s).agreement.voteWindow = s.agreement.voteWindow ∧
    (recordMissing missing s).agreement.voteGuard = s.agreement.voteGuard ∧
    (recordMissing missing s).presence = s.presence ∧ (recordMissing missing s).executor = s.executor ∧
    (recordMissing missing s).channel = s.channel ∧ (recordMissing missing s).wake = s.wake ∧
    (recordMissing missing s).request = s.request ∧ (recordMissing missing s).faults = s.faults ∧
    (recordMissing missing s).loader = s.loader ∧ (recordMissing missing s).port = s.port ∧
    (recordMissing missing s).pending = s.pending := by
  simp [recordMissing]

@[simp] theorem expireStage_keeps (stage : Nat) (s : State) :
    (expireStage stage s).time = s.time ∧ (expireStage stage s).pins = s.pins ∧
    (expireStage stage s).link.integrated = s.link.integrated ∧
    (expireStage stage s).link.receiveErrors = s.link.receiveErrors ∧
    (expireStage stage s).agreement.phase = s.agreement.phase ∧
    (expireStage stage s).agreement.believed = s.agreement.believed ∧
    (expireStage stage s).agreement.restImage = s.agreement.restImage ∧
    (expireStage stage s).agreement.number = s.agreement.number ∧
    (expireStage stage s).agreement.history = s.agreement.history ∧
    (expireStage stage s).agreement.lateProposals = s.agreement.lateProposals ∧
    (expireStage stage s).agreement.streaks = s.agreement.streaks ∧
    (expireStage stage s).agreement.voteWindow = s.agreement.voteWindow ∧
    (expireStage stage s).agreement.voteGuard = s.agreement.voteGuard ∧ (expireStage stage s).presence = s.presence ∧
    (expireStage stage s).channel.corrections = s.channel.corrections ∧
    (expireStage stage s).wake.inputs = s.wake.inputs ∧ (expireStage stage s).wake.pressed = s.wake.pressed ∧
    (expireStage stage s).wake.debounce = s.wake.debounce ∧ (expireStage stage s).wake.longPress = s.wake.longPress ∧
    (expireStage stage s).wake.commonWindow = s.wake.commonWindow ∧ (expireStage stage s).wake.queue = s.wake.queue ∧
    (expireStage stage s).wake.minDwell = s.wake.minDwell ∧ (expireStage stage s).wake.faultHold = s.wake.faultHold ∧
    (expireStage stage s).wake.demote = s.wake.demote ∧
    (expireStage stage s).request.underVote = s.request.underVote ∧
    (expireStage stage s).request.deferHold = s.request.deferHold ∧
    (expireStage stage s).request.lockout = s.request.lockout ∧
    (expireStage stage s).request.refresh = s.request.refresh ∧
    (expireStage stage s).request.pulses = s.request.pulses ∧
    (expireStage stage s).request.result = s.request.result ∧
    (expireStage stage s).faults.deferred = s.faults.deferred ∧ (expireStage stage s).loader = s.loader ∧
    (expireStage stage s).port = s.port ∧ (expireStage stage s).pending = s.pending := by
  unfold expireStage
  dsimp only
  (repeat' split) <;> simp

@[simp] theorem ownForward_keeps (stage : Nat) (s : State) :
    (ownForward stage s).time = s.time ∧ (ownForward stage s).pins = s.pins ∧
    (ownForward stage s).link.integrated = s.link.integrated ∧
    (ownForward stage s).link.receiveErrors = s.link.receiveErrors ∧ (ownForward stage s).agreement = s.agreement ∧
    (ownForward stage s).presence = s.presence ∧ (ownForward stage s).channel.corrections = s.channel.corrections ∧
    (ownForward stage s).wake.inputs = s.wake.inputs ∧ (ownForward stage s).wake.pressed = s.wake.pressed ∧
    (ownForward stage s).wake.debounce = s.wake.debounce ∧ (ownForward stage s).wake.longPress = s.wake.longPress ∧
    (ownForward stage s).wake.commonWindow = s.wake.commonWindow ∧ (ownForward stage s).wake.queue = s.wake.queue ∧
    (ownForward stage s).wake.minDwell = s.wake.minDwell ∧ (ownForward stage s).wake.faultHold = s.wake.faultHold ∧
    (ownForward stage s).wake.demote = s.wake.demote ∧ (ownForward stage s).request.underVote = s.request.underVote ∧
    (ownForward stage s).request.deferHold = s.request.deferHold ∧
    (ownForward stage s).request.lockout = s.request.lockout ∧
    (ownForward stage s).request.refresh = s.request.refresh ∧
    (ownForward stage s).request.pulses = s.request.pulses ∧ (ownForward stage s).request.result = s.request.result ∧
    (ownForward stage s).faults = s.faults ∧ (ownForward stage s).loader = s.loader ∧
    (ownForward stage s).port = s.port ∧ (ownForward stage s).pending = s.pending := by
  unfold ownForward
  split <;> simp

@[simp] theorem testLevel_keeps (s : State) :
    (testLevel s).time = s.time ∧ (testLevel s).pins = s.pins ∧ (testLevel s).link.integrated = s.link.integrated ∧
    (testLevel s).link.receiveErrors = s.link.receiveErrors ∧ (testLevel s).agreement = s.agreement ∧
    (testLevel s).presence = s.presence ∧ (testLevel s).channel.corrections = s.channel.corrections ∧
    (testLevel s).wake.inputs = s.wake.inputs ∧ (testLevel s).wake.pressed = s.wake.pressed ∧
    (testLevel s).wake.debounce = s.wake.debounce ∧ (testLevel s).wake.longPress = s.wake.longPress ∧
    (testLevel s).wake.commonWindow = s.wake.commonWindow ∧ (testLevel s).wake.queue = s.wake.queue ∧
    (testLevel s).wake.minDwell = s.wake.minDwell ∧ (testLevel s).wake.faultHold = s.wake.faultHold ∧
    (testLevel s).wake.demote = s.wake.demote ∧ (testLevel s).request.underVote = s.request.underVote ∧
    (testLevel s).request.deferHold = s.request.deferHold ∧ (testLevel s).request.lockout = s.request.lockout ∧
    (testLevel s).request.refresh = s.request.refresh ∧ (testLevel s).request.pulses = s.request.pulses ∧
    (testLevel s).request.result = s.request.result ∧ (testLevel s).faults = s.faults ∧
    (testLevel s).loader = s.loader ∧ (testLevel s).port = s.port ∧ (testLevel s).pending = s.pending := by
  unfold testLevel
  (repeat' split) <;> simp

@[simp] theorem ownUnwind_keeps (level : Nat) (s : State) :
    (ownUnwind level s).time = s.time ∧ (ownUnwind level s).pins = s.pins ∧
    (ownUnwind level s).link.integrated = s.link.integrated ∧
    (ownUnwind level s).link.receiveErrors = s.link.receiveErrors ∧ (ownUnwind level s).agreement = s.agreement ∧
    (ownUnwind level s).presence = s.presence ∧ (ownUnwind level s).channel.corrections = s.channel.corrections ∧
    (ownUnwind level s).wake.inputs = s.wake.inputs ∧ (ownUnwind level s).wake.pressed = s.wake.pressed ∧
    (ownUnwind level s).wake.debounce = s.wake.debounce ∧ (ownUnwind level s).wake.longPress = s.wake.longPress ∧
    (ownUnwind level s).wake.commonWindow = s.wake.commonWindow ∧ (ownUnwind level s).wake.queue = s.wake.queue ∧
    (ownUnwind level s).wake.minDwell = s.wake.minDwell ∧ (ownUnwind level s).wake.faultHold = s.wake.faultHold ∧
    (ownUnwind level s).wake.demote = s.wake.demote ∧ (ownUnwind level s).request.underVote = s.request.underVote ∧
    (ownUnwind level s).request.deferHold = s.request.deferHold ∧
    (ownUnwind level s).request.lockout = s.request.lockout ∧
    (ownUnwind level s).request.refresh = s.request.refresh ∧ (ownUnwind level s).request.pulses = s.request.pulses ∧
    (ownUnwind level s).request.result = s.request.result ∧ (ownUnwind level s).faults = s.faults ∧
    (ownUnwind level s).loader = s.loader ∧ (ownUnwind level s).port = s.port ∧
    (ownUnwind level s).pending = s.pending := by
  unfold ownUnwind
  split <;> simp

@[simp] theorem testWaiting_keeps (s : State) :
    (testWaiting s).time = s.time ∧ (testWaiting s).pins = s.pins ∧
    (testWaiting s).link.integrated = s.link.integrated ∧ (testWaiting s).link.receiveErrors = s.link.receiveErrors ∧
    (testWaiting s).agreement = s.agreement ∧ (testWaiting s).presence = s.presence ∧
    (testWaiting s).channel.corrections = s.channel.corrections ∧ (testWaiting s).wake.inputs = s.wake.inputs ∧
    (testWaiting s).wake.pressed = s.wake.pressed ∧ (testWaiting s).wake.debounce = s.wake.debounce ∧
    (testWaiting s).wake.longPress = s.wake.longPress ∧ (testWaiting s).wake.commonWindow = s.wake.commonWindow ∧
    (testWaiting s).wake.queue = s.wake.queue ∧ (testWaiting s).wake.minDwell = s.wake.minDwell ∧
    (testWaiting s).wake.faultHold = s.wake.faultHold ∧ (testWaiting s).wake.demote = s.wake.demote ∧
    (testWaiting s).request.underVote = s.request.underVote ∧
    (testWaiting s).request.deferHold = s.request.deferHold ∧ (testWaiting s).request.lockout = s.request.lockout ∧
    (testWaiting s).request.refresh = s.request.refresh ∧ (testWaiting s).request.pulses = s.request.pulses ∧
    (testWaiting s).request.result = s.request.result ∧ (testWaiting s).faults = s.faults ∧
    (testWaiting s).loader = s.loader ∧ (testWaiting s).port = s.port ∧ (testWaiting s).pending = s.pending := by
  unfold testWaiting
  (repeat' split) <;> simp

end Sys2Proof.Machine
end

