-- ==== Sys2Proof/Laws/FramesRequest.lean ====
section
/-! SUPPORT. What each operation of the wake, request and presence units leaves unchanged. The lemma `f_keeps` lists, for
an operation `f`, every block, or field of a block, that it never writes. -/

namespace Sys2Proof.Machine

open Sys2Proof

@[simp] theorem announceEntry_keeps (i : Fin 8) (s : State) :
    (announceEntry i s).time = s.time ∧ (announceEntry i s).pins = s.pins ∧ (announceEntry i s).link = s.link ∧
    (announceEntry i s).agreement = s.agreement ∧ (announceEntry i s).presence = s.presence ∧
    (announceEntry i s).executor = s.executor ∧ (announceEntry i s).channel = s.channel ∧
    (announceEntry i s).wake.inputs = s.wake.inputs ∧ (announceEntry i s).wake.pressed = s.wake.pressed ∧
    (announceEntry i s).wake.debounce = s.wake.debounce ∧ (announceEntry i s).wake.longPress = s.wake.longPress ∧
    (announceEntry i s).wake.commonWindow = s.wake.commonWindow ∧ (announceEntry i s).wake.mark = s.wake.mark ∧
    (announceEntry i s).wake.minDwell = s.wake.minDwell ∧ (announceEntry i s).wake.faultHold = s.wake.faultHold ∧
    (announceEntry i s).wake.demote = s.wake.demote ∧ (announceEntry i s).request = s.request ∧
    (announceEntry i s).faults = s.faults ∧ (announceEntry i s).loader = s.loader ∧
    (announceEntry i s).port = s.port ∧ (announceEntry i s).pending = s.pending := by
  simp [announceEntry]

@[simp] theorem testAnnounce_keeps (s : State) :
    (testAnnounce s).time = s.time ∧ (testAnnounce s).pins = s.pins ∧
    (testAnnounce s).link.integrated = s.link.integrated ∧
    (testAnnounce s).link.receiveErrors = s.link.receiveErrors ∧ (testAnnounce s).agreement = s.agreement ∧
    (testAnnounce s).presence = s.presence ∧ (testAnnounce s).executor = s.executor ∧
    (testAnnounce s).channel = s.channel ∧ (testAnnounce s).wake.inputs = s.wake.inputs ∧
    (testAnnounce s).wake.pressed = s.wake.pressed ∧ (testAnnounce s).wake.debounce = s.wake.debounce ∧
    (testAnnounce s).wake.longPress = s.wake.longPress ∧ (testAnnounce s).wake.commonWindow = s.wake.commonWindow ∧
    (testAnnounce s).wake.queue = s.wake.queue ∧ (testAnnounce s).wake.minDwell = s.wake.minDwell ∧
    (testAnnounce s).wake.faultHold = s.wake.faultHold ∧ (testAnnounce s).wake.demote = s.wake.demote ∧
    (testAnnounce s).request.underVote = s.request.underVote ∧
    (testAnnounce s).request.deferHold = s.request.deferHold ∧ (testAnnounce s).request.lockout = s.request.lockout ∧
    (testAnnounce s).request.refresh = s.request.refresh ∧ (testAnnounce s).request.pulses = s.request.pulses ∧
    (testAnnounce s).request.result = s.request.result ∧ (testAnnounce s).faults = s.faults ∧
    (testAnnounce s).loader = s.loader ∧ (testAnnounce s).port = s.port ∧ (testAnnounce s).pending = s.pending := by
  unfold testAnnounce
  (repeat' split) <;> simp

@[simp] theorem qualify_keeps (i : Fin 8) (s : State) :
    (qualify i s).time = s.time ∧ (qualify i s).pins = s.pins ∧ (qualify i s).link.integrated = s.link.integrated ∧
    (qualify i s).link.receiveErrors = s.link.receiveErrors ∧ (qualify i s).agreement = s.agreement ∧
    (qualify i s).presence = s.presence ∧ (qualify i s).executor = s.executor ∧ (qualify i s).channel = s.channel ∧
    (qualify i s).wake.inputs = s.wake.inputs ∧ (qualify i s).wake.pressed = s.wake.pressed ∧
    (qualify i s).wake.debounce = s.wake.debounce ∧ (qualify i s).wake.longPress = s.wake.longPress ∧
    (qualify i s).wake.commonWindow = s.wake.commonWindow ∧ (qualify i s).wake.minDwell = s.wake.minDwell ∧
    (qualify i s).wake.faultHold = s.wake.faultHold ∧ (qualify i s).wake.demote = s.wake.demote ∧
    (qualify i s).request.underVote = s.request.underVote ∧ (qualify i s).request.deferHold = s.request.deferHold ∧
    (qualify i s).request.lockout = s.request.lockout ∧ (qualify i s).request.refresh = s.request.refresh ∧
    (qualify i s).request.pulses = s.request.pulses ∧ (qualify i s).request.result = s.request.result ∧
    (qualify i s).faults = s.faults ∧ (qualify i s).loader = s.loader ∧ (qualify i s).port = s.port ∧
    (qualify i s).pending = s.pending := by
  unfold qualify
  dsimp only
  (repeat' split) <;> simp

@[simp] theorem judgeWindow_keeps (s : State) (i : Fin 8) :
    (judgeWindow s i).time = s.time ∧ (judgeWindow s i).pins = s.pins ∧
    (judgeWindow s i).link.integrated = s.link.integrated ∧
    (judgeWindow s i).link.receiveErrors = s.link.receiveErrors ∧ (judgeWindow s i).agreement = s.agreement ∧
    (judgeWindow s i).presence = s.presence ∧ (judgeWindow s i).executor = s.executor ∧
    (judgeWindow s i).channel = s.channel ∧ (judgeWindow s i).wake.pressed = s.wake.pressed ∧
    (judgeWindow s i).wake.debounce = s.wake.debounce ∧ (judgeWindow s i).wake.longPress = s.wake.longPress ∧
    (judgeWindow s i).wake.commonWindow = s.wake.commonWindow ∧ (judgeWindow s i).wake.minDwell = s.wake.minDwell ∧
    (judgeWindow s i).wake.faultHold = s.wake.faultHold ∧ (judgeWindow s i).wake.demote = s.wake.demote ∧
    (judgeWindow s i).request.underVote = s.request.underVote ∧
    (judgeWindow s i).request.deferHold = s.request.deferHold ∧
    (judgeWindow s i).request.lockout = s.request.lockout ∧ (judgeWindow s i).request.refresh = s.request.refresh ∧
    (judgeWindow s i).request.pulses = s.request.pulses ∧ (judgeWindow s i).request.result = s.request.result ∧
    (judgeWindow s i).faults = s.faults ∧ (judgeWindow s i).loader = s.loader ∧ (judgeWindow s i).port = s.port ∧
    (judgeWindow s i).pending = s.pending := by
  unfold judgeWindow
  dsimp only
  (repeat' split) <;> simp

@[simp] theorem refreshQualification_keeps (s : State) :
    (refreshQualification s).time = s.time ∧ (refreshQualification s).pins = s.pins ∧
    (refreshQualification s).link = s.link ∧ (refreshQualification s).agreement = s.agreement ∧
    (refreshQualification s).presence = s.presence ∧ (refreshQualification s).executor = s.executor ∧
    (refreshQualification s).channel = s.channel ∧ (refreshQualification s).wake.pressed = s.wake.pressed ∧
    (refreshQualification s).wake.debounce = s.wake.debounce ∧
    (refreshQualification s).wake.longPress = s.wake.longPress ∧
    (refreshQualification s).wake.commonWindow = s.wake.commonWindow ∧
    (refreshQualification s).wake.queue = s.wake.queue ∧ (refreshQualification s).wake.mark = s.wake.mark ∧
    (refreshQualification s).wake.minDwell = s.wake.minDwell ∧
    (refreshQualification s).wake.faultHold = s.wake.faultHold ∧
    (refreshQualification s).wake.demote = s.wake.demote ∧ (refreshQualification s).request = s.request ∧
    (refreshQualification s).faults = s.faults ∧ (refreshQualification s).loader = s.loader ∧
    (refreshQualification s).port = s.port ∧ (refreshQualification s).pending = s.pending := by
  simp [refreshQualification]

@[simp] theorem restartCommon_keeps (s : State) :
    (restartCommon s).time = s.time ∧ (restartCommon s).pins = s.pins ∧ (restartCommon s).link = s.link ∧
    (restartCommon s).agreement = s.agreement ∧ (restartCommon s).presence = s.presence ∧
    (restartCommon s).executor = s.executor ∧ (restartCommon s).channel = s.channel ∧
    (restartCommon s).wake.inputs = s.wake.inputs ∧ (restartCommon s).wake.pressed = s.wake.pressed ∧
    (restartCommon s).wake.debounce = s.wake.debounce ∧ (restartCommon s).wake.longPress = s.wake.longPress ∧
    (restartCommon s).wake.queue = s.wake.queue ∧ (restartCommon s).wake.mark = s.wake.mark ∧
    (restartCommon s).wake.minDwell = s.wake.minDwell ∧ (restartCommon s).wake.faultHold = s.wake.faultHold ∧
    (restartCommon s).wake.demote = s.wake.demote ∧ (restartCommon s).request = s.request ∧
    (restartCommon s).faults = s.faults ∧ (restartCommon s).loader = s.loader ∧ (restartCommon s).port = s.port ∧
    (restartCommon s).pending = s.pending := by
  simp [restartCommon]

@[simp] theorem startDemote_keeps (ms : Nat) (s : State) :
    (startDemote ms s).time = s.time ∧ (startDemote ms s).pins = s.pins ∧ (startDemote ms s).link = s.link ∧
    (startDemote ms s).agreement = s.agreement ∧ (startDemote ms s).presence = s.presence ∧
    (startDemote ms s).executor = s.executor ∧ (startDemote ms s).channel = s.channel ∧
    (startDemote ms s).wake.inputs = s.wake.inputs ∧ (startDemote ms s).wake.pressed = s.wake.pressed ∧
    (startDemote ms s).wake.debounce = s.wake.debounce ∧ (startDemote ms s).wake.longPress = s.wake.longPress ∧
    (startDemote ms s).wake.commonWindow = s.wake.commonWindow ∧ (startDemote ms s).wake.queue = s.wake.queue ∧
    (startDemote ms s).wake.mark = s.wake.mark ∧ (startDemote ms s).wake.minDwell = s.wake.minDwell ∧
    (startDemote ms s).wake.faultHold = s.wake.faultHold ∧ (startDemote ms s).request = s.request ∧
    (startDemote ms s).faults = s.faults ∧ (startDemote ms s).loader = s.loader ∧ (startDemote ms s).port = s.port ∧
    (startDemote ms s).pending = s.pending := by
  simp [startDemote]

@[simp] theorem settleDemote_keeps (closed : Option (Kind × TxnOutcome)) (s : State) :
    (settleDemote closed s).time = s.time ∧ (settleDemote closed s).pins = s.pins ∧
    (settleDemote closed s).link = s.link ∧ (settleDemote closed s).agreement = s.agreement ∧
    (settleDemote closed s).presence = s.presence ∧ (settleDemote closed s).executor = s.executor ∧
    (settleDemote closed s).channel = s.channel ∧ (settleDemote closed s).wake.inputs = s.wake.inputs ∧
    (settleDemote closed s).wake.pressed = s.wake.pressed ∧ (settleDemote closed s).wake.debounce = s.wake.debounce ∧
    (settleDemote closed s).wake.longPress = s.wake.longPress ∧
    (settleDemote closed s).wake.commonWindow = s.wake.commonWindow ∧
    (settleDemote closed s).wake.queue = s.wake.queue ∧ (settleDemote closed s).wake.mark = s.wake.mark ∧
    (settleDemote closed s).wake.minDwell = s.wake.minDwell ∧
    (settleDemote closed s).wake.faultHold = s.wake.faultHold ∧ (settleDemote closed s).request = s.request ∧
    (settleDemote closed s).faults = s.faults ∧ (settleDemote closed s).loader = s.loader ∧
    (settleDemote closed s).port = s.port ∧ (settleDemote closed s).pending = s.pending := by
  unfold settleDemote
  split <;> simp

@[simp] theorem startDwell_keeps (s : State) :
    (startDwell s).time = s.time ∧ (startDwell s).pins = s.pins ∧ (startDwell s).link = s.link ∧
    (startDwell s).agreement = s.agreement ∧ (startDwell s).presence = s.presence ∧
    (startDwell s).executor = s.executor ∧ (startDwell s).channel = s.channel ∧
    (startDwell s).wake.inputs = s.wake.inputs ∧ (startDwell s).wake.pressed = s.wake.pressed ∧
    (startDwell s).wake.debounce = s.wake.debounce ∧ (startDwell s).wake.longPress = s.wake.longPress ∧
    (startDwell s).wake.commonWindow = s.wake.commonWindow ∧ (startDwell s).wake.queue = s.wake.queue ∧
    (startDwell s).wake.mark = s.wake.mark ∧ (startDwell s).wake.faultHold = s.wake.faultHold ∧
    (startDwell s).wake.demote = s.wake.demote ∧ (startDwell s).request = s.request ∧
    (startDwell s).faults = s.faults ∧ (startDwell s).loader = s.loader ∧ (startDwell s).port = s.port ∧
    (startDwell s).pending = s.pending := by
  unfold startDwell
  split <;> simp

@[simp] theorem settleDwell_keeps (closed : Option (Kind × TxnOutcome)) (s : State) :
    (settleDwell closed s).time = s.time ∧ (settleDwell closed s).pins = s.pins ∧
    (settleDwell closed s).link = s.link ∧ (settleDwell closed s).agreement = s.agreement ∧
    (settleDwell closed s).presence = s.presence ∧ (settleDwell closed s).executor = s.executor ∧
    (settleDwell closed s).channel = s.channel ∧ (settleDwell closed s).wake.inputs = s.wake.inputs ∧
    (settleDwell closed s).wake.pressed = s.wake.pressed ∧ (settleDwell closed s).wake.debounce = s.wake.debounce ∧
    (settleDwell closed s).wake.longPress = s.wake.longPress ∧
    (settleDwell closed s).wake.commonWindow = s.wake.commonWindow ∧
    (settleDwell closed s).wake.queue = s.wake.queue ∧ (settleDwell closed s).wake.mark = s.wake.mark ∧
    (settleDwell closed s).wake.faultHold = s.wake.faultHold ∧ (settleDwell closed s).wake.demote = s.wake.demote ∧
    (settleDwell closed s).request = s.request ∧ (settleDwell closed s).faults = s.faults ∧
    (settleDwell closed s).loader = s.loader ∧ (settleDwell closed s).port = s.port ∧
    (settleDwell closed s).pending = s.pending := by
  unfold settleDwell
  split <;> simp

@[simp] theorem settleEvaluation_keeps (st : SystemState) (s : State) :
    (settleEvaluation st s).time = s.time ∧ (settleEvaluation st s).pins = s.pins ∧
    (settleEvaluation st s).link.integrated = s.link.integrated ∧
    (settleEvaluation st s).link.receiveErrors = s.link.receiveErrors ∧
    (settleEvaluation st s).agreement = s.agreement ∧ (settleEvaluation st s).presence = s.presence ∧
    (settleEvaluation st s).executor = s.executor ∧ (settleEvaluation st s).channel = s.channel ∧
    (settleEvaluation st s).wake.inputs = s.wake.inputs ∧ (settleEvaluation st s).wake.pressed = s.wake.pressed ∧
    (settleEvaluation st s).wake.debounce = s.wake.debounce ∧
    (settleEvaluation st s).wake.longPress = s.wake.longPress ∧
    (settleEvaluation st s).wake.commonWindow = s.wake.commonWindow ∧
    (settleEvaluation st s).wake.minDwell = s.wake.minDwell ∧
    (settleEvaluation st s).wake.faultHold = s.wake.faultHold ∧ (settleEvaluation st s).wake.demote = s.wake.demote ∧
    (settleEvaluation st s).request.underVote = s.request.underVote ∧
    (settleEvaluation st s).request.deferHold = s.request.deferHold ∧
    (settleEvaluation st s).request.lockout = s.request.lockout ∧
    (settleEvaluation st s).request.refresh = s.request.refresh ∧
    (settleEvaluation st s).request.pulses = s.request.pulses ∧
    (settleEvaluation st s).request.result = s.request.result ∧
    (settleEvaluation st s).faults.deferred = s.faults.deferred ∧ (settleEvaluation st s).loader = s.loader ∧
    (settleEvaluation st s).port = s.port ∧ (settleEvaluation st s).pending = s.pending := by
  unfold settleEvaluation
  split
  · simp
  · exact
      ⟨foldl_keep (fun s => s.time) (fun s a => by simp) _ _, foldl_keep (fun s => s.pins) (fun s a => by simp) _ _,
       foldl_keep (fun s => s.link.integrated) (fun s a => by simp) _ _,
       foldl_keep (fun s => s.link.receiveErrors) (fun s a => by simp) _ _,
       foldl_keep (fun s => s.agreement) (fun s a => by simp) _ _,
       foldl_keep (fun s => s.presence) (fun s a => by simp) _ _,
       foldl_keep (fun s => s.executor) (fun s a => by simp) _ _,
       foldl_keep (fun s => s.channel) (fun s a => by simp) _ _,
       foldl_keep (fun s => s.wake.inputs) (fun s a => by simp) _ _,
       foldl_keep (fun s => s.wake.pressed) (fun s a => by simp) _ _,
       foldl_keep (fun s => s.wake.debounce) (fun s a => by simp) _ _,
       foldl_keep (fun s => s.wake.longPress) (fun s a => by simp) _ _,
       foldl_keep (fun s => s.wake.commonWindow) (fun s a => by simp) _ _,
       foldl_keep (fun s => s.wake.minDwell) (fun s a => by simp) _ _,
       foldl_keep (fun s => s.wake.faultHold) (fun s a => by simp) _ _,
       foldl_keep (fun s => s.wake.demote) (fun s a => by simp) _ _,
       foldl_keep (fun s => s.request.underVote) (fun s a => by simp) _ _,
       foldl_keep (fun s => s.request.deferHold) (fun s a => by simp) _ _,
       foldl_keep (fun s => s.request.lockout) (fun s a => by simp) _ _,
       foldl_keep (fun s => s.request.refresh) (fun s a => by simp) _ _,
       foldl_keep (fun s => s.request.pulses) (fun s a => by simp) _ _,
       foldl_keep (fun s => s.request.result) (fun s a => by simp) _ _,
       foldl_keep (fun s => s.faults.deferred) (fun s a => by simp) _ _,
       foldl_keep (fun s => s.loader) (fun s a => by simp) _ _,
       foldl_keep (fun s => s.port) (fun s a => by simp) _ _, foldl_keep (fun s => s.pending) (fun s a => by simp) _ _⟩

@[simp] theorem startWindows_keeps (s : State) :
    (startWindows s).time = s.time ∧ (startWindows s).pins = s.pins ∧ (startWindows s).link = s.link ∧
    (startWindows s).agreement = s.agreement ∧ (startWindows s).presence = s.presence ∧
    (startWindows s).executor = s.executor ∧ (startWindows s).channel = s.channel ∧
    (startWindows s).wake.debounce = s.wake.debounce ∧ (startWindows s).wake.longPress = s.wake.longPress ∧
    (startWindows s).wake.commonWindow = s.wake.commonWindow ∧ (startWindows s).wake.queue = s.wake.queue ∧
    (startWindows s).wake.mark = s.wake.mark ∧ (startWindows s).wake.minDwell = s.wake.minDwell ∧
    (startWindows s).wake.faultHold = s.wake.faultHold ∧ (startWindows s).wake.demote = s.wake.demote ∧
    (startWindows s).request = s.request ∧ (startWindows s).faults = s.faults ∧ (startWindows s).loader = s.loader ∧
    (startWindows s).port = s.port ∧ (startWindows s).pending = s.pending := by
  simp [startWindows]

@[simp] theorem settleWake_keeps (closed : Option (Kind × TxnOutcome)) (s : State) :
    (settleWake closed s).time = s.time ∧ (settleWake closed s).pins = s.pins ∧
    (settleWake closed s).link.integrated = s.link.integrated ∧
    (settleWake closed s).link.receiveErrors = s.link.receiveErrors ∧ (settleWake closed s).agreement = s.agreement ∧
    (settleWake closed s).presence = s.presence ∧ (settleWake closed s).executor = s.executor ∧
    (settleWake closed s).channel = s.channel ∧ (settleWake closed s).wake.debounce = s.wake.debounce ∧
    (settleWake closed s).wake.longPress = s.wake.longPress ∧
    (settleWake closed s).wake.faultHold = s.wake.faultHold ∧
    (settleWake closed s).request.underVote = s.request.underVote ∧
    (settleWake closed s).request.deferHold = s.request.deferHold ∧
    (settleWake closed s).request.lockout = s.request.lockout ∧
    (settleWake closed s).request.refresh = s.request.refresh ∧
    (settleWake closed s).request.pulses = s.request.pulses ∧
    (settleWake closed s).request.result = s.request.result ∧
    (settleWake closed s).faults.deferred = s.faults.deferred ∧ (settleWake closed s).loader = s.loader ∧
    (settleWake closed s).port = s.port ∧ (settleWake closed s).pending = s.pending := by
  unfold settleWake
  split <;> simp

@[simp] theorem startFaultHold_keeps (s : State) :
    (startFaultHold s).time = s.time ∧ (startFaultHold s).pins = s.pins ∧ (startFaultHold s).link = s.link ∧
    (startFaultHold s).agreement = s.agreement ∧ (startFaultHold s).presence = s.presence ∧
    (startFaultHold s).executor = s.executor ∧ (startFaultHold s).channel = s.channel ∧
    (startFaultHold s).wake.inputs = s.wake.inputs ∧ (startFaultHold s).wake.pressed = s.wake.pressed ∧
    (startFaultHold s).wake.debounce = s.wake.debounce ∧ (startFaultHold s).wake.longPress = s.wake.longPress ∧
    (startFaultHold s).wake.commonWindow = s.wake.commonWindow ∧ (startFaultHold s).wake.queue = s.wake.queue ∧
    (startFaultHold s).wake.mark = s.wake.mark ∧ (startFaultHold s).wake.minDwell = s.wake.minDwell ∧
    (startFaultHold s).wake.demote = s.wake.demote ∧ (startFaultHold s).request = s.request ∧
    (startFaultHold s).faults = s.faults ∧ (startFaultHold s).loader = s.loader ∧ (startFaultHold s).port = s.port ∧
    (startFaultHold s).pending = s.pending := by
  simp [startFaultHold]

@[simp] theorem stopDemote_keeps (s : State) :
    (stopDemote s).time = s.time ∧ (stopDemote s).pins = s.pins ∧ (stopDemote s).link = s.link ∧
    (stopDemote s).agreement = s.agreement ∧ (stopDemote s).presence = s.presence ∧
    (stopDemote s).executor = s.executor ∧ (stopDemote s).channel = s.channel ∧
    (stopDemote s).wake.inputs = s.wake.inputs ∧ (stopDemote s).wake.pressed = s.wake.pressed ∧
    (stopDemote s).wake.debounce = s.wake.debounce ∧ (stopDemote s).wake.longPress = s.wake.longPress ∧
    (stopDemote s).wake.commonWindow = s.wake.commonWindow ∧ (stopDemote s).wake.queue = s.wake.queue ∧
    (stopDemote s).wake.mark = s.wake.mark ∧ (stopDemote s).wake.minDwell = s.wake.minDwell ∧
    (stopDemote s).wake.faultHold = s.wake.faultHold ∧ (stopDemote s).request = s.request ∧
    (stopDemote s).faults = s.faults ∧ (stopDemote s).loader = s.loader ∧ (stopDemote s).port = s.port ∧
    (stopDemote s).pending = s.pending := by
  simp [stopDemote]

@[simp] theorem stopWindows_keeps (s : State) :
    (stopWindows s).time = s.time ∧ (stopWindows s).pins = s.pins ∧ (stopWindows s).link = s.link ∧
    (stopWindows s).agreement = s.agreement ∧ (stopWindows s).presence = s.presence ∧
    (stopWindows s).executor = s.executor ∧ (stopWindows s).channel = s.channel ∧
    (stopWindows s).wake.pressed = s.wake.pressed ∧ (stopWindows s).wake.queue = s.wake.queue ∧
    (stopWindows s).wake.mark = s.wake.mark ∧ (stopWindows s).wake.minDwell = s.wake.minDwell ∧
    (stopWindows s).wake.faultHold = s.wake.faultHold ∧ (stopWindows s).wake.demote = s.wake.demote ∧
    (stopWindows s).request = s.request ∧ (stopWindows s).faults = s.faults ∧ (stopWindows s).loader = s.loader ∧
    (stopWindows s).port = s.port ∧ (stopWindows s).pending = s.pending := by
  simp [stopWindows]

@[simp] theorem answer_keeps (l : Level) (s : State) :
    (answer l s).time = s.time ∧ (answer l s).pins = s.pins ∧ (answer l s).link = s.link ∧
    (answer l s).agreement = s.agreement ∧ (answer l s).presence = s.presence ∧ (answer l s).executor = s.executor ∧
    (answer l s).channel = s.channel ∧ (answer l s).wake = s.wake ∧ (answer l s).request.latch = s.request.latch ∧
    (answer l s).request.underVote = s.request.underVote ∧ (answer l s).request.deferHold = s.request.deferHold ∧
    (answer l s).request.lockout = s.request.lockout ∧ (answer l s).request.refresh = s.request.refresh ∧
    (answer l s).faults = s.faults ∧ (answer l s).loader = s.loader ∧ (answer l s).port = s.port ∧
    (answer l s).pending = s.pending := by
  simp [answer]

@[simp] theorem answerRequest_keeps (r : Request) (l : Level) (s : State) :
    (answerRequest r l s).time = s.time ∧ (answerRequest r l s).pins = s.pins ∧ (answerRequest r l s).link = s.link ∧
    (answerRequest r l s).agreement = s.agreement ∧ (answerRequest r l s).presence = s.presence ∧
    (answerRequest r l s).executor = s.executor ∧ (answerRequest r l s).channel = s.channel ∧
    (answerRequest r l s).wake = s.wake ∧ (answerRequest r l s).request.latch = s.request.latch ∧
    (answerRequest r l s).request.underVote = s.request.underVote ∧
    (answerRequest r l s).request.deferHold = s.request.deferHold ∧
    (answerRequest r l s).request.lockout = s.request.lockout ∧
    (answerRequest r l s).request.refresh = s.request.refresh ∧ (answerRequest r l s).faults = s.faults ∧
    (answerRequest r l s).loader = s.loader ∧ (answerRequest r l s).port = s.port ∧
    (answerRequest r l s).pending = s.pending := by
  unfold answerRequest
  split <;> simp

@[simp] theorem answerUnderVote_keeps (l : Level) (s : State) :
    (answerUnderVote l s).time = s.time ∧ (answerUnderVote l s).pins = s.pins ∧ (answerUnderVote l s).link = s.link ∧
    (answerUnderVote l s).agreement = s.agreement ∧ (answerUnderVote l s).presence = s.presence ∧
    (answerUnderVote l s).executor = s.executor ∧ (answerUnderVote l s).channel = s.channel ∧
    (answerUnderVote l s).wake = s.wake ∧ (answerUnderVote l s).request.latch = s.request.latch ∧
    (answerUnderVote l s).request.deferHold = s.request.deferHold ∧
    (answerUnderVote l s).request.lockout = s.request.lockout ∧
    (answerUnderVote l s).request.refresh = s.request.refresh ∧ (answerUnderVote l s).faults = s.faults ∧
    (answerUnderVote l s).loader = s.loader ∧ (answerUnderVote l s).port = s.port ∧
    (answerUnderVote l s).pending = s.pending := by
  unfold answerUnderVote
  split <;> simp

@[simp] theorem clearLatch_keeps (s : State) :
    (clearLatch s).time = s.time ∧ (clearLatch s).pins = s.pins ∧ (clearLatch s).link = s.link ∧
    (clearLatch s).agreement = s.agreement ∧ (clearLatch s).presence = s.presence ∧
    (clearLatch s).executor = s.executor ∧ (clearLatch s).channel = s.channel ∧ (clearLatch s).wake = s.wake ∧
    (clearLatch s).request.underVote = s.request.underVote ∧ (clearLatch s).request.deferHold = s.request.deferHold ∧
    (clearLatch s).request.lockout = s.request.lockout ∧ (clearLatch s).request.refresh = s.request.refresh ∧
    (clearLatch s).faults = s.faults ∧ (clearLatch s).loader = s.loader ∧ (clearLatch s).port = s.port ∧
    (clearLatch s).pending = s.pending := by
  unfold clearLatch
  split <;> simp

@[simp] theorem deferUnderVote_keeps (s : State) :
    (deferUnderVote s).time = s.time ∧ (deferUnderVote s).pins = s.pins ∧ (deferUnderVote s).link = s.link ∧
    (deferUnderVote s).agreement = s.agreement ∧ (deferUnderVote s).presence = s.presence ∧
    (deferUnderVote s).executor = s.executor ∧ (deferUnderVote s).channel = s.channel ∧
    (deferUnderVote s).wake = s.wake ∧ (deferUnderVote s).request.deferHold = s.request.deferHold ∧
    (deferUnderVote s).request.lockout = s.request.lockout ∧ (deferUnderVote s).request.refresh = s.request.refresh ∧
    (deferUnderVote s).faults = s.faults ∧ (deferUnderVote s).loader = s.loader ∧ (deferUnderVote s).port = s.port ∧
    (deferUnderVote s).pending = s.pending := by
  unfold deferUnderVote
  split <;> simp

@[simp] theorem dropRefresh_keeps (i : StationId) (s : State) :
    (dropRefresh i s).time = s.time ∧ (dropRefresh i s).pins = s.pins ∧ (dropRefresh i s).link = s.link ∧
    (dropRefresh i s).agreement = s.agreement ∧ (dropRefresh i s).presence = s.presence ∧
    (dropRefresh i s).executor = s.executor ∧ (dropRefresh i s).channel = s.channel ∧
    (dropRefresh i s).wake = s.wake ∧ (dropRefresh i s).request.latch = s.request.latch ∧
    (dropRefresh i s).request.underVote = s.request.underVote ∧
    (dropRefresh i s).request.deferHold = s.request.deferHold ∧
    (dropRefresh i s).request.lockout = s.request.lockout ∧ (dropRefresh i s).request.pulses = s.request.pulses ∧
    (dropRefresh i s).request.result = s.request.result ∧ (dropRefresh i s).faults = s.faults ∧
    (dropRefresh i s).loader = s.loader ∧ (dropRefresh i s).port = s.port ∧ (dropRefresh i s).pending = s.pending := by
  simp [dropRefresh]

@[simp] theorem markReplaced_keeps (s : State) :
    (markReplaced s).time = s.time ∧ (markReplaced s).pins = s.pins ∧
    (markReplaced s).link.integrated = s.link.integrated ∧
    (markReplaced s).link.receiveErrors = s.link.receiveErrors ∧ (markReplaced s).agreement = s.agreement ∧
    (markReplaced s).presence = s.presence ∧ (markReplaced s).executor = s.executor ∧
    (markReplaced s).channel = s.channel ∧ (markReplaced s).wake = s.wake ∧ (markReplaced s).request = s.request ∧
    (markReplaced s).faults = s.faults ∧ (markReplaced s).loader = s.loader ∧ (markReplaced s).port = s.port ∧
    (markReplaced s).pending = s.pending := by
  simp [markReplaced]

@[simp] theorem replaceLatched_keeps (s : State) :
    (replaceLatched s).time = s.time ∧ (replaceLatched s).pins = s.pins ∧
    (replaceLatched s).link.integrated = s.link.integrated ∧
    (replaceLatched s).link.receiveErrors = s.link.receiveErrors ∧ (replaceLatched s).agreement = s.agreement ∧
    (replaceLatched s).presence = s.presence ∧ (replaceLatched s).executor = s.executor ∧
    (replaceLatched s).channel = s.channel ∧ (replaceLatched s).wake = s.wake ∧
    (replaceLatched s).request.latch = s.request.latch ∧ (replaceLatched s).request.underVote = s.request.underVote ∧
    (replaceLatched s).request.deferHold = s.request.deferHold ∧
    (replaceLatched s).request.lockout = s.request.lockout ∧ (replaceLatched s).request.refresh = s.request.refresh ∧
    (replaceLatched s).faults = s.faults ∧ (replaceLatched s).loader = s.loader ∧ (replaceLatched s).port = s.port ∧
    (replaceLatched s).pending = s.pending := by
  unfold replaceLatched
  (repeat' split) <;> simp

@[simp] theorem latchRequest_keeps (r : Request) (s : State) :
    (latchRequest r s).time = s.time ∧ (latchRequest r s).pins = s.pins ∧
    (latchRequest r s).link.integrated = s.link.integrated ∧
    (latchRequest r s).link.receiveErrors = s.link.receiveErrors ∧ (latchRequest r s).agreement = s.agreement ∧
    (latchRequest r s).presence = s.presence ∧ (latchRequest r s).executor = s.executor ∧
    (latchRequest r s).channel = s.channel ∧ (latchRequest r s).wake = s.wake ∧
    (latchRequest r s).request.underVote = s.request.underVote ∧
    (latchRequest r s).request.lockout = s.request.lockout ∧ (latchRequest r s).request.refresh = s.request.refresh ∧
    (latchRequest r s).faults = s.faults ∧ (latchRequest r s).loader = s.loader ∧ (latchRequest r s).port = s.port ∧
    (latchRequest r s).pending = s.pending := by
  simp [latchRequest]

@[simp] theorem moveUnderVote_keeps (r : Ready) (s : State) :
    (moveUnderVote r s).time = s.time ∧ (moveUnderVote r s).pins = s.pins ∧ (moveUnderVote r s).link = s.link ∧
    (moveUnderVote r s).agreement = s.agreement ∧ (moveUnderVote r s).presence = s.presence ∧
    (moveUnderVote r s).executor = s.executor ∧ (moveUnderVote r s).channel = s.channel ∧
    (moveUnderVote r s).wake = s.wake ∧ (moveUnderVote r s).request.deferHold = s.request.deferHold ∧
    (moveUnderVote r s).request.lockout = s.request.lockout ∧
    (moveUnderVote r s).request.refresh = s.request.refresh ∧ (moveUnderVote r s).request.pulses = s.request.pulses ∧
    (moveUnderVote r s).request.result = s.request.result ∧ (moveUnderVote r s).faults = s.faults ∧
    (moveUnderVote r s).loader = s.loader ∧ (moveUnderVote r s).port = s.port ∧
    (moveUnderVote r s).pending = s.pending := by
  unfold moveUnderVote
  (repeat' split) <;> simp

@[simp] theorem proposeDemote_keeps (s : State) :
    (proposeDemote s).time = s.time ∧ (proposeDemote s).pins = s.pins ∧
    (proposeDemote s).link.integrated = s.link.integrated ∧
    (proposeDemote s).link.receiveErrors = s.link.receiveErrors ∧ (proposeDemote s).agreement = s.agreement ∧
    (proposeDemote s).presence = s.presence ∧ (proposeDemote s).executor = s.executor ∧
    (proposeDemote s).channel = s.channel ∧ (proposeDemote s).wake.inputs = s.wake.inputs ∧
    (proposeDemote s).wake.pressed = s.wake.pressed ∧ (proposeDemote s).wake.debounce = s.wake.debounce ∧
    (proposeDemote s).wake.longPress = s.wake.longPress ∧ (proposeDemote s).wake.commonWindow = s.wake.commonWindow ∧
    (proposeDemote s).wake.queue = s.wake.queue ∧ (proposeDemote s).wake.minDwell = s.wake.minDwell ∧
    (proposeDemote s).wake.faultHold = s.wake.faultHold ∧ (proposeDemote s).wake.demote = s.wake.demote ∧
    (proposeDemote s).request.underVote = s.request.underVote ∧
    (proposeDemote s).request.deferHold = s.request.deferHold ∧
    (proposeDemote s).request.lockout = s.request.lockout ∧ (proposeDemote s).request.refresh = s.request.refresh ∧
    (proposeDemote s).request.pulses = s.request.pulses ∧ (proposeDemote s).request.result = s.request.result ∧
    (proposeDemote s).faults = s.faults ∧ (proposeDemote s).loader = s.loader ∧ (proposeDemote s).port = s.port ∧
    (proposeDemote s).pending = s.pending := by
  simp [proposeDemote]

@[simp] theorem testPropose_keeps (s : State) :
    (testPropose s).time = s.time ∧ (testPropose s).pins = s.pins ∧
    (testPropose s).link.integrated = s.link.integrated ∧ (testPropose s).link.receiveErrors = s.link.receiveErrors ∧
    (testPropose s).agreement = s.agreement ∧ (testPropose s).presence = s.presence ∧
    (testPropose s).executor = s.executor ∧ (testPropose s).channel = s.channel ∧
    (testPropose s).wake.inputs = s.wake.inputs ∧ (testPropose s).wake.pressed = s.wake.pressed ∧
    (testPropose s).wake.debounce = s.wake.debounce ∧ (testPropose s).wake.longPress = s.wake.longPress ∧
    (testPropose s).wake.commonWindow = s.wake.commonWindow ∧ (testPropose s).wake.queue = s.wake.queue ∧
    (testPropose s).wake.minDwell = s.wake.minDwell ∧ (testPropose s).wake.faultHold = s.wake.faultHold ∧
    (testPropose s).wake.demote = s.wake.demote ∧ (testPropose s).request.underVote = s.request.underVote ∧
    (testPropose s).request.deferHold = s.request.deferHold ∧ (testPropose s).request.lockout = s.request.lockout ∧
    (testPropose s).request.refresh = s.request.refresh ∧ (testPropose s).request.pulses = s.request.pulses ∧
    (testPropose s).request.result = s.request.result ∧ (testPropose s).faults = s.faults ∧
    (testPropose s).loader = s.loader ∧ (testPropose s).port = s.port ∧ (testPropose s).pending = s.pending := by
  unfold testPropose
  (repeat' split) <;> simp

@[simp] theorem refreshSeen_keeps (i : StationId) (s : State) :
    (refreshSeen i s).time = s.time ∧ (refreshSeen i s).pins = s.pins ∧
    (refreshSeen i s).link.integrated = s.link.integrated ∧
    (refreshSeen i s).link.receiveErrors = s.link.receiveErrors ∧ (refreshSeen i s).agreement = s.agreement ∧
    (refreshSeen i s).presence = s.presence ∧ (refreshSeen i s).executor = s.executor ∧
    (refreshSeen i s).channel = s.channel ∧ (refreshSeen i s).wake.inputs = s.wake.inputs ∧
    (refreshSeen i s).wake.pressed = s.wake.pressed ∧ (refreshSeen i s).wake.debounce = s.wake.debounce ∧
    (refreshSeen i s).wake.longPress = s.wake.longPress ∧ (refreshSeen i s).wake.commonWindow = s.wake.commonWindow ∧
    (refreshSeen i s).wake.queue = s.wake.queue ∧ (refreshSeen i s).wake.minDwell = s.wake.minDwell ∧
    (refreshSeen i s).wake.faultHold = s.wake.faultHold ∧ (refreshSeen i s).wake.demote = s.wake.demote ∧
    (refreshSeen i s).request.underVote = s.request.underVote ∧
    (refreshSeen i s).request.deferHold = s.request.deferHold ∧
    (refreshSeen i s).request.lockout = s.request.lockout ∧ (refreshSeen i s).request.pulses = s.request.pulses ∧
    (refreshSeen i s).request.result = s.request.result ∧ (refreshSeen i s).faults = s.faults ∧
    (refreshSeen i s).loader = s.loader ∧ (refreshSeen i s).port = s.port ∧ (refreshSeen i s).pending = s.pending := by
  unfold refreshSeen
  dsimp only
  (repeat' split) <;> simp

@[simp] theorem startLockout_keeps (s : State) :
    (startLockout s).time = s.time ∧ (startLockout s).pins = s.pins ∧ (startLockout s).link = s.link ∧
    (startLockout s).agreement = s.agreement ∧ (startLockout s).presence = s.presence ∧
    (startLockout s).executor = s.executor ∧ (startLockout s).channel = s.channel ∧ (startLockout s).wake = s.wake ∧
    (startLockout s).request.latch = s.request.latch ∧ (startLockout s).request.underVote = s.request.underVote ∧
    (startLockout s).request.deferHold = s.request.deferHold ∧ (startLockout s).request.refresh = s.request.refresh ∧
    (startLockout s).request.pulses = s.request.pulses ∧ (startLockout s).request.result = s.request.result ∧
    (startLockout s).faults = s.faults ∧ (startLockout s).loader = s.loader ∧ (startLockout s).port = s.port ∧
    (startLockout s).pending = s.pending := by
  unfold startLockout
  split <;> simp

@[simp] theorem settleAwake_keeps (closed : Option (Kind × TxnOutcome)) (s : State) :
    (settleAwake closed s).time = s.time ∧ (settleAwake closed s).pins = s.pins ∧
    (settleAwake closed s).link = s.link ∧ (settleAwake closed s).agreement = s.agreement ∧
    (settleAwake closed s).presence = s.presence ∧ (settleAwake closed s).executor = s.executor ∧
    (settleAwake closed s).channel = s.channel ∧ (settleAwake closed s).wake = s.wake ∧
    (settleAwake closed s).request.latch = s.request.latch ∧
    (settleAwake closed s).request.underVote = s.request.underVote ∧
    (settleAwake closed s).request.deferHold = s.request.deferHold ∧
    (settleAwake closed s).request.pulses = s.request.pulses ∧
    (settleAwake closed s).request.result = s.request.result ∧ (settleAwake closed s).faults = s.faults ∧
    (settleAwake closed s).loader = s.loader ∧ (settleAwake closed s).port = s.port ∧
    (settleAwake closed s).pending = s.pending := by
  unfold settleAwake
  (repeat' split) <;> simp

@[simp] theorem settleDeferHold_keeps (closed : Option (Kind × TxnOutcome)) (s : State) :
    (settleDeferHold closed s).time = s.time ∧ (settleDeferHold closed s).pins = s.pins ∧
    (settleDeferHold closed s).link = s.link ∧ (settleDeferHold closed s).agreement = s.agreement ∧
    (settleDeferHold closed s).presence = s.presence ∧ (settleDeferHold closed s).executor = s.executor ∧
    (settleDeferHold closed s).channel = s.channel ∧ (settleDeferHold closed s).wake = s.wake ∧
    (settleDeferHold closed s).request.latch = s.request.latch ∧
    (settleDeferHold closed s).request.underVote = s.request.underVote ∧
    (settleDeferHold closed s).request.lockout = s.request.lockout ∧
    (settleDeferHold closed s).request.refresh = s.request.refresh ∧
    (settleDeferHold closed s).request.pulses = s.request.pulses ∧
    (settleDeferHold closed s).request.result = s.request.result ∧ (settleDeferHold closed s).faults = s.faults ∧
    (settleDeferHold closed s).loader = s.loader ∧ (settleDeferHold closed s).port = s.port ∧
    (settleDeferHold closed s).pending = s.pending := by
  unfold settleDeferHold
  (repeat' split) <;> simp

@[simp] theorem settleRequest_keeps (closed : Option (Kind × TxnOutcome)) (s : State) :
    (settleRequest closed s).time = s.time ∧ (settleRequest closed s).pins = s.pins ∧
    (settleRequest closed s).link.integrated = s.link.integrated ∧
    (settleRequest closed s).link.receiveErrors = s.link.receiveErrors ∧
    (settleRequest closed s).agreement = s.agreement ∧ (settleRequest closed s).presence = s.presence ∧
    (settleRequest closed s).executor = s.executor ∧ (settleRequest closed s).channel = s.channel ∧
    (settleRequest closed s).wake.inputs = s.wake.inputs ∧ (settleRequest closed s).wake.pressed = s.wake.pressed ∧
    (settleRequest closed s).wake.debounce = s.wake.debounce ∧
    (settleRequest closed s).wake.longPress = s.wake.longPress ∧
    (settleRequest closed s).wake.commonWindow = s.wake.commonWindow ∧
    (settleRequest closed s).wake.queue = s.wake.queue ∧ (settleRequest closed s).wake.minDwell = s.wake.minDwell ∧
    (settleRequest closed s).wake.faultHold = s.wake.faultHold ∧
    (settleRequest closed s).wake.demote = s.wake.demote ∧
    (settleRequest closed s).request.underVote = s.request.underVote ∧ (settleRequest closed s).faults = s.faults ∧
    (settleRequest closed s).loader = s.loader ∧ (settleRequest closed s).port = s.port ∧
    (settleRequest closed s).pending = s.pending := by
  unfold settleRequest
  split <;> simp

@[simp] theorem beatTickEffect_keeps (s : State) :
    (beatTickEffect s).time = s.time ∧ (beatTickEffect s).pins = s.pins ∧
    (beatTickEffect s).link.integrated = s.link.integrated ∧
    (beatTickEffect s).link.receiveErrors = s.link.receiveErrors ∧ (beatTickEffect s).agreement = s.agreement ∧
    (beatTickEffect s).presence.peers = s.presence.peers ∧ (beatTickEffect s).presence.barring = s.presence.barring ∧
    (beatTickEffect s).presence.muteCause = s.presence.muteCause ∧
    (beatTickEffect s).presence.beat = s.presence.beat ∧
    (beatTickEffect s).presence.censusWindow = s.presence.censusWindow ∧
    (beatTickEffect s).presence.barredRetry = s.presence.barredRetry ∧
    (beatTickEffect s).presence.retryHeld = s.presence.retryHeld ∧
    (beatTickEffect s).presence.alignment = s.presence.alignment ∧ (beatTickEffect s).executor = s.executor ∧
    (beatTickEffect s).channel = s.channel ∧ (beatTickEffect s).wake.inputs = s.wake.inputs ∧
    (beatTickEffect s).wake.pressed = s.wake.pressed ∧ (beatTickEffect s).wake.debounce = s.wake.debounce ∧
    (beatTickEffect s).wake.longPress = s.wake.longPress ∧
    (beatTickEffect s).wake.commonWindow = s.wake.commonWindow ∧ (beatTickEffect s).wake.queue = s.wake.queue ∧
    (beatTickEffect s).wake.minDwell = s.wake.minDwell ∧ (beatTickEffect s).wake.faultHold = s.wake.faultHold ∧
    (beatTickEffect s).wake.demote = s.wake.demote ∧ (beatTickEffect s).request.underVote = s.request.underVote ∧
    (beatTickEffect s).request.deferHold = s.request.deferHold ∧
    (beatTickEffect s).request.lockout = s.request.lockout ∧ (beatTickEffect s).request.refresh = s.request.refresh ∧
    (beatTickEffect s).request.pulses = s.request.pulses ∧ (beatTickEffect s).request.result = s.request.result ∧
    (beatTickEffect s).faults.deferred = s.faults.deferred ∧ (beatTickEffect s).loader = s.loader ∧
    (beatTickEffect s).port = s.port ∧ (beatTickEffect s).pending = s.pending := by
  unfold beatTickEffect
  dsimp only
  (repeat' split) <;> simp

@[simp] theorem reportPresent_keeps (i : StationId) (was : PresenceValue) (s : State) :
    (reportPresent i was s).time = s.time ∧ (reportPresent i was s).pins = s.pins ∧
    (reportPresent i was s).link.integrated = s.link.integrated ∧
    (reportPresent i was s).link.receiveErrors = s.link.receiveErrors ∧
    (reportPresent i was s).agreement = s.agreement ∧ (reportPresent i was s).presence = s.presence ∧
    (reportPresent i was s).executor = s.executor ∧ (reportPresent i was s).channel = s.channel ∧
    (reportPresent i was s).wake.inputs = s.wake.inputs ∧ (reportPresent i was s).wake.pressed = s.wake.pressed ∧
    (reportPresent i was s).wake.debounce = s.wake.debounce ∧
    (reportPresent i was s).wake.longPress = s.wake.longPress ∧
    (reportPresent i was s).wake.commonWindow = s.wake.commonWindow ∧
    (reportPresent i was s).wake.queue = s.wake.queue ∧ (reportPresent i was s).wake.minDwell = s.wake.minDwell ∧
    (reportPresent i was s).wake.faultHold = s.wake.faultHold ∧ (reportPresent i was s).wake.demote = s.wake.demote ∧
    (reportPresent i was s).request.underVote = s.request.underVote ∧
    (reportPresent i was s).request.deferHold = s.request.deferHold ∧
    (reportPresent i was s).request.lockout = s.request.lockout ∧
    (reportPresent i was s).request.refresh = s.request.refresh ∧
    (reportPresent i was s).request.pulses = s.request.pulses ∧
    (reportPresent i was s).request.result = s.request.result ∧ (reportPresent i was s).faults = s.faults ∧
    (reportPresent i was s).loader = s.loader ∧ (reportPresent i was s).port = s.port ∧
    (reportPresent i was s).pending = s.pending := by
  unfold reportPresent
  split <;> simp

@[simp] theorem dropBarring_keeps (i : StationId) (s : State) :
    (dropBarring i s).time = s.time ∧ (dropBarring i s).pins = s.pins ∧ (dropBarring i s).link = s.link ∧
    (dropBarring i s).agreement = s.agreement ∧ (dropBarring i s).presence.peers = s.presence.peers ∧
    (dropBarring i s).presence.muteCause = s.presence.muteCause ∧ (dropBarring i s).presence.beat = s.presence.beat ∧
    (dropBarring i s).presence.beatTimer = s.presence.beatTimer ∧ (dropBarring i s).presence.debt = s.presence.debt ∧
    (dropBarring i s).presence.censusWindow = s.presence.censusWindow ∧
    (dropBarring i s).presence.barredRetry = s.presence.barredRetry ∧
    (dropBarring i s).presence.retryHeld = s.presence.retryHeld ∧
    (dropBarring i s).presence.alignment = s.presence.alignment ∧ (dropBarring i s).executor = s.executor ∧
    (dropBarring i s).channel = s.channel ∧ (dropBarring i s).wake = s.wake ∧ (dropBarring i s).request = s.request ∧
    (dropBarring i s).faults = s.faults ∧ (dropBarring i s).loader = s.loader ∧ (dropBarring i s).port = s.port ∧
    (dropBarring i s).pending = s.pending := by
  simp [dropBarring]

@[simp] theorem censusPeer_keeps (i : StationId) (sig : Signature) (cause : ResetCause) (s : State) :
    (censusPeer i sig cause s).time = s.time ∧ (censusPeer i sig cause s).pins = s.pins ∧
    (censusPeer i sig cause s).link.integrated = s.link.integrated ∧
    (censusPeer i sig cause s).link.receiveErrors = s.link.receiveErrors ∧
    (censusPeer i sig cause s).agreement = s.agreement ∧
    (censusPeer i sig cause s).presence.muteCause = s.presence.muteCause ∧
    (censusPeer i sig cause s).presence.beat = s.presence.beat ∧
    (censusPeer i sig cause s).presence.beatTimer = s.presence.beatTimer ∧
    (censusPeer i sig cause s).presence.debt = s.presence.debt ∧
    (censusPeer i sig cause s).presence.censusWindow = s.presence.censusWindow ∧
    (censusPeer i sig cause s).presence.barredRetry = s.presence.barredRetry ∧
    (censusPeer i sig cause s).presence.retryHeld = s.presence.retryHeld ∧
    (censusPeer i sig cause s).presence.alignment = s.presence.alignment ∧
    (censusPeer i sig cause s).executor = s.executor ∧ (censusPeer i sig cause s).channel = s.channel ∧
    (censusPeer i sig cause s).wake.inputs = s.wake.inputs ∧
    (censusPeer i sig cause s).wake.pressed = s.wake.pressed ∧
    (censusPeer i sig cause s).wake.debounce = s.wake.debounce ∧
    (censusPeer i sig cause s).wake.longPress = s.wake.longPress ∧
    (censusPeer i sig cause s).wake.commonWindow = s.wake.commonWindow ∧
    (censusPeer i sig cause s).wake.queue = s.wake.queue ∧
    (censusPeer i sig cause s).wake.minDwell = s.wake.minDwell ∧
    (censusPeer i sig cause s).wake.faultHold = s.wake.faultHold ∧
    (censusPeer i sig cause s).wake.demote = s.wake.demote ∧
    (censusPeer i sig cause s).request.underVote = s.request.underVote ∧
    (censusPeer i sig cause s).request.deferHold = s.request.deferHold ∧
    (censusPeer i sig cause s).request.lockout = s.request.lockout ∧
    (censusPeer i sig cause s).request.pulses = s.request.pulses ∧
    (censusPeer i sig cause s).request.result = s.request.result ∧ (censusPeer i sig cause s).faults = s.faults ∧
    (censusPeer i sig cause s).loader = s.loader ∧ (censusPeer i sig cause s).port = s.port ∧
    (censusPeer i sig cause s).pending = s.pending := by
  unfold censusPeer
  dsimp only
  (repeat' split) <;> simp

@[simp] theorem clearMisses_keeps (i : StationId) (s : State) :
    (clearMisses i s).time = s.time ∧ (clearMisses i s).pins = s.pins ∧ (clearMisses i s).link = s.link ∧
    (clearMisses i s).agreement = s.agreement ∧ (clearMisses i s).presence.barring = s.presence.barring ∧
    (clearMisses i s).presence.muteCause = s.presence.muteCause ∧ (clearMisses i s).presence.beat = s.presence.beat ∧
    (clearMisses i s).presence.beatTimer = s.presence.beatTimer ∧ (clearMisses i s).presence.debt = s.presence.debt ∧
    (clearMisses i s).presence.censusWindow = s.presence.censusWindow ∧
    (clearMisses i s).presence.barredRetry = s.presence.barredRetry ∧
    (clearMisses i s).presence.retryHeld = s.presence.retryHeld ∧
    (clearMisses i s).presence.alignment = s.presence.alignment ∧ (clearMisses i s).executor = s.executor ∧
    (clearMisses i s).channel = s.channel ∧ (clearMisses i s).wake = s.wake ∧ (clearMisses i s).request = s.request ∧
    (clearMisses i s).faults = s.faults ∧ (clearMisses i s).loader = s.loader ∧ (clearMisses i s).port = s.port ∧
    (clearMisses i s).pending = s.pending := by
  simp [clearMisses]

@[simp] theorem missVote_keeps (i : StationId) (s : State) :
    (missVote i s).time = s.time ∧ (missVote i s).pins = s.pins ∧
    (missVote i s).link.integrated = s.link.integrated ∧ (missVote i s).link.receiveErrors = s.link.receiveErrors ∧
    (missVote i s).agreement = s.agreement ∧ (missVote i s).presence.muteCause = s.presence.muteCause ∧
    (missVote i s).presence.beat = s.presence.beat ∧ (missVote i s).presence.beatTimer = s.presence.beatTimer ∧
    (missVote i s).presence.debt = s.presence.debt ∧ (missVote i s).presence.censusWindow = s.presence.censusWindow ∧
    (missVote i s).presence.barredRetry = s.presence.barredRetry ∧
    (missVote i s).presence.retryHeld = s.presence.retryHeld ∧
    (missVote i s).presence.alignment = s.presence.alignment ∧ (missVote i s).executor = s.executor ∧
    (missVote i s).channel = s.channel ∧ (missVote i s).wake.inputs = s.wake.inputs ∧
    (missVote i s).wake.pressed = s.wake.pressed ∧ (missVote i s).wake.debounce = s.wake.debounce ∧
    (missVote i s).wake.longPress = s.wake.longPress ∧ (missVote i s).wake.commonWindow = s.wake.commonWindow ∧
    (missVote i s).wake.queue = s.wake.queue ∧ (missVote i s).wake.minDwell = s.wake.minDwell ∧
    (missVote i s).wake.faultHold = s.wake.faultHold ∧ (missVote i s).wake.demote = s.wake.demote ∧
    (missVote i s).request.underVote = s.request.underVote ∧ (missVote i s).request.deferHold = s.request.deferHold ∧
    (missVote i s).request.lockout = s.request.lockout ∧ (missVote i s).request.pulses = s.request.pulses ∧
    (missVote i s).request.result = s.request.result ∧ (missVote i s).faults = s.faults ∧
    (missVote i s).loader = s.loader ∧ (missVote i s).port = s.port ∧ (missVote i s).pending = s.pending := by
  unfold missVote
  dsimp only
  (repeat' split) <;> simp

@[simp] theorem payDebt_keeps (s : State) :
    (payDebt s).time = s.time ∧ (payDebt s).pins = s.pins ∧ (payDebt s).link = s.link ∧
    (payDebt s).agreement = s.agreement ∧ (payDebt s).presence.peers = s.presence.peers ∧
    (payDebt s).presence.barring = s.presence.barring ∧ (payDebt s).presence.muteCause = s.presence.muteCause ∧
    (payDebt s).presence.beat = s.presence.beat ∧ (payDebt s).presence.beatTimer = s.presence.beatTimer ∧
    (payDebt s).presence.censusWindow = s.presence.censusWindow ∧
    (payDebt s).presence.barredRetry = s.presence.barredRetry ∧
    (payDebt s).presence.retryHeld = s.presence.retryHeld ∧ (payDebt s).presence.alignment = s.presence.alignment ∧
    (payDebt s).executor = s.executor ∧ (payDebt s).channel = s.channel ∧ (payDebt s).wake = s.wake ∧
    (payDebt s).request = s.request ∧ (payDebt s).faults = s.faults ∧ (payDebt s).loader = s.loader ∧
    (payDebt s).port = s.port ∧ (payDebt s).pending = s.pending := by
  simp [payDebt]

@[simp] theorem raisePeerLost_keeps (i : StationId) (s : State) :
    (raisePeerLost i s).time = s.time ∧ (raisePeerLost i s).pins = s.pins ∧
    (raisePeerLost i s).link.integrated = s.link.integrated ∧
    (raisePeerLost i s).link.receiveErrors = s.link.receiveErrors ∧ (raisePeerLost i s).agreement = s.agreement ∧
    (raisePeerLost i s).presence = s.presence ∧ (raisePeerLost i s).executor = s.executor ∧
    (raisePeerLost i s).channel = s.channel ∧ (raisePeerLost i s).wake.inputs = s.wake.inputs ∧
    (raisePeerLost i s).wake.pressed = s.wake.pressed ∧ (raisePeerLost i s).wake.debounce = s.wake.debounce ∧
    (raisePeerLost i s).wake.longPress = s.wake.longPress ∧
    (raisePeerLost i s).wake.commonWindow = s.wake.commonWindow ∧ (raisePeerLost i s).wake.queue = s.wake.queue ∧
    (raisePeerLost i s).wake.minDwell = s.wake.minDwell ∧ (raisePeerLost i s).wake.faultHold = s.wake.faultHold ∧
    (raisePeerLost i s).wake.demote = s.wake.demote ∧ (raisePeerLost i s).request.underVote = s.request.underVote ∧
    (raisePeerLost i s).request.deferHold = s.request.deferHold ∧
    (raisePeerLost i s).request.lockout = s.request.lockout ∧
    (raisePeerLost i s).request.refresh = s.request.refresh ∧ (raisePeerLost i s).request.pulses = s.request.pulses ∧
    (raisePeerLost i s).request.result = s.request.result ∧ (raisePeerLost i s).faults.deferred = s.faults.deferred ∧
    (raisePeerLost i s).loader = s.loader ∧ (raisePeerLost i s).port = s.port ∧
    (raisePeerLost i s).pending = s.pending := by
  simp [raisePeerLost]

@[simp] theorem setBeat_keeps (n : Nat) (s : State) :
    (setBeat n s).time = s.time ∧ (setBeat n s).pins = s.pins ∧ (setBeat n s).link = s.link ∧
    (setBeat n s).agreement = s.agreement ∧ (setBeat n s).presence.peers = s.presence.peers ∧
    (setBeat n s).presence.barring = s.presence.barring ∧ (setBeat n s).presence.muteCause = s.presence.muteCause ∧
    (setBeat n s).presence.debt = s.presence.debt ∧ (setBeat n s).presence.censusWindow = s.presence.censusWindow ∧
    (setBeat n s).presence.barredRetry = s.presence.barredRetry ∧
    (setBeat n s).presence.retryHeld = s.presence.retryHeld ∧
    (setBeat n s).presence.alignment = s.presence.alignment ∧ (setBeat n s).executor = s.executor ∧
    (setBeat n s).channel = s.channel ∧ (setBeat n s).wake = s.wake ∧ (setBeat n s).request = s.request ∧
    (setBeat n s).faults = s.faults ∧ (setBeat n s).loader = s.loader ∧ (setBeat n s).port = s.port ∧
    (setBeat n s).pending = s.pending := by
  unfold setBeat
  split <;> simp

@[simp] theorem recomputeBeat_keeps (s : State) :
    (recomputeBeat s).time = s.time ∧ (recomputeBeat s).pins = s.pins ∧ (recomputeBeat s).link = s.link ∧
    (recomputeBeat s).agreement = s.agreement ∧ (recomputeBeat s).presence.peers = s.presence.peers ∧
    (recomputeBeat s).presence.barring = s.presence.barring ∧
    (recomputeBeat s).presence.muteCause = s.presence.muteCause ∧ (recomputeBeat s).presence.debt = s.presence.debt ∧
    (recomputeBeat s).presence.censusWindow = s.presence.censusWindow ∧
    (recomputeBeat s).presence.barredRetry = s.presence.barredRetry ∧
    (recomputeBeat s).presence.retryHeld = s.presence.retryHeld ∧
    (recomputeBeat s).presence.alignment = s.presence.alignment ∧ (recomputeBeat s).executor = s.executor ∧
    (recomputeBeat s).channel = s.channel ∧ (recomputeBeat s).wake = s.wake ∧ (recomputeBeat s).request = s.request ∧
    (recomputeBeat s).faults = s.faults ∧ (recomputeBeat s).loader = s.loader ∧ (recomputeBeat s).port = s.port ∧
    (recomputeBeat s).pending = s.pending := by
  simp [recomputeBeat]

@[simp] theorem settlePeers_keeps (s : State) :
    (settlePeers s).time = s.time ∧ (settlePeers s).pins = s.pins ∧
    (settlePeers s).link.integrated = s.link.integrated ∧ (settlePeers s).link.receiveErrors = s.link.receiveErrors ∧
    (settlePeers s).agreement = s.agreement ∧ (settlePeers s).presence = s.presence ∧
    (settlePeers s).executor = s.executor ∧ (settlePeers s).channel = s.channel ∧
    (settlePeers s).wake.inputs = s.wake.inputs ∧ (settlePeers s).wake.pressed = s.wake.pressed ∧
    (settlePeers s).wake.debounce = s.wake.debounce ∧ (settlePeers s).wake.longPress = s.wake.longPress ∧
    (settlePeers s).wake.commonWindow = s.wake.commonWindow ∧ (settlePeers s).wake.queue = s.wake.queue ∧
    (settlePeers s).wake.minDwell = s.wake.minDwell ∧ (settlePeers s).wake.faultHold = s.wake.faultHold ∧
    (settlePeers s).wake.demote = s.wake.demote ∧ (settlePeers s).request.underVote = s.request.underVote ∧
    (settlePeers s).request.deferHold = s.request.deferHold ∧ (settlePeers s).request.lockout = s.request.lockout ∧
    (settlePeers s).request.refresh = s.request.refresh ∧ (settlePeers s).request.pulses = s.request.pulses ∧
    (settlePeers s).request.result = s.request.result ∧ (settlePeers s).faults.deferred = s.faults.deferred ∧
    (settlePeers s).loader = s.loader ∧ (settlePeers s).port = s.port ∧ (settlePeers s).pending = s.pending := by
  unfold settlePeers
  split
  · exact
      ⟨foldl_keep (fun s => s.time) (fun s a => by split <;> simp) _ _,
       foldl_keep (fun s => s.pins) (fun s a => by split <;> simp) _ _,
       foldl_keep (fun s => s.link.integrated) (fun s a => by split <;> simp) _ _,
       foldl_keep (fun s => s.link.receiveErrors) (fun s a => by split <;> simp) _ _,
       foldl_keep (fun s => s.agreement) (fun s a => by split <;> simp) _ _,
       foldl_keep (fun s => s.presence) (fun s a => by split <;> simp) _ _,
       foldl_keep (fun s => s.executor) (fun s a => by split <;> simp) _ _,
       foldl_keep (fun s => s.channel) (fun s a => by split <;> simp) _ _,
       foldl_keep (fun s => s.wake.inputs) (fun s a => by split <;> simp) _ _,
       foldl_keep (fun s => s.wake.pressed) (fun s a => by split <;> simp) _ _,
       foldl_keep (fun s => s.wake.debounce) (fun s a => by split <;> simp) _ _,
       foldl_keep (fun s => s.wake.longPress) (fun s a => by split <;> simp) _ _,
       foldl_keep (fun s => s.wake.commonWindow) (fun s a => by split <;> simp) _ _,
       foldl_keep (fun s => s.wake.queue) (fun s a => by split <;> simp) _ _,
       foldl_keep (fun s => s.wake.minDwell) (fun s a => by split <;> simp) _ _,
       foldl_keep (fun s => s.wake.faultHold) (fun s a => by split <;> simp) _ _,
       foldl_keep (fun s => s.wake.demote) (fun s a => by split <;> simp) _ _,
       foldl_keep (fun s => s.request.underVote) (fun s a => by split <;> simp) _ _,
       foldl_keep (fun s => s.request.deferHold) (fun s a => by split <;> simp) _ _,
       foldl_keep (fun s => s.request.lockout) (fun s a => by split <;> simp) _ _,
       foldl_keep (fun s => s.request.refresh) (fun s a => by split <;> simp) _ _,
       foldl_keep (fun s => s.request.pulses) (fun s a => by split <;> simp) _ _,
       foldl_keep (fun s => s.request.result) (fun s a => by split <;> simp) _ _,
       foldl_keep (fun s => s.faults.deferred) (fun s a => by split <;> simp) _ _,
       foldl_keep (fun s => s.loader) (fun s a => by split <;> simp) _ _,
       foldl_keep (fun s => s.port) (fun s a => by split <;> simp) _ _,
       foldl_keep (fun s => s.pending) (fun s a => by split <;> simp) _ _⟩
  · simp

@[simp] theorem silencePeer_keeps (i : StationId) (s : State) :
    (silencePeer i s).time = s.time ∧ (silencePeer i s).pins = s.pins ∧
    (silencePeer i s).link.integrated = s.link.integrated ∧
    (silencePeer i s).link.receiveErrors = s.link.receiveErrors ∧ (silencePeer i s).agreement = s.agreement ∧
    (silencePeer i s).presence.muteCause = s.presence.muteCause ∧ (silencePeer i s).presence.beat = s.presence.beat ∧
    (silencePeer i s).presence.beatTimer = s.presence.beatTimer ∧ (silencePeer i s).presence.debt = s.presence.debt ∧
    (silencePeer i s).presence.censusWindow = s.presence.censusWindow ∧
    (silencePeer i s).presence.barredRetry = s.presence.barredRetry ∧
    (silencePeer i s).presence.retryHeld = s.presence.retryHeld ∧
    (silencePeer i s).presence.alignment = s.presence.alignment ∧ (silencePeer i s).executor = s.executor ∧
    (silencePeer i s).channel = s.channel ∧ (silencePeer i s).wake.inputs = s.wake.inputs ∧
    (silencePeer i s).wake.pressed = s.wake.pressed ∧ (silencePeer i s).wake.debounce = s.wake.debounce ∧
    (silencePeer i s).wake.longPress = s.wake.longPress ∧ (silencePeer i s).wake.commonWindow = s.wake.commonWindow ∧
    (silencePeer i s).wake.queue = s.wake.queue ∧ (silencePeer i s).wake.minDwell = s.wake.minDwell ∧
    (silencePeer i s).wake.faultHold = s.wake.faultHold ∧ (silencePeer i s).wake.demote = s.wake.demote ∧
    (silencePeer i s).request.underVote = s.request.underVote ∧
    (silencePeer i s).request.deferHold = s.request.deferHold ∧
    (silencePeer i s).request.lockout = s.request.lockout ∧ (silencePeer i s).request.pulses = s.request.pulses ∧
    (silencePeer i s).request.result = s.request.result ∧ (silencePeer i s).faults.deferred = s.faults.deferred ∧
    (silencePeer i s).loader = s.loader ∧ (silencePeer i s).port = s.port ∧ (silencePeer i s).pending = s.pending := by
  unfold silencePeer
  dsimp only
  (repeat' split) <;> simp

@[simp] theorem startCensus_keeps (s : State) :
    (startCensus s).time = s.time ∧ (startCensus s).pins = s.pins ∧
    (startCensus s).link.integrated = s.link.integrated ∧ (startCensus s).link.receiveErrors = s.link.receiveErrors ∧
    (startCensus s).agreement = s.agreement ∧ (startCensus s).presence.peers = s.presence.peers ∧
    (startCensus s).presence.barring = s.presence.barring ∧
    (startCensus s).presence.muteCause = s.presence.muteCause ∧
    (startCensus s).presence.barredRetry = s.presence.barredRetry ∧
    (startCensus s).presence.retryHeld = s.presence.retryHeld ∧
    (startCensus s).presence.alignment = s.presence.alignment ∧ (startCensus s).executor = s.executor ∧
    (startCensus s).channel = s.channel ∧ (startCensus s).wake.inputs = s.wake.inputs ∧
    (startCensus s).wake.pressed = s.wake.pressed ∧ (startCensus s).wake.debounce = s.wake.debounce ∧
    (startCensus s).wake.longPress = s.wake.longPress ∧ (startCensus s).wake.commonWindow = s.wake.commonWindow ∧
    (startCensus s).wake.queue = s.wake.queue ∧ (startCensus s).wake.minDwell = s.wake.minDwell ∧
    (startCensus s).wake.faultHold = s.wake.faultHold ∧ (startCensus s).wake.demote = s.wake.demote ∧
    (startCensus s).request.underVote = s.request.underVote ∧
    (startCensus s).request.deferHold = s.request.deferHold ∧ (startCensus s).request.lockout = s.request.lockout ∧
    (startCensus s).request.refresh = s.request.refresh ∧ (startCensus s).request.pulses = s.request.pulses ∧
    (startCensus s).request.result = s.request.result ∧ (startCensus s).faults = s.faults ∧
    (startCensus s).loader = s.loader ∧ (startCensus s).port = s.port ∧ (startCensus s).pending = s.pending := by
  simp [startCensus]

@[simp] theorem touchPeer_keeps (f : Frame) (s : State) :
    (touchPeer f s).time = s.time ∧ (touchPeer f s).pins = s.pins ∧
    (touchPeer f s).link.integrated = s.link.integrated ∧ (touchPeer f s).link.receiveErrors = s.link.receiveErrors ∧
    (touchPeer f s).agreement = s.agreement ∧ (touchPeer f s).presence.barring = s.presence.barring ∧
    (touchPeer f s).presence.muteCause = s.presence.muteCause ∧ (touchPeer f s).presence.beat = s.presence.beat ∧
    (touchPeer f s).presence.beatTimer = s.presence.beatTimer ∧ (touchPeer f s).presence.debt = s.presence.debt ∧
    (touchPeer f s).presence.censusWindow = s.presence.censusWindow ∧
    (touchPeer f s).presence.barredRetry = s.presence.barredRetry ∧
    (touchPeer f s).presence.retryHeld = s.presence.retryHeld ∧
    (touchPeer f s).presence.alignment = s.presence.alignment ∧ (touchPeer f s).executor = s.executor ∧
    (touchPeer f s).channel = s.channel ∧ (touchPeer f s).wake.inputs = s.wake.inputs ∧
    (touchPeer f s).wake.pressed = s.wake.pressed ∧ (touchPeer f s).wake.debounce = s.wake.debounce ∧
    (touchPeer f s).wake.longPress = s.wake.longPress ∧ (touchPeer f s).wake.commonWindow = s.wake.commonWindow ∧
    (touchPeer f s).wake.queue = s.wake.queue ∧ (touchPeer f s).wake.minDwell = s.wake.minDwell ∧
    (touchPeer f s).wake.faultHold = s.wake.faultHold ∧ (touchPeer f s).wake.demote = s.wake.demote ∧
    (touchPeer f s).request.underVote = s.request.underVote ∧
    (touchPeer f s).request.deferHold = s.request.deferHold ∧ (touchPeer f s).request.lockout = s.request.lockout ∧
    (touchPeer f s).request.refresh = s.request.refresh ∧ (touchPeer f s).request.pulses = s.request.pulses ∧
    (touchPeer f s).request.result = s.request.result ∧ (touchPeer f s).faults = s.faults ∧
    (touchPeer f s).loader = s.loader ∧ (touchPeer f s).port = s.port ∧ (touchPeer f s).pending = s.pending := by
  simp [touchPeer]

end Sys2Proof.Machine
end

