-- ==== Sys2Proof/Laws/FramesAgreement.lean ====
section
/-! SUPPORT. What each operation of the agreement engine leaves unchanged. The lemma `f_keeps` lists, for
an operation `f`, every block, or field of a block, that it never writes. -/

namespace Sys2Proof.Machine

open Sys2Proof

@[simp] theorem stopVoteTimers_keeps (s : State) :
    (stopVoteTimers s).time = s.time ∧ (stopVoteTimers s).pins = s.pins ∧ (stopVoteTimers s).link = s.link ∧
    (stopVoteTimers s).agreement.phase = s.agreement.phase ∧
    (stopVoteTimers s).agreement.believed = s.agreement.believed ∧
    (stopVoteTimers s).agreement.restImage = s.agreement.restImage ∧
    (stopVoteTimers s).agreement.number = s.agreement.number ∧
    (stopVoteTimers s).agreement.record = s.agreement.record ∧
    (stopVoteTimers s).agreement.history = s.agreement.history ∧
    (stopVoteTimers s).agreement.lateProposals = s.agreement.lateProposals ∧
    (stopVoteTimers s).agreement.streaks = s.agreement.streaks ∧ (stopVoteTimers s).presence = s.presence ∧
    (stopVoteTimers s).executor = s.executor ∧ (stopVoteTimers s).channel = s.channel ∧
    (stopVoteTimers s).wake = s.wake ∧ (stopVoteTimers s).request = s.request ∧
    (stopVoteTimers s).faults = s.faults ∧ (stopVoteTimers s).loader = s.loader ∧ (stopVoteTimers s).port = s.port ∧
    (stopVoteTimers s).pending = s.pending := by
  simp [stopVoteTimers]

@[simp] theorem writeStreak_keeps (n : Nat) (s : State) :
    (writeStreak n s).time = s.time ∧ (writeStreak n s).pins = s.pins ∧ (writeStreak n s).link = s.link ∧
    (writeStreak n s).agreement.phase = s.agreement.phase ∧
    (writeStreak n s).agreement.believed = s.agreement.believed ∧
    (writeStreak n s).agreement.restImage = s.agreement.restImage ∧
    (writeStreak n s).agreement.number = s.agreement.number ∧
    (writeStreak n s).agreement.record = s.agreement.record ∧
    (writeStreak n s).agreement.history = s.agreement.history ∧
    (writeStreak n s).agreement.lateProposals = s.agreement.lateProposals ∧
    (writeStreak n s).agreement.voteWindow = s.agreement.voteWindow ∧
    (writeStreak n s).agreement.voteGuard = s.agreement.voteGuard ∧ (writeStreak n s).presence = s.presence ∧
    (writeStreak n s).executor = s.executor ∧ (writeStreak n s).channel = s.channel ∧
    (writeStreak n s).wake = s.wake ∧ (writeStreak n s).request = s.request ∧ (writeStreak n s).faults = s.faults ∧
    (writeStreak n s).loader = s.loader ∧ (writeStreak n s).port = s.port ∧ (writeStreak n s).pending = s.pending := by
  simp [writeStreak]

@[simp] theorem renewWakeAbort_keeps (i : Option (Fin 8)) (s : State) :
    (renewWakeAbort i s).time = s.time ∧ (renewWakeAbort i s).pins = s.pins ∧
    (renewWakeAbort i s).link.integrated = s.link.integrated ∧
    (renewWakeAbort i s).link.receiveErrors = s.link.receiveErrors ∧ (renewWakeAbort i s).agreement = s.agreement ∧
    (renewWakeAbort i s).presence = s.presence ∧ (renewWakeAbort i s).executor = s.executor ∧
    (renewWakeAbort i s).channel = s.channel ∧ (renewWakeAbort i s).wake.inputs = s.wake.inputs ∧
    (renewWakeAbort i s).wake.pressed = s.wake.pressed ∧ (renewWakeAbort i s).wake.debounce = s.wake.debounce ∧
    (renewWakeAbort i s).wake.longPress = s.wake.longPress ∧
    (renewWakeAbort i s).wake.commonWindow = s.wake.commonWindow ∧ (renewWakeAbort i s).wake.queue = s.wake.queue ∧
    (renewWakeAbort i s).wake.minDwell = s.wake.minDwell ∧ (renewWakeAbort i s).wake.faultHold = s.wake.faultHold ∧
    (renewWakeAbort i s).wake.demote = s.wake.demote ∧ (renewWakeAbort i s).request.underVote = s.request.underVote ∧
    (renewWakeAbort i s).request.deferHold = s.request.deferHold ∧
    (renewWakeAbort i s).request.lockout = s.request.lockout ∧
    (renewWakeAbort i s).request.refresh = s.request.refresh ∧
    (renewWakeAbort i s).request.pulses = s.request.pulses ∧ (renewWakeAbort i s).request.result = s.request.result ∧
    (renewWakeAbort i s).faults = s.faults ∧ (renewWakeAbort i s).loader = s.loader ∧
    (renewWakeAbort i s).port = s.port ∧ (renewWakeAbort i s).pending = s.pending := by
  unfold renewWakeAbort
  (repeat' split) <;> simp

@[simp] theorem commit_keeps (s : State) :
    (commit s).time = s.time ∧ (commit s).pins = s.pins ∧ (commit s).link.integrated = s.link.integrated ∧
    (commit s).link.receiveErrors = s.link.receiveErrors ∧ (commit s).agreement.phase = s.agreement.phase ∧
    (commit s).agreement.believed = s.agreement.believed ∧ (commit s).agreement.restImage = s.agreement.restImage ∧
    (commit s).agreement.number = s.agreement.number ∧ (commit s).agreement.history = s.agreement.history ∧
    (commit s).agreement.lateProposals = s.agreement.lateProposals ∧
    (commit s).agreement.streaks = s.agreement.streaks ∧ (commit s).agreement.voteWindow = s.agreement.voteWindow ∧
    (commit s).agreement.voteGuard = s.agreement.voteGuard ∧ (commit s).presence = s.presence ∧
    (commit s).executor.sub = s.executor.sub ∧ (commit s).executor.cursor = s.executor.cursor ∧
    (commit s).executor.actionCursor = s.executor.actionCursor ∧ (commit s).executor.halted = s.executor.halted ∧
    (commit s).executor.barrier = s.executor.barrier ∧
    (commit s).executor.barrierExpired = s.executor.barrierExpired ∧
    (commit s).executor.running = s.executor.running ∧ (commit s).channel = s.channel ∧
    (commit s).wake.inputs = s.wake.inputs ∧ (commit s).wake.pressed = s.wake.pressed ∧
    (commit s).wake.debounce = s.wake.debounce ∧ (commit s).wake.longPress = s.wake.longPress ∧
    (commit s).wake.commonWindow = s.wake.commonWindow ∧ (commit s).wake.queue = s.wake.queue ∧
    (commit s).wake.minDwell = s.wake.minDwell ∧ (commit s).wake.faultHold = s.wake.faultHold ∧
    (commit s).wake.demote = s.wake.demote ∧ (commit s).request.underVote = s.request.underVote ∧
    (commit s).request.deferHold = s.request.deferHold ∧ (commit s).request.lockout = s.request.lockout ∧
    (commit s).request.refresh = s.request.refresh ∧ (commit s).request.pulses = s.request.pulses ∧
    (commit s).request.result = s.request.result ∧ (commit s).faults = s.faults ∧ (commit s).loader = s.loader ∧
    (commit s).port = s.port ∧ (commit s).pending = s.pending := by
  simp [commit]

@[simp] theorem commitAtStart_keeps (s : State) :
    (commitAtStart s).time = s.time ∧ (commitAtStart s).pins = s.pins ∧
    (commitAtStart s).link.integrated = s.link.integrated ∧
    (commitAtStart s).link.receiveErrors = s.link.receiveErrors ∧
    (commitAtStart s).agreement.phase = s.agreement.phase ∧
    (commitAtStart s).agreement.believed = s.agreement.believed ∧
    (commitAtStart s).agreement.restImage = s.agreement.restImage ∧
    (commitAtStart s).agreement.number = s.agreement.number ∧
    (commitAtStart s).agreement.history = s.agreement.history ∧
    (commitAtStart s).agreement.lateProposals = s.agreement.lateProposals ∧
    (commitAtStart s).agreement.streaks = s.agreement.streaks ∧
    (commitAtStart s).agreement.voteWindow = s.agreement.voteWindow ∧
    (commitAtStart s).agreement.voteGuard = s.agreement.voteGuard ∧ (commitAtStart s).presence = s.presence ∧
    (commitAtStart s).executor.sub = s.executor.sub ∧ (commitAtStart s).executor.cursor = s.executor.cursor ∧
    (commitAtStart s).executor.actionCursor = s.executor.actionCursor ∧
    (commitAtStart s).executor.halted = s.executor.halted ∧ (commitAtStart s).executor.barrier = s.executor.barrier ∧
    (commitAtStart s).executor.barrierExpired = s.executor.barrierExpired ∧
    (commitAtStart s).executor.running = s.executor.running ∧ (commitAtStart s).channel = s.channel ∧
    (commitAtStart s).wake.inputs = s.wake.inputs ∧ (commitAtStart s).wake.pressed = s.wake.pressed ∧
    (commitAtStart s).wake.debounce = s.wake.debounce ∧ (commitAtStart s).wake.longPress = s.wake.longPress ∧
    (commitAtStart s).wake.commonWindow = s.wake.commonWindow ∧ (commitAtStart s).wake.queue = s.wake.queue ∧
    (commitAtStart s).wake.minDwell = s.wake.minDwell ∧ (commitAtStart s).wake.faultHold = s.wake.faultHold ∧
    (commitAtStart s).wake.demote = s.wake.demote ∧ (commitAtStart s).request.underVote = s.request.underVote ∧
    (commitAtStart s).request.deferHold = s.request.deferHold ∧
    (commitAtStart s).request.lockout = s.request.lockout ∧ (commitAtStart s).request.refresh = s.request.refresh ∧
    (commitAtStart s).request.pulses = s.request.pulses ∧ (commitAtStart s).request.result = s.request.result ∧
    (commitAtStart s).faults = s.faults ∧ (commitAtStart s).loader = s.loader ∧ (commitAtStart s).port = s.port ∧
    (commitAtStart s).pending = s.pending := by
  unfold commitAtStart
  split <;> simp

@[simp] theorem accept_keeps (s : State) :
    (accept s).time = s.time ∧ (accept s).pins = s.pins ∧ (accept s).link.integrated = s.link.integrated ∧
    (accept s).link.receiveErrors = s.link.receiveErrors ∧ (accept s).agreement.believed = s.agreement.believed ∧
    (accept s).agreement.restImage = s.agreement.restImage ∧ (accept s).agreement.number = s.agreement.number ∧
    (accept s).agreement.history = s.agreement.history ∧
    (accept s).agreement.lateProposals = s.agreement.lateProposals ∧ (accept s).presence = s.presence ∧
    (accept s).channel.corrections = s.channel.corrections ∧ (accept s).wake.inputs = s.wake.inputs ∧
    (accept s).wake.pressed = s.wake.pressed ∧ (accept s).wake.debounce = s.wake.debounce ∧
    (accept s).wake.longPress = s.wake.longPress ∧ (accept s).wake.commonWindow = s.wake.commonWindow ∧
    (accept s).wake.queue = s.wake.queue ∧ (accept s).wake.minDwell = s.wake.minDwell ∧
    (accept s).wake.faultHold = s.wake.faultHold ∧ (accept s).wake.demote = s.wake.demote ∧
    (accept s).request.deferHold = s.request.deferHold ∧ (accept s).request.lockout = s.request.lockout ∧
    (accept s).request.refresh = s.request.refresh ∧ (accept s).faults = s.faults ∧ (accept s).loader = s.loader ∧
    (accept s).port = s.port ∧ (accept s).pending = s.pending := by
  simp [accept]

@[simp] theorem settleChannel_keeps (census : Bool) (s : State) :
    (settleChannel census s).time = s.time ∧ (settleChannel census s).pins = s.pins ∧
    (settleChannel census s).link = s.link ∧ (settleChannel census s).agreement = s.agreement ∧
    (settleChannel census s).presence = s.presence ∧ (settleChannel census s).executor = s.executor ∧
    (settleChannel census s).channel.awaits = s.channel.awaits ∧
    (settleChannel census s).channel.waitCounter = s.channel.waitCounter ∧ (settleChannel census s).wake = s.wake ∧
    (settleChannel census s).request = s.request ∧ (settleChannel census s).faults = s.faults ∧
    (settleChannel census s).loader = s.loader ∧ (settleChannel census s).port = s.port ∧
    (settleChannel census s).pending = s.pending := by
  unfold settleChannel
  dsimp only
  (repeat' split) <;> simp

@[simp] theorem settleSignal_keeps (closed : Option (Kind × TxnOutcome)) (s : State) :
    (settleSignal closed s).time = s.time ∧ (settleSignal closed s).pins = s.pins ∧
    (settleSignal closed s).link.integrated = s.link.integrated ∧
    (settleSignal closed s).link.receiveErrors = s.link.receiveErrors ∧
    (settleSignal closed s).agreement = s.agreement ∧ (settleSignal closed s).presence.peers = s.presence.peers ∧
    (settleSignal closed s).presence.barring = s.presence.barring ∧
    (settleSignal closed s).presence.muteCause = s.presence.muteCause ∧
    (settleSignal closed s).presence.debt = s.presence.debt ∧
    (settleSignal closed s).presence.censusWindow = s.presence.censusWindow ∧
    (settleSignal closed s).presence.barredRetry = s.presence.barredRetry ∧
    (settleSignal closed s).presence.retryHeld = s.presence.retryHeld ∧
    (settleSignal closed s).presence.alignment = s.presence.alignment ∧
    (settleSignal closed s).executor = s.executor ∧ (settleSignal closed s).channel.awaits = s.channel.awaits ∧
    (settleSignal closed s).channel.waitCounter = s.channel.waitCounter ∧
    (settleSignal closed s).wake.debounce = s.wake.debounce ∧
    (settleSignal closed s).wake.longPress = s.wake.longPress ∧
    (settleSignal closed s).wake.faultHold = s.wake.faultHold ∧
    (settleSignal closed s).request.underVote = s.request.underVote ∧
    (settleSignal closed s).faults.deferred = s.faults.deferred ∧ (settleSignal closed s).loader = s.loader ∧
    (settleSignal closed s).port = s.port ∧ (settleSignal closed s).pending = s.pending := by
  simp [settleSignal]

@[simp] theorem becomeSettled_keeps (closed : Option (Kind × TxnOutcome)) (s : State) :
    (becomeSettled closed s).time = s.time ∧ (becomeSettled closed s).pins = s.pins ∧
    (becomeSettled closed s).link.integrated = s.link.integrated ∧
    (becomeSettled closed s).link.receiveErrors = s.link.receiveErrors ∧
    (becomeSettled closed s).agreement.believed = s.agreement.believed ∧
    (becomeSettled closed s).agreement.restImage = s.agreement.restImage ∧
    (becomeSettled closed s).agreement.number = s.agreement.number ∧
    (becomeSettled closed s).agreement.record = s.agreement.record ∧
    (becomeSettled closed s).agreement.history = s.agreement.history ∧
    (becomeSettled closed s).agreement.lateProposals = s.agreement.lateProposals ∧
    (becomeSettled closed s).agreement.streaks = s.agreement.streaks ∧
    (becomeSettled closed s).agreement.voteWindow = s.agreement.voteWindow ∧
    (becomeSettled closed s).agreement.voteGuard = s.agreement.voteGuard ∧
    (becomeSettled closed s).presence.peers = s.presence.peers ∧
    (becomeSettled closed s).presence.barring = s.presence.barring ∧
    (becomeSettled closed s).presence.muteCause = s.presence.muteCause ∧
    (becomeSettled closed s).presence.debt = s.presence.debt ∧
    (becomeSettled closed s).presence.censusWindow = s.presence.censusWindow ∧
    (becomeSettled closed s).presence.barredRetry = s.presence.barredRetry ∧
    (becomeSettled closed s).presence.retryHeld = s.presence.retryHeld ∧
    (becomeSettled closed s).presence.alignment = s.presence.alignment ∧
    (becomeSettled closed s).executor = s.executor ∧ (becomeSettled closed s).channel.awaits = s.channel.awaits ∧
    (becomeSettled closed s).channel.waitCounter = s.channel.waitCounter ∧
    (becomeSettled closed s).wake.debounce = s.wake.debounce ∧
    (becomeSettled closed s).wake.longPress = s.wake.longPress ∧
    (becomeSettled closed s).wake.faultHold = s.wake.faultHold ∧
    (becomeSettled closed s).request.underVote = s.request.underVote ∧
    (becomeSettled closed s).faults.deferred = s.faults.deferred ∧ (becomeSettled closed s).loader = s.loader ∧
    (becomeSettled closed s).port = s.port ∧ (becomeSettled closed s).pending = s.pending := by
  simp [becomeSettled]

@[simp] theorem endCensus_keeps (s : State) :
    (endCensus s).time = s.time ∧ (endCensus s).pins = s.pins ∧ (endCensus s).link.integrated = s.link.integrated ∧
    (endCensus s).link.receiveErrors = s.link.receiveErrors ∧
    (endCensus s).agreement.believed = s.agreement.believed ∧
    (endCensus s).agreement.restImage = s.agreement.restImage ∧ (endCensus s).agreement.number = s.agreement.number ∧
    (endCensus s).agreement.record = s.agreement.record ∧ (endCensus s).agreement.history = s.agreement.history ∧
    (endCensus s).agreement.lateProposals = s.agreement.lateProposals ∧
    (endCensus s).agreement.streaks = s.agreement.streaks ∧
    (endCensus s).agreement.voteWindow = s.agreement.voteWindow ∧
    (endCensus s).agreement.voteGuard = s.agreement.voteGuard ∧ (endCensus s).presence.peers = s.presence.peers ∧
    (endCensus s).presence.barring = s.presence.barring ∧ (endCensus s).presence.muteCause = s.presence.muteCause ∧
    (endCensus s).presence.debt = s.presence.debt ∧ (endCensus s).presence.censusWindow = s.presence.censusWindow ∧
    (endCensus s).presence.barredRetry = s.presence.barredRetry ∧
    (endCensus s).presence.retryHeld = s.presence.retryHeld ∧ (endCensus s).executor = s.executor ∧
    (endCensus s).channel.awaits = s.channel.awaits ∧ (endCensus s).channel.waitCounter = s.channel.waitCounter ∧
    (endCensus s).wake.debounce = s.wake.debounce ∧ (endCensus s).wake.longPress = s.wake.longPress ∧
    (endCensus s).wake.faultHold = s.wake.faultHold ∧ (endCensus s).request.underVote = s.request.underVote ∧
    (endCensus s).faults.deferred = s.faults.deferred ∧ (endCensus s).loader = s.loader ∧
    (endCensus s).port = s.port ∧ (endCensus s).pending = s.pending := by
  simp [endCensus]

@[simp] theorem runAlignment_keeps (l : List Change) (s : State) :
    (runAlignment l s).time = s.time ∧ (runAlignment l s).pins = s.pins ∧
    (runAlignment l s).link.integrated = s.link.integrated ∧
    (runAlignment l s).link.receiveErrors = s.link.receiveErrors ∧
    (runAlignment l s).agreement.believed = s.agreement.believed ∧
    (runAlignment l s).agreement.restImage = s.agreement.restImage ∧
    (runAlignment l s).agreement.number = s.agreement.number ∧
    (runAlignment l s).agreement.record = s.agreement.record ∧
    (runAlignment l s).agreement.history = s.agreement.history ∧
    (runAlignment l s).agreement.lateProposals = s.agreement.lateProposals ∧
    (runAlignment l s).agreement.streaks = s.agreement.streaks ∧
    (runAlignment l s).agreement.voteWindow = s.agreement.voteWindow ∧
    (runAlignment l s).agreement.voteGuard = s.agreement.voteGuard ∧
    (runAlignment l s).presence.peers = s.presence.peers ∧ (runAlignment l s).presence.barring = s.presence.barring ∧
    (runAlignment l s).presence.muteCause = s.presence.muteCause ∧
    (runAlignment l s).presence.debt = s.presence.debt ∧
    (runAlignment l s).presence.censusWindow = s.presence.censusWindow ∧
    (runAlignment l s).presence.barredRetry = s.presence.barredRetry ∧
    (runAlignment l s).presence.retryHeld = s.presence.retryHeld ∧ (runAlignment l s).executor = s.executor ∧
    (runAlignment l s).channel.awaits = s.channel.awaits ∧
    (runAlignment l s).channel.waitCounter = s.channel.waitCounter ∧
    (runAlignment l s).wake.debounce = s.wake.debounce ∧ (runAlignment l s).wake.longPress = s.wake.longPress ∧
    (runAlignment l s).wake.faultHold = s.wake.faultHold ∧
    (runAlignment l s).request.underVote = s.request.underVote ∧
    (runAlignment l s).faults.deferred = s.faults.deferred ∧ (runAlignment l s).loader = s.loader ∧
    (runAlignment l s).port = s.port ∧ (runAlignment l s).pending = s.pending := by
  induction l generalizing s with
  | nil => simp [runAlignment]
  | cons c rest ih =>
    have h := issueChange_keeps c .alignment s
    unfold runAlignment
    split
    · next s1 d hs => simp_all
    · next s1 hs => simp_all

@[simp] theorem profileCheck_keeps (st : SystemState) (s : State) :
    (profileCheck st s).time = s.time ∧ (profileCheck st s).pins = s.pins ∧
    (profileCheck st s).link.integrated = s.link.integrated ∧
    (profileCheck st s).link.receiveErrors = s.link.receiveErrors ∧
    (profileCheck st s).agreement.believed = s.agreement.believed ∧
    (profileCheck st s).agreement.restImage = s.agreement.restImage ∧
    (profileCheck st s).agreement.number = s.agreement.number ∧
    (profileCheck st s).agreement.record = s.agreement.record ∧
    (profileCheck st s).agreement.history = s.agreement.history ∧
    (profileCheck st s).agreement.lateProposals = s.agreement.lateProposals ∧
    (profileCheck st s).agreement.streaks = s.agreement.streaks ∧
    (profileCheck st s).agreement.voteWindow = s.agreement.voteWindow ∧
    (profileCheck st s).agreement.voteGuard = s.agreement.voteGuard ∧
    (profileCheck st s).presence.peers = s.presence.peers ∧
    (profileCheck st s).presence.barring = s.presence.barring ∧
    (profileCheck st s).presence.muteCause = s.presence.muteCause ∧
    (profileCheck st s).presence.debt = s.presence.debt ∧
    (profileCheck st s).presence.censusWindow = s.presence.censusWindow ∧
    (profileCheck st s).presence.barredRetry = s.presence.barredRetry ∧
    (profileCheck st s).presence.retryHeld = s.presence.retryHeld ∧ (profileCheck st s).executor = s.executor ∧
    (profileCheck st s).channel.awaits = s.channel.awaits ∧
    (profileCheck st s).channel.waitCounter = s.channel.waitCounter ∧
    (profileCheck st s).wake.debounce = s.wake.debounce ∧ (profileCheck st s).wake.longPress = s.wake.longPress ∧
    (profileCheck st s).wake.faultHold = s.wake.faultHold ∧
    (profileCheck st s).request.underVote = s.request.underVote ∧
    (profileCheck st s).faults.deferred = s.faults.deferred ∧ (profileCheck st s).loader = s.loader ∧
    (profileCheck st s).port = s.port ∧ (profileCheck st s).pending = s.pending := by
  unfold profileCheck
  dsimp only
  (repeat' split) <;> simp

@[simp] theorem writeAdoption_keeps (st : SystemState) (n : TxnNumber) (s : State) :
    (writeAdoption st n s).time = s.time ∧ (writeAdoption st n s).pins = s.pins ∧
    (writeAdoption st n s).link = s.link ∧ (writeAdoption st n s).agreement.phase = s.agreement.phase ∧
    (writeAdoption st n s).agreement.record = s.agreement.record ∧
    (writeAdoption st n s).agreement.history = s.agreement.history ∧
    (writeAdoption st n s).agreement.lateProposals = s.agreement.lateProposals ∧
    (writeAdoption st n s).agreement.streaks = s.agreement.streaks ∧
    (writeAdoption st n s).agreement.voteWindow = s.agreement.voteWindow ∧
    (writeAdoption st n s).agreement.voteGuard = s.agreement.voteGuard ∧
    (writeAdoption st n s).presence.peers = s.presence.peers ∧
    (writeAdoption st n s).presence.barring = s.presence.barring ∧
    (writeAdoption st n s).presence.muteCause = s.presence.muteCause ∧
    (writeAdoption st n s).presence.beat = s.presence.beat ∧
    (writeAdoption st n s).presence.beatTimer = s.presence.beatTimer ∧
    (writeAdoption st n s).presence.debt = s.presence.debt ∧
    (writeAdoption st n s).presence.barredRetry = s.presence.barredRetry ∧
    (writeAdoption st n s).presence.retryHeld = s.presence.retryHeld ∧
    (writeAdoption st n s).presence.alignment = s.presence.alignment ∧ (writeAdoption st n s).executor = s.executor ∧
    (writeAdoption st n s).channel = s.channel ∧ (writeAdoption st n s).wake = s.wake ∧
    (writeAdoption st n s).request.latch = s.request.latch ∧
    (writeAdoption st n s).request.underVote = s.request.underVote ∧
    (writeAdoption st n s).request.deferHold = s.request.deferHold ∧
    (writeAdoption st n s).request.lockout = s.request.lockout ∧
    (writeAdoption st n s).request.pulses = s.request.pulses ∧
    (writeAdoption st n s).request.result = s.request.result ∧ (writeAdoption st n s).faults = s.faults ∧
    (writeAdoption st n s).loader = s.loader ∧ (writeAdoption st n s).port = s.port ∧
    (writeAdoption st n s).pending = s.pending := by
  simp [writeAdoption]

@[simp] theorem adopt_keeps (st : SystemState) (n : TxnNumber) (s : State) :
    (adopt st n s).time = s.time ∧ (adopt st n s).pins = s.pins ∧
    (adopt st n s).link.integrated = s.link.integrated ∧ (adopt st n s).link.receiveErrors = s.link.receiveErrors ∧
    (adopt st n s).agreement.record = s.agreement.record ∧ (adopt st n s).agreement.history = s.agreement.history ∧
    (adopt st n s).agreement.lateProposals = s.agreement.lateProposals ∧
    (adopt st n s).agreement.streaks = s.agreement.streaks ∧
    (adopt st n s).agreement.voteWindow = s.agreement.voteWindow ∧
    (adopt st n s).agreement.voteGuard = s.agreement.voteGuard ∧ (adopt st n s).presence.peers = s.presence.peers ∧
    (adopt st n s).presence.barring = s.presence.barring ∧ (adopt st n s).presence.muteCause = s.presence.muteCause ∧
    (adopt st n s).presence.debt = s.presence.debt ∧ (adopt st n s).presence.barredRetry = s.presence.barredRetry ∧
    (adopt st n s).presence.retryHeld = s.presence.retryHeld ∧ (adopt st n s).executor = s.executor ∧
    (adopt st n s).channel.awaits = s.channel.awaits ∧ (adopt st n s).channel.waitCounter = s.channel.waitCounter ∧
    (adopt st n s).wake.debounce = s.wake.debounce ∧ (adopt st n s).wake.longPress = s.wake.longPress ∧
    (adopt st n s).wake.faultHold = s.wake.faultHold ∧ (adopt st n s).request.underVote = s.request.underVote ∧
    (adopt st n s).faults.deferred = s.faults.deferred ∧ (adopt st n s).loader = s.loader ∧
    (adopt st n s).port = s.port ∧ (adopt st n s).pending = s.pending := by
  simp [adopt]

@[simp] theorem insertHistory_keeps (e : HistoryEntry) (s : State) :
    (insertHistory e s).time = s.time ∧ (insertHistory e s).pins = s.pins ∧ (insertHistory e s).link = s.link ∧
    (insertHistory e s).agreement.phase = s.agreement.phase ∧
    (insertHistory e s).agreement.believed = s.agreement.believed ∧
    (insertHistory e s).agreement.restImage = s.agreement.restImage ∧
    (insertHistory e s).agreement.number = s.agreement.number ∧
    (insertHistory e s).agreement.record = s.agreement.record ∧
    (insertHistory e s).agreement.lateProposals = s.agreement.lateProposals ∧
    (insertHistory e s).agreement.streaks = s.agreement.streaks ∧
    (insertHistory e s).agreement.voteWindow = s.agreement.voteWindow ∧
    (insertHistory e s).agreement.voteGuard = s.agreement.voteGuard ∧ (insertHistory e s).presence = s.presence ∧
    (insertHistory e s).executor = s.executor ∧ (insertHistory e s).channel = s.channel ∧
    (insertHistory e s).wake = s.wake ∧ (insertHistory e s).request = s.request ∧
    (insertHistory e s).faults = s.faults ∧ (insertHistory e s).loader = s.loader ∧
    (insertHistory e s).port = s.port ∧ (insertHistory e s).pending = s.pending := by
  simp [insertHistory]

@[simp] theorem archive_keeps (deferred : Nat) (s : State) :
    (archive deferred s).time = s.time ∧ (archive deferred s).pins = s.pins ∧ (archive deferred s).link = s.link ∧
    (archive deferred s).agreement.phase = s.agreement.phase ∧
    (archive deferred s).agreement.believed = s.agreement.believed ∧
    (archive deferred s).agreement.restImage = s.agreement.restImage ∧
    (archive deferred s).agreement.number = s.agreement.number ∧
    (archive deferred s).agreement.record = s.agreement.record ∧
    (archive deferred s).agreement.lateProposals = s.agreement.lateProposals ∧
    (archive deferred s).agreement.streaks = s.agreement.streaks ∧
    (archive deferred s).agreement.voteWindow = s.agreement.voteWindow ∧
    (archive deferred s).agreement.voteGuard = s.agreement.voteGuard ∧ (archive deferred s).presence = s.presence ∧
    (archive deferred s).executor = s.executor ∧ (archive deferred s).channel = s.channel ∧
    (archive deferred s).wake = s.wake ∧ (archive deferred s).request = s.request ∧
    (archive deferred s).faults = s.faults ∧ (archive deferred s).loader = s.loader ∧
    (archive deferred s).port = s.port ∧ (archive deferred s).pending = s.pending := by
  unfold archive
  split <;> simp

@[simp] theorem castVote_keeps (originator : StationId) (kind : Kind) (inh : Inhibits) (s : State) :
    (castVote originator kind inh s).time = s.time ∧ (castVote originator kind inh s).pins = s.pins ∧
    (castVote originator kind inh s).link.integrated = s.link.integrated ∧
    (castVote originator kind inh s).link.receiveErrors = s.link.receiveErrors ∧
    (castVote originator kind inh s).agreement = s.agreement ∧
    (castVote originator kind inh s).presence = s.presence ∧ (castVote originator kind inh s).executor = s.executor ∧
    (castVote originator kind inh s).channel = s.channel ∧
    (castVote originator kind inh s).wake.inputs = s.wake.inputs ∧
    (castVote originator kind inh s).wake.pressed = s.wake.pressed ∧
    (castVote originator kind inh s).wake.debounce = s.wake.debounce ∧
    (castVote originator kind inh s).wake.longPress = s.wake.longPress ∧
    (castVote originator kind inh s).wake.commonWindow = s.wake.commonWindow ∧
    (castVote originator kind inh s).wake.queue = s.wake.queue ∧
    (castVote originator kind inh s).wake.minDwell = s.wake.minDwell ∧
    (castVote originator kind inh s).wake.faultHold = s.wake.faultHold ∧
    (castVote originator kind inh s).wake.demote = s.wake.demote ∧
    (castVote originator kind inh s).request.underVote = s.request.underVote ∧
    (castVote originator kind inh s).request.deferHold = s.request.deferHold ∧
    (castVote originator kind inh s).request.lockout = s.request.lockout ∧
    (castVote originator kind inh s).request.refresh = s.request.refresh ∧
    (castVote originator kind inh s).request.pulses = s.request.pulses ∧
    (castVote originator kind inh s).request.result = s.request.result ∧
    (castVote originator kind inh s).faults = s.faults ∧ (castVote originator kind inh s).loader = s.loader ∧
    (castVote originator kind inh s).port = s.port ∧ (castVote originator kind inh s).pending = s.pending := by
  unfold castVote
  split <;> simp

@[simp] theorem leaveMute_keeps (s : State) :
    (leaveMute s).time = s.time ∧ (leaveMute s).pins = s.pins ∧ (leaveMute s).link.integrated = s.link.integrated ∧
    (leaveMute s).link.receiveErrors = s.link.receiveErrors ∧
    (leaveMute s).agreement.restImage = s.agreement.restImage ∧ (leaveMute s).agreement.record = s.agreement.record ∧
    (leaveMute s).agreement.history = s.agreement.history ∧
    (leaveMute s).agreement.lateProposals = s.agreement.lateProposals ∧
    (leaveMute s).agreement.streaks = s.agreement.streaks ∧
    (leaveMute s).agreement.voteWindow = s.agreement.voteWindow ∧
    (leaveMute s).agreement.voteGuard = s.agreement.voteGuard ∧ (leaveMute s).presence.peers = s.presence.peers ∧
    (leaveMute s).presence.barring = s.presence.barring ∧ (leaveMute s).presence.alignment = s.presence.alignment ∧
    (leaveMute s).executor = s.executor ∧ (leaveMute s).channel.signals = s.channel.signals ∧
    (leaveMute s).channel.awaits = s.channel.awaits ∧ (leaveMute s).channel.waitCounter = s.channel.waitCounter ∧
    (leaveMute s).channel.corrections = s.channel.corrections ∧ (leaveMute s).wake.pressed = s.wake.pressed ∧
    (leaveMute s).wake.queue = s.wake.queue ∧ (leaveMute s).wake.minDwell = s.wake.minDwell ∧
    (leaveMute s).wake.faultHold = s.wake.faultHold ∧ (leaveMute s).wake.demote = s.wake.demote ∧
    (leaveMute s).request.underVote = s.request.underVote ∧ (leaveMute s).request.deferHold = s.request.deferHold ∧
    (leaveMute s).request.lockout = s.request.lockout ∧ (leaveMute s).request.refresh = s.request.refresh ∧
    (leaveMute s).request.pulses = s.request.pulses ∧ (leaveMute s).request.result = s.request.result ∧
    (leaveMute s).faults = s.faults ∧ (leaveMute s).loader = s.loader ∧ (leaveMute s).port = s.port ∧
    (leaveMute s).pending = s.pending := by
  simp [leaveMute]

@[simp] theorem checkLeaveMute_keeps (s : State) :
    (checkLeaveMute s).time = s.time ∧ (checkLeaveMute s).pins = s.pins ∧
    (checkLeaveMute s).link.integrated = s.link.integrated ∧
    (checkLeaveMute s).link.receiveErrors = s.link.receiveErrors ∧
    (checkLeaveMute s).agreement.restImage = s.agreement.restImage ∧
    (checkLeaveMute s).agreement.record = s.agreement.record ∧
    (checkLeaveMute s).agreement.history = s.agreement.history ∧
    (checkLeaveMute s).agreement.lateProposals = s.agreement.lateProposals ∧
    (checkLeaveMute s).agreement.streaks = s.agreement.streaks ∧
    (checkLeaveMute s).agreement.voteWindow = s.agreement.voteWindow ∧
    (checkLeaveMute s).agreement.voteGuard = s.agreement.voteGuard ∧
    (checkLeaveMute s).presence.peers = s.presence.peers ∧ (checkLeaveMute s).presence.barring = s.presence.barring ∧
    (checkLeaveMute s).presence.alignment = s.presence.alignment ∧ (checkLeaveMute s).executor = s.executor ∧
    (checkLeaveMute s).channel.signals = s.channel.signals ∧ (checkLeaveMute s).channel.awaits = s.channel.awaits ∧
    (checkLeaveMute s).channel.waitCounter = s.channel.waitCounter ∧
    (checkLeaveMute s).channel.corrections = s.channel.corrections ∧
    (checkLeaveMute s).wake.pressed = s.wake.pressed ∧ (checkLeaveMute s).wake.queue = s.wake.queue ∧
    (checkLeaveMute s).wake.minDwell = s.wake.minDwell ∧ (checkLeaveMute s).wake.faultHold = s.wake.faultHold ∧
    (checkLeaveMute s).wake.demote = s.wake.demote ∧ (checkLeaveMute s).request.underVote = s.request.underVote ∧
    (checkLeaveMute s).request.deferHold = s.request.deferHold ∧
    (checkLeaveMute s).request.lockout = s.request.lockout ∧ (checkLeaveMute s).request.refresh = s.request.refresh ∧
    (checkLeaveMute s).request.pulses = s.request.pulses ∧ (checkLeaveMute s).request.result = s.request.result ∧
    (checkLeaveMute s).faults = s.faults ∧ (checkLeaveMute s).loader = s.loader ∧ (checkLeaveMute s).port = s.port ∧
    (checkLeaveMute s).pending = s.pending := by
  unfold checkLeaveMute
  split <;> simp

@[simp] theorem settleBelief_keeps (o : TxnOutcome) (s : State) :
    (settleBelief o s).time = s.time ∧ (settleBelief o s).pins = s.pins ∧ (settleBelief o s).link = s.link ∧
    (settleBelief o s).agreement.phase = s.agreement.phase ∧
    (settleBelief o s).agreement.number = s.agreement.number ∧
    (settleBelief o s).agreement.record = s.agreement.record ∧
    (settleBelief o s).agreement.history = s.agreement.history ∧
    (settleBelief o s).agreement.lateProposals = s.agreement.lateProposals ∧
    (settleBelief o s).agreement.streaks = s.agreement.streaks ∧
    (settleBelief o s).agreement.voteWindow = s.agreement.voteWindow ∧
    (settleBelief o s).agreement.voteGuard = s.agreement.voteGuard ∧ (settleBelief o s).presence = s.presence ∧
    (settleBelief o s).executor = s.executor ∧ (settleBelief o s).channel = s.channel ∧
    (settleBelief o s).wake = s.wake ∧ (settleBelief o s).request = s.request ∧
    (settleBelief o s).faults = s.faults ∧ (settleBelief o s).loader = s.loader ∧ (settleBelief o s).port = s.port ∧
    (settleBelief o s).pending = s.pending := by
  unfold settleBelief
  split <;> simp

@[simp] theorem endWork_keeps (s : State) :
    (endWork s).time = s.time ∧ (endWork s).pins = s.pins ∧ (endWork s).link = s.link ∧
    (endWork s).agreement = s.agreement ∧ (endWork s).presence = s.presence ∧
    (endWork s).executor.sub = s.executor.sub ∧ (endWork s).executor.cursor = s.executor.cursor ∧
    (endWork s).executor.actionCursor = s.executor.actionCursor ∧ (endWork s).executor.halted = s.executor.halted ∧
    (endWork s).executor.barrier = s.executor.barrier ∧
    (endWork s).executor.barrierExpired = s.executor.barrierExpired ∧ (endWork s).executor.stack = s.executor.stack ∧
    (endWork s).channel.corrections = s.channel.corrections ∧ (endWork s).wake = s.wake ∧
    (endWork s).request = s.request ∧ (endWork s).faults = s.faults ∧ (endWork s).loader = s.loader ∧
    (endWork s).port = s.port ∧ (endWork s).pending = s.pending := by
  unfold endWork
  split <;> simp

@[simp] theorem closeTransaction_keeps (o : TxnOutcome) (c : Cause) (send : Bool) (s : State) :
    (closeTransaction o c send s).time = s.time ∧ (closeTransaction o c send s).pins = s.pins ∧
    (closeTransaction o c send s).link.integrated = s.link.integrated ∧
    (closeTransaction o c send s).link.receiveErrors = s.link.receiveErrors ∧
    (closeTransaction o c send s).agreement.phase = s.agreement.phase ∧
    (closeTransaction o c send s).agreement.number = s.agreement.number ∧
    (closeTransaction o c send s).agreement.lateProposals = s.agreement.lateProposals ∧
    (closeTransaction o c send s).agreement.streaks = s.agreement.streaks ∧
    (closeTransaction o c send s).presence = s.presence ∧ (closeTransaction o c send s).channel = s.channel ∧
    (closeTransaction o c send s).wake.inputs = s.wake.inputs ∧
    (closeTransaction o c send s).wake.pressed = s.wake.pressed ∧
    (closeTransaction o c send s).wake.debounce = s.wake.debounce ∧
    (closeTransaction o c send s).wake.longPress = s.wake.longPress ∧
    (closeTransaction o c send s).wake.commonWindow = s.wake.commonWindow ∧
    (closeTransaction o c send s).wake.queue = s.wake.queue ∧
    (closeTransaction o c send s).wake.minDwell = s.wake.minDwell ∧
    (closeTransaction o c send s).wake.faultHold = s.wake.faultHold ∧
    (closeTransaction o c send s).wake.demote = s.wake.demote ∧
    (closeTransaction o c send s).request.underVote = s.request.underVote ∧
    (closeTransaction o c send s).request.deferHold = s.request.deferHold ∧
    (closeTransaction o c send s).request.lockout = s.request.lockout ∧
    (closeTransaction o c send s).request.refresh = s.request.refresh ∧
    (closeTransaction o c send s).request.pulses = s.request.pulses ∧
    (closeTransaction o c send s).request.result = s.request.result ∧
    (closeTransaction o c send s).loader = s.loader ∧ (closeTransaction o c send s).port = s.port ∧
    (closeTransaction o c send s).pending = s.pending := by
  simp [closeTransaction]

@[simp] theorem closeSettled_keeps (o : TxnOutcome) (c : Cause) (s : State) :
    (closeSettled o c s).time = s.time ∧ (closeSettled o c s).pins = s.pins ∧
    (closeSettled o c s).link.integrated = s.link.integrated ∧
    (closeSettled o c s).link.receiveErrors = s.link.receiveErrors ∧
    (closeSettled o c s).agreement.number = s.agreement.number ∧
    (closeSettled o c s).agreement.lateProposals = s.agreement.lateProposals ∧
    (closeSettled o c s).agreement.streaks = s.agreement.streaks ∧
    (closeSettled o c s).presence.peers = s.presence.peers ∧
    (closeSettled o c s).presence.barring = s.presence.barring ∧
    (closeSettled o c s).presence.muteCause = s.presence.muteCause ∧
    (closeSettled o c s).presence.debt = s.presence.debt ∧
    (closeSettled o c s).presence.censusWindow = s.presence.censusWindow ∧
    (closeSettled o c s).presence.barredRetry = s.presence.barredRetry ∧
    (closeSettled o c s).presence.retryHeld = s.presence.retryHeld ∧
    (closeSettled o c s).presence.alignment = s.presence.alignment ∧
    (closeSettled o c s).channel.awaits = s.channel.awaits ∧
    (closeSettled o c s).channel.waitCounter = s.channel.waitCounter ∧
    (closeSettled o c s).wake.debounce = s.wake.debounce ∧ (closeSettled o c s).wake.longPress = s.wake.longPress ∧
    (closeSettled o c s).wake.faultHold = s.wake.faultHold ∧
    (closeSettled o c s).request.underVote = s.request.underVote ∧ (closeSettled o c s).loader = s.loader ∧
    (closeSettled o c s).port = s.port ∧ (closeSettled o c s).pending = s.pending := by
  simp [closeSettled]

@[simp] theorem closeSuperseded_keeps (who : Issuer → Bool) (c : Cause) (s : State) :
    (closeSuperseded who c s).time = s.time ∧ (closeSuperseded who c s).pins = s.pins ∧
    (closeSuperseded who c s).link.integrated = s.link.integrated ∧
    (closeSuperseded who c s).link.receiveErrors = s.link.receiveErrors ∧
    (closeSuperseded who c s).agreement.phase = s.agreement.phase ∧
    (closeSuperseded who c s).agreement.believed = s.agreement.believed ∧
    (closeSuperseded who c s).agreement.restImage = s.agreement.restImage ∧
    (closeSuperseded who c s).agreement.number = s.agreement.number ∧
    (closeSuperseded who c s).agreement.lateProposals = s.agreement.lateProposals ∧
    (closeSuperseded who c s).agreement.streaks = s.agreement.streaks ∧
    (closeSuperseded who c s).presence = s.presence ∧
    (closeSuperseded who c s).channel.corrections = s.channel.corrections ∧
    (closeSuperseded who c s).wake.inputs = s.wake.inputs ∧ (closeSuperseded who c s).wake.pressed = s.wake.pressed ∧
    (closeSuperseded who c s).wake.debounce = s.wake.debounce ∧
    (closeSuperseded who c s).wake.longPress = s.wake.longPress ∧
    (closeSuperseded who c s).wake.commonWindow = s.wake.commonWindow ∧
    (closeSuperseded who c s).wake.queue = s.wake.queue ∧ (closeSuperseded who c s).wake.minDwell = s.wake.minDwell ∧
    (closeSuperseded who c s).wake.faultHold = s.wake.faultHold ∧
    (closeSuperseded who c s).wake.demote = s.wake.demote ∧
    (closeSuperseded who c s).request.deferHold = s.request.deferHold ∧
    (closeSuperseded who c s).request.lockout = s.request.lockout ∧
    (closeSuperseded who c s).request.refresh = s.request.refresh ∧ (closeSuperseded who c s).loader = s.loader ∧
    (closeSuperseded who c s).port = s.port ∧ (closeSuperseded who c s).pending = s.pending := by
  simp [closeSuperseded]

@[simp] theorem declineTally_keeps (reason : DeclineReason) (s : State) :
    (declineTally reason s).time = s.time ∧ (declineTally reason s).pins = s.pins ∧
    (declineTally reason s).link.integrated = s.link.integrated ∧
    (declineTally reason s).link.receiveErrors = s.link.receiveErrors ∧
    (declineTally reason s).agreement.number = s.agreement.number ∧
    (declineTally reason s).agreement.lateProposals = s.agreement.lateProposals ∧
    (declineTally reason s).presence.peers = s.presence.peers ∧
    (declineTally reason s).presence.barring = s.presence.barring ∧
    (declineTally reason s).presence.muteCause = s.presence.muteCause ∧
    (declineTally reason s).presence.debt = s.presence.debt ∧
    (declineTally reason s).presence.censusWindow = s.presence.censusWindow ∧
    (declineTally reason s).presence.barredRetry = s.presence.barredRetry ∧
    (declineTally reason s).presence.retryHeld = s.presence.retryHeld ∧
    (declineTally reason s).presence.alignment = s.presence.alignment ∧
    (declineTally reason s).channel.awaits = s.channel.awaits ∧
    (declineTally reason s).channel.waitCounter = s.channel.waitCounter ∧
    (declineTally reason s).wake.debounce = s.wake.debounce ∧
    (declineTally reason s).wake.longPress = s.wake.longPress ∧
    (declineTally reason s).wake.faultHold = s.wake.faultHold ∧ (declineTally reason s).loader = s.loader ∧
    (declineTally reason s).port = s.port ∧ (declineTally reason s).pending = s.pending := by
  simp [declineTally]

@[simp] theorem deferTally_keeps (s : State) :
    (deferTally s).time = s.time ∧ (deferTally s).pins = s.pins ∧
    (deferTally s).link.integrated = s.link.integrated ∧ (deferTally s).link.receiveErrors = s.link.receiveErrors ∧
    (deferTally s).agreement.number = s.agreement.number ∧
    (deferTally s).agreement.lateProposals = s.agreement.lateProposals ∧
    (deferTally s).presence.peers = s.presence.peers ∧ (deferTally s).presence.barring = s.presence.barring ∧
    (deferTally s).presence.muteCause = s.presence.muteCause ∧ (deferTally s).presence.debt = s.presence.debt ∧
    (deferTally s).presence.censusWindow = s.presence.censusWindow ∧
    (deferTally s).presence.barredRetry = s.presence.barredRetry ∧
    (deferTally s).presence.retryHeld = s.presence.retryHeld ∧
    (deferTally s).presence.alignment = s.presence.alignment ∧ (deferTally s).channel.awaits = s.channel.awaits ∧
    (deferTally s).channel.waitCounter = s.channel.waitCounter ∧ (deferTally s).wake.debounce = s.wake.debounce ∧
    (deferTally s).wake.longPress = s.wake.longPress ∧ (deferTally s).wake.faultHold = s.wake.faultHold ∧
    (deferTally s).loader = s.loader ∧ (deferTally s).port = s.port ∧ (deferTally s).pending = s.pending := by
  simp [deferTally]

@[simp] theorem deliverNotice_keeps (s : State) (n : Notice) :
    (deliverNotice s n).time = s.time ∧ (deliverNotice s n).pins = s.pins ∧
    (deliverNotice s n).link.integrated = s.link.integrated ∧
    (deliverNotice s n).link.receiveErrors = s.link.receiveErrors ∧
    (deliverNotice s n).agreement.believed = s.agreement.believed ∧
    (deliverNotice s n).agreement.restImage = s.agreement.restImage ∧
    (deliverNotice s n).agreement.number = s.agreement.number ∧
    (deliverNotice s n).agreement.record = s.agreement.record ∧
    (deliverNotice s n).agreement.history = s.agreement.history ∧
    (deliverNotice s n).agreement.lateProposals = s.agreement.lateProposals ∧
    (deliverNotice s n).agreement.streaks = s.agreement.streaks ∧
    (deliverNotice s n).agreement.voteWindow = s.agreement.voteWindow ∧
    (deliverNotice s n).agreement.voteGuard = s.agreement.voteGuard ∧
    (deliverNotice s n).presence.peers = s.presence.peers ∧
    (deliverNotice s n).presence.barring = s.presence.barring ∧
    (deliverNotice s n).presence.muteCause = s.presence.muteCause ∧
    (deliverNotice s n).presence.debt = s.presence.debt ∧
    (deliverNotice s n).presence.censusWindow = s.presence.censusWindow ∧
    (deliverNotice s n).presence.barredRetry = s.presence.barredRetry ∧
    (deliverNotice s n).presence.retryHeld = s.presence.retryHeld ∧
    (deliverNotice s n).wake.debounce = s.wake.debounce ∧ (deliverNotice s n).wake.longPress = s.wake.longPress ∧
    (deliverNotice s n).wake.faultHold = s.wake.faultHold ∧
    (deliverNotice s n).request.underVote = s.request.underVote ∧
    (deliverNotice s n).faults.deferred = s.faults.deferred ∧ (deliverNotice s n).loader = s.loader ∧
    (deliverNotice s n).port = s.port ∧ (deliverNotice s n).pending = s.pending := by
  unfold deliverNotice
  (repeat' split) <;> simp

@[simp] theorem deliverNotices_keeps (x : State × List Notice) :
    (deliverNotices x).time = x.1.time ∧ (deliverNotices x).pins = x.1.pins ∧
    (deliverNotices x).link.integrated = x.1.link.integrated ∧
    (deliverNotices x).link.receiveErrors = x.1.link.receiveErrors ∧
    (deliverNotices x).agreement.believed = x.1.agreement.believed ∧
    (deliverNotices x).agreement.restImage = x.1.agreement.restImage ∧
    (deliverNotices x).agreement.number = x.1.agreement.number ∧
    (deliverNotices x).agreement.record = x.1.agreement.record ∧
    (deliverNotices x).agreement.history = x.1.agreement.history ∧
    (deliverNotices x).agreement.lateProposals = x.1.agreement.lateProposals ∧
    (deliverNotices x).agreement.streaks = x.1.agreement.streaks ∧
    (deliverNotices x).agreement.voteWindow = x.1.agreement.voteWindow ∧
    (deliverNotices x).agreement.voteGuard = x.1.agreement.voteGuard ∧
    (deliverNotices x).presence.peers = x.1.presence.peers ∧
    (deliverNotices x).presence.barring = x.1.presence.barring ∧
    (deliverNotices x).presence.muteCause = x.1.presence.muteCause ∧
    (deliverNotices x).presence.debt = x.1.presence.debt ∧
    (deliverNotices x).presence.censusWindow = x.1.presence.censusWindow ∧
    (deliverNotices x).presence.barredRetry = x.1.presence.barredRetry ∧
    (deliverNotices x).presence.retryHeld = x.1.presence.retryHeld ∧
    (deliverNotices x).wake.debounce = x.1.wake.debounce ∧ (deliverNotices x).wake.longPress = x.1.wake.longPress ∧
    (deliverNotices x).wake.faultHold = x.1.wake.faultHold ∧
    (deliverNotices x).request.underVote = x.1.request.underVote ∧
    (deliverNotices x).faults.deferred = x.1.faults.deferred ∧ (deliverNotices x).loader = x.1.loader ∧
    (deliverNotices x).port = x.1.port ∧ (deliverNotices x).pending = x.1.pending := by
  unfold deliverNotices
  exact
    ⟨foldl_keep (fun s => s.time) (fun s a => by simp) _ _, foldl_keep (fun s => s.pins) (fun s a => by simp) _ _,
     foldl_keep (fun s => s.link.integrated) (fun s a => by simp) _ _,
     foldl_keep (fun s => s.link.receiveErrors) (fun s a => by simp) _ _,
     foldl_keep (fun s => s.agreement.believed) (fun s a => by simp) _ _,
     foldl_keep (fun s => s.agreement.restImage) (fun s a => by simp) _ _,
     foldl_keep (fun s => s.agreement.number) (fun s a => by simp) _ _,
     foldl_keep (fun s => s.agreement.record) (fun s a => by simp) _ _,
     foldl_keep (fun s => s.agreement.history) (fun s a => by simp) _ _,
     foldl_keep (fun s => s.agreement.lateProposals) (fun s a => by simp) _ _,
     foldl_keep (fun s => s.agreement.streaks) (fun s a => by simp) _ _,
     foldl_keep (fun s => s.agreement.voteWindow) (fun s a => by simp) _ _,
     foldl_keep (fun s => s.agreement.voteGuard) (fun s a => by simp) _ _,
     foldl_keep (fun s => s.presence.peers) (fun s a => by simp) _ _,
     foldl_keep (fun s => s.presence.barring) (fun s a => by simp) _ _,
     foldl_keep (fun s => s.presence.muteCause) (fun s a => by simp) _ _,
     foldl_keep (fun s => s.presence.debt) (fun s a => by simp) _ _,
     foldl_keep (fun s => s.presence.censusWindow) (fun s a => by simp) _ _,
     foldl_keep (fun s => s.presence.barredRetry) (fun s a => by simp) _ _,
     foldl_keep (fun s => s.presence.retryHeld) (fun s a => by simp) _ _,
     foldl_keep (fun s => s.wake.debounce) (fun s a => by simp) _ _,
     foldl_keep (fun s => s.wake.longPress) (fun s a => by simp) _ _,
     foldl_keep (fun s => s.wake.faultHold) (fun s a => by simp) _ _,
     foldl_keep (fun s => s.request.underVote) (fun s a => by simp) _ _,
     foldl_keep (fun s => s.faults.deferred) (fun s a => by simp) _ _,
     foldl_keep (fun s => s.loader) (fun s a => by simp) _ _, foldl_keep (fun s => s.port) (fun s a => by simp) _ _,
     foldl_keep (fun s => s.pending) (fun s a => by simp) _ _⟩

@[simp] theorem muteTransaction_keeps (s : State) :
    (muteTransaction s).time = s.time ∧ (muteTransaction s).pins = s.pins ∧
    (muteTransaction s).link.integrated = s.link.integrated ∧
    (muteTransaction s).link.receiveErrors = s.link.receiveErrors ∧
    (muteTransaction s).agreement.phase = s.agreement.phase ∧
    (muteTransaction s).agreement.believed = s.agreement.believed ∧
    (muteTransaction s).agreement.restImage = s.agreement.restImage ∧
    (muteTransaction s).agreement.number = s.agreement.number ∧
    (muteTransaction s).agreement.lateProposals = s.agreement.lateProposals ∧
    (muteTransaction s).agreement.streaks = s.agreement.streaks ∧ (muteTransaction s).presence = s.presence ∧
    (muteTransaction s).channel.corrections = s.channel.corrections ∧
    (muteTransaction s).wake.inputs = s.wake.inputs ∧ (muteTransaction s).wake.pressed = s.wake.pressed ∧
    (muteTransaction s).wake.debounce = s.wake.debounce ∧ (muteTransaction s).wake.longPress = s.wake.longPress ∧
    (muteTransaction s).wake.commonWindow = s.wake.commonWindow ∧ (muteTransaction s).wake.queue = s.wake.queue ∧
    (muteTransaction s).wake.minDwell = s.wake.minDwell ∧ (muteTransaction s).wake.faultHold = s.wake.faultHold ∧
    (muteTransaction s).wake.demote = s.wake.demote ∧ (muteTransaction s).request.deferHold = s.request.deferHold ∧
    (muteTransaction s).request.lockout = s.request.lockout ∧
    (muteTransaction s).request.refresh = s.request.refresh ∧ (muteTransaction s).loader = s.loader ∧
    (muteTransaction s).port = s.port ∧ (muteTransaction s).pending = s.pending := by
  unfold muteTransaction
  split <;> simp

@[simp] theorem mutePresence_keeps (c : MuteCause) (s : State) :
    (mutePresence c s).time = s.time ∧ (mutePresence c s).pins = s.pins ∧ (mutePresence c s).link = s.link ∧
    (mutePresence c s).agreement = s.agreement ∧ (mutePresence c s).presence.peers = s.presence.peers ∧
    (mutePresence c s).presence.barring = s.presence.barring ∧ (mutePresence c s).presence.beat = s.presence.beat ∧
    (mutePresence c s).executor = s.executor ∧ (mutePresence c s).channel.signals = s.channel.signals ∧
    (mutePresence c s).channel.awaits = s.channel.awaits ∧
    (mutePresence c s).channel.waitCounter = s.channel.waitCounter ∧
    (mutePresence c s).channel.corrections = s.channel.corrections ∧ (mutePresence c s).wake = s.wake ∧
    (mutePresence c s).request = s.request ∧ (mutePresence c s).faults = s.faults ∧
    (mutePresence c s).loader = s.loader ∧ (mutePresence c s).port = s.port ∧ (mutePresence c s).pending = s.pending := by
  simp [mutePresence]

@[simp] theorem muteReport_keeps (s : State) :
    (muteReport s).time = s.time ∧ (muteReport s).pins = s.pins ∧
    (muteReport s).link.integrated = s.link.integrated ∧ (muteReport s).link.receiveErrors = s.link.receiveErrors ∧
    (muteReport s).agreement = s.agreement ∧ (muteReport s).presence = s.presence ∧
    (muteReport s).channel.corrections = s.channel.corrections ∧ (muteReport s).wake.inputs = s.wake.inputs ∧
    (muteReport s).wake.pressed = s.wake.pressed ∧ (muteReport s).wake.debounce = s.wake.debounce ∧
    (muteReport s).wake.longPress = s.wake.longPress ∧ (muteReport s).wake.commonWindow = s.wake.commonWindow ∧
    (muteReport s).wake.queue = s.wake.queue ∧ (muteReport s).wake.minDwell = s.wake.minDwell ∧
    (muteReport s).wake.faultHold = s.wake.faultHold ∧ (muteReport s).wake.demote = s.wake.demote ∧
    (muteReport s).request.underVote = s.request.underVote ∧ (muteReport s).request.deferHold = s.request.deferHold ∧
    (muteReport s).request.lockout = s.request.lockout ∧ (muteReport s).request.refresh = s.request.refresh ∧
    (muteReport s).request.pulses = s.request.pulses ∧ (muteReport s).request.result = s.request.result ∧
    (muteReport s).faults = s.faults ∧ (muteReport s).loader = s.loader ∧ (muteReport s).port = s.port ∧
    (muteReport s).pending = s.pending := by
  unfold muteReport
  (repeat' split) <;> simp

@[simp] theorem muteMonitoring_keeps (s : State) :
    (muteMonitoring s).time = s.time ∧ (muteMonitoring s).pins = s.pins ∧ (muteMonitoring s).link = s.link ∧
    (muteMonitoring s).agreement = s.agreement ∧ (muteMonitoring s).presence = s.presence ∧
    (muteMonitoring s).executor = s.executor ∧ (muteMonitoring s).channel.signals = s.channel.signals ∧
    (muteMonitoring s).channel.awaits = s.channel.awaits ∧
    (muteMonitoring s).channel.waitCounter = s.channel.waitCounter ∧
    (muteMonitoring s).channel.corrections = s.channel.corrections ∧ (muteMonitoring s).wake = s.wake ∧
    (muteMonitoring s).request = s.request ∧ (muteMonitoring s).faults = s.faults ∧
    (muteMonitoring s).loader = s.loader ∧ (muteMonitoring s).port = s.port ∧
    (muteMonitoring s).pending = s.pending := by
  unfold muteMonitoring
  split <;> simp

@[simp] theorem enterMute_keeps (c : MuteCause) (s : State) :
    (enterMute c s).time = s.time ∧ (enterMute c s).pins = s.pins ∧
    (enterMute c s).link.integrated = s.link.integrated ∧ (enterMute c s).link.receiveErrors = s.link.receiveErrors ∧
    (enterMute c s).agreement.believed = s.agreement.believed ∧
    (enterMute c s).agreement.restImage = s.agreement.restImage ∧
    (enterMute c s).agreement.number = s.agreement.number ∧
    (enterMute c s).agreement.lateProposals = s.agreement.lateProposals ∧
    (enterMute c s).agreement.streaks = s.agreement.streaks ∧ (enterMute c s).presence.peers = s.presence.peers ∧
    (enterMute c s).presence.barring = s.presence.barring ∧ (enterMute c s).presence.beat = s.presence.beat ∧
    (enterMute c s).channel.corrections = s.channel.corrections ∧ (enterMute c s).wake.pressed = s.wake.pressed ∧
    (enterMute c s).wake.debounce = s.wake.debounce ∧ (enterMute c s).wake.longPress = s.wake.longPress ∧
    (enterMute c s).wake.commonWindow = s.wake.commonWindow ∧ (enterMute c s).wake.queue = s.wake.queue ∧
    (enterMute c s).wake.minDwell = s.wake.minDwell ∧ (enterMute c s).wake.faultHold = s.wake.faultHold ∧
    (enterMute c s).request.deferHold = s.request.deferHold ∧ (enterMute c s).request.lockout = s.request.lockout ∧
    (enterMute c s).request.refresh = s.request.refresh ∧ (enterMute c s).loader = s.loader ∧
    (enterMute c s).port = s.port ∧ (enterMute c s).pending = s.pending := by
  simp [enterMute]

@[simp] theorem gatherMissing_keeps (s : State) :
    (gatherMissing s).time = s.time ∧ (gatherMissing s).pins = s.pins ∧ (gatherMissing s).link = s.link ∧
    (gatherMissing s).agreement.phase = s.agreement.phase ∧
    (gatherMissing s).agreement.believed = s.agreement.believed ∧
    (gatherMissing s).agreement.restImage = s.agreement.restImage ∧
    (gatherMissing s).agreement.number = s.agreement.number ∧
    (gatherMissing s).agreement.history = s.agreement.history ∧
    (gatherMissing s).agreement.lateProposals = s.agreement.lateProposals ∧
    (gatherMissing s).agreement.streaks = s.agreement.streaks ∧
    (gatherMissing s).agreement.voteWindow = s.agreement.voteWindow ∧
    (gatherMissing s).agreement.voteGuard = s.agreement.voteGuard ∧ (gatherMissing s).presence = s.presence ∧
    (gatherMissing s).executor = s.executor ∧ (gatherMissing s).channel = s.channel ∧
    (gatherMissing s).wake = s.wake ∧ (gatherMissing s).request = s.request ∧ (gatherMissing s).faults = s.faults ∧
    (gatherMissing s).loader = s.loader ∧ (gatherMissing s).port = s.port ∧ (gatherMissing s).pending = s.pending := by
  simp [gatherMissing]

@[simp] theorem forcedCloseCore_keeps (s : State) :
    (forcedCloseCore s).time = s.time ∧ (forcedCloseCore s).pins = s.pins ∧
    (forcedCloseCore s).link.integrated = s.link.integrated ∧
    (forcedCloseCore s).link.receiveErrors = s.link.receiveErrors ∧
    (forcedCloseCore s).agreement.phase = s.agreement.phase ∧
    (forcedCloseCore s).agreement.number = s.agreement.number ∧
    (forcedCloseCore s).agreement.lateProposals = s.agreement.lateProposals ∧
    (forcedCloseCore s).agreement.streaks = s.agreement.streaks ∧ (forcedCloseCore s).presence = s.presence ∧
    (forcedCloseCore s).channel = s.channel ∧ (forcedCloseCore s).wake.inputs = s.wake.inputs ∧
    (forcedCloseCore s).wake.pressed = s.wake.pressed ∧ (forcedCloseCore s).wake.debounce = s.wake.debounce ∧
    (forcedCloseCore s).wake.longPress = s.wake.longPress ∧
    (forcedCloseCore s).wake.commonWindow = s.wake.commonWindow ∧ (forcedCloseCore s).wake.queue = s.wake.queue ∧
    (forcedCloseCore s).wake.minDwell = s.wake.minDwell ∧ (forcedCloseCore s).wake.demote = s.wake.demote ∧
    (forcedCloseCore s).request.underVote = s.request.underVote ∧
    (forcedCloseCore s).request.deferHold = s.request.deferHold ∧
    (forcedCloseCore s).request.lockout = s.request.lockout ∧
    (forcedCloseCore s).request.refresh = s.request.refresh ∧ (forcedCloseCore s).request.pulses = s.request.pulses ∧
    (forcedCloseCore s).request.result = s.request.result ∧ (forcedCloseCore s).loader = s.loader ∧
    (forcedCloseCore s).port = s.port ∧ (forcedCloseCore s).pending = s.pending := by
  simp [forcedCloseCore]

@[simp] theorem forcedClose_keeps (s : State) :
    (forcedClose s).time = s.time ∧ (forcedClose s).pins = s.pins ∧
    (forcedClose s).link.integrated = s.link.integrated ∧ (forcedClose s).link.receiveErrors = s.link.receiveErrors ∧
    (forcedClose s).agreement.lateProposals = s.agreement.lateProposals ∧
    (forcedClose s).agreement.streaks = s.agreement.streaks ∧ (forcedClose s).presence.peers = s.presence.peers ∧
    (forcedClose s).presence.barring = s.presence.barring ∧
    (forcedClose s).presence.alignment = s.presence.alignment ∧ (forcedClose s).channel.awaits = s.channel.awaits ∧
    (forcedClose s).channel.waitCounter = s.channel.waitCounter ∧
    (forcedClose s).request.underVote = s.request.underVote ∧ (forcedClose s).loader = s.loader ∧
    (forcedClose s).port = s.port ∧ (forcedClose s).pending = s.pending := by
  unfold forcedClose
  split <;> simp

@[simp] theorem fullTally_keeps (r : Record) (s : State) :
    (fullTally r s).time = s.time ∧ (fullTally r s).pins = s.pins ∧
    (fullTally r s).link.integrated = s.link.integrated ∧ (fullTally r s).link.receiveErrors = s.link.receiveErrors ∧
    (fullTally r s).agreement.number = s.agreement.number ∧
    (fullTally r s).agreement.lateProposals = s.agreement.lateProposals ∧
    (fullTally r s).presence.peers = s.presence.peers ∧ (fullTally r s).presence.barring = s.presence.barring ∧
    (fullTally r s).presence.muteCause = s.presence.muteCause ∧ (fullTally r s).presence.debt = s.presence.debt ∧
    (fullTally r s).presence.censusWindow = s.presence.censusWindow ∧
    (fullTally r s).presence.barredRetry = s.presence.barredRetry ∧
    (fullTally r s).presence.retryHeld = s.presence.retryHeld ∧
    (fullTally r s).presence.alignment = s.presence.alignment ∧ (fullTally r s).wake.debounce = s.wake.debounce ∧
    (fullTally r s).wake.longPress = s.wake.longPress ∧ (fullTally r s).wake.faultHold = s.wake.faultHold ∧
    (fullTally r s).loader = s.loader ∧ (fullTally r s).port = s.port ∧ (fullTally r s).pending = s.pending := by
  unfold fullTally
  split <;> simp

@[simp] theorem supersede_keeps (c : OpeningCause) (s : State) :
    (supersede c s).time = s.time ∧ (supersede c s).pins = s.pins ∧
    (supersede c s).link.integrated = s.link.integrated ∧ (supersede c s).link.receiveErrors = s.link.receiveErrors ∧
    (supersede c s).agreement.phase = s.agreement.phase ∧ (supersede c s).agreement.believed = s.agreement.believed ∧
    (supersede c s).agreement.restImage = s.agreement.restImage ∧
    (supersede c s).agreement.number = s.agreement.number ∧
    (supersede c s).agreement.lateProposals = s.agreement.lateProposals ∧
    (supersede c s).agreement.streaks = s.agreement.streaks ∧ (supersede c s).presence = s.presence ∧
    (supersede c s).channel.corrections = s.channel.corrections ∧ (supersede c s).wake.inputs = s.wake.inputs ∧
    (supersede c s).wake.pressed = s.wake.pressed ∧ (supersede c s).wake.debounce = s.wake.debounce ∧
    (supersede c s).wake.longPress = s.wake.longPress ∧ (supersede c s).wake.commonWindow = s.wake.commonWindow ∧
    (supersede c s).wake.queue = s.wake.queue ∧ (supersede c s).wake.minDwell = s.wake.minDwell ∧
    (supersede c s).wake.faultHold = s.wake.faultHold ∧ (supersede c s).wake.demote = s.wake.demote ∧
    (supersede c s).request.deferHold = s.request.deferHold ∧ (supersede c s).request.lockout = s.request.lockout ∧
    (supersede c s).request.refresh = s.request.refresh ∧ (supersede c s).loader = s.loader ∧
    (supersede c s).port = s.port ∧ (supersede c s).pending = s.pending := by
  unfold supersede
  split <;> simp

@[simp] theorem purgeAtOpening_keeps (forced : Bool) (s : State) :
    (purgeAtOpening forced s).time = s.time ∧ (purgeAtOpening forced s).pins = s.pins ∧
    (purgeAtOpening forced s).link.integrated = s.link.integrated ∧
    (purgeAtOpening forced s).link.receiveErrors = s.link.receiveErrors ∧
    (purgeAtOpening forced s).agreement = s.agreement ∧ (purgeAtOpening forced s).presence = s.presence ∧
    (purgeAtOpening forced s).executor = s.executor ∧ (purgeAtOpening forced s).channel = s.channel ∧
    (purgeAtOpening forced s).wake.inputs = s.wake.inputs ∧ (purgeAtOpening forced s).wake.pressed = s.wake.pressed ∧
    (purgeAtOpening forced s).wake.debounce = s.wake.debounce ∧
    (purgeAtOpening forced s).wake.longPress = s.wake.longPress ∧
    (purgeAtOpening forced s).wake.commonWindow = s.wake.commonWindow ∧
    (purgeAtOpening forced s).wake.queue = s.wake.queue ∧ (purgeAtOpening forced s).wake.minDwell = s.wake.minDwell ∧
    (purgeAtOpening forced s).wake.faultHold = s.wake.faultHold ∧
    (purgeAtOpening forced s).wake.demote = s.wake.demote ∧
    (purgeAtOpening forced s).request.underVote = s.request.underVote ∧
    (purgeAtOpening forced s).request.deferHold = s.request.deferHold ∧
    (purgeAtOpening forced s).request.lockout = s.request.lockout ∧
    (purgeAtOpening forced s).request.refresh = s.request.refresh ∧
    (purgeAtOpening forced s).request.pulses = s.request.pulses ∧
    (purgeAtOpening forced s).request.result = s.request.result ∧ (purgeAtOpening forced s).faults = s.faults ∧
    (purgeAtOpening forced s).loader = s.loader ∧ (purgeAtOpening forced s).port = s.port ∧
    (purgeAtOpening forced s).pending = s.pending := by
  unfold purgeAtOpening
  split <;> simp

@[simp] theorem openTransaction_keeps (o : Opening) (p : Phase) (s : State) :
    (openTransaction o p s).time = s.time ∧ (openTransaction o p s).pins = s.pins ∧
    (openTransaction o p s).link.integrated = s.link.integrated ∧
    (openTransaction o p s).link.receiveErrors = s.link.receiveErrors ∧
    (openTransaction o p s).agreement.believed = s.agreement.believed ∧
    (openTransaction o p s).agreement.restImage = s.agreement.restImage ∧
    (openTransaction o p s).agreement.history = s.agreement.history ∧
    (openTransaction o p s).agreement.lateProposals = s.agreement.lateProposals ∧
    (openTransaction o p s).agreement.streaks = s.agreement.streaks ∧
    (openTransaction o p s).agreement.voteWindow = s.agreement.voteWindow ∧
    (openTransaction o p s).agreement.voteGuard = s.agreement.voteGuard ∧
    (openTransaction o p s).presence.peers = s.presence.peers ∧
    (openTransaction o p s).presence.barring = s.presence.barring ∧
    (openTransaction o p s).presence.muteCause = s.presence.muteCause ∧
    (openTransaction o p s).presence.debt = s.presence.debt ∧
    (openTransaction o p s).presence.censusWindow = s.presence.censusWindow ∧
    (openTransaction o p s).presence.barredRetry = s.presence.barredRetry ∧
    (openTransaction o p s).presence.retryHeld = s.presence.retryHeld ∧
    (openTransaction o p s).presence.alignment = s.presence.alignment ∧
    (openTransaction o p s).executor = s.executor ∧ (openTransaction o p s).channel = s.channel ∧
    (openTransaction o p s).wake.pressed = s.wake.pressed ∧ (openTransaction o p s).wake.debounce = s.wake.debounce ∧
    (openTransaction o p s).wake.longPress = s.wake.longPress ∧
    (openTransaction o p s).wake.commonWindow = s.wake.commonWindow ∧
    (openTransaction o p s).wake.queue = s.wake.queue ∧ (openTransaction o p s).wake.minDwell = s.wake.minDwell ∧
    (openTransaction o p s).wake.faultHold = s.wake.faultHold ∧
    (openTransaction o p s).request.underVote = s.request.underVote ∧
    (openTransaction o p s).request.deferHold = s.request.deferHold ∧
    (openTransaction o p s).request.lockout = s.request.lockout ∧
    (openTransaction o p s).request.refresh = s.request.refresh ∧
    (openTransaction o p s).request.pulses = s.request.pulses ∧
    (openTransaction o p s).request.result = s.request.result ∧ (openTransaction o p s).faults = s.faults ∧
    (openTransaction o p s).loader = s.loader ∧ (openTransaction o p s).port = s.port ∧
    (openTransaction o p s).pending = s.pending := by
  simp [openTransaction]

@[simp] theorem openForced_keeps (cause : OpeningCause) (originator : StationId) (faults : List (FaultCode × StationId)) (s : State) :
    (openForced cause originator faults s).time = s.time ∧ (openForced cause originator faults s).pins = s.pins ∧
    (openForced cause originator faults s).link.integrated = s.link.integrated ∧
    (openForced cause originator faults s).link.receiveErrors = s.link.receiveErrors ∧
    (openForced cause originator faults s).agreement.believed = s.agreement.believed ∧
    (openForced cause originator faults s).agreement.restImage = s.agreement.restImage ∧
    (openForced cause originator faults s).agreement.lateProposals = s.agreement.lateProposals ∧
    (openForced cause originator faults s).agreement.streaks = s.agreement.streaks ∧
    (openForced cause originator faults s).presence.peers = s.presence.peers ∧
    (openForced cause originator faults s).presence.barring = s.presence.barring ∧
    (openForced cause originator faults s).presence.muteCause = s.presence.muteCause ∧
    (openForced cause originator faults s).presence.debt = s.presence.debt ∧
    (openForced cause originator faults s).presence.censusWindow = s.presence.censusWindow ∧
    (openForced cause originator faults s).presence.barredRetry = s.presence.barredRetry ∧
    (openForced cause originator faults s).presence.retryHeld = s.presence.retryHeld ∧
    (openForced cause originator faults s).presence.alignment = s.presence.alignment ∧
    (openForced cause originator faults s).channel.corrections = s.channel.corrections ∧
    (openForced cause originator faults s).wake.pressed = s.wake.pressed ∧
    (openForced cause originator faults s).wake.debounce = s.wake.debounce ∧
    (openForced cause originator faults s).wake.longPress = s.wake.longPress ∧
    (openForced cause originator faults s).wake.commonWindow = s.wake.commonWindow ∧
    (openForced cause originator faults s).wake.queue = s.wake.queue ∧
    (openForced cause originator faults s).wake.minDwell = s.wake.minDwell ∧
    (openForced cause originator faults s).wake.faultHold = s.wake.faultHold ∧
    (openForced cause originator faults s).request.deferHold = s.request.deferHold ∧
    (openForced cause originator faults s).request.lockout = s.request.lockout ∧
    (openForced cause originator faults s).request.refresh = s.request.refresh ∧
    (openForced cause originator faults s).loader = s.loader ∧ (openForced cause originator faults s).port = s.port ∧
    (openForced cause originator faults s).pending = s.pending := by
  simp [openForced]

@[simp] theorem tallyAtOpening_keeps (s : State) :
    (tallyAtOpening s).time = s.time ∧ (tallyAtOpening s).pins = s.pins ∧
    (tallyAtOpening s).link.integrated = s.link.integrated ∧
    (tallyAtOpening s).link.receiveErrors = s.link.receiveErrors ∧
    (tallyAtOpening s).agreement.believed = s.agreement.believed ∧
    (tallyAtOpening s).agreement.restImage = s.agreement.restImage ∧
    (tallyAtOpening s).agreement.number = s.agreement.number ∧
    (tallyAtOpening s).agreement.history = s.agreement.history ∧
    (tallyAtOpening s).agreement.lateProposals = s.agreement.lateProposals ∧
    (tallyAtOpening s).presence = s.presence ∧ (tallyAtOpening s).channel.corrections = s.channel.corrections ∧
    (tallyAtOpening s).wake.inputs = s.wake.inputs ∧ (tallyAtOpening s).wake.pressed = s.wake.pressed ∧
    (tallyAtOpening s).wake.debounce = s.wake.debounce ∧ (tallyAtOpening s).wake.longPress = s.wake.longPress ∧
    (tallyAtOpening s).wake.commonWindow = s.wake.commonWindow ∧ (tallyAtOpening s).wake.queue = s.wake.queue ∧
    (tallyAtOpening s).wake.minDwell = s.wake.minDwell ∧ (tallyAtOpening s).wake.faultHold = s.wake.faultHold ∧
    (tallyAtOpening s).wake.demote = s.wake.demote ∧ (tallyAtOpening s).request.deferHold = s.request.deferHold ∧
    (tallyAtOpening s).request.lockout = s.request.lockout ∧ (tallyAtOpening s).request.refresh = s.request.refresh ∧
    (tallyAtOpening s).faults = s.faults ∧ (tallyAtOpening s).loader = s.loader ∧ (tallyAtOpening s).port = s.port ∧
    (tallyAtOpening s).pending = s.pending := by
  unfold tallyAtOpening
  (repeat' split) <;> simp

@[simp] theorem startVoteTimer_keeps (originator : StationId) (s : State) :
    (startVoteTimer originator s).time = s.time ∧ (startVoteTimer originator s).pins = s.pins ∧
    (startVoteTimer originator s).link = s.link ∧ (startVoteTimer originator s).agreement.phase = s.agreement.phase ∧
    (startVoteTimer originator s).agreement.believed = s.agreement.believed ∧
    (startVoteTimer originator s).agreement.restImage = s.agreement.restImage ∧
    (startVoteTimer originator s).agreement.number = s.agreement.number ∧
    (startVoteTimer originator s).agreement.record = s.agreement.record ∧
    (startVoteTimer originator s).agreement.history = s.agreement.history ∧
    (startVoteTimer originator s).agreement.lateProposals = s.agreement.lateProposals ∧
    (startVoteTimer originator s).agreement.streaks = s.agreement.streaks ∧
    (startVoteTimer originator s).presence = s.presence ∧ (startVoteTimer originator s).executor = s.executor ∧
    (startVoteTimer originator s).channel = s.channel ∧ (startVoteTimer originator s).wake = s.wake ∧
    (startVoteTimer originator s).request = s.request ∧ (startVoteTimer originator s).faults = s.faults ∧
    (startVoteTimer originator s).loader = s.loader ∧ (startVoteTimer originator s).port = s.port ∧
    (startVoteTimer originator s).pending = s.pending := by
  unfold startVoteTimer
  split <;> simp

@[simp] theorem openVoting_keeps (originator : StationId) (kind : Kind) (imageBacked : Bool) (inh : Inhibits) (s : State) :
    (openVoting originator kind imageBacked inh s).time = s.time ∧
    (openVoting originator kind imageBacked inh s).pins = s.pins ∧
    (openVoting originator kind imageBacked inh s).link.integrated = s.link.integrated ∧
    (openVoting originator kind imageBacked inh s).link.receiveErrors = s.link.receiveErrors ∧
    (openVoting originator kind imageBacked inh s).agreement.believed = s.agreement.believed ∧
    (openVoting originator kind imageBacked inh s).agreement.restImage = s.agreement.restImage ∧
    (openVoting originator kind imageBacked inh s).agreement.history = s.agreement.history ∧
    (openVoting originator kind imageBacked inh s).agreement.lateProposals = s.agreement.lateProposals ∧
    (openVoting originator kind imageBacked inh s).presence.peers = s.presence.peers ∧
    (openVoting originator kind imageBacked inh s).presence.barring = s.presence.barring ∧
    (openVoting originator kind imageBacked inh s).presence.muteCause = s.presence.muteCause ∧
    (openVoting originator kind imageBacked inh s).presence.debt = s.presence.debt ∧
    (openVoting originator kind imageBacked inh s).presence.censusWindow = s.presence.censusWindow ∧
    (openVoting originator kind imageBacked inh s).presence.barredRetry = s.presence.barredRetry ∧
    (openVoting originator kind imageBacked inh s).presence.retryHeld = s.presence.retryHeld ∧
    (openVoting originator kind imageBacked inh s).presence.alignment = s.presence.alignment ∧
    (openVoting originator kind imageBacked inh s).channel.corrections = s.channel.corrections ∧
    (openVoting originator kind imageBacked inh s).wake.pressed = s.wake.pressed ∧
    (openVoting originator kind imageBacked inh s).wake.debounce = s.wake.debounce ∧
    (openVoting originator kind imageBacked inh s).wake.longPress = s.wake.longPress ∧
    (openVoting originator kind imageBacked inh s).wake.commonWindow = s.wake.commonWindow ∧
    (openVoting originator kind imageBacked inh s).wake.queue = s.wake.queue ∧
    (openVoting originator kind imageBacked inh s).wake.minDwell = s.wake.minDwell ∧
    (openVoting originator kind imageBacked inh s).wake.faultHold = s.wake.faultHold ∧
    (openVoting originator kind imageBacked inh s).request.deferHold = s.request.deferHold ∧
    (openVoting originator kind imageBacked inh s).request.lockout = s.request.lockout ∧
    (openVoting originator kind imageBacked inh s).request.refresh = s.request.refresh ∧
    (openVoting originator kind imageBacked inh s).faults = s.faults ∧
    (openVoting originator kind imageBacked inh s).loader = s.loader ∧
    (openVoting originator kind imageBacked inh s).port = s.port ∧
    (openVoting originator kind imageBacked inh s).pending = s.pending := by
  simp [openVoting]

@[simp] theorem openWake_keeps (sender : StationId) (target : WakeTarget) (input : Fin 8) (s : State) :
    (openWake sender target input s).time = s.time ∧ (openWake sender target input s).pins = s.pins ∧
    (openWake sender target input s).link.integrated = s.link.integrated ∧
    (openWake sender target input s).link.receiveErrors = s.link.receiveErrors ∧
    (openWake sender target input s).agreement.believed = s.agreement.believed ∧
    (openWake sender target input s).agreement.restImage = s.agreement.restImage ∧
    (openWake sender target input s).agreement.history = s.agreement.history ∧
    (openWake sender target input s).agreement.lateProposals = s.agreement.lateProposals ∧
    (openWake sender target input s).agreement.streaks = s.agreement.streaks ∧
    (openWake sender target input s).agreement.voteWindow = s.agreement.voteWindow ∧
    (openWake sender target input s).agreement.voteGuard = s.agreement.voteGuard ∧
    (openWake sender target input s).presence.peers = s.presence.peers ∧
    (openWake sender target input s).presence.barring = s.presence.barring ∧
    (openWake sender target input s).presence.muteCause = s.presence.muteCause ∧
    (openWake sender target input s).presence.debt = s.presence.debt ∧
    (openWake sender target input s).presence.censusWindow = s.presence.censusWindow ∧
    (openWake sender target input s).presence.barredRetry = s.presence.barredRetry ∧
    (openWake sender target input s).presence.retryHeld = s.presence.retryHeld ∧
    (openWake sender target input s).presence.alignment = s.presence.alignment ∧
    (openWake sender target input s).channel.corrections = s.channel.corrections ∧
    (openWake sender target input s).wake.pressed = s.wake.pressed ∧
    (openWake sender target input s).wake.debounce = s.wake.debounce ∧
    (openWake sender target input s).wake.longPress = s.wake.longPress ∧
    (openWake sender target input s).wake.commonWindow = s.wake.commonWindow ∧
    (openWake sender target input s).wake.queue = s.wake.queue ∧
    (openWake sender target input s).wake.minDwell = s.wake.minDwell ∧
    (openWake sender target input s).wake.faultHold = s.wake.faultHold ∧
    (openWake sender target input s).request.underVote = s.request.underVote ∧
    (openWake sender target input s).request.deferHold = s.request.deferHold ∧
    (openWake sender target input s).request.lockout = s.request.lockout ∧
    (openWake sender target input s).request.refresh = s.request.refresh ∧
    (openWake sender target input s).request.pulses = s.request.pulses ∧
    (openWake sender target input s).request.result = s.request.result ∧
    (openWake sender target input s).faults = s.faults ∧ (openWake sender target input s).loader = s.loader ∧
    (openWake sender target input s).port = s.port ∧ (openWake sender target input s).pending = s.pending := by
  simp [openWake]

@[simp] theorem tally_keeps (sender : StationId) (a : Answer) (s : State) :
    (tally sender a s).time = s.time ∧ (tally sender a s).pins = s.pins ∧
    (tally sender a s).link.integrated = s.link.integrated ∧
    (tally sender a s).link.receiveErrors = s.link.receiveErrors ∧
    (tally sender a s).agreement.number = s.agreement.number ∧
    (tally sender a s).agreement.lateProposals = s.agreement.lateProposals ∧
    (tally sender a s).presence.peers = s.presence.peers ∧ (tally sender a s).presence.barring = s.presence.barring ∧
    (tally sender a s).presence.muteCause = s.presence.muteCause ∧
    (tally sender a s).presence.debt = s.presence.debt ∧
    (tally sender a s).presence.censusWindow = s.presence.censusWindow ∧
    (tally sender a s).presence.barredRetry = s.presence.barredRetry ∧
    (tally sender a s).presence.retryHeld = s.presence.retryHeld ∧
    (tally sender a s).presence.alignment = s.presence.alignment ∧
    (tally sender a s).wake.debounce = s.wake.debounce ∧ (tally sender a s).wake.longPress = s.wake.longPress ∧
    (tally sender a s).wake.faultHold = s.wake.faultHold ∧ (tally sender a s).loader = s.loader ∧
    (tally sender a s).port = s.port ∧ (tally sender a s).pending = s.pending := by
  unfold tally
  (repeat' split) <;> simp

@[simp] theorem withdrawAdoption_keeps (s : State) :
    (withdrawAdoption s).time = s.time ∧ (withdrawAdoption s).pins = s.pins ∧ (withdrawAdoption s).link = s.link ∧
    (withdrawAdoption s).agreement.phase = s.agreement.phase ∧
    (withdrawAdoption s).agreement.restImage = s.agreement.restImage ∧
    (withdrawAdoption s).agreement.record = s.agreement.record ∧
    (withdrawAdoption s).agreement.history = s.agreement.history ∧
    (withdrawAdoption s).agreement.lateProposals = s.agreement.lateProposals ∧
    (withdrawAdoption s).agreement.streaks = s.agreement.streaks ∧
    (withdrawAdoption s).agreement.voteWindow = s.agreement.voteWindow ∧
    (withdrawAdoption s).agreement.voteGuard = s.agreement.voteGuard ∧
    (withdrawAdoption s).presence.peers = s.presence.peers ∧
    (withdrawAdoption s).presence.barring = s.presence.barring ∧
    (withdrawAdoption s).presence.muteCause = s.presence.muteCause ∧
    (withdrawAdoption s).presence.beat = s.presence.beat ∧
    (withdrawAdoption s).presence.beatTimer = s.presence.beatTimer ∧
    (withdrawAdoption s).presence.debt = s.presence.debt ∧
    (withdrawAdoption s).presence.barredRetry = s.presence.barredRetry ∧
    (withdrawAdoption s).presence.retryHeld = s.presence.retryHeld ∧ (withdrawAdoption s).executor = s.executor ∧
    (withdrawAdoption s).channel.signals = s.channel.signals ∧
    (withdrawAdoption s).channel.awaits = s.channel.awaits ∧
    (withdrawAdoption s).channel.waitCounter = s.channel.waitCounter ∧
    (withdrawAdoption s).channel.corrections = s.channel.corrections ∧ (withdrawAdoption s).wake = s.wake ∧
    (withdrawAdoption s).request = s.request ∧ (withdrawAdoption s).faults = s.faults ∧
    (withdrawAdoption s).loader = s.loader ∧ (withdrawAdoption s).port = s.port ∧
    (withdrawAdoption s).pending = s.pending := by
  unfold withdrawAdoption
  split <;> simp

end Sys2Proof.Machine
end

