-- ==== Sys2Proof/Laws/Slots.lean ====
section
/-! SUPPORT. What stands in a slot after a fill, a purge and a request: the slot of the kind named, and every other. -/

namespace Sys2Proof.Machine

open Sys2Proof

/-! ### Tables -/

@[simp] theorem tabGet_tabSet_same {n : Nat} {α : Type} (t : Table n α) (i : Fin n) (x : α) :
    tabGet (tabSet t i x) i = x := by
  simp [tabGet, tabSet]

theorem tabGet_tabSet_ne {n : Nat} {α : Type} (t : Table n α) {i j : Fin n} (h : j ≠ i) (x : α) :
    tabGet (tabSet t i x) j = tabGet t j := by
  have : i.val ≠ j.val := fun q => h (Fin.ext q.symm)
  simp [tabGet, tabSet, this]

@[simp] theorem tabGet_tabOf {n : Nat} {α : Type} (f : Fin n → α) (i : Fin n) : tabGet (tabOf f) i = f i := by
  simp [tabGet, tabOf]

@[simp] theorem tabGet_tabMap {n : Nat} {α β : Type} (f : Fin n → α → β) (t : Table n α) (i : Fin n) :
    tabGet (tabMap f t) i = f i (tabGet t i) := by
  simp [tabMap]

/-! ### One slot written -/

/-- Each kind has a slot of its own (R130, R136). -/
theorem FrameKind.class_injective {j k : FrameKind} (h : j.class = k.class) : j = k := by
  cases j <;> cases k <;> first | rfl | exact absurd h (by decide)

@[simp] theorem slot_withSlot_same (s : State) (k : FrameKind) (x : Slot) : (s.withSlot k x).slot k = x :=
  tabGet_tabSet_same ..

theorem slot_withSlot_ne (s : State) {j k : FrameKind} (h : j ≠ k) (x : Slot) : (s.withSlot k x).slot j = s.slot j :=
  tabGet_tabSet_ne _ (fun q => h (FrameKind.class_injective q)) _

/-- A slot is read off the link alone. -/
theorem slot_eq_of_link {s t : State} (h : t.link = s.link) (k : FrameKind) : t.slot k = s.slot k := by
  unfold State.slot
  rw [h]

@[simp] theorem reportPurged_slot (r : Ready) (s : State) (k : FrameKind) : (reportPurged r s).slot k = s.slot k :=
  slot_eq_of_link (by simp) k

@[simp] theorem reportQueued_slot (q : Option Queued) (s : State) (k : FrameKind) :
    (reportQueued q s).slot k = s.slot k :=
  slot_eq_of_link (by simp) k

/-- A fill that the link controller takes (R136). -/
theorem fillSlot_slot_same {s : State} {k : FrameKind} (h : s.takesFill k = true) (q : Queued) :
    (fillSlot k q s).slot k = { s.slot k with
      queued := some q, rejections := if (s.slot k).sending.isNone then 0 else (s.slot k).rejections } := by
  simp [fillSlot, h]

theorem fillSlot_slot_ne (s : State) {j k : FrameKind} (h : j ≠ k) (q : Queued) :
    (fillSlot k q s).slot j = s.slot j := by
  unfold fillSlot
  split
  · simp [slot_withSlot_ne _ h]
  · simp

theorem fillFrame_slot_ne (s : State) {j : FrameKind} {body : Body} (h : j ≠ body.kind) (n : TxnNumber) :
    (fillFrame n body s).slot j = s.slot j :=
  fillSlot_slot_ne s h _

/-- A frame that the link controller takes stands queued in its slot. -/
theorem fillFrame_hasQueued {s : State} {body : Body} (h : s.takesFill body.kind = true) (n : TxnNumber) :
    (fillFrame n body s).hasQueued body.kind n body := by
  have hl : (fillFrame n body s).loader = s.loader := by simp
  unfold State.hasQueued fillFrame
  rw [fillSlot_slot_same h]
  simp [State.ownReady, State.ownFrame, State.me]

/-- Outside MUTE every fill is taken (R139). -/
theorem takesFill_of_phase {s : State} (h : s.agreement.phase ≠ .mute) (k : FrameKind) : s.takesFill k = true := by
  simp [State.takesFill, h]

/-! ### Purges (R138) -/

theorem purgeKind_slot_same (k : FrameKind) (test : Frame → Bool) (s : State) :
    (purgeKind k test s).slot k =
      { queued := if queuedMatches test (s.slot k).queued then none else (s.slot k).queued
        sending := (s.slot k).sending
        rejections := if queuedMatches test (s.slot k).queued then 0 else (s.slot k).rejections
        purgeMark := (s.slot k).purgeMark || sendingMatches test (s.slot k).sending } := by
  simp only [purgeKind]
  split <;> simp_all

theorem purgeKind_slot_ne (s : State) {j k : FrameKind} (h : j ≠ k) (test : Frame → Bool) :
    (purgeKind k test s).slot j = s.slot j := by
  simp only [purgeKind]
  split <;> simp [slot_withSlot_ne _ h]

/-! ### A FAULT requested (R101) -/

/-- A request of a FAULT disturbs no other slot, no owner and no request: a queued FAULT that it replaces is reported to
nobody. -/
theorem requestFault_owners (code : FaultCode) (target : Target) (s : State) :
    (requestFault code target s).wake = s.wake ∧ (requestFault code target s).request = s.request ∧
    ∀ j, j ≠ .fault → (requestFault code target s).slot j = s.slot j := by
  unfold requestFault
  split
  · rename_i h
    have hr : reportQueued (s.slot .fault).queued s = s := by
      unfold reportQueued
      split
      · rename_i r hq
        rw [hq] at h
        simp only [passesFault, isPeerLostFault, Bool.and_eq_true] at h
        unfold reportPurged
        cases hb : r.frame.body <;> simp_all
      · rfl
    refine ⟨?_, ?_, fun j hj => fillFrame_slot_ne s (by exact hj) _⟩ <;>
    · simp only [fillFrame, fillSlot, Body.kind, hr]
      by_cases ht : s.takesFill .fault = true <;> simp [ht, reportQueued, reportPurged, State.ownFrame]
  · exact ⟨rfl, rfl, fun _ _ => rfl⟩

/-- After a request of a FAULT outside MUTE one stands queued. -/
theorem requestFault_queued {s : State} (h : s.agreement.phase ≠ .mute) (code : FaultCode) (target : Target) :
    ((requestFault code target s).slot .fault).queued.isSome = true := by
  unfold requestFault
  split
  · have := fillFrame_hasQueued (body := .fault code target) (takesFill_of_phase h _) s.nextNumber
    unfold State.hasQueued at this
    simp only [Body.kind] at this
    rw [this]
    rfl
  · rename_i hn
    unfold passesFault at hn
    split at hn <;> simp_all

end Sys2Proof.Machine
end

