-- ==== Sys2Proof/Laws/Alignment.lean ====
section
/-! SUPPORT. What alignment does with its steps (R152): the one step issued, and a list of them up to the first that takes
time. -/

namespace Sys2Proof.Machine

open Sys2Proof

/-! ### Rails read after a write -/

@[simp] theorem rail_withRail_same (s : State) (ch : Fin 6) (r : Rail) : (s.withRail ch r).rail ch = r :=
  tabGet_tabSet_same ..

theorem rail_withRail_ne (s : State) {j ch : Fin 6} (h : j ≠ ch) (r : Rail) : (s.withRail ch r).rail j = s.rail j :=
  tabGet_tabSet_ne _ h _

@[simp] theorem railParams_withRail (s : State) (ch j : Fin 6) (r : Rail) :
    (s.withRail ch r).railParams j = s.railParams j := rfl

@[simp] theorem powerGood_withRail (s : State) (ch j : Fin 6) (r : Rail) :
    (s.withRail ch r).powerGood j = s.powerGood j := rfl

@[simp] theorem withRail_withRail (s : State) (ch : Fin 6) (r r' : Rail) :
    (s.withRail ch r).withRail ch r' = s.withRail ch r' := by
  simp [State.withRail, tabSet]

/-! ### One step -/

/-- What an alignment step writes as it is issued: its rail, or its signal at once (R152). -/
def State.afterStep (s : State) : Change → State
  | .raise ch => s.withRail ch (s.alignedRail ch true)
  | .drop ch => s.withRail ch (s.alignedRail ch false)
  | .setHigh i => setSignal i .high s
  | .setLow i => setSignal i .low s

/-- The step is one that alignment can have: its output is in use and at the other level (R42, R152). -/
def State.stepFits (s : State) : Change → Prop
  | .raise ch => (s.railParams ch).enabled = true ∧ s.enable ch = .low
  | .drop ch => (s.railParams ch).enabled = true ∧ s.enable ch = .high
  | .setHigh i => s.signal i = .low
  | .setLow i => s.signal i = .high

/-- The output that a change moves. -/
def outputOf : Change → Fin 6 ⊕ Fin 4
  | .raise ch => .inl ch
  | .drop ch => .inl ch
  | .setHigh i => .inr i
  | .setLow i => .inr i

/-- A rail action issued by alignment on a rail at the other level. -/
theorem issueRail_alignment {s : State} {ch : Fin 6} {up : Bool} (he : (s.railParams ch).enabled = true)
    (hl : s.enable ch = if up then .low else .high)
    (hm : (s.alignedRail ch up).state.standing = false ∨ s.agreement.phase.monitors = false) :
    issueRail ch ⟨.alignment, up⟩ s =
      (s.withRail ch (s.alignedRail ch up),
        if !(s.alignedRail ch up).state.standing then none else some .changed) := by
  unfold issueRail
  rw [he]
  unfold State.alignedRail alignedRail at hm ⊢
  unfold State.enable at hl
  unfold startStanding startRaise startDrop enterHoldingUp enterHoldingDown enterTimed enterOn enterLow takeAction
    stoppedMonitoring
  cases up <;> cases hst : (s.rail ch).state <;> cases hp : s.powerGood ch <;>
    simp_all [RailState.standing, RailState.enable]
  · by_cases hz : (s.railParams ch).holdDown = 0 <;> simp [hz]
  all_goals by_cases hz : (s.railParams ch).holdUp = 0 <;> simp_all

/-- A step of alignment completes *changed* at once, or takes time (R152). Where dropout monitoring is active a RAISE that is
ON at once would start it, which is never so in CENSUS (R71). -/
theorem issueChange_alignment {s : State} {c : Change} (h : s.stepFits c)
    (hm : s.stepTakesTime c = true ∨ s.agreement.phase.monitors = false) :
    issueChange c .alignment s = (s.afterStep c, if s.stepTakesTime c then none else some .changed) := by
  cases c with
  | raise ch => exact issueRail_alignment (up := true) h.1 h.2 (by simpa [State.stepTakesTime] using hm)
  | drop ch => exact issueRail_alignment (up := false) h.1 h.2 (by simpa [State.stepTakesTime] using hm)
  | setHigh i =>
    have : s.signal i = .low := h
    simp [issueChange, issueSet, this, State.afterStep, State.stepTakesTime]
  | setLow i =>
    have : s.signal i = .high := h
    simp [issueChange, issueSet, this, State.afterStep, State.stepTakesTime]

/-! ### A list of steps -/

theorem signalAt_withSignal_same (s : State) (i : Fin 4) (x : Signal) : (s.withSignal i x).signalAt i = x :=
  tabGet_tabSet_same ..

theorem signalAt_withSignal_ne (s : State) {j i : Fin 4} (h : j ≠ i) (x : Signal) :
    (s.withSignal i x).signalAt j = s.signalAt j :=
  tabGet_tabSet_ne _ h _

/-- A step leaves every output but its own. -/
theorem afterStep_keeps (s : State) (c : Change) :
    (s.afterStep c) = { s with channel := { s.channel with
      rails := (s.afterStep c).channel.rails, signals := (s.afterStep c).channel.signals } } ∧
    (∀ ch, outputOf c ≠ .inl ch → (s.afterStep c).rail ch = s.rail ch) ∧
    ∀ i, outputOf c ≠ .inr i → (s.afterStep c).signalAt i = s.signalAt i := by
  cases c <;> refine ⟨rfl, fun ch h => ?_, fun i h => ?_⟩ <;>
    simp only [outputOf, ne_eq, Sum.inl.injEq, Sum.inr.injEq, not_false_eq_true, reduceCtorEq] at h <;> try rfl
  · exact rail_withRail_ne s (fun q => h q.symm) _
  · exact rail_withRail_ne s (fun q => h q.symm) _
  · exact signalAt_withSignal_ne s (fun q => h q.symm) _
  · exact signalAt_withSignal_ne s (fun q => h q.symm) _

/-- Whether a step fits, and whether it takes time, is read off its own output. -/
theorem afterStep_other (s : State) {c d : Change} (h : outputOf c ≠ outputOf d) :
    ((s.afterStep c).stepFits d ↔ s.stepFits d) ∧ (s.afterStep c).stepTakesTime d = s.stepTakesTime d := by
  obtain ⟨hk, hr, hs⟩ := afterStep_keeps s c
  have hp : ∀ ch, (s.afterStep c).railParams ch = s.railParams ch := fun ch => by rw [hk]; rfl
  have hg : ∀ ch, (s.afterStep c).powerGood ch = s.powerGood ch := fun ch => by rw [hk]; rfl
  cases d with
  | raise ch => simp [State.stepFits, State.stepTakesTime, State.enable, State.alignedRail, hp, hg, hr ch h]
  | drop ch => simp [State.stepFits, State.stepTakesTime, State.enable, State.alignedRail, hp, hg, hr ch h]
  | setHigh i =>
    have := hs i h
    unfold State.signalAt at this
    simp [State.stepFits, State.stepTakesTime, State.signal, this]
  | setLow i =>
    have := hs i h
    unfold State.signalAt at this
    simp [State.stepFits, State.stepTakesTime, State.signal, this]

/-- Alignment up to the first step that takes time (R152). -/
theorem runAlignment_takesTime {done : List Change} {c : Change} (rest : List Change) {s : State}
    (hf : ∀ d ∈ done ++ [c], s.stepFits d) (hn : ((done ++ [c]).map outputOf).Nodup)
    (hd : ∀ d ∈ done, s.stepTakesTime d = false) (hc : s.stepTakesTime c = true)
    (hm : done = [] ∨ s.agreement.phase.monitors = false) :
    runAlignment (done ++ c :: rest) s =
      ((done ++ [c]).foldl State.afterStep s).withPresence { s.presence with alignment := some rest } := by
  induction done generalizing s with
  | nil =>
    rw [List.nil_append, runAlignment, issueChange_alignment (hf c (by simp)) (.inl hc), if_pos hc]
    have := (afterStep_keeps s c).1
    simp only [List.nil_append, List.foldl_cons, List.foldl_nil]
    rw [this]
  | cons d l ih =>
    have hm := hm.resolve_left (by simp)
    have hdd := hd d (by simp)
    rw [List.cons_append, runAlignment, issueChange_alignment (hf d (by simp)) (.inr hm), hdd]
    simp only [List.cons_append, List.map_cons, List.nodup_cons] at hn
    have hne : ∀ x ∈ l ++ [c], outputOf d ≠ outputOf x := fun x hx q => hn.1 (q ▸ List.mem_map_of_mem hx)
    have hk := (afterStep_keeps s d).1
    have := ih (s := s.afterStep d) (fun x hx => (afterStep_other s (hne x hx)).1.2 (hf x (by simp_all)))
      hn.2 (fun x hx => by rw [(afterStep_other s (hne x (by simp [hx]))).2]; exact hd x (by simp [hx]))
      (by rw [(afterStep_other s (hne c (by simp))).2]; exact hc) (.inr (by rw [hk]; exact hm))
    simp only [Bool.false_eq_true, if_false, List.foldl_cons, List.cons_append]
    rw [this]
    have hp : (s.afterStep d).presence = s.presence := by rw [hk]
    rw [hp]

/-- Alignment with no step that takes time ends census (R152). -/
theorem runAlignment_atOnce {l : List Change} {s : State} (hf : ∀ d ∈ l, s.stepFits d) (hn : (l.map outputOf).Nodup)
    (hd : ∀ d ∈ l, s.stepTakesTime d = false) (hm : s.agreement.phase.monitors = false) :
    runAlignment l s = endCensus (l.foldl State.afterStep s) := by
  induction l generalizing s with
  | nil => rfl
  | cons d l ih =>
    rw [runAlignment, issueChange_alignment (hf d (by simp)) (.inr hm), hd d (by simp)]
    simp only [List.map_cons, List.nodup_cons] at hn
    have hne : ∀ x ∈ l, outputOf d ≠ outputOf x := fun x hx q => hn.1 (q ▸ List.mem_map_of_mem hx)
    have hk := (afterStep_keeps s d).1
    exact ih (fun x hx => (afterStep_other s (hne x hx)).1.2 (hf x (by simp [hx]))) hn.2
      (fun x hx => by rw [(afterStep_other s (hne x hx)).2]; exact hd x (by simp [hx])) (by rw [hk]; exact hm)

/-- What a list of steps on distinct outputs leaves: the rails and the signals of the steps, and nothing else touched. -/
theorem foldl_afterStep {l : List Change} (hn : (l.map outputOf).Nodup) (s : State) :
    (l.foldl State.afterStep s) = { s with channel := { s.channel with
      rails := (l.foldl State.afterStep s).channel.rails, signals := (l.foldl State.afterStep s).channel.signals } } ∧
    StepsIssued s (l.foldl State.afterStep s) l ∧
    ∀ i, (.setHigh i ∈ l → (l.foldl State.afterStep s).signalAt i = { state := .high, pulse := none }) ∧
      (.setLow i ∈ l → (l.foldl State.afterStep s).signalAt i = { state := .low, pulse := none }) ∧
      (.setHigh i ∉ l → .setLow i ∉ l → (l.foldl State.afterStep s).signalAt i = s.signalAt i) := by
  induction l generalizing s with
  | nil => exact ⟨rfl, fun _ => ⟨nofun, nofun, fun _ _ => rfl⟩, fun _ => ⟨nofun, nofun, fun _ _ => rfl⟩⟩
  | cons d l ih =>
    simp only [List.map_cons, List.nodup_cons] at hn
    have hne : ∀ x ∈ l, outputOf d ≠ outputOf x := fun x hx q => hn.1 (q ▸ List.mem_map_of_mem hx)
    obtain ⟨hk, hr, hs⟩ := afterStep_keeps s d
    obtain ⟨h1, h2, h3⟩ := ih hn.2 (s.afterStep d)
    have ha : ∀ ch up, outputOf d ≠ .inl ch → (s.afterStep d).alignedRail ch up = s.alignedRail ch up := fun ch up q => by
      have hp : (s.afterStep d).railParams ch = s.railParams ch := by rw [hk]; rfl
      have hg : (s.afterStep d).powerGood ch = s.powerGood ch := by rw [hk]; rfl
      simp [State.alignedRail, hp, hg, hr ch q]
    rw [List.foldl_cons]
    generalize l.foldl State.afterStep (s.afterStep d) = t at *
    have hrail : ∀ ch, outputOf d = .inl ch → t.rail ch = (s.afterStep d).rail ch := fun ch q =>
      (h2 ch).2.2 (fun m => hne _ m q) (fun m => hne _ m q)
    have hsig : ∀ i, outputOf d = .inr i → t.signalAt i = (s.afterStep d).signalAt i := fun i q =>
      (h3 i).2.2 (fun m => hne _ m q) (fun m => hne _ m q)
    refine ⟨by rw [h1, hk], fun ch => ⟨fun h => ?_, fun h => ?_, fun h h' => ?_⟩,
      fun i => ⟨fun h => ?_, fun h => ?_, fun h h' => ?_⟩⟩
    · rcases List.mem_cons.1 h with rfl | h
      · rw [hrail ch rfl]
        exact rail_withRail_same ..
      · rw [(h2 ch).1 h]
        exact ha ch true (hne _ h)
    · rcases List.mem_cons.1 h with rfl | h
      · rw [hrail ch rfl]
        exact rail_withRail_same ..
      · rw [(h2 ch).2.1 h]
        exact ha ch false (hne _ h)
    · simp only [List.mem_cons, not_or] at h h'
      rw [(h2 ch).2.2 h.2 h'.2]
      exact hr ch fun q => by
        cases d with
        | raise j => exact h.1 (by rw [Sum.inl.inj q])
        | drop j => exact h'.1 (by rw [Sum.inl.inj q])
        | setHigh j => cases q
        | setLow j => cases q
    · rcases List.mem_cons.1 h with rfl | h
      · rw [hsig i rfl]
        exact signalAt_withSignal_same ..
      · exact (h3 i).1 h
    · rcases List.mem_cons.1 h with rfl | h
      · rw [hsig i rfl]
        exact signalAt_withSignal_same ..
      · exact (h3 i).2.1 h
    · simp only [List.mem_cons, not_or] at h h'
      rw [(h3 i).2.2 h.2 h'.2]
      exact hs i fun q => by
        cases d with
        | raise j => cases q
        | drop j => cases q
        | setHigh j => exact h.1 (by rw [Sum.inr.inj q])
        | setLow j => exact h'.1 (by rw [Sum.inr.inj q])

/-! ### The steps of a row -/

/-- The steps for a row fit, each output at most once (R152). -/
theorem alignmentSteps_fit (s : State) (row : ProfileRow) :
    (∀ d ∈ s.alignmentSteps row, s.stepFits d) ∧ ((s.alignmentSteps row).map outputOf).Nodup := by
  have hne : ∀ a b : Level, (a != b) = true → b = .low → a = .high := by
    intro a b h q
    cases a <;> cases b <;> first | rfl | exact absurd q (by decide) | exact absurd h (by decide)
  have hnl : ∀ a b : Level, (a != b) = true → b = .high → a = .low := by
    intro a b h q
    cases a <;> cases b <;> first | rfl | exact absurd q (by decide) | exact absurd h (by decide)
  refine ⟨fun d hd => ?_, ?_⟩
  · simp only [State.alignmentSteps, List.mem_append, List.mem_map, List.mem_filter, Bool.and_eq_true, beq_iff_eq,
      State.railDiffers, State.signalDiffers] at hd
    rcases hd with (⟨ch, ⟨-, ⟨h1, h2⟩, h3⟩, rfl⟩ | ⟨ch, ⟨-, ⟨h1, h2⟩, h3⟩, rfl⟩) | ⟨i, ⟨-, h⟩, rfl⟩
    · exact ⟨h1, hne _ _ h2 h3⟩
    · exact ⟨h1, hnl _ _ h2 h3⟩
    · split
      · exact hnl _ _ h ‹_›
      · rename_i q
        exact hne _ _ h (by cases hh : tabGet row.signals i <;> simp_all)
  · have hin : ∀ (f : Fin 6 → Change) (l : List (Fin 6)) (q : Fin 6 → Bool), (∀ ch, outputOf (f ch) = .inl ch) → l.Nodup →
        (((l.filter q).map f).map outputOf).Nodup ∧
        ∀ o ∈ ((l.filter q).map f).map outputOf, ∃ ch, o = .inl ch ∧ q ch = true := fun f l q hf hl => by
      have : ((l.filter q).map f).map outputOf = (l.filter q).map Sum.inl := by
        rw [List.map_map]
        exact List.map_congr_left fun ch _ => hf ch
      rw [this]
      refine ⟨(hl.filter _).map Sum.inl_injective, fun o ho => ?_⟩
      simp only [List.mem_map, List.mem_filter] at ho
      obtain ⟨ch, ⟨-, h⟩, rfl⟩ := ho
      exact ⟨ch, rfl, h⟩
    obtain ⟨a1, a2⟩ := hin Change.drop allRails.reverse (fun ch => s.railDiffers row ch && tabGet row.rails ch == .low)
      (fun _ => rfl) (List.nodup_reverse.2 (List.nodup_finRange 6))
    obtain ⟨b1, b2⟩ := hin Change.raise allRails (fun ch => s.railDiffers row ch && tabGet row.rails ch == .high)
      (fun _ => rfl) (List.nodup_finRange 6)
    have c : ∀ (f : Fin 4 → Change) (q : Fin 4 → Bool), (∀ i, outputOf (f i) = .inr i) →
        (((allSignals.filter q).map f).map outputOf) = (allSignals.filter q).map Sum.inr := fun f q hf => by
      rw [List.map_map]
      exact List.map_congr_left fun i _ => hf i
    unfold State.alignmentSteps
    rw [List.map_append, List.map_append, c _ _ fun i => by split <;> rfl]
    refine List.Nodup.append (List.Nodup.append a1 b1 ?_)
      (((List.nodup_finRange 4).filter _).map Sum.inr_injective) ?_
    · intro o h h'
      obtain ⟨ch, rfl, h1⟩ := a2 o h
      obtain ⟨ch', e, h2⟩ := b2 _ h'
      cases e
      simp only [Bool.and_eq_true, beq_iff_eq] at h1 h2
      rw [h1.2] at h2
      cases h2.2
    · intro o h h'
      simp only [List.mem_map] at h'
      obtain ⟨i, -, rfl⟩ := h'
      rcases List.mem_append.1 h with h | h
      · obtain ⟨_, e, _⟩ := a2 _ h
        cases e
      · obtain ⟨_, e, _⟩ := b2 _ h
        cases e

/-- The steps for a row: one for each output that differs from it, and for no other. -/
theorem mem_alignmentSteps (s : State) (row : ProfileRow) :
    (∀ ch, (.raise ch ∈ s.alignmentSteps row ↔ s.railDiffers row ch = true ∧ tabGet row.rails ch = .high) ∧
      (.drop ch ∈ s.alignmentSteps row ↔ s.railDiffers row ch = true ∧ tabGet row.rails ch = .low)) ∧
    ∀ i, (.setHigh i ∈ s.alignmentSteps row ↔ s.signalDiffers row i = true ∧ tabGet row.signals i = .high) ∧
      (.setLow i ∈ s.alignmentSteps row ↔ s.signalDiffers row i = true ∧ tabGet row.signals i = .low) := by
  simp only [State.alignmentSteps, List.mem_append, List.mem_map, List.mem_filter, Bool.and_eq_true, beq_iff_eq]
  refine ⟨fun ch => ⟨⟨?_, ?_⟩, ?_, ?_⟩, fun i => ⟨⟨?_, ?_⟩, ?_, ?_⟩⟩
  · rintro ((⟨_, -, q⟩ | ⟨_, ⟨-, h⟩, q⟩) | ⟨_, -, q⟩)
    · cases q
    · cases q
      exact h
    · split at q <;> cases q
  · exact fun h => .inl (.inr ⟨ch, ⟨List.mem_finRange ch, h⟩, rfl⟩)
  · rintro ((⟨_, ⟨-, h⟩, q⟩ | ⟨_, -, q⟩) | ⟨_, -, q⟩)
    · cases q
      exact h
    · cases q
    · split at q <;> cases q
  · exact fun h => .inl (.inl ⟨ch, ⟨List.mem_reverse.2 (List.mem_finRange ch), h⟩, rfl⟩)
  · rintro ((⟨_, -, q⟩ | ⟨_, -, q⟩) | ⟨_, ⟨-, h⟩, q⟩)
    · cases q
    · cases q
    · split at q <;> cases q
      exact ⟨h, ‹_›⟩
  · exact fun h => .inr ⟨i, ⟨List.mem_finRange i, h.1⟩, if_pos h.2⟩
  · rintro ((⟨_, -, q⟩ | ⟨_, -, q⟩) | ⟨_, ⟨-, h⟩, q⟩)
    · cases q
    · cases q
    · split at q <;> cases q
      rename_i n
      exact ⟨h, by cases hi : tabGet row.signals i <;> simp_all⟩
  · exact fun h => .inr ⟨i, ⟨List.mem_finRange i, h.1⟩, if_neg (by simp [h.2])⟩

/-! ### The end of alignment -/

/-- A step that completes at once leaves the enable at its level. -/
theorem alignedRail_enable {s : State} {ch : Fin 6} {up : Bool} (h : (s.alignedRail ch up).state.standing = true) :
    (s.alignedRail ch up).state.enable = if up then .high else .low := by
  revert h
  unfold State.alignedRail alignedRail
  by_cases hd : (s.railParams ch).holdDown = 0 <;> by_cases hu : (s.railParams ch).holdUp = 0 <;> cases up <;>
    cases h1 : (s.rail ch).state <;> cases s.powerGood ch <;>
    simp [RailState.standing, RailState.enable, hd, hu]

/-- Steps that all complete at once leave no output that differs from the row (R151). -/
theorem foldl_afterStep_row {s : State} {row : ProfileRow}
    (hd : ∀ d ∈ s.alignmentSteps row, s.stepTakesTime d = false) :
    let t := (s.alignmentSteps row).foldl State.afterStep s
    (∀ i, t.signal i = tabGet row.signals i) ∧
    (∀ ch, s.railDiffers row ch = true → t.enable ch = tabGet row.rails ch ∧ (t.rail ch).state.standing = true) ∧
    ∀ ch, s.railDiffers row ch = false → t.rail ch = s.rail ch := by
  intro t
  obtain ⟨-, h2, h3⟩ := foldl_afterStep (alignmentSteps_fit s row).2 s
  obtain ⟨m1, m2⟩ := mem_alignmentSteps s row
  refine ⟨fun i => ?_, fun ch h => ?_, fun ch h => ?_⟩
  · have hs : ∀ u : State, u.signal i = (u.signalAt i).state.level := fun _ => rfl
    rw [hs]
    obtain ⟨a, b, c⟩ := h3 i
    by_cases hi : s.signalDiffers row i = true
    · cases hl : tabGet row.signals i with
      | high => rw [a ((m2 i).1.2 ⟨hi, hl⟩)]; rfl
      | low => rw [b ((m2 i).2.2 ⟨hi, hl⟩)]; rfl
    · rw [c (fun q => hi ((m2 i).1.1 q).1) (fun q => hi ((m2 i).2.1 q).1)]
      rw [← hs]
      simpa [State.signalDiffers] using hi
  · obtain ⟨a, b, -⟩ := h2 ch
    cases hl : tabGet row.rails ch with
    | high =>
      have hm := (m1 ch).1.2 ⟨h, hl⟩
      have := hd _ hm
      simp only [State.stepTakesTime, Bool.not_eq_false'] at this
      have hr : t.rail ch = s.alignedRail ch true := a hm
      rw [State.enable, hr]
      exact ⟨alignedRail_enable this, this⟩
    | low =>
      have hm := (m1 ch).2.2 ⟨h, hl⟩
      have := hd _ hm
      simp only [State.stepTakesTime, Bool.not_eq_false'] at this
      have hr : t.rail ch = s.alignedRail ch false := b hm
      rw [State.enable, hr]
      exact ⟨alignedRail_enable this, this⟩
  · exact (h2 ch).2.2 (fun q => by rw [((m1 ch).1.1 q).1] at h; cases h)
      (fun q => by rw [((m1 ch).2.1 q).1] at h; cases h)

/-- Starting monitoring on the rails of a list that are in ON (R71). -/
theorem foldl_startMonitoring_rail {l : List (Fin 6)} (hn : l.Nodup) (s : State) (ch : Fin 6) :
    (l.foldl (fun s ch => if (s.rail ch).state == .on then startMonitoring ch s else s) s).rail ch =
      if ch ∈ l ∧ (s.rail ch).state = .on then
        startedMonitoring (s.railParams ch) (s.powerGood ch) (s.rail ch) else s.rail ch := by
  induction l generalizing s with
  | nil => simp
  | cons d l ih =>
    obtain ⟨hd, hn⟩ := List.nodup_cons.1 hn
    rw [List.foldl_cons]
    by_cases hz : (s.rail d).state = .on
    · rw [if_pos (by simp [hz]), ih hn]
      by_cases hc : ch = d
      · subst hc
        simp [hd, hz, startMonitoring]
      · simp [hc, startMonitoring, rail_withRail_ne _ hc]
    · rw [if_neg (by simp [hz]), ih hn]
      by_cases hc : ch = d
      · subst hc
        simp [hz]
      · simp [hc]

/-- Monitoring starts on every rail in ON, and touches no other rail (R71). -/
theorem startAllMonitoring_rail (s : State) (ch : Fin 6) :
    (startAllMonitoring s).rail ch = if (s.rail ch).state = .on then
      startedMonitoring (s.railParams ch) (s.powerGood ch) (s.rail ch) else s.rail ch := by
  have hn : allRails.Nodup := List.nodup_finRange 6
  have hm : ch ∈ allRails := List.mem_finRange ch
  unfold startAllMonitoring
  generalize allRails = l at *
  rw [foldl_startMonitoring_rail hn]
  simp only [hm, true_and]

/-- With no output that differs the settle correction does nothing (R43). -/
theorem settleCorrection_still {s : State} {row : ProfileRow} (hr : ∀ ch, s.railDiffers row ch = false)
    (hs : ∀ i, s.signalDiffers row i = false) : settleCorrection row s = s := by
  have a : ∀ l : List (Fin 6), l.foldl (correctRail row) s = s := fun l => by
    induction l with
    | nil => rfl
    | cons d l ih => rw [List.foldl_cons, correctRail, hr d]; exact ih
  have b : ∀ l : List (Fin 4), l.foldl (correctSignal row) s = s := fun l => by
    induction l with
    | nil => rfl
    | cons d l ih => rw [List.foldl_cons, correctSignal, hs d]; exact ih
  unfold settleCorrection
  rw [a, b]

/-- Where no output differs from the row of the believed state, the end of census starts monitoring and leaves the channels
else as they are (R71, R151). -/
theorem endCensus_still {s : State} {st : SystemState} (hb : s.agreement.believed = some st)
    (hr : ∀ ch, s.railDiffers (s.profileRow st) ch = false) (hs : ∀ i, s.signalDiffers (s.profileRow st) i = false) :
    (∀ ch, (endCensus s).rail ch = if (s.rail ch).state = .on then
      startedMonitoring (s.railParams ch) (s.powerGood ch) (s.rail ch) else s.rail ch) ∧
    (endCensus s).channel.signals = s.channel.signals ∧
    (endCensus s).channel.corrections = s.channel.corrections := by
  obtain ⟨y, hy⟩ : ∃ y, y = settlePeers (recomputeBeat (settleRequest none (settleWake none
      ((s.withPresence { s.presence with alignment := none }).withPhase .settled)))) := ⟨_, rfl⟩
  have hk : y.channel = s.channel ∧ y.loader = s.loader ∧ y.pins = s.pins ∧
      y.agreement = { s.agreement with phase := .settled } := by
    rw [hy]
    simp [State.withPhase, State.withPresence]
  have he : endCensus s = settleChannel true y := by rw [hy]; rfl
  rw [he]
  clear hy he
  obtain ⟨k1, k2, k3, k4⟩ := hk
  have m1 := startAllMonitoring_rail y
  have m2 : (startAllMonitoring y).channel.signals = y.channel.signals ∧
      (startAllMonitoring y).channel.corrections = y.channel.corrections ∧
      (startAllMonitoring y).loader = y.loader ∧ (startAllMonitoring y).agreement = y.agreement := by simp
  obtain ⟨m2, m3, m4, m5⟩ := m2
  unfold settleChannel
  simp only [if_true]
  generalize startAllMonitoring y = z at *
  have e : ∀ ch, y.rail ch = s.rail ch := fun ch => by simp [State.rail, k1]
  have p : ∀ ch, y.railParams ch = s.railParams ch := fun ch => by simp [State.railParams, State.station, k2]
  have g : ∀ ch, y.powerGood ch = s.powerGood ch := fun ch => by simp [State.powerGood, k3]
  have pz : ∀ ch, z.railParams ch = s.railParams ch := fun ch => by simp [State.railParams, State.station, m4, k2]
  have hrow : z.profileRow st = s.profileRow st := by
    have h1 : z.plan = s.plan := by simp [State.plan, m4, k2]
    have h2 : z.station = s.station := by simp [State.station, m4, k2]
    simp [State.profileRow, h1, h2]
  have hcor : settleCorrection (s.profileRow st) z = z := by
    refine settleCorrection_still (fun ch => ?_) fun i => ?_
    · have hst : (z.rail ch).state = (s.rail ch).state := by
        rw [m1, e]
        split <;> simp [startedMonitoring]
      rw [← hr ch]
      simp [State.railDiffers, State.enable, hst, pz]
    · rw [← hs i]
      simp [State.signalDiffers, State.signal, m2, k1]
  have hbel : z.agreement.believed = some st := by simp [m5, k4, hb]
  simp only [hbel, hrow, hcor]
  refine ⟨fun ch => ?_, by rw [m2, k1], by rw [m3, k1]⟩
  rw [m1, e, p, g]

end Sys2Proof.Machine
end

