-- ==== Sys2Proof/Laws/Decode.lean ====
section
/-! SUPPORT. What the bytes of a write transfer on the maintenance port spell, and how the command joins the queue. -/

namespace Sys2Proof

/-- The codes that the port does not know. -/
theorem codeCommand_eq_none (addr : I2cAddress) (rest : List Byte) {code : Byte}
    (h : code = 0 ∨ (7 < code.toNat ∧ code ≠ 0xA1 ∧ code ≠ 0xC3)) : codeCommand addr code rest = none := by
  unfold codeCommand
  split <;> simp_all [BitVec.toNat_eq]

/-- Whether a code is known does not depend on what surrounds it. -/
theorem knownCode_eq (addr : I2cAddress) (code : Byte) (rest : List Byte) :
    knownCode code = (codeCommand addr code rest).isSome := by
  unfold knownCode codeCommand
  split <;> rfl

/-- Every write transfer with a command byte is a command. -/
theorem writtenCommand_isSome (addr : I2cAddress) (code : Byte) (rest : List Byte) :
    (writtenCommand addr (code :: rest)).isSome = true := by
  cases h : codeCommand addr code rest <;> simp [writtenCommand, h]

/-- What a write transfer spells is well-formed. -/
theorem writtenCommand_wellFormed {addr : I2cAddress} {bytes : List Byte} {c : Instr}
    (h : writtenCommand addr bytes = some c) : c.wellFormed = true := by
  rcases bytes with _ | ⟨code, rest⟩
  · simp [writtenCommand] at h
  · cases hc : codeCommand addr code rest with
    | some d =>
      obtain rfl : d = c := by simpa [writtenCommand, hc] using h
      unfold codeCommand at hc
      split at hc <;> cases hc <;> cases rest <;> simp [Instr.wellFormed, argumentOk]
    | none =>
      obtain rfl : Instr.unknownCommand ⟨addr, code, rest.length⟩ = c := by simpa [writtenCommand, hc] using h
      simp [Instr.wellFormed, knownCode_eq addr code rest, hc]

namespace Machine

/-- A write transfer that joins an empty queue is the command that the next step runs. -/
theorem step_withPortWrite {addr : I2cAddress} {bytes : List Byte} {c : Instr} {s : State}
    (h : writtenCommand addr bytes = some c) (hp : s.pending = []) : step (s.withPortWrite addr bytes) = exec c s := by
  obtain ⟨⟩ := s
  cases hp
  simp [step, State.withPortWrite, h]

end Machine

end Sys2Proof
end

