-- ==== Sys2Proof/Laws/FramesDeliver.lean ====
section
/-! SUPPORT. What each operation on a delivered frame, of the loader and of the port leaves unchanged. The lemma `f_keeps` lists, for
an operation `f`, every block, or field of a block, that it never writes. -/

namespace Sys2Proof.Machine

open Sys2Proof

@[simp] theorem countMisses_keeps (r : Record) (s : State) :
    (countMisses r s).time = s.time ∧ (countMisses r s).pins = s.pins ∧
    (countMisses r s).link.integrated = s.link.integrated ∧
    (countMisses r s).link.receiveErrors = s.link.receiveErrors ∧ (countMisses r s).agreement = s.agreement ∧
    (countMisses r s).presence.muteCause = s.presence.muteCause ∧ (countMisses r s).presence.beat = s.presence.beat ∧
    (countMisses r s).presence.beatTimer = s.presence.beatTimer ∧ (countMisses r s).presence.debt = s.presence.debt ∧
    (countMisses r s).presence.censusWindow = s.presence.censusWindow ∧
    (countMisses r s).presence.barredRetry = s.presence.barredRetry ∧
    (countMisses r s).presence.retryHeld = s.presence.retryHeld ∧
    (countMisses r s).presence.alignment = s.presence.alignment ∧ (countMisses r s).executor = s.executor ∧
    (countMisses r s).channel = s.channel ∧ (countMisses r s).wake.inputs = s.wake.inputs ∧
    (countMisses r s).wake.pressed = s.wake.pressed ∧ (countMisses r s).wake.debounce = s.wake.debounce ∧
    (countMisses r s).wake.longPress = s.wake.longPress ∧ (countMisses r s).wake.commonWindow = s.wake.commonWindow ∧
    (countMisses r s).wake.queue = s.wake.queue ∧ (countMisses r s).wake.minDwell = s.wake.minDwell ∧
    (countMisses r s).wake.faultHold = s.wake.faultHold ∧ (countMisses r s).wake.demote = s.wake.demote ∧
    (countMisses r s).request.underVote = s.request.underVote ∧
    (countMisses r s).request.deferHold = s.request.deferHold ∧
    (countMisses r s).request.lockout = s.request.lockout ∧ (countMisses r s).request.pulses = s.request.pulses ∧
    (countMisses r s).request.result = s.request.result ∧ (countMisses r s).faults = s.faults ∧
    (countMisses r s).loader = s.loader ∧ (countMisses r s).port = s.port ∧ (countMisses r s).pending = s.pending := by
  unfold countMisses
  exact
    ⟨foldl_keep (fun s => s.time) (fun s a => by split <;> simp) _ _,
     foldl_keep (fun s => s.pins) (fun s a => by split <;> simp) _ _,
     foldl_keep (fun s => s.link.integrated) (fun s a => by split <;> simp) _ _,
     foldl_keep (fun s => s.link.receiveErrors) (fun s a => by split <;> simp) _ _,
     foldl_keep (fun s => s.agreement) (fun s a => by split <;> simp) _ _,
     foldl_keep (fun s => s.presence.muteCause) (fun s a => by split <;> simp) _ _,
     foldl_keep (fun s => s.presence.beat) (fun s a => by split <;> simp) _ _,
     foldl_keep (fun s => s.presence.beatTimer) (fun s a => by split <;> simp) _ _,
     foldl_keep (fun s => s.presence.debt) (fun s a => by split <;> simp) _ _,
     foldl_keep (fun s => s.presence.censusWindow) (fun s a => by split <;> simp) _ _,
     foldl_keep (fun s => s.presence.barredRetry) (fun s a => by split <;> simp) _ _,
     foldl_keep (fun s => s.presence.retryHeld) (fun s a => by split <;> simp) _ _,
     foldl_keep (fun s => s.presence.alignment) (fun s a => by split <;> simp) _ _,
     foldl_keep (fun s => s.executor) (fun s a => by split <;> simp) _ _,
     foldl_keep (fun s => s.channel) (fun s a => by split <;> simp) _ _,
     foldl_keep (fun s => s.wake.inputs) (fun s a => by split <;> simp) _ _,
     foldl_keep (fun s => s.wake.pressed) (fun s a => by split <;> simp) _ _,
     foldl_keep (fun s => s.wake.debounce) (fun s a => by split <;> simp) _ _,
     foldl_keep (fun s => s.wake.longPress) (fun s a => by split <;> simp) _ _,
     foldl_keep (fun s => s.wake.commonWindow) (fun s a => by split <;> simp) _ _,
     foldl_keep (fun s => s.wake.queue) (fun s a => by split <;> simp) _ _,
     foldl_keep (fun s => s.wake.minDwell) (fun s a => by split <;> simp) _ _,
     foldl_keep (fun s => s.wake.faultHold) (fun s a => by split <;> simp) _ _,
     foldl_keep (fun s => s.wake.demote) (fun s a => by split <;> simp) _ _,
     foldl_keep (fun s => s.request.underVote) (fun s a => by split <;> simp) _ _,
     foldl_keep (fun s => s.request.deferHold) (fun s a => by split <;> simp) _ _,
     foldl_keep (fun s => s.request.lockout) (fun s a => by split <;> simp) _ _,
     foldl_keep (fun s => s.request.pulses) (fun s a => by split <;> simp) _ _,
     foldl_keep (fun s => s.request.result) (fun s a => by split <;> simp) _ _,
     foldl_keep (fun s => s.faults) (fun s a => by split <;> simp) _ _,
     foldl_keep (fun s => s.loader) (fun s a => by split <;> simp) _ _,
     foldl_keep (fun s => s.port) (fun s a => by split <;> simp) _ _,
     foldl_keep (fun s => s.pending) (fun s a => by split <;> simp) _ _⟩

@[simp] theorem abortVote_keeps (reason : AbortReason) (r : Record) (s : State) :
    (abortVote reason r s).time = s.time ∧ (abortVote reason r s).pins = s.pins ∧
    (abortVote reason r s).link.integrated = s.link.integrated ∧
    (abortVote reason r s).link.receiveErrors = s.link.receiveErrors ∧
    (abortVote reason r s).agreement.number = s.agreement.number ∧
    (abortVote reason r s).agreement.lateProposals = s.agreement.lateProposals ∧
    (abortVote reason r s).agreement.streaks = s.agreement.streaks ∧
    (abortVote reason r s).presence.muteCause = s.presence.muteCause ∧
    (abortVote reason r s).presence.debt = s.presence.debt ∧
    (abortVote reason r s).presence.censusWindow = s.presence.censusWindow ∧
    (abortVote reason r s).presence.barredRetry = s.presence.barredRetry ∧
    (abortVote reason r s).presence.retryHeld = s.presence.retryHeld ∧
    (abortVote reason r s).presence.alignment = s.presence.alignment ∧
    (abortVote reason r s).channel.awaits = s.channel.awaits ∧
    (abortVote reason r s).channel.waitCounter = s.channel.waitCounter ∧
    (abortVote reason r s).wake.debounce = s.wake.debounce ∧
    (abortVote reason r s).wake.longPress = s.wake.longPress ∧
    (abortVote reason r s).wake.faultHold = s.wake.faultHold ∧ (abortVote reason r s).loader = s.loader ∧
    (abortVote reason r s).port = s.port ∧ (abortVote reason r s).pending = s.pending := by
  unfold abortVote
  split <;> simp

@[simp] theorem afterForward_keeps (stage : Nat) (own : Bool) (s : State) :
    (afterForward stage own s).time = s.time ∧ (afterForward stage own s).pins = s.pins ∧
    (afterForward stage own s).link.integrated = s.link.integrated ∧
    (afterForward stage own s).link.receiveErrors = s.link.receiveErrors ∧
    (afterForward stage own s).agreement.lateProposals = s.agreement.lateProposals ∧
    (afterForward stage own s).agreement.streaks = s.agreement.streaks ∧
    (afterForward stage own s).presence.peers = s.presence.peers ∧
    (afterForward stage own s).presence.barring = s.presence.barring ∧
    (afterForward stage own s).presence.alignment = s.presence.alignment ∧
    (afterForward stage own s).request.underVote = s.request.underVote ∧
    (afterForward stage own s).loader = s.loader ∧ (afterForward stage own s).port = s.port ∧
    (afterForward stage own s).pending = s.pending := by
  unfold afterForward
  (repeat' split) <;> simp

@[simp] theorem afterReturn_keeps (k : FrameKind) (s : State) :
    (afterReturn k s).time = s.time ∧ (afterReturn k s).pins = s.pins ∧
    (afterReturn k s).link.integrated = s.link.integrated ∧
    (afterReturn k s).link.receiveErrors = s.link.receiveErrors ∧ (afterReturn k s).agreement = s.agreement ∧
    (afterReturn k s).presence = s.presence ∧ (afterReturn k s).executor = s.executor ∧
    (afterReturn k s).channel = s.channel ∧ (afterReturn k s).wake.inputs = s.wake.inputs ∧
    (afterReturn k s).wake.pressed = s.wake.pressed ∧ (afterReturn k s).wake.debounce = s.wake.debounce ∧
    (afterReturn k s).wake.longPress = s.wake.longPress ∧ (afterReturn k s).wake.commonWindow = s.wake.commonWindow ∧
    (afterReturn k s).wake.queue = s.wake.queue ∧ (afterReturn k s).wake.minDwell = s.wake.minDwell ∧
    (afterReturn k s).wake.faultHold = s.wake.faultHold ∧ (afterReturn k s).wake.demote = s.wake.demote ∧
    (afterReturn k s).request.underVote = s.request.underVote ∧
    (afterReturn k s).request.deferHold = s.request.deferHold ∧
    (afterReturn k s).request.lockout = s.request.lockout ∧ (afterReturn k s).request.refresh = s.request.refresh ∧
    (afterReturn k s).request.pulses = s.request.pulses ∧ (afterReturn k s).request.result = s.request.result ∧
    (afterReturn k s).faults = s.faults ∧ (afterReturn k s).loader = s.loader ∧ (afterReturn k s).port = s.port ∧
    (afterReturn k s).pending = s.pending := by
  unfold afterReturn
  split <;> simp

@[simp] theorem afterUnwind_keeps (stage : Nat) (own : Bool) (s : State) :
    (afterUnwind stage own s).time = s.time ∧ (afterUnwind stage own s).pins = s.pins ∧
    (afterUnwind stage own s).link.integrated = s.link.integrated ∧
    (afterUnwind stage own s).link.receiveErrors = s.link.receiveErrors ∧
    (afterUnwind stage own s).agreement.number = s.agreement.number ∧
    (afterUnwind stage own s).agreement.lateProposals = s.agreement.lateProposals ∧
    (afterUnwind stage own s).agreement.streaks = s.agreement.streaks ∧
    (afterUnwind stage own s).presence.peers = s.presence.peers ∧
    (afterUnwind stage own s).presence.barring = s.presence.barring ∧
    (afterUnwind stage own s).presence.muteCause = s.presence.muteCause ∧
    (afterUnwind stage own s).presence.debt = s.presence.debt ∧
    (afterUnwind stage own s).presence.censusWindow = s.presence.censusWindow ∧
    (afterUnwind stage own s).presence.barredRetry = s.presence.barredRetry ∧
    (afterUnwind stage own s).presence.retryHeld = s.presence.retryHeld ∧
    (afterUnwind stage own s).presence.alignment = s.presence.alignment ∧
    (afterUnwind stage own s).wake.debounce = s.wake.debounce ∧
    (afterUnwind stage own s).wake.longPress = s.wake.longPress ∧
    (afterUnwind stage own s).wake.faultHold = s.wake.faultHold ∧
    (afterUnwind stage own s).request.underVote = s.request.underVote ∧ (afterUnwind stage own s).loader = s.loader ∧
    (afterUnwind stage own s).port = s.port ∧ (afterUnwind stage own s).pending = s.pending := by
  unfold afterUnwind
  (repeat' split) <;> simp

@[simp] theorem bar_keeps (sender : StationId) (s : State) :
    (bar sender s).time = s.time ∧ (bar sender s).pins = s.pins ∧
    (bar sender s).link.integrated = s.link.integrated ∧ (bar sender s).link.receiveErrors = s.link.receiveErrors ∧
    (bar sender s).agreement.believed = s.agreement.believed ∧
    (bar sender s).agreement.restImage = s.agreement.restImage ∧
    (bar sender s).agreement.number = s.agreement.number ∧
    (bar sender s).agreement.lateProposals = s.agreement.lateProposals ∧
    (bar sender s).agreement.streaks = s.agreement.streaks ∧ (bar sender s).presence.peers = s.presence.peers ∧
    (bar sender s).presence.beat = s.presence.beat ∧ (bar sender s).channel.corrections = s.channel.corrections ∧
    (bar sender s).wake.pressed = s.wake.pressed ∧ (bar sender s).wake.debounce = s.wake.debounce ∧
    (bar sender s).wake.longPress = s.wake.longPress ∧ (bar sender s).wake.commonWindow = s.wake.commonWindow ∧
    (bar sender s).wake.queue = s.wake.queue ∧ (bar sender s).wake.minDwell = s.wake.minDwell ∧
    (bar sender s).wake.faultHold = s.wake.faultHold ∧ (bar sender s).request.deferHold = s.request.deferHold ∧
    (bar sender s).request.lockout = s.request.lockout ∧ (bar sender s).request.refresh = s.request.refresh ∧
    (bar sender s).loader = s.loader ∧ (bar sender s).port = s.port ∧ (bar sender s).pending = s.pending := by
  unfold bar
  dsimp only
  (repeat' split) <;> simp

@[simp] theorem ownDelivered_keeps (f : Frame) (own : Option Ready) (s : State) :
    (ownDelivered f own s).time = s.time ∧ (ownDelivered f own s).pins = s.pins ∧
    (ownDelivered f own s).link.integrated = s.link.integrated ∧
    (ownDelivered f own s).link.receiveErrors = s.link.receiveErrors ∧
    (ownDelivered f own s).agreement = s.agreement ∧ (ownDelivered f own s).presence.peers = s.presence.peers ∧
    (ownDelivered f own s).presence.barring = s.presence.barring ∧
    (ownDelivered f own s).presence.muteCause = s.presence.muteCause ∧
    (ownDelivered f own s).presence.beat = s.presence.beat ∧
    (ownDelivered f own s).presence.beatTimer = s.presence.beatTimer ∧
    (ownDelivered f own s).presence.censusWindow = s.presence.censusWindow ∧
    (ownDelivered f own s).presence.barredRetry = s.presence.barredRetry ∧
    (ownDelivered f own s).presence.retryHeld = s.presence.retryHeld ∧
    (ownDelivered f own s).presence.alignment = s.presence.alignment ∧ (ownDelivered f own s).executor = s.executor ∧
    (ownDelivered f own s).channel = s.channel ∧ (ownDelivered f own s).wake = s.wake ∧
    (ownDelivered f own s).request = s.request ∧ (ownDelivered f own s).faults = s.faults ∧
    (ownDelivered f own s).loader = s.loader ∧ (ownDelivered f own s).port = s.port ∧
    (ownDelivered f own s).pending = s.pending := by
  unfold ownDelivered
  split <;> simp

@[simp] theorem retryHeldCensus_keeps (s : State) :
    (retryHeldCensus s).time = s.time ∧ (retryHeldCensus s).pins = s.pins ∧
    (retryHeldCensus s).link.integrated = s.link.integrated ∧
    (retryHeldCensus s).link.receiveErrors = s.link.receiveErrors ∧ (retryHeldCensus s).agreement = s.agreement ∧
    (retryHeldCensus s).presence.peers = s.presence.peers ∧
    (retryHeldCensus s).presence.barring = s.presence.barring ∧
    (retryHeldCensus s).presence.muteCause = s.presence.muteCause ∧
    (retryHeldCensus s).presence.beat = s.presence.beat ∧
    (retryHeldCensus s).presence.beatTimer = s.presence.beatTimer ∧
    (retryHeldCensus s).presence.debt = s.presence.debt ∧
    (retryHeldCensus s).presence.censusWindow = s.presence.censusWindow ∧
    (retryHeldCensus s).presence.barredRetry = s.presence.barredRetry ∧
    (retryHeldCensus s).presence.alignment = s.presence.alignment ∧ (retryHeldCensus s).executor = s.executor ∧
    (retryHeldCensus s).channel = s.channel ∧ (retryHeldCensus s).wake.inputs = s.wake.inputs ∧
    (retryHeldCensus s).wake.pressed = s.wake.pressed ∧ (retryHeldCensus s).wake.debounce = s.wake.debounce ∧
    (retryHeldCensus s).wake.longPress = s.wake.longPress ∧
    (retryHeldCensus s).wake.commonWindow = s.wake.commonWindow ∧ (retryHeldCensus s).wake.queue = s.wake.queue ∧
    (retryHeldCensus s).wake.minDwell = s.wake.minDwell ∧ (retryHeldCensus s).wake.faultHold = s.wake.faultHold ∧
    (retryHeldCensus s).wake.demote = s.wake.demote ∧ (retryHeldCensus s).request.underVote = s.request.underVote ∧
    (retryHeldCensus s).request.deferHold = s.request.deferHold ∧
    (retryHeldCensus s).request.lockout = s.request.lockout ∧
    (retryHeldCensus s).request.refresh = s.request.refresh ∧ (retryHeldCensus s).request.pulses = s.request.pulses ∧
    (retryHeldCensus s).request.result = s.request.result ∧ (retryHeldCensus s).faults = s.faults ∧
    (retryHeldCensus s).loader = s.loader ∧ (retryHeldCensus s).port = s.port ∧
    (retryHeldCensus s).pending = s.pending := by
  unfold retryHeldCensus
  split <;> simp

@[simp] theorem judgeBeat_keeps (b : BeatBody) (n : TxnNumber) (s : State) :
    (judgeBeat b n s).time = s.time ∧ (judgeBeat b n s).pins = s.pins ∧
    (judgeBeat b n s).link.integrated = s.link.integrated ∧
    (judgeBeat b n s).link.receiveErrors = s.link.receiveErrors ∧
    (judgeBeat b n s).agreement.record = s.agreement.record ∧
    (judgeBeat b n s).agreement.history = s.agreement.history ∧
    (judgeBeat b n s).agreement.lateProposals = s.agreement.lateProposals ∧
    (judgeBeat b n s).agreement.streaks = s.agreement.streaks ∧
    (judgeBeat b n s).agreement.voteWindow = s.agreement.voteWindow ∧
    (judgeBeat b n s).agreement.voteGuard = s.agreement.voteGuard ∧
    (judgeBeat b n s).presence.peers = s.presence.peers ∧ (judgeBeat b n s).presence.barring = s.presence.barring ∧
    (judgeBeat b n s).presence.muteCause = s.presence.muteCause ∧ (judgeBeat b n s).presence.debt = s.presence.debt ∧
    (judgeBeat b n s).presence.barredRetry = s.presence.barredRetry ∧
    (judgeBeat b n s).presence.retryHeld = s.presence.retryHeld ∧ (judgeBeat b n s).executor = s.executor ∧
    (judgeBeat b n s).channel.awaits = s.channel.awaits ∧
    (judgeBeat b n s).channel.waitCounter = s.channel.waitCounter ∧
    (judgeBeat b n s).wake.debounce = s.wake.debounce ∧ (judgeBeat b n s).wake.longPress = s.wake.longPress ∧
    (judgeBeat b n s).wake.faultHold = s.wake.faultHold ∧ (judgeBeat b n s).request.underVote = s.request.underVote ∧
    (judgeBeat b n s).faults.deferred = s.faults.deferred ∧ (judgeBeat b n s).loader = s.loader ∧
    (judgeBeat b n s).port = s.port ∧ (judgeBeat b n s).pending = s.pending := by
  unfold judgeBeat
  (repeat' split) <;> simp

@[simp] theorem unbar_keeps (sender : StationId) (s : State) :
    (unbar sender s).time = s.time ∧ (unbar sender s).pins = s.pins ∧
    (unbar sender s).link.integrated = s.link.integrated ∧
    (unbar sender s).link.receiveErrors = s.link.receiveErrors ∧
    (unbar sender s).agreement.restImage = s.agreement.restImage ∧
    (unbar sender s).agreement.record = s.agreement.record ∧
    (unbar sender s).agreement.history = s.agreement.history ∧
    (unbar sender s).agreement.lateProposals = s.agreement.lateProposals ∧
    (unbar sender s).agreement.streaks = s.agreement.streaks ∧
    (unbar sender s).agreement.voteWindow = s.agreement.voteWindow ∧
    (unbar sender s).agreement.voteGuard = s.agreement.voteGuard ∧
    (unbar sender s).presence.peers = s.presence.peers ∧ (unbar sender s).presence.alignment = s.presence.alignment ∧
    (unbar sender s).executor = s.executor ∧ (unbar sender s).channel.signals = s.channel.signals ∧
    (unbar sender s).channel.awaits = s.channel.awaits ∧
    (unbar sender s).channel.waitCounter = s.channel.waitCounter ∧
    (unbar sender s).channel.corrections = s.channel.corrections ∧ (unbar sender s).wake.pressed = s.wake.pressed ∧
    (unbar sender s).wake.queue = s.wake.queue ∧ (unbar sender s).wake.minDwell = s.wake.minDwell ∧
    (unbar sender s).wake.faultHold = s.wake.faultHold ∧ (unbar sender s).wake.demote = s.wake.demote ∧
    (unbar sender s).request.underVote = s.request.underVote ∧
    (unbar sender s).request.deferHold = s.request.deferHold ∧ (unbar sender s).request.lockout = s.request.lockout ∧
    (unbar sender s).request.refresh = s.request.refresh ∧ (unbar sender s).request.pulses = s.request.pulses ∧
    (unbar sender s).request.result = s.request.result ∧ (unbar sender s).faults = s.faults ∧
    (unbar sender s).loader = s.loader ∧ (unbar sender s).port = s.port ∧ (unbar sender s).pending = s.pending := by
  unfold unbar
  split <;> simp

@[simp] theorem takeBeat_keeps (sender : StationId) (n : TxnNumber) (b : BeatBody) (s : State) :
    (takeBeat sender n b s).time = s.time ∧ (takeBeat sender n b s).pins = s.pins ∧
    (takeBeat sender n b s).link.integrated = s.link.integrated ∧
    (takeBeat sender n b s).link.receiveErrors = s.link.receiveErrors ∧
    (takeBeat sender n b s).agreement.lateProposals = s.agreement.lateProposals ∧
    (takeBeat sender n b s).agreement.streaks = s.agreement.streaks ∧
    (takeBeat sender n b s).presence.peers = s.presence.peers ∧
    (takeBeat sender n b s).wake.faultHold = s.wake.faultHold ∧ (takeBeat sender n b s).loader = s.loader ∧
    (takeBeat sender n b s).port = s.port ∧ (takeBeat sender n b s).pending = s.pending := by
  unfold takeBeat
  dsimp only
  (repeat' split) <;> simp

@[simp] theorem deliverBeat_keeps (sender : StationId) (n : TxnNumber) (b : BeatBody) (s : State) :
    (deliverBeat sender n b s).time = s.time ∧ (deliverBeat sender n b s).pins = s.pins ∧
    (deliverBeat sender n b s).link.integrated = s.link.integrated ∧
    (deliverBeat sender n b s).link.receiveErrors = s.link.receiveErrors ∧
    (deliverBeat sender n b s).agreement.lateProposals = s.agreement.lateProposals ∧
    (deliverBeat sender n b s).agreement.streaks = s.agreement.streaks ∧
    (deliverBeat sender n b s).wake.faultHold = s.wake.faultHold ∧ (deliverBeat sender n b s).loader = s.loader ∧
    (deliverBeat sender n b s).port = s.port ∧ (deliverBeat sender n b s).pending = s.pending := by
  unfold deliverBeat
  dsimp only
  (repeat' split) <;> simp

@[simp] theorem restartSupersedes_keeps (sender : StationId) (s : State) :
    (restartSupersedes sender s).time = s.time ∧ (restartSupersedes sender s).pins = s.pins ∧
    (restartSupersedes sender s).link.integrated = s.link.integrated ∧
    (restartSupersedes sender s).link.receiveErrors = s.link.receiveErrors ∧
    (restartSupersedes sender s).agreement.believed = s.agreement.believed ∧
    (restartSupersedes sender s).agreement.restImage = s.agreement.restImage ∧
    (restartSupersedes sender s).agreement.lateProposals = s.agreement.lateProposals ∧
    (restartSupersedes sender s).agreement.streaks = s.agreement.streaks ∧
    (restartSupersedes sender s).presence.peers = s.presence.peers ∧
    (restartSupersedes sender s).presence.barring = s.presence.barring ∧
    (restartSupersedes sender s).presence.muteCause = s.presence.muteCause ∧
    (restartSupersedes sender s).presence.debt = s.presence.debt ∧
    (restartSupersedes sender s).presence.censusWindow = s.presence.censusWindow ∧
    (restartSupersedes sender s).presence.barredRetry = s.presence.barredRetry ∧
    (restartSupersedes sender s).presence.retryHeld = s.presence.retryHeld ∧
    (restartSupersedes sender s).presence.alignment = s.presence.alignment ∧
    (restartSupersedes sender s).channel.corrections = s.channel.corrections ∧
    (restartSupersedes sender s).wake.pressed = s.wake.pressed ∧
    (restartSupersedes sender s).wake.debounce = s.wake.debounce ∧
    (restartSupersedes sender s).wake.longPress = s.wake.longPress ∧
    (restartSupersedes sender s).wake.commonWindow = s.wake.commonWindow ∧
    (restartSupersedes sender s).wake.queue = s.wake.queue ∧
    (restartSupersedes sender s).wake.minDwell = s.wake.minDwell ∧
    (restartSupersedes sender s).wake.faultHold = s.wake.faultHold ∧
    (restartSupersedes sender s).request.deferHold = s.request.deferHold ∧
    (restartSupersedes sender s).request.lockout = s.request.lockout ∧
    (restartSupersedes sender s).request.refresh = s.request.refresh ∧
    (restartSupersedes sender s).loader = s.loader ∧ (restartSupersedes sender s).port = s.port ∧
    (restartSupersedes sender s).pending = s.pending := by
  unfold restartSupersedes
  split <;> simp

@[simp] theorem takeCensus_keeps (sender : StationId) (sig : Signature) (cause : ResetCause) (s : State) :
    (takeCensus sender sig cause s).time = s.time ∧ (takeCensus sender sig cause s).pins = s.pins ∧
    (takeCensus sender sig cause s).link.integrated = s.link.integrated ∧
    (takeCensus sender sig cause s).link.receiveErrors = s.link.receiveErrors ∧
    (takeCensus sender sig cause s).agreement.restImage = s.agreement.restImage ∧
    (takeCensus sender sig cause s).agreement.record = s.agreement.record ∧
    (takeCensus sender sig cause s).agreement.history = s.agreement.history ∧
    (takeCensus sender sig cause s).agreement.lateProposals = s.agreement.lateProposals ∧
    (takeCensus sender sig cause s).agreement.streaks = s.agreement.streaks ∧
    (takeCensus sender sig cause s).agreement.voteWindow = s.agreement.voteWindow ∧
    (takeCensus sender sig cause s).agreement.voteGuard = s.agreement.voteGuard ∧
    (takeCensus sender sig cause s).presence.alignment = s.presence.alignment ∧
    (takeCensus sender sig cause s).executor = s.executor ∧
    (takeCensus sender sig cause s).channel.signals = s.channel.signals ∧
    (takeCensus sender sig cause s).channel.awaits = s.channel.awaits ∧
    (takeCensus sender sig cause s).channel.waitCounter = s.channel.waitCounter ∧
    (takeCensus sender sig cause s).channel.corrections = s.channel.corrections ∧
    (takeCensus sender sig cause s).wake.pressed = s.wake.pressed ∧
    (takeCensus sender sig cause s).wake.queue = s.wake.queue ∧
    (takeCensus sender sig cause s).wake.minDwell = s.wake.minDwell ∧
    (takeCensus sender sig cause s).wake.faultHold = s.wake.faultHold ∧
    (takeCensus sender sig cause s).wake.demote = s.wake.demote ∧
    (takeCensus sender sig cause s).request.underVote = s.request.underVote ∧
    (takeCensus sender sig cause s).request.deferHold = s.request.deferHold ∧
    (takeCensus sender sig cause s).request.lockout = s.request.lockout ∧
    (takeCensus sender sig cause s).request.pulses = s.request.pulses ∧
    (takeCensus sender sig cause s).request.result = s.request.result ∧
    (takeCensus sender sig cause s).faults = s.faults ∧ (takeCensus sender sig cause s).loader = s.loader ∧
    (takeCensus sender sig cause s).port = s.port ∧ (takeCensus sender sig cause s).pending = s.pending := by
  unfold takeCensus
  dsimp only
  (repeat' split) <;> simp

@[simp] theorem deliverCensus_keeps (sender : StationId) (sig : Signature) (cause : ResetCause) (s : State) :
    (deliverCensus sender sig cause s).time = s.time ∧ (deliverCensus sender sig cause s).pins = s.pins ∧
    (deliverCensus sender sig cause s).link.integrated = s.link.integrated ∧
    (deliverCensus sender sig cause s).link.receiveErrors = s.link.receiveErrors ∧
    (deliverCensus sender sig cause s).agreement.restImage = s.agreement.restImage ∧
    (deliverCensus sender sig cause s).agreement.lateProposals = s.agreement.lateProposals ∧
    (deliverCensus sender sig cause s).agreement.streaks = s.agreement.streaks ∧
    (deliverCensus sender sig cause s).presence.alignment = s.presence.alignment ∧
    (deliverCensus sender sig cause s).channel.corrections = s.channel.corrections ∧
    (deliverCensus sender sig cause s).wake.pressed = s.wake.pressed ∧
    (deliverCensus sender sig cause s).wake.queue = s.wake.queue ∧
    (deliverCensus sender sig cause s).wake.minDwell = s.wake.minDwell ∧
    (deliverCensus sender sig cause s).wake.faultHold = s.wake.faultHold ∧
    (deliverCensus sender sig cause s).request.deferHold = s.request.deferHold ∧
    (deliverCensus sender sig cause s).request.lockout = s.request.lockout ∧
    (deliverCensus sender sig cause s).loader = s.loader ∧ (deliverCensus sender sig cause s).port = s.port ∧
    (deliverCensus sender sig cause s).pending = s.pending := by
  unfold deliverCensus
  dsimp only
  (repeat' split) <;> simp

@[simp] theorem enterForwardStage_keeps (sender : StationId) (stage : Nat) (own : Bool) (s : State) :
    (enterForwardStage sender stage own s).time = s.time ∧ (enterForwardStage sender stage own s).pins = s.pins ∧
    (enterForwardStage sender stage own s).link.integrated = s.link.integrated ∧
    (enterForwardStage sender stage own s).link.receiveErrors = s.link.receiveErrors ∧
    (enterForwardStage sender stage own s).agreement.phase = s.agreement.phase ∧
    (enterForwardStage sender stage own s).agreement.believed = s.agreement.believed ∧
    (enterForwardStage sender stage own s).agreement.restImage = s.agreement.restImage ∧
    (enterForwardStage sender stage own s).agreement.number = s.agreement.number ∧
    (enterForwardStage sender stage own s).agreement.history = s.agreement.history ∧
    (enterForwardStage sender stage own s).agreement.lateProposals = s.agreement.lateProposals ∧
    (enterForwardStage sender stage own s).agreement.streaks = s.agreement.streaks ∧
    (enterForwardStage sender stage own s).agreement.voteWindow = s.agreement.voteWindow ∧
    (enterForwardStage sender stage own s).agreement.voteGuard = s.agreement.voteGuard ∧
    (enterForwardStage sender stage own s).presence = s.presence ∧
    (enterForwardStage sender stage own s).executor.sub = s.executor.sub ∧
    (enterForwardStage sender stage own s).executor.cursor = s.executor.cursor ∧
    (enterForwardStage sender stage own s).executor.actionCursor = s.executor.actionCursor ∧
    (enterForwardStage sender stage own s).executor.halted = s.executor.halted ∧
    (enterForwardStage sender stage own s).executor.barrier = s.executor.barrier ∧
    (enterForwardStage sender stage own s).executor.barrierExpired = s.executor.barrierExpired ∧
    (enterForwardStage sender stage own s).executor.running = s.executor.running ∧
    (enterForwardStage sender stage own s).channel = s.channel ∧
    (enterForwardStage sender stage own s).wake.inputs = s.wake.inputs ∧
    (enterForwardStage sender stage own s).wake.pressed = s.wake.pressed ∧
    (enterForwardStage sender stage own s).wake.debounce = s.wake.debounce ∧
    (enterForwardStage sender stage own s).wake.longPress = s.wake.longPress ∧
    (enterForwardStage sender stage own s).wake.commonWindow = s.wake.commonWindow ∧
    (enterForwardStage sender stage own s).wake.queue = s.wake.queue ∧
    (enterForwardStage sender stage own s).wake.minDwell = s.wake.minDwell ∧
    (enterForwardStage sender stage own s).wake.faultHold = s.wake.faultHold ∧
    (enterForwardStage sender stage own s).wake.demote = s.wake.demote ∧
    (enterForwardStage sender stage own s).request.underVote = s.request.underVote ∧
    (enterForwardStage sender stage own s).request.deferHold = s.request.deferHold ∧
    (enterForwardStage sender stage own s).request.lockout = s.request.lockout ∧
    (enterForwardStage sender stage own s).request.refresh = s.request.refresh ∧
    (enterForwardStage sender stage own s).request.pulses = s.request.pulses ∧
    (enterForwardStage sender stage own s).request.result = s.request.result ∧
    (enterForwardStage sender stage own s).faults = s.faults ∧
    (enterForwardStage sender stage own s).loader = s.loader ∧ (enterForwardStage sender stage own s).port = s.port ∧
    (enterForwardStage sender stage own s).pending = s.pending := by
  unfold enterForwardStage
  dsimp only
  (repeat' split) <;> simp

/-- What a hand-off comes to: nothing where the station is not on the link, else the engine, or nothing more, after the
own slot and the sender's entry were updated. -/
theorem handOff_cases (f : Frame) (engine : Option Ready → State → State) (s : State) :
    handOff f engine s = s ∨
    (∃ t, handOff f engine s = t ∧
      t.time = s.time ∧ t.pins = s.pins ∧ t.link.integrated = s.link.integrated ∧
      t.link.receiveErrors = s.link.receiveErrors ∧ t.agreement = s.agreement ∧
      t.presence.barring = s.presence.barring ∧ t.presence.muteCause = s.presence.muteCause ∧
      t.presence.beat = s.presence.beat ∧ t.presence.beatTimer = s.presence.beatTimer ∧
      t.presence.censusWindow = s.presence.censusWindow ∧ t.presence.barredRetry = s.presence.barredRetry ∧
      t.presence.retryHeld = s.presence.retryHeld ∧ t.presence.alignment = s.presence.alignment ∧
      t.executor = s.executor ∧ t.channel = s.channel ∧ t.wake.inputs = s.wake.inputs ∧
      t.wake.pressed = s.wake.pressed ∧ t.wake.debounce = s.wake.debounce ∧ t.wake.longPress = s.wake.longPress ∧
      t.wake.commonWindow = s.wake.commonWindow ∧ t.wake.queue = s.wake.queue ∧ t.wake.minDwell = s.wake.minDwell ∧
      t.wake.faultHold = s.wake.faultHold ∧ t.wake.demote = s.wake.demote ∧
      t.request.underVote = s.request.underVote ∧ t.request.deferHold = s.request.deferHold ∧
      t.request.lockout = s.request.lockout ∧ t.request.refresh = s.request.refresh ∧
      t.request.pulses = s.request.pulses ∧ t.request.result = s.request.result ∧ t.faults = s.faults ∧
      t.loader = s.loader ∧ t.port = s.port ∧ t.pending = s.pending) ∨
    (∃ own t, handOff f engine s = engine own t ∧
      t.time = s.time ∧ t.pins = s.pins ∧ t.link.integrated = s.link.integrated ∧
      t.link.receiveErrors = s.link.receiveErrors ∧ t.agreement = s.agreement ∧
      t.presence.barring = s.presence.barring ∧ t.presence.muteCause = s.presence.muteCause ∧
      t.presence.beat = s.presence.beat ∧ t.presence.beatTimer = s.presence.beatTimer ∧
      t.presence.censusWindow = s.presence.censusWindow ∧ t.presence.barredRetry = s.presence.barredRetry ∧
      t.presence.retryHeld = s.presence.retryHeld ∧ t.presence.alignment = s.presence.alignment ∧
      t.executor = s.executor ∧ t.channel = s.channel ∧ t.wake.inputs = s.wake.inputs ∧
      t.wake.pressed = s.wake.pressed ∧ t.wake.debounce = s.wake.debounce ∧ t.wake.longPress = s.wake.longPress ∧
      t.wake.commonWindow = s.wake.commonWindow ∧ t.wake.queue = s.wake.queue ∧ t.wake.minDwell = s.wake.minDwell ∧
      t.wake.faultHold = s.wake.faultHold ∧ t.wake.demote = s.wake.demote ∧
      t.request.underVote = s.request.underVote ∧ t.request.deferHold = s.request.deferHold ∧
      t.request.lockout = s.request.lockout ∧ t.request.refresh = s.request.refresh ∧
      t.request.pulses = s.request.pulses ∧ t.request.result = s.request.result ∧ t.faults = s.faults ∧
      t.loader = s.loader ∧ t.port = s.port ∧ t.pending = s.pending) := by
  unfold handOff
  split
  · exact Or.inl rfl
  · refine Or.inr ?_
    dsimp only
    split
    · exact Or.inr ⟨_, _, rfl, by simp⟩
    · split
      · exact Or.inl ⟨_, rfl, by simp⟩
      · exact Or.inr ⟨_, _, rfl, by simp⟩

@[simp] theorem muteLinkFault_keeps (s : State) :
    (muteLinkFault s).time = s.time ∧ (muteLinkFault s).pins = s.pins ∧
    (muteLinkFault s).link.integrated = s.link.integrated ∧
    (muteLinkFault s).link.receiveErrors = s.link.receiveErrors ∧ (muteLinkFault s).agreement = s.agreement ∧
    (muteLinkFault s).presence.peers = s.presence.peers ∧ (muteLinkFault s).presence.barring = s.presence.barring ∧
    (muteLinkFault s).presence.beat = s.presence.beat ∧ (muteLinkFault s).presence.beatTimer = s.presence.beatTimer ∧
    (muteLinkFault s).presence.debt = s.presence.debt ∧
    (muteLinkFault s).presence.censusWindow = s.presence.censusWindow ∧
    (muteLinkFault s).presence.alignment = s.presence.alignment ∧ (muteLinkFault s).executor = s.executor ∧
    (muteLinkFault s).channel = s.channel ∧ (muteLinkFault s).wake.inputs = s.wake.inputs ∧
    (muteLinkFault s).wake.pressed = s.wake.pressed ∧ (muteLinkFault s).wake.debounce = s.wake.debounce ∧
    (muteLinkFault s).wake.longPress = s.wake.longPress ∧ (muteLinkFault s).wake.commonWindow = s.wake.commonWindow ∧
    (muteLinkFault s).wake.queue = s.wake.queue ∧ (muteLinkFault s).wake.minDwell = s.wake.minDwell ∧
    (muteLinkFault s).wake.faultHold = s.wake.faultHold ∧ (muteLinkFault s).wake.demote = s.wake.demote ∧
    (muteLinkFault s).request.underVote = s.request.underVote ∧
    (muteLinkFault s).request.deferHold = s.request.deferHold ∧
    (muteLinkFault s).request.lockout = s.request.lockout ∧ (muteLinkFault s).request.refresh = s.request.refresh ∧
    (muteLinkFault s).request.pulses = s.request.pulses ∧ (muteLinkFault s).request.result = s.request.result ∧
    (muteLinkFault s).faults = s.faults ∧ (muteLinkFault s).loader = s.loader ∧ (muteLinkFault s).port = s.port ∧
    (muteLinkFault s).pending = s.pending := by
  simp [muteLinkFault]

@[simp] theorem linkFault_keeps (s : State) :
    (linkFault s).time = s.time ∧ (linkFault s).pins = s.pins ∧ (linkFault s).link.integrated = s.link.integrated ∧
    (linkFault s).link.receiveErrors = s.link.receiveErrors ∧
    (linkFault s).agreement.believed = s.agreement.believed ∧
    (linkFault s).agreement.restImage = s.agreement.restImage ∧ (linkFault s).agreement.number = s.agreement.number ∧
    (linkFault s).agreement.lateProposals = s.agreement.lateProposals ∧
    (linkFault s).agreement.streaks = s.agreement.streaks ∧ (linkFault s).presence.peers = s.presence.peers ∧
    (linkFault s).presence.barring = s.presence.barring ∧ (linkFault s).presence.beat = s.presence.beat ∧
    (linkFault s).channel.corrections = s.channel.corrections ∧ (linkFault s).wake.pressed = s.wake.pressed ∧
    (linkFault s).wake.debounce = s.wake.debounce ∧ (linkFault s).wake.longPress = s.wake.longPress ∧
    (linkFault s).wake.commonWindow = s.wake.commonWindow ∧ (linkFault s).wake.queue = s.wake.queue ∧
    (linkFault s).wake.minDwell = s.wake.minDwell ∧ (linkFault s).wake.faultHold = s.wake.faultHold ∧
    (linkFault s).request.deferHold = s.request.deferHold ∧ (linkFault s).request.lockout = s.request.lockout ∧
    (linkFault s).request.refresh = s.request.refresh ∧ (linkFault s).loader = s.loader ∧
    (linkFault s).port = s.port ∧ (linkFault s).pending = s.pending := by
  unfold linkFault
  dsimp only
  (repeat' split) <;> simp

@[simp] theorem loseArbitration_keeps (winner : BitVec 6) (s : State) :
    (loseArbitration winner s).time = s.time ∧ (loseArbitration winner s).pins = s.pins ∧
    (loseArbitration winner s).link.integrated = s.link.integrated ∧
    (loseArbitration winner s).link.receiveErrors = s.link.receiveErrors ∧
    (loseArbitration winner s).agreement = s.agreement ∧ (loseArbitration winner s).presence = s.presence ∧
    (loseArbitration winner s).executor = s.executor ∧ (loseArbitration winner s).channel = s.channel ∧
    (loseArbitration winner s).wake.inputs = s.wake.inputs ∧
    (loseArbitration winner s).wake.pressed = s.wake.pressed ∧
    (loseArbitration winner s).wake.debounce = s.wake.debounce ∧
    (loseArbitration winner s).wake.longPress = s.wake.longPress ∧
    (loseArbitration winner s).wake.commonWindow = s.wake.commonWindow ∧
    (loseArbitration winner s).wake.queue = s.wake.queue ∧
    (loseArbitration winner s).wake.minDwell = s.wake.minDwell ∧
    (loseArbitration winner s).wake.faultHold = s.wake.faultHold ∧
    (loseArbitration winner s).wake.demote = s.wake.demote ∧
    (loseArbitration winner s).request.underVote = s.request.underVote ∧
    (loseArbitration winner s).request.deferHold = s.request.deferHold ∧
    (loseArbitration winner s).request.lockout = s.request.lockout ∧
    (loseArbitration winner s).request.refresh = s.request.refresh ∧
    (loseArbitration winner s).request.pulses = s.request.pulses ∧
    (loseArbitration winner s).request.result = s.request.result ∧ (loseArbitration winner s).faults = s.faults ∧
    (loseArbitration winner s).loader = s.loader ∧ (loseArbitration winner s).port = s.port ∧
    (loseArbitration winner s).pending = s.pending := by
  unfold loseArbitration
  (repeat' split) <;> simp

@[simp] theorem ownProposeOpens_keeps (own : Option Ready) (s : State) :
    (ownProposeOpens own s).time = s.time ∧ (ownProposeOpens own s).pins = s.pins ∧
    (ownProposeOpens own s).link = s.link ∧ (ownProposeOpens own s).agreement = s.agreement ∧
    (ownProposeOpens own s).presence = s.presence ∧ (ownProposeOpens own s).executor = s.executor ∧
    (ownProposeOpens own s).channel = s.channel ∧ (ownProposeOpens own s).wake = s.wake ∧
    (ownProposeOpens own s).request.deferHold = s.request.deferHold ∧
    (ownProposeOpens own s).request.lockout = s.request.lockout ∧
    (ownProposeOpens own s).request.refresh = s.request.refresh ∧
    (ownProposeOpens own s).request.pulses = s.request.pulses ∧
    (ownProposeOpens own s).request.result = s.request.result ∧ (ownProposeOpens own s).faults = s.faults ∧
    (ownProposeOpens own s).loader = s.loader ∧ (ownProposeOpens own s).port = s.port ∧
    (ownProposeOpens own s).pending = s.pending := by
  unfold ownProposeOpens
  split <;> simp

@[simp] theorem ownWakeIdle_keeps (own : Option Ready) (s : State) :
    (ownWakeIdle own s).time = s.time ∧ (ownWakeIdle own s).pins = s.pins ∧
    (ownWakeIdle own s).link.integrated = s.link.integrated ∧
    (ownWakeIdle own s).link.receiveErrors = s.link.receiveErrors ∧ (ownWakeIdle own s).agreement = s.agreement ∧
    (ownWakeIdle own s).presence = s.presence ∧ (ownWakeIdle own s).executor = s.executor ∧
    (ownWakeIdle own s).channel = s.channel ∧ (ownWakeIdle own s).wake.inputs = s.wake.inputs ∧
    (ownWakeIdle own s).wake.pressed = s.wake.pressed ∧ (ownWakeIdle own s).wake.debounce = s.wake.debounce ∧
    (ownWakeIdle own s).wake.longPress = s.wake.longPress ∧
    (ownWakeIdle own s).wake.commonWindow = s.wake.commonWindow ∧ (ownWakeIdle own s).wake.queue = s.wake.queue ∧
    (ownWakeIdle own s).wake.minDwell = s.wake.minDwell ∧ (ownWakeIdle own s).wake.faultHold = s.wake.faultHold ∧
    (ownWakeIdle own s).wake.demote = s.wake.demote ∧ (ownWakeIdle own s).request.underVote = s.request.underVote ∧
    (ownWakeIdle own s).request.deferHold = s.request.deferHold ∧
    (ownWakeIdle own s).request.lockout = s.request.lockout ∧
    (ownWakeIdle own s).request.refresh = s.request.refresh ∧ (ownWakeIdle own s).request.pulses = s.request.pulses ∧
    (ownWakeIdle own s).request.result = s.request.result ∧ (ownWakeIdle own s).faults = s.faults ∧
    (ownWakeIdle own s).loader = s.loader ∧ (ownWakeIdle own s).port = s.port ∧
    (ownWakeIdle own s).pending = s.pending := by
  unfold ownWakeIdle
  dsimp only
  (repeat' split) <;> simp

@[simp] theorem proposeLate_keeps (own : Option Ready) (s : State) :
    (proposeLate own s).time = s.time ∧ (proposeLate own s).pins = s.pins ∧
    (proposeLate own s).link.integrated = s.link.integrated ∧
    (proposeLate own s).link.receiveErrors = s.link.receiveErrors ∧
    (proposeLate own s).agreement.phase = s.agreement.phase ∧
    (proposeLate own s).agreement.believed = s.agreement.believed ∧
    (proposeLate own s).agreement.restImage = s.agreement.restImage ∧
    (proposeLate own s).agreement.number = s.agreement.number ∧
    (proposeLate own s).agreement.record = s.agreement.record ∧
    (proposeLate own s).agreement.history = s.agreement.history ∧
    (proposeLate own s).agreement.streaks = s.agreement.streaks ∧
    (proposeLate own s).agreement.voteWindow = s.agreement.voteWindow ∧
    (proposeLate own s).agreement.voteGuard = s.agreement.voteGuard ∧ (proposeLate own s).presence = s.presence ∧
    (proposeLate own s).executor = s.executor ∧ (proposeLate own s).channel = s.channel ∧
    (proposeLate own s).wake.inputs = s.wake.inputs ∧ (proposeLate own s).wake.pressed = s.wake.pressed ∧
    (proposeLate own s).wake.debounce = s.wake.debounce ∧ (proposeLate own s).wake.longPress = s.wake.longPress ∧
    (proposeLate own s).wake.commonWindow = s.wake.commonWindow ∧ (proposeLate own s).wake.queue = s.wake.queue ∧
    (proposeLate own s).wake.minDwell = s.wake.minDwell ∧ (proposeLate own s).wake.faultHold = s.wake.faultHold ∧
    (proposeLate own s).wake.demote = s.wake.demote ∧ (proposeLate own s).request.underVote = s.request.underVote ∧
    (proposeLate own s).request.deferHold = s.request.deferHold ∧
    (proposeLate own s).request.lockout = s.request.lockout ∧
    (proposeLate own s).request.refresh = s.request.refresh ∧ (proposeLate own s).request.pulses = s.request.pulses ∧
    (proposeLate own s).request.result = s.request.result ∧ (proposeLate own s).faults = s.faults ∧
    (proposeLate own s).loader = s.loader ∧ (proposeLate own s).port = s.port ∧
    (proposeLate own s).pending = s.pending := by
  unfold proposeLate
  split <;> simp

@[simp] theorem rejectSending_keeps (k : FrameKind) (s : State) :
    (rejectSending k s).time = s.time ∧ (rejectSending k s).pins = s.pins ∧
    (rejectSending k s).link.integrated = s.link.integrated ∧
    (rejectSending k s).link.receiveErrors = s.link.receiveErrors ∧
    (rejectSending k s).agreement.believed = s.agreement.believed ∧
    (rejectSending k s).agreement.restImage = s.agreement.restImage ∧
    (rejectSending k s).agreement.number = s.agreement.number ∧
    (rejectSending k s).agreement.lateProposals = s.agreement.lateProposals ∧
    (rejectSending k s).agreement.streaks = s.agreement.streaks ∧
    (rejectSending k s).presence.peers = s.presence.peers ∧
    (rejectSending k s).presence.barring = s.presence.barring ∧ (rejectSending k s).presence.beat = s.presence.beat ∧
    (rejectSending k s).channel.corrections = s.channel.corrections ∧
    (rejectSending k s).wake.pressed = s.wake.pressed ∧ (rejectSending k s).wake.debounce = s.wake.debounce ∧
    (rejectSending k s).wake.longPress = s.wake.longPress ∧
    (rejectSending k s).wake.commonWindow = s.wake.commonWindow ∧ (rejectSending k s).wake.queue = s.wake.queue ∧
    (rejectSending k s).wake.minDwell = s.wake.minDwell ∧ (rejectSending k s).wake.faultHold = s.wake.faultHold ∧
    (rejectSending k s).request.deferHold = s.request.deferHold ∧
    (rejectSending k s).request.lockout = s.request.lockout ∧
    (rejectSending k s).request.refresh = s.request.refresh ∧ (rejectSending k s).loader = s.loader ∧
    (rejectSending k s).port = s.port ∧ (rejectSending k s).pending = s.pending := by
  unfold rejectSending
  dsimp only
  (repeat' split) <;> simp

@[simp] theorem rejectFrame_keeps (rx : Reception) (s : State) :
    (rejectFrame rx s).time = s.time ∧ (rejectFrame rx s).pins = s.pins ∧
    (rejectFrame rx s).link.integrated = s.link.integrated ∧
    (rejectFrame rx s).agreement.believed = s.agreement.believed ∧
    (rejectFrame rx s).agreement.restImage = s.agreement.restImage ∧
    (rejectFrame rx s).agreement.number = s.agreement.number ∧
    (rejectFrame rx s).agreement.lateProposals = s.agreement.lateProposals ∧
    (rejectFrame rx s).agreement.streaks = s.agreement.streaks ∧
    (rejectFrame rx s).presence.peers = s.presence.peers ∧ (rejectFrame rx s).presence.barring = s.presence.barring ∧
    (rejectFrame rx s).presence.beat = s.presence.beat ∧
    (rejectFrame rx s).channel.corrections = s.channel.corrections ∧
    (rejectFrame rx s).wake.pressed = s.wake.pressed ∧ (rejectFrame rx s).wake.debounce = s.wake.debounce ∧
    (rejectFrame rx s).wake.longPress = s.wake.longPress ∧
    (rejectFrame rx s).wake.commonWindow = s.wake.commonWindow ∧ (rejectFrame rx s).wake.queue = s.wake.queue ∧
    (rejectFrame rx s).wake.minDwell = s.wake.minDwell ∧ (rejectFrame rx s).wake.faultHold = s.wake.faultHold ∧
    (rejectFrame rx s).request.deferHold = s.request.deferHold ∧
    (rejectFrame rx s).request.lockout = s.request.lockout ∧ (rejectFrame rx s).request.refresh = s.request.refresh ∧
    (rejectFrame rx s).loader = s.loader ∧ (rejectFrame rx s).port = s.port ∧ (rejectFrame rx s).pending = s.pending := by
  unfold rejectFrame
  dsimp only
  (repeat' split) <;> simp

@[simp] theorem takeUnwinding_keeps (reason : AbortReason) (r : Record) (s : State) :
    (takeUnwinding reason r s).time = s.time ∧ (takeUnwinding reason r s).pins = s.pins ∧
    (takeUnwinding reason r s).link.integrated = s.link.integrated ∧
    (takeUnwinding reason r s).link.receiveErrors = s.link.receiveErrors ∧
    (takeUnwinding reason r s).agreement.believed = s.agreement.believed ∧
    (takeUnwinding reason r s).agreement.restImage = s.agreement.restImage ∧
    (takeUnwinding reason r s).agreement.number = s.agreement.number ∧
    (takeUnwinding reason r s).agreement.history = s.agreement.history ∧
    (takeUnwinding reason r s).agreement.lateProposals = s.agreement.lateProposals ∧
    (takeUnwinding reason r s).agreement.streaks = s.agreement.streaks ∧
    (takeUnwinding reason r s).agreement.voteWindow = s.agreement.voteWindow ∧
    (takeUnwinding reason r s).agreement.voteGuard = s.agreement.voteGuard ∧
    (takeUnwinding reason r s).presence = s.presence ∧
    (takeUnwinding reason r s).channel.corrections = s.channel.corrections ∧
    (takeUnwinding reason r s).wake.inputs = s.wake.inputs ∧
    (takeUnwinding reason r s).wake.pressed = s.wake.pressed ∧
    (takeUnwinding reason r s).wake.debounce = s.wake.debounce ∧
    (takeUnwinding reason r s).wake.longPress = s.wake.longPress ∧
    (takeUnwinding reason r s).wake.commonWindow = s.wake.commonWindow ∧
    (takeUnwinding reason r s).wake.queue = s.wake.queue ∧
    (takeUnwinding reason r s).wake.minDwell = s.wake.minDwell ∧
    (takeUnwinding reason r s).wake.faultHold = s.wake.faultHold ∧
    (takeUnwinding reason r s).wake.demote = s.wake.demote ∧
    (takeUnwinding reason r s).request.underVote = s.request.underVote ∧
    (takeUnwinding reason r s).request.deferHold = s.request.deferHold ∧
    (takeUnwinding reason r s).request.lockout = s.request.lockout ∧
    (takeUnwinding reason r s).request.refresh = s.request.refresh ∧
    (takeUnwinding reason r s).request.pulses = s.request.pulses ∧
    (takeUnwinding reason r s).request.result = s.request.result ∧ (takeUnwinding reason r s).faults = s.faults ∧
    (takeUnwinding reason r s).loader = s.loader ∧ (takeUnwinding reason r s).port = s.port ∧
    (takeUnwinding reason r s).pending = s.pending := by
  simp [takeUnwinding]

@[simp] theorem takeAbort_keeps (sender : StationId) (number : TxnNumber) (reason : AbortReason) (s : State) :
    (takeAbort sender number reason s).time = s.time ∧ (takeAbort sender number reason s).pins = s.pins ∧
    (takeAbort sender number reason s).link.integrated = s.link.integrated ∧
    (takeAbort sender number reason s).link.receiveErrors = s.link.receiveErrors ∧
    (takeAbort sender number reason s).agreement.number = s.agreement.number ∧
    (takeAbort sender number reason s).agreement.lateProposals = s.agreement.lateProposals ∧
    (takeAbort sender number reason s).agreement.streaks = s.agreement.streaks ∧
    (takeAbort sender number reason s).presence.muteCause = s.presence.muteCause ∧
    (takeAbort sender number reason s).presence.debt = s.presence.debt ∧
    (takeAbort sender number reason s).presence.censusWindow = s.presence.censusWindow ∧
    (takeAbort sender number reason s).presence.barredRetry = s.presence.barredRetry ∧
    (takeAbort sender number reason s).presence.retryHeld = s.presence.retryHeld ∧
    (takeAbort sender number reason s).presence.alignment = s.presence.alignment ∧
    (takeAbort sender number reason s).wake.debounce = s.wake.debounce ∧
    (takeAbort sender number reason s).wake.longPress = s.wake.longPress ∧
    (takeAbort sender number reason s).wake.faultHold = s.wake.faultHold ∧
    (takeAbort sender number reason s).loader = s.loader ∧ (takeAbort sender number reason s).port = s.port ∧
    (takeAbort sender number reason s).pending = s.pending := by
  unfold takeAbort
  (repeat' split) <;> simp

@[simp] theorem withdrawInCensus_keeps (s : State) :
    (withdrawInCensus s).time = s.time ∧ (withdrawInCensus s).pins = s.pins ∧ (withdrawInCensus s).link = s.link ∧
    (withdrawInCensus s).agreement.phase = s.agreement.phase ∧
    (withdrawInCensus s).agreement.restImage = s.agreement.restImage ∧
    (withdrawInCensus s).agreement.record = s.agreement.record ∧
    (withdrawInCensus s).agreement.history = s.agreement.history ∧
    (withdrawInCensus s).agreement.lateProposals = s.agreement.lateProposals ∧
    (withdrawInCensus s).agreement.streaks = s.agreement.streaks ∧
    (withdrawInCensus s).agreement.voteWindow = s.agreement.voteWindow ∧
    (withdrawInCensus s).agreement.voteGuard = s.agreement.voteGuard ∧
    (withdrawInCensus s).presence.peers = s.presence.peers ∧
    (withdrawInCensus s).presence.barring = s.presence.barring ∧
    (withdrawInCensus s).presence.muteCause = s.presence.muteCause ∧
    (withdrawInCensus s).presence.beat = s.presence.beat ∧
    (withdrawInCensus s).presence.beatTimer = s.presence.beatTimer ∧
    (withdrawInCensus s).presence.debt = s.presence.debt ∧
    (withdrawInCensus s).presence.barredRetry = s.presence.barredRetry ∧
    (withdrawInCensus s).presence.retryHeld = s.presence.retryHeld ∧ (withdrawInCensus s).executor = s.executor ∧
    (withdrawInCensus s).channel.signals = s.channel.signals ∧
    (withdrawInCensus s).channel.awaits = s.channel.awaits ∧
    (withdrawInCensus s).channel.waitCounter = s.channel.waitCounter ∧
    (withdrawInCensus s).channel.corrections = s.channel.corrections ∧ (withdrawInCensus s).wake = s.wake ∧
    (withdrawInCensus s).request = s.request ∧ (withdrawInCensus s).faults = s.faults ∧
    (withdrawInCensus s).loader = s.loader ∧ (withdrawInCensus s).port = s.port ∧
    (withdrawInCensus s).pending = s.pending := by
  unfold withdrawInCensus
  split <;> simp

@[simp] theorem takeFault_keeps (sender : StationId) (code : FaultCode) (s : State) :
    (takeFault sender code s).time = s.time ∧ (takeFault sender code s).pins = s.pins ∧
    (takeFault sender code s).link.integrated = s.link.integrated ∧
    (takeFault sender code s).link.receiveErrors = s.link.receiveErrors ∧
    (takeFault sender code s).agreement.restImage = s.agreement.restImage ∧
    (takeFault sender code s).agreement.lateProposals = s.agreement.lateProposals ∧
    (takeFault sender code s).agreement.streaks = s.agreement.streaks ∧
    (takeFault sender code s).presence.peers = s.presence.peers ∧
    (takeFault sender code s).presence.barring = s.presence.barring ∧
    (takeFault sender code s).presence.muteCause = s.presence.muteCause ∧
    (takeFault sender code s).presence.debt = s.presence.debt ∧
    (takeFault sender code s).presence.barredRetry = s.presence.barredRetry ∧
    (takeFault sender code s).presence.retryHeld = s.presence.retryHeld ∧
    (takeFault sender code s).channel.corrections = s.channel.corrections ∧
    (takeFault sender code s).wake.pressed = s.wake.pressed ∧
    (takeFault sender code s).wake.debounce = s.wake.debounce ∧
    (takeFault sender code s).wake.longPress = s.wake.longPress ∧
    (takeFault sender code s).wake.commonWindow = s.wake.commonWindow ∧
    (takeFault sender code s).wake.queue = s.wake.queue ∧ (takeFault sender code s).wake.minDwell = s.wake.minDwell ∧
    (takeFault sender code s).wake.faultHold = s.wake.faultHold ∧
    (takeFault sender code s).request.deferHold = s.request.deferHold ∧
    (takeFault sender code s).request.lockout = s.request.lockout ∧
    (takeFault sender code s).request.refresh = s.request.refresh ∧ (takeFault sender code s).loader = s.loader ∧
    (takeFault sender code s).port = s.port ∧ (takeFault sender code s).pending = s.pending := by
  unfold takeFault
  (repeat' split) <;> simp

@[simp] theorem takeForcedPropose_keeps (sender : StationId) (kind : Kind) (s : State) :
    (takeForcedPropose sender kind s).time = s.time ∧ (takeForcedPropose sender kind s).pins = s.pins ∧
    (takeForcedPropose sender kind s).link.integrated = s.link.integrated ∧
    (takeForcedPropose sender kind s).link.receiveErrors = s.link.receiveErrors ∧
    (takeForcedPropose sender kind s).agreement.restImage = s.agreement.restImage ∧
    (takeForcedPropose sender kind s).agreement.streaks = s.agreement.streaks ∧
    (takeForcedPropose sender kind s).presence.peers = s.presence.peers ∧
    (takeForcedPropose sender kind s).presence.barring = s.presence.barring ∧
    (takeForcedPropose sender kind s).presence.muteCause = s.presence.muteCause ∧
    (takeForcedPropose sender kind s).presence.debt = s.presence.debt ∧
    (takeForcedPropose sender kind s).presence.barredRetry = s.presence.barredRetry ∧
    (takeForcedPropose sender kind s).presence.retryHeld = s.presence.retryHeld ∧
    (takeForcedPropose sender kind s).channel.corrections = s.channel.corrections ∧
    (takeForcedPropose sender kind s).wake.pressed = s.wake.pressed ∧
    (takeForcedPropose sender kind s).wake.debounce = s.wake.debounce ∧
    (takeForcedPropose sender kind s).wake.longPress = s.wake.longPress ∧
    (takeForcedPropose sender kind s).wake.commonWindow = s.wake.commonWindow ∧
    (takeForcedPropose sender kind s).wake.queue = s.wake.queue ∧
    (takeForcedPropose sender kind s).wake.minDwell = s.wake.minDwell ∧
    (takeForcedPropose sender kind s).wake.faultHold = s.wake.faultHold ∧
    (takeForcedPropose sender kind s).request.deferHold = s.request.deferHold ∧
    (takeForcedPropose sender kind s).request.lockout = s.request.lockout ∧
    (takeForcedPropose sender kind s).request.refresh = s.request.refresh ∧
    (takeForcedPropose sender kind s).loader = s.loader ∧ (takeForcedPropose sender kind s).port = s.port ∧
    (takeForcedPropose sender kind s).pending = s.pending := by
  unfold takeForcedPropose
  (repeat' split) <;> simp

@[simp] theorem takeForward_keeps (sender : StationId) (number : TxnNumber) (stage : Nat) (own : Option Ready) (s : State) :
    (takeForward sender number stage own s).time = s.time ∧ (takeForward sender number stage own s).pins = s.pins ∧
    (takeForward sender number stage own s).link.integrated = s.link.integrated ∧
    (takeForward sender number stage own s).link.receiveErrors = s.link.receiveErrors ∧
    (takeForward sender number stage own s).agreement.lateProposals = s.agreement.lateProposals ∧
    (takeForward sender number stage own s).agreement.streaks = s.agreement.streaks ∧
    (takeForward sender number stage own s).presence.peers = s.presence.peers ∧
    (takeForward sender number stage own s).presence.barring = s.presence.barring ∧
    (takeForward sender number stage own s).presence.alignment = s.presence.alignment ∧
    (takeForward sender number stage own s).request.underVote = s.request.underVote ∧
    (takeForward sender number stage own s).loader = s.loader ∧
    (takeForward sender number stage own s).port = s.port ∧
    (takeForward sender number stage own s).pending = s.pending := by
  unfold takeForward
  split <;> simp

@[simp] theorem takePropose_keeps (sender : StationId) (kind : Kind) (imageBacked : Bool) (inh : Inhibits) (own : Option Ready) (s : State) :
    (takePropose sender kind imageBacked inh own s).time = s.time ∧
    (takePropose sender kind imageBacked inh own s).pins = s.pins ∧
    (takePropose sender kind imageBacked inh own s).link.integrated = s.link.integrated ∧
    (takePropose sender kind imageBacked inh own s).link.receiveErrors = s.link.receiveErrors ∧
    (takePropose sender kind imageBacked inh own s).agreement.restImage = s.agreement.restImage ∧
    (takePropose sender kind imageBacked inh own s).agreement.history = s.agreement.history ∧
    (takePropose sender kind imageBacked inh own s).presence.peers = s.presence.peers ∧
    (takePropose sender kind imageBacked inh own s).presence.barring = s.presence.barring ∧
    (takePropose sender kind imageBacked inh own s).presence.muteCause = s.presence.muteCause ∧
    (takePropose sender kind imageBacked inh own s).presence.debt = s.presence.debt ∧
    (takePropose sender kind imageBacked inh own s).presence.barredRetry = s.presence.barredRetry ∧
    (takePropose sender kind imageBacked inh own s).presence.retryHeld = s.presence.retryHeld ∧
    (takePropose sender kind imageBacked inh own s).channel.corrections = s.channel.corrections ∧
    (takePropose sender kind imageBacked inh own s).wake.pressed = s.wake.pressed ∧
    (takePropose sender kind imageBacked inh own s).wake.debounce = s.wake.debounce ∧
    (takePropose sender kind imageBacked inh own s).wake.longPress = s.wake.longPress ∧
    (takePropose sender kind imageBacked inh own s).wake.commonWindow = s.wake.commonWindow ∧
    (takePropose sender kind imageBacked inh own s).wake.queue = s.wake.queue ∧
    (takePropose sender kind imageBacked inh own s).wake.minDwell = s.wake.minDwell ∧
    (takePropose sender kind imageBacked inh own s).wake.faultHold = s.wake.faultHold ∧
    (takePropose sender kind imageBacked inh own s).request.deferHold = s.request.deferHold ∧
    (takePropose sender kind imageBacked inh own s).request.lockout = s.request.lockout ∧
    (takePropose sender kind imageBacked inh own s).request.refresh = s.request.refresh ∧
    (takePropose sender kind imageBacked inh own s).faults = s.faults ∧
    (takePropose sender kind imageBacked inh own s).loader = s.loader ∧
    (takePropose sender kind imageBacked inh own s).port = s.port ∧
    (takePropose sender kind imageBacked inh own s).pending = s.pending := by
  unfold takePropose
  (repeat' split) <;> simp

@[simp] theorem takeUnwind_keeps (sender : StationId) (number : TxnNumber) (stage : Nat) (own : Option Ready) (s : State) :
    (takeUnwind sender number stage own s).time = s.time ∧ (takeUnwind sender number stage own s).pins = s.pins ∧
    (takeUnwind sender number stage own s).link.integrated = s.link.integrated ∧
    (takeUnwind sender number stage own s).link.receiveErrors = s.link.receiveErrors ∧
    (takeUnwind sender number stage own s).agreement.number = s.agreement.number ∧
    (takeUnwind sender number stage own s).agreement.lateProposals = s.agreement.lateProposals ∧
    (takeUnwind sender number stage own s).agreement.streaks = s.agreement.streaks ∧
    (takeUnwind sender number stage own s).presence.peers = s.presence.peers ∧
    (takeUnwind sender number stage own s).presence.barring = s.presence.barring ∧
    (takeUnwind sender number stage own s).presence.muteCause = s.presence.muteCause ∧
    (takeUnwind sender number stage own s).presence.debt = s.presence.debt ∧
    (takeUnwind sender number stage own s).presence.censusWindow = s.presence.censusWindow ∧
    (takeUnwind sender number stage own s).presence.barredRetry = s.presence.barredRetry ∧
    (takeUnwind sender number stage own s).presence.retryHeld = s.presence.retryHeld ∧
    (takeUnwind sender number stage own s).presence.alignment = s.presence.alignment ∧
    (takeUnwind sender number stage own s).wake.debounce = s.wake.debounce ∧
    (takeUnwind sender number stage own s).wake.longPress = s.wake.longPress ∧
    (takeUnwind sender number stage own s).wake.faultHold = s.wake.faultHold ∧
    (takeUnwind sender number stage own s).request.underVote = s.request.underVote ∧
    (takeUnwind sender number stage own s).loader = s.loader ∧ (takeUnwind sender number stage own s).port = s.port ∧
    (takeUnwind sender number stage own s).pending = s.pending := by
  unfold takeUnwind
  split <;> simp

@[simp] theorem takeVote_keeps (sender : StationId) (number : TxnNumber) (a : Answer) (s : State) :
    (takeVote sender number a s).time = s.time ∧ (takeVote sender number a s).pins = s.pins ∧
    (takeVote sender number a s).link.integrated = s.link.integrated ∧
    (takeVote sender number a s).link.receiveErrors = s.link.receiveErrors ∧
    (takeVote sender number a s).agreement.number = s.agreement.number ∧
    (takeVote sender number a s).agreement.lateProposals = s.agreement.lateProposals ∧
    (takeVote sender number a s).presence.barring = s.presence.barring ∧
    (takeVote sender number a s).presence.muteCause = s.presence.muteCause ∧
    (takeVote sender number a s).presence.debt = s.presence.debt ∧
    (takeVote sender number a s).presence.censusWindow = s.presence.censusWindow ∧
    (takeVote sender number a s).presence.barredRetry = s.presence.barredRetry ∧
    (takeVote sender number a s).presence.retryHeld = s.presence.retryHeld ∧
    (takeVote sender number a s).presence.alignment = s.presence.alignment ∧
    (takeVote sender number a s).wake.debounce = s.wake.debounce ∧
    (takeVote sender number a s).wake.longPress = s.wake.longPress ∧
    (takeVote sender number a s).wake.faultHold = s.wake.faultHold ∧ (takeVote sender number a s).loader = s.loader ∧
    (takeVote sender number a s).port = s.port ∧ (takeVote sender number a s).pending = s.pending := by
  unfold takeVote
  (repeat' split) <;> simp

@[simp] theorem wakeOpens_keeps (sender : StationId) (t : WakeTarget) (input : Fin 8) (own : Option Ready) (s : State) :
    (wakeOpens sender t input own s).time = s.time ∧ (wakeOpens sender t input own s).pins = s.pins ∧
    (wakeOpens sender t input own s).link.integrated = s.link.integrated ∧
    (wakeOpens sender t input own s).link.receiveErrors = s.link.receiveErrors ∧
    (wakeOpens sender t input own s).agreement.believed = s.agreement.believed ∧
    (wakeOpens sender t input own s).agreement.restImage = s.agreement.restImage ∧
    (wakeOpens sender t input own s).agreement.history = s.agreement.history ∧
    (wakeOpens sender t input own s).agreement.lateProposals = s.agreement.lateProposals ∧
    (wakeOpens sender t input own s).agreement.streaks = s.agreement.streaks ∧
    (wakeOpens sender t input own s).agreement.voteWindow = s.agreement.voteWindow ∧
    (wakeOpens sender t input own s).agreement.voteGuard = s.agreement.voteGuard ∧
    (wakeOpens sender t input own s).presence.peers = s.presence.peers ∧
    (wakeOpens sender t input own s).presence.barring = s.presence.barring ∧
    (wakeOpens sender t input own s).presence.muteCause = s.presence.muteCause ∧
    (wakeOpens sender t input own s).presence.debt = s.presence.debt ∧
    (wakeOpens sender t input own s).presence.censusWindow = s.presence.censusWindow ∧
    (wakeOpens sender t input own s).presence.barredRetry = s.presence.barredRetry ∧
    (wakeOpens sender t input own s).presence.retryHeld = s.presence.retryHeld ∧
    (wakeOpens sender t input own s).presence.alignment = s.presence.alignment ∧
    (wakeOpens sender t input own s).channel.corrections = s.channel.corrections ∧
    (wakeOpens sender t input own s).wake.pressed = s.wake.pressed ∧
    (wakeOpens sender t input own s).wake.debounce = s.wake.debounce ∧
    (wakeOpens sender t input own s).wake.longPress = s.wake.longPress ∧
    (wakeOpens sender t input own s).wake.commonWindow = s.wake.commonWindow ∧
    (wakeOpens sender t input own s).wake.minDwell = s.wake.minDwell ∧
    (wakeOpens sender t input own s).wake.faultHold = s.wake.faultHold ∧
    (wakeOpens sender t input own s).request.underVote = s.request.underVote ∧
    (wakeOpens sender t input own s).request.deferHold = s.request.deferHold ∧
    (wakeOpens sender t input own s).request.lockout = s.request.lockout ∧
    (wakeOpens sender t input own s).request.refresh = s.request.refresh ∧
    (wakeOpens sender t input own s).request.pulses = s.request.pulses ∧
    (wakeOpens sender t input own s).request.result = s.request.result ∧
    (wakeOpens sender t input own s).faults = s.faults ∧ (wakeOpens sender t input own s).loader = s.loader ∧
    (wakeOpens sender t input own s).port = s.port ∧ (wakeOpens sender t input own s).pending = s.pending := by
  unfold wakeOpens
  (repeat' split) <;> simp

@[simp] theorem wakeInDescent_keeps (sender : StationId) (t : WakeTarget) (input : Fin 8) (own : Option Ready) (s : State) :
    (wakeInDescent sender t input own s).time = s.time ∧ (wakeInDescent sender t input own s).pins = s.pins ∧
    (wakeInDescent sender t input own s).link.integrated = s.link.integrated ∧
    (wakeInDescent sender t input own s).link.receiveErrors = s.link.receiveErrors ∧
    (wakeInDescent sender t input own s).agreement.streaks = s.agreement.streaks ∧
    (wakeInDescent sender t input own s).presence.peers = s.presence.peers ∧
    (wakeInDescent sender t input own s).presence.barring = s.presence.barring ∧
    (wakeInDescent sender t input own s).presence.muteCause = s.presence.muteCause ∧
    (wakeInDescent sender t input own s).presence.debt = s.presence.debt ∧
    (wakeInDescent sender t input own s).presence.censusWindow = s.presence.censusWindow ∧
    (wakeInDescent sender t input own s).presence.barredRetry = s.presence.barredRetry ∧
    (wakeInDescent sender t input own s).presence.retryHeld = s.presence.retryHeld ∧
    (wakeInDescent sender t input own s).presence.alignment = s.presence.alignment ∧
    (wakeInDescent sender t input own s).wake.debounce = s.wake.debounce ∧
    (wakeInDescent sender t input own s).wake.longPress = s.wake.longPress ∧
    (wakeInDescent sender t input own s).request.underVote = s.request.underVote ∧
    (wakeInDescent sender t input own s).loader = s.loader ∧ (wakeInDescent sender t input own s).port = s.port ∧
    (wakeInDescent sender t input own s).pending = s.pending := by
  unfold wakeInDescent
  split <;> simp

@[simp] theorem takeWake_keeps (sender : StationId) (t : WakeTarget) (input : Fin 8) (own : Option Ready) (s : State) :
    (takeWake sender t input own s).time = s.time ∧ (takeWake sender t input own s).pins = s.pins ∧
    (takeWake sender t input own s).link.integrated = s.link.integrated ∧
    (takeWake sender t input own s).link.receiveErrors = s.link.receiveErrors ∧
    (takeWake sender t input own s).agreement.streaks = s.agreement.streaks ∧
    (takeWake sender t input own s).presence.peers = s.presence.peers ∧
    (takeWake sender t input own s).presence.barring = s.presence.barring ∧
    (takeWake sender t input own s).presence.muteCause = s.presence.muteCause ∧
    (takeWake sender t input own s).presence.debt = s.presence.debt ∧
    (takeWake sender t input own s).presence.barredRetry = s.presence.barredRetry ∧
    (takeWake sender t input own s).presence.retryHeld = s.presence.retryHeld ∧
    (takeWake sender t input own s).wake.debounce = s.wake.debounce ∧
    (takeWake sender t input own s).wake.longPress = s.wake.longPress ∧
    (takeWake sender t input own s).request.underVote = s.request.underVote ∧
    (takeWake sender t input own s).loader = s.loader ∧ (takeWake sender t input own s).port = s.port ∧
    (takeWake sender t input own s).pending = s.pending := by
  unfold takeWake
  (repeat' split) <;> simp

@[simp] theorem endRead_keeps (header : List Byte) (s : State) :
    (endRead header s).time = s.time ∧ (endRead header s).pins = s.pins ∧ (endRead header s).link = s.link ∧
    (endRead header s).agreement = s.agreement ∧ (endRead header s).presence = s.presence ∧
    (endRead header s).executor = s.executor ∧ (endRead header s).channel = s.channel ∧
    (endRead header s).wake = s.wake ∧ (endRead header s).request = s.request ∧
    (endRead header s).faults = s.faults ∧ (endRead header s).loader.image = s.loader.image ∧
    (endRead header s).loader.signature = s.loader.signature ∧
    (endRead header s).loader.resetCause = s.loader.resetCause ∧
    (endRead header s).loader.bytesRead = some (readLength header) ∧ (endRead header s).port = s.port ∧
    (endRead header s).pending = s.pending := by
  simp [endRead]

@[simp] theorem configFault_keeps (s : State) :
    (configFault s).time = s.time ∧ (configFault s).pins = s.pins ∧ (configFault s).link = s.link ∧
    (configFault s).agreement.believed = s.agreement.believed ∧
    (configFault s).agreement.restImage = s.agreement.restImage ∧
    (configFault s).agreement.number = s.agreement.number ∧ (configFault s).agreement.record = s.agreement.record ∧
    (configFault s).agreement.history = s.agreement.history ∧
    (configFault s).agreement.lateProposals = s.agreement.lateProposals ∧
    (configFault s).agreement.streaks = s.agreement.streaks ∧
    (configFault s).agreement.voteWindow = s.agreement.voteWindow ∧
    (configFault s).agreement.voteGuard = s.agreement.voteGuard ∧ (configFault s).presence = s.presence ∧
    (configFault s).executor = s.executor ∧ (configFault s).wake = s.wake ∧ (configFault s).request = s.request ∧
    (configFault s).faults = s.faults ∧ (configFault s).loader = s.loader ∧ (configFault s).port = s.port ∧
    (configFault s).pending = s.pending := by
  simp [configFault]

@[simp] theorem loadChannel_keeps (s : State) :
    (loadChannel s).time = s.time ∧ (loadChannel s).pins = s.pins ∧ (loadChannel s).link = s.link ∧
    (loadChannel s).agreement = s.agreement ∧ (loadChannel s).presence = s.presence ∧
    (loadChannel s).executor = s.executor ∧ (loadChannel s).channel.signals = s.channel.signals ∧
    (loadChannel s).channel.awaits = s.channel.awaits ∧ (loadChannel s).channel.waitCounter = s.channel.waitCounter ∧
    (loadChannel s).channel.corrections = s.channel.corrections ∧ (loadChannel s).wake = s.wake ∧
    (loadChannel s).request = s.request ∧ (loadChannel s).faults = s.faults ∧ (loadChannel s).loader = s.loader ∧
    (loadChannel s).port = s.port ∧ (loadChannel s).pending = s.pending := by
  simp [loadChannel]

@[simp] theorem loadDone_keeps (i : Image) (s : State) :
    (loadDone i s).time = s.time ∧ (loadDone i s).pins = s.pins ∧
    (loadDone i s).link.integrated = s.link.integrated ∧ (loadDone i s).link.receiveErrors = s.link.receiveErrors ∧
    (loadDone i s).agreement.believed = s.agreement.believed ∧
    (loadDone i s).agreement.restImage = s.agreement.restImage ∧
    (loadDone i s).agreement.number = s.agreement.number ∧ (loadDone i s).agreement.record = s.agreement.record ∧
    (loadDone i s).agreement.history = s.agreement.history ∧
    (loadDone i s).agreement.lateProposals = s.agreement.lateProposals ∧
    (loadDone i s).agreement.streaks = s.agreement.streaks ∧
    (loadDone i s).agreement.voteWindow = s.agreement.voteWindow ∧
    (loadDone i s).agreement.voteGuard = s.agreement.voteGuard ∧ (loadDone i s).presence.peers = s.presence.peers ∧
    (loadDone i s).presence.barring = s.presence.barring ∧ (loadDone i s).presence.muteCause = s.presence.muteCause ∧
    (loadDone i s).presence.barredRetry = s.presence.barredRetry ∧
    (loadDone i s).presence.retryHeld = s.presence.retryHeld ∧
    (loadDone i s).presence.alignment = s.presence.alignment ∧ (loadDone i s).executor = s.executor ∧
    (loadDone i s).channel.signals = s.channel.signals ∧ (loadDone i s).channel.awaits = s.channel.awaits ∧
    (loadDone i s).channel.waitCounter = s.channel.waitCounter ∧
    (loadDone i s).channel.corrections = s.channel.corrections ∧ (loadDone i s).wake.inputs = s.wake.inputs ∧
    (loadDone i s).wake.pressed = s.wake.pressed ∧ (loadDone i s).wake.debounce = s.wake.debounce ∧
    (loadDone i s).wake.longPress = s.wake.longPress ∧ (loadDone i s).wake.commonWindow = s.wake.commonWindow ∧
    (loadDone i s).wake.queue = s.wake.queue ∧ (loadDone i s).wake.minDwell = s.wake.minDwell ∧
    (loadDone i s).wake.faultHold = s.wake.faultHold ∧ (loadDone i s).wake.demote = s.wake.demote ∧
    (loadDone i s).request.underVote = s.request.underVote ∧ (loadDone i s).request.deferHold = s.request.deferHold ∧
    (loadDone i s).request.lockout = s.request.lockout ∧ (loadDone i s).request.refresh = s.request.refresh ∧
    (loadDone i s).request.pulses = s.request.pulses ∧ (loadDone i s).request.result = s.request.result ∧
    (loadDone i s).faults = s.faults ∧ (loadDone i s).loader.resetCause = s.loader.resetCause ∧
    (loadDone i s).port = s.port ∧ (loadDone i s).pending = s.pending := by
  simp [loadDone]

@[simp] theorem powerOn_keeps (s : State) :
    (powerOn s).pins = s.pins ∧ (powerOn s).pending = s.pending := by
  simp [powerOn]

@[simp] theorem warmReset_keeps (cause : ResetCause) (s : State) :
    (warmReset cause s).pins = s.pins ∧ (warmReset cause s).agreement.history = s.agreement.history ∧
    (warmReset cause s).faults.latched = s.faults.latched ∧
    (warmReset cause s).faults.unrecorded = s.faults.unrecorded ∧ (warmReset cause s).pending = s.pending := by
  simp [warmReset]

@[simp] theorem clearChanged_keeps (i : StationId) (s : State) :
    (clearChanged i s).time = s.time ∧ (clearChanged i s).pins = s.pins ∧ (clearChanged i s).link = s.link ∧
    (clearChanged i s).agreement = s.agreement ∧ (clearChanged i s).presence.barring = s.presence.barring ∧
    (clearChanged i s).presence.muteCause = s.presence.muteCause ∧
    (clearChanged i s).presence.beat = s.presence.beat ∧
    (clearChanged i s).presence.beatTimer = s.presence.beatTimer ∧
    (clearChanged i s).presence.debt = s.presence.debt ∧
    (clearChanged i s).presence.censusWindow = s.presence.censusWindow ∧
    (clearChanged i s).presence.barredRetry = s.presence.barredRetry ∧
    (clearChanged i s).presence.retryHeld = s.presence.retryHeld ∧
    (clearChanged i s).presence.alignment = s.presence.alignment ∧ (clearChanged i s).executor = s.executor ∧
    (clearChanged i s).channel = s.channel ∧ (clearChanged i s).wake = s.wake ∧
    (clearChanged i s).request = s.request ∧ (clearChanged i s).faults = s.faults ∧
    (clearChanged i s).loader = s.loader ∧ (clearChanged i s).port = s.port ∧ (clearChanged i s).pending = s.pending := by
  simp [clearChanged]

@[simp] theorem clearNewFlags_keeps (s : State) :
    (clearNewFlags s).time = s.time ∧ (clearNewFlags s).pins = s.pins ∧ (clearNewFlags s).link = s.link ∧
    (clearNewFlags s).agreement.phase = s.agreement.phase ∧
    (clearNewFlags s).agreement.believed = s.agreement.believed ∧
    (clearNewFlags s).agreement.restImage = s.agreement.restImage ∧
    (clearNewFlags s).agreement.number = s.agreement.number ∧
    (clearNewFlags s).agreement.record = s.agreement.record ∧
    (clearNewFlags s).agreement.lateProposals = s.agreement.lateProposals ∧
    (clearNewFlags s).agreement.streaks = s.agreement.streaks ∧
    (clearNewFlags s).agreement.voteWindow = s.agreement.voteWindow ∧
    (clearNewFlags s).agreement.voteGuard = s.agreement.voteGuard ∧ (clearNewFlags s).presence = s.presence ∧
    (clearNewFlags s).executor = s.executor ∧ (clearNewFlags s).channel = s.channel ∧
    (clearNewFlags s).wake = s.wake ∧ (clearNewFlags s).request = s.request ∧ (clearNewFlags s).faults = s.faults ∧
    (clearNewFlags s).loader = s.loader ∧ (clearNewFlags s).port = s.port ∧ (clearNewFlags s).pending = s.pending := by
  simp [clearNewFlags]

@[simp] theorem emptyLatched_keeps (s : State) :
    (emptyLatched s).time = s.time ∧ (emptyLatched s).pins = s.pins ∧ (emptyLatched s).link = s.link ∧
    (emptyLatched s).agreement = s.agreement ∧ (emptyLatched s).presence = s.presence ∧
    (emptyLatched s).executor = s.executor ∧ (emptyLatched s).channel = s.channel ∧ (emptyLatched s).wake = s.wake ∧
    (emptyLatched s).request = s.request ∧ (emptyLatched s).faults.deferred = s.faults.deferred ∧
    (emptyLatched s).loader = s.loader ∧ (emptyLatched s).port = s.port ∧ (emptyLatched s).pending = s.pending := by
  simp [emptyLatched]

@[simp] theorem noteAcks_keeps (acks : List Bool) (s : State) :
    (noteAcks acks s).time = s.time ∧ (noteAcks acks s).pins = s.pins ∧ (noteAcks acks s).link = s.link ∧
    (noteAcks acks s).agreement = s.agreement ∧ (noteAcks acks s).presence = s.presence ∧
    (noteAcks acks s).executor = s.executor ∧ (noteAcks acks s).channel = s.channel ∧
    (noteAcks acks s).wake = s.wake ∧ (noteAcks acks s).request = s.request ∧ (noteAcks acks s).faults = s.faults ∧
    (noteAcks acks s).loader = s.loader ∧ (noteAcks acks s).port.selected = s.port.selected ∧
    (noteAcks acks s).port.output = s.port.output ∧ (noteAcks acks s).pending = s.pending := by
  simp [noteAcks]

@[simp] theorem select_keeps (bytes : List Byte) (acks : List Bool) (s : State) :
    (select bytes acks s).time = s.time ∧ (select bytes acks s).pins = s.pins ∧ (select bytes acks s).link = s.link ∧
    (select bytes acks s).agreement = s.agreement ∧ (select bytes acks s).presence = s.presence ∧
    (select bytes acks s).executor = s.executor ∧ (select bytes acks s).channel = s.channel ∧
    (select bytes acks s).wake = s.wake ∧ (select bytes acks s).request = s.request ∧
    (select bytes acks s).faults = s.faults ∧ (select bytes acks s).loader = s.loader ∧
    (select bytes acks s).port.output = s.port.output ∧ (select bytes acks s).pending = s.pending := by
  simp [select]

end Sys2Proof.Machine
end

