-- ==== Sys2Proof/Laws/Deliveries.lean ====
section
/-! SUPPORT. What the hand-off of a delivered frame does before the agreement engine sees it, said once: `handOff_takes`. -/

namespace Sys2Proof.Machine

open Sys2Proof

/-! ### The frame of a delivery that no transaction hears of -/

theorem State.withDeliveryOf_trans {s t u : State} (h : t = s.withDeliveryOf t) (k : u = t.withDeliveryOf u) :
    u = s.withDeliveryOf u := by
  rw [k, h]
  rfl

theorem ownDelivered_delivery (f : Frame) (own : Option Ready) (s : State) :
    ownDelivered f own s = s.withDeliveryOf (ownDelivered f own s) := by
  unfold ownDelivered
  split <;> rfl

theorem reportPurged_delivery (r : Ready) (s : State) : reportPurged r s = s.withDeliveryOf (reportPurged r s) := by
  unfold reportPurged latchWaits clearMark
  (repeat' split) <;> rfl

theorem reportQueued_delivery (q : Option Queued) (s : State) : reportQueued q s = s.withDeliveryOf (reportQueued q s) := by
  unfold reportQueued
  split
  · exact reportPurged_delivery _ _
  · rfl

theorem fillFrame_delivery (n : TxnNumber) (body : Body) (s : State) :
    fillFrame n body s = s.withDeliveryOf (fillFrame n body s) := by
  unfold fillFrame fillSlot
  split
  · exact State.withDeliveryOf_trans (reportQueued_delivery _ s) rfl
  · exact reportQueued_delivery _ s

theorem testAnnounce_delivery (s : State) : testAnnounce s = s.withDeliveryOf (testAnnounce s) := by
  unfold testAnnounce
  split
  · split
    · exact State.withDeliveryOf_trans (fillFrame_delivery _ _ s) rfl
    · rfl
  · rfl

theorem testPropose_delivery (s : State) : testPropose s = s.withDeliveryOf (testPropose s) := by
  unfold testPropose
  split
  · split
    · exact State.withDeliveryOf_trans (fillFrame_delivery _ _ s) rfl
    · rfl
  · rfl

/-! ### The hand-off -/

/-- From one state to another no more happened than at a delivery of this sender that no transaction hears of (R134, R142). -/
def DeliveredOnly (i : StationId) (s t : State) : Prop :=
  t = s.withDeliveryOf t ∧ ∀ j, j ≠ i → t.peerAt j = s.peerAt j

theorem DeliveredOnly.trans {i : StationId} {s t u : State} (h : DeliveredOnly i s t) (k : DeliveredOnly i t u) :
    DeliveredOnly i s u :=
  ⟨State.withDeliveryOf_trans h.1 k.1, fun j hj => (k.2 j hj).trans (h.2 j hj)⟩

theorem DeliveredOnly.of_peers {i : StationId} {s t : State} (h : t = s.withDeliveryOf t)
    (k : t.presence.peers = s.presence.peers) : DeliveredOnly i s t :=
  ⟨h, fun j _ => by simp [State.peerAt, k]⟩

theorem DeliveredOnly.refl (i : StationId) (s : State) : DeliveredOnly i s s := .of_peers rfl rfl

/-- The blocks such a delivery leaves alone. -/
theorem DeliveredOnly.keeps {i : StationId} {s t : State} (h : DeliveredOnly i s t) :
    t.agreement = s.agreement ∧ t.executor = s.executor ∧ t.channel = s.channel ∧ t.faults = s.faults ∧
    t.loader = s.loader ∧ t.pins = s.pins ∧ t.wake.queue = s.wake.queue ∧ t.presence.alignment = s.presence.alignment := by
  refine ⟨?_, ?_, ?_, ?_, ?_, ?_, ?_, ?_⟩ <;>
  · rw [h.1]
    rfl

/-- A peer is heard: its entry alone of the peer table changes, and in SETTLED an announcement may follow (R122, R142). -/
theorem touchPeer_delivered (f : Frame) (s : State) : DeliveredOnly f.sender s (touchPeer f s) := by
  have hp : DeliveredOnly f.sender s (s.withPeer f.sender ((s.peerAt f.sender).heard s.silenceLength f)) :=
    ⟨rfl, fun j hj => tabGet_tabSet_ne _ hj _⟩
  unfold touchPeer reportPresent
  dsimp only
  split
  · exact hp.trans (.of_peers (testAnnounce_delivery _) (by simp))
  · exact hp

/-- The hand-off of a frame that the station takes: the own slot and the sender's entry, then the engine (R134, R142). -/
theorem handOff_takes {f : Frame} {engine : Option Ready → State → State} {s : State} (h : s.takes f.sender) :
    ∃ s', handOff f engine s = engine (s.ownSending f) s' ∧ DeliveredOnly f.sender s s' := by
  have ha : DeliveredOnly f.sender s (ownDelivered f (s.ownSending f) s) :=
    .of_peers (ownDelivered_delivery ..) (by simp)
  unfold handOff
  rw [if_neg (by simp [h.1])]
  dsimp only
  split
  · exact ⟨_, rfl, ha⟩
  · rename_i hn
    have hx := h.2.resolve_left (by simpa [State.me] using hn)
    rw [if_neg (by simpa [State.peerAt] using hx)]
    exact ⟨_, rfl, ha.trans (touchPeer_delivered f _)⟩

end Sys2Proof.Machine
end

