-- ==== Sys2Proof/Laws/Faults.lean ====
section
/-! SUPPORT. What raising one condition does to the fault lists: it is latched by R99, and every other entry stands. -/

namespace Sys2Proof.Machine

open Sys2Proof

/-- A pair test as a proposition. -/
theorem FaultEntry.isPair_iff (e : FaultEntry) (code : FaultCode) (target : Target) :
    e.isPair code target = true ↔ e.code = code ∧ e.target = target := by
  simp [FaultEntry.isPair]

/-- Latching a condition is R99. -/
theorem latchFault_latched (code : FaultCode) (target : Target) (sev : Severity) (s : State) :
    Latched s (latchFault code target sev s) code target sev := by
  unfold latchFault
  constructor
  · rintro ⟨e, he, hp⟩
    rw [if_pos (List.any_eq_true.2 ⟨e, he, (e.isPair_iff _ _).2 hp⟩)]
    refine ⟨rfl, List.map_congr_left fun x _ => ?_⟩
    by_cases hx : x.code = code ∧ x.target = target
    · rw [if_pos ((x.isPair_iff _ _).2 hx), if_pos hx]
      cases sev <;> rfl
    · rw [if_neg (mt (x.isPair_iff _ _).1 hx), if_neg hx]
  · intro hn
    rw [if_neg fun h => by
      obtain ⟨e, he, hp⟩ := List.any_eq_true.1 h
      exact hn e he ((e.isPair_iff _ _).1 hp)]
    constructor
    · intro hl
      rw [if_pos hl]
      exact ⟨rfl, rfl⟩
    · intro hl
      rw [if_neg (Nat.not_lt.2 hl)]
      exact ⟨rfl, rfl⟩

/-- Disposing of a condition latches it by R99, whether or not a FAULT is requested (R98). -/
theorem disposeFault_latched (code : FaultCode) (target : Target) (sev : Severity) (send : Bool) (s : State) :
    Latched s (disposeFault code target sev send s) code target sev := by
  have h := latchFault_latched code target sev s
  unfold disposeFault
  dsimp only
  split
  · simpa [Latched] using h
  · exact h

/-- Raising a condition latches it by R99. -/
theorem raiseFault_latched (code : FaultCode) (target : Target) (sev : Severity) (s : State) :
    Latched s (raiseFault code target sev s) code target sev :=
  disposeFault_latched ..

/-- A latched condition stands in the list, or the full list counts it as unrecorded. -/
theorem Latched.first {s t : State} {code : FaultCode} {target : Target} {sev : Severity}
    (h : Latched s t code target sev) : LatchedFirst s t code target sev := by
  by_cases hp : ∃ e ∈ s.faults.latched, e.code = code ∧ e.target = target
  · obtain ⟨e, he, hc⟩ := hp
    have hm := (h.1 ⟨e, he, hc⟩).2
    refine Or.inl ⟨_, hm ▸ List.mem_map.2 ⟨e, he, rfl⟩, ?_⟩
    rw [if_pos hc]
    exact ⟨hc.1, hc.2, fun hs => if_pos hs⟩
  · have hn : ∀ e ∈ s.faults.latched, ¬ (e.code = code ∧ e.target = target) := fun e he hc => hp ⟨e, he, hc⟩
    by_cases hl : s.faults.latched.length < 8
    · refine Or.inl ⟨⟨code, target, sev, s.time, s.time, 1⟩, ?_, rfl, rfl, fun hs => hs⟩
      rw [((h.2 hn).1 hl).2]
      exact List.mem_append_right _ (List.mem_singleton.2 rfl)
    · exact Or.inr ⟨Nat.not_lt.1 hl, ((h.2 hn).2 (Nat.not_lt.1 hl)).1.ge⟩

/-- What latching further conditions cannot take back: an entry that stands, the length of the list, and the unrecorded count
(R99). -/
structure FaultsGrow (s t : State) : Prop where
  holds : ∀ {code target sev}, s.holdsFault code target sev → t.holdsFault code target sev
  length : s.faults.latched.length ≤ t.faults.latched.length
  unrecorded : min s.faults.unrecorded 255 ≤ t.faults.unrecorded

theorem FaultsGrow.of_eq {s t : State} (hl : t.faults.latched = s.faults.latched)
    (hu : t.faults.unrecorded = s.faults.unrecorded) : FaultsGrow s t := by
  refine ⟨?_, by rw [hl], by omega⟩
  unfold State.holdsFault
  rw [hl]
  exact id

theorem FaultsGrow.trans {s t u : State} (h : FaultsGrow s t) (k : FaultsGrow t u) : FaultsGrow s u :=
  ⟨fun x => k.holds (h.holds x), h.length.trans k.length, by have := h.unrecorded; have := k.unrecorded; omega⟩

/-- The pair test of an entry as it stands after a further occurrence. -/
theorem Latched.grow {s t : State} {code : FaultCode} {target : Target} {sev : Severity}
    (h : Latched s t code target sev) : FaultsGrow s t := by
  by_cases hp : ∃ e ∈ s.faults.latched, e.code = code ∧ e.target = target
  · obtain ⟨hu, hm⟩ := h.1 hp
    refine ⟨?_, by rw [hm, List.length_map], by omega⟩
    rintro c x v ⟨e, he, hc, hx, hv⟩
    refine ⟨_, hm ▸ List.mem_map.2 ⟨e, he, rfl⟩, ?_⟩
    split
    · exact ⟨hc, hx, fun q => by dsimp only; split <;> simp_all⟩
    · exact ⟨hc, hx, hv⟩
  · have hn : ∀ e ∈ s.faults.latched, ¬ (e.code = code ∧ e.target = target) := fun e he hc => hp ⟨e, he, hc⟩
    by_cases hl : s.faults.latched.length < 8
    · obtain ⟨hu, hm⟩ := (h.2 hn).1 hl
      refine ⟨?_, by rw [hm]; simp, by omega⟩
      rintro c x v ⟨e, he, q⟩
      exact ⟨e, hm ▸ List.mem_append_left _ he, q⟩
    · obtain ⟨hu, hm⟩ := (h.2 hn).2 (Nat.not_lt.1 hl)
      refine ⟨?_, by rw [hm], by omega⟩
      unfold State.holdsFault
      rw [hm]
      exact id

/-- Latching makes no entry but of its own pair. -/
theorem Latched.mem {s t : State} {code : FaultCode} {target : Target} {sev : Severity}
    (h : Latched s t code target sev) {e : FaultEntry} (he : e ∈ t.faults.latched) :
    e ∈ s.faults.latched ∨ (e.code = code ∧ e.target = target) := by
  by_cases hp : ∃ e ∈ s.faults.latched, e.code = code ∧ e.target = target
  · rw [(h.1 hp).2] at he
    obtain ⟨x, hx, rfl⟩ := List.mem_map.1 he
    by_cases hc : x.code = code ∧ x.target = target
    · exact Or.inr (by rw [if_pos hc]; exact hc)
    · exact Or.inl (by rw [if_neg hc]; exact hx)
  · have hn : ∀ e ∈ s.faults.latched, ¬ (e.code = code ∧ e.target = target) := fun e he hc => hp ⟨e, he, hc⟩
    by_cases hl : s.faults.latched.length < 8
    · rw [((h.2 hn).1 hl).2] at he
      rcases List.mem_append.1 he with h' | h'
      · exact Or.inl h'
      · rw [List.mem_singleton.1 h']
        exact Or.inr ⟨rfl, rfl⟩
    · rw [((h.2 hn).2 (Nat.not_lt.1 hl)).2] at he
      exact Or.inl he

/-- A condition latched somewhere between two states. -/
theorem Latched.among {s s' t' t : State} {code : FaultCode} {target : Target} {sev : Severity} (g : FaultsGrow s s')
    (h : Latched s' t' code target sev) (k : FaultsGrow t' t) : LatchedAmong s t code target sev := by
  rcases h.first with hh | ⟨hl, hu⟩
  · exact Or.inl (k.holds hh)
  · have := g.unrecorded
    have := k.unrecorded
    have := h.grow.length
    have := k.length
    exact Or.inr ⟨by omega, by omega⟩

theorem FaultsGrow.refl (s : State) : FaultsGrow s s := .of_eq rfl rfl

theorem LatchedAmong.of_grow {s s' t : State} {code : FaultCode} {target : Target} {sev : Severity} (g : FaultsGrow s s')
    (h : LatchedAmong s' t code target sev) : LatchedAmong s t code target sev := by
  have := g.unrecorded
  exact h.imp_right fun ⟨a, b⟩ => ⟨a, by omega⟩

end Sys2Proof.Machine
end

