-- ==== Sys2Proof/Laws/FramesCommands.lean ====
section
/-! SUPPORT. Each command completes, and what it leaves unchanged: one lemma for each meaning. The lemma `f_keeps` lists, for
an operation `f`, every block, or field of a block, that it never writes. -/

namespace Sys2Proof.Machine

open Sys2Proof

theorem execIntegration_keeps (s : State) :
    ∃ t, execIntegration s = .next t ∧
    t.time = s.time ∧ t.pins = s.pins ∧ t.link.slots = s.link.slots ∧ t.link.receiveErrors = s.link.receiveErrors ∧
    t.agreement = s.agreement ∧ t.presence = s.presence ∧ t.executor = s.executor ∧ t.channel = s.channel ∧
    t.wake = s.wake ∧ t.request = s.request ∧ t.faults = s.faults ∧ t.loader = s.loader ∧ t.port = s.port ∧
    t.pending = s.pending := by
  refine ⟨_, rfl, ?_⟩
  dsimp only
  (repeat' split) <;> simp

theorem execLoadDone_keeps (i : Image) (s : State) :
    ∃ t, execLoadDone i s = .next t ∧
    t.time = s.time ∧ t.pins = s.pins ∧ t.link.integrated = s.link.integrated ∧
    t.link.receiveErrors = s.link.receiveErrors ∧ t.agreement.believed = s.agreement.believed ∧
    t.agreement.restImage = s.agreement.restImage ∧ t.agreement.number = s.agreement.number ∧
    t.agreement.record = s.agreement.record ∧ t.agreement.history = s.agreement.history ∧
    t.agreement.lateProposals = s.agreement.lateProposals ∧ t.agreement.streaks = s.agreement.streaks ∧
    t.agreement.voteWindow = s.agreement.voteWindow ∧ t.agreement.voteGuard = s.agreement.voteGuard ∧
    t.presence.peers = s.presence.peers ∧ t.presence.barring = s.presence.barring ∧
    t.presence.muteCause = s.presence.muteCause ∧ t.presence.barredRetry = s.presence.barredRetry ∧
    t.presence.retryHeld = s.presence.retryHeld ∧ t.presence.alignment = s.presence.alignment ∧
    t.executor = s.executor ∧ t.wake.inputs = s.wake.inputs ∧ t.wake.pressed = s.wake.pressed ∧
    t.wake.debounce = s.wake.debounce ∧ t.wake.longPress = s.wake.longPress ∧
    t.wake.commonWindow = s.wake.commonWindow ∧ t.wake.queue = s.wake.queue ∧ t.wake.minDwell = s.wake.minDwell ∧
    t.wake.faultHold = s.wake.faultHold ∧ t.wake.demote = s.wake.demote ∧ t.request.underVote = s.request.underVote ∧
    t.request.deferHold = s.request.deferHold ∧ t.request.lockout = s.request.lockout ∧
    t.request.refresh = s.request.refresh ∧ t.request.pulses = s.request.pulses ∧
    t.request.result = s.request.result ∧ t.faults = s.faults ∧ t.loader.resetCause = s.loader.resetCause ∧
    t.port = s.port ∧ t.pending = s.pending := by
  refine ⟨_, rfl, ?_⟩
  (repeat' split) <;> simp

theorem execLoadFailure_keeps (s : State) :
    ∃ t, execLoadFailure s = .next t ∧
    t.time = s.time ∧ t.pins = s.pins ∧ t.link = s.link ∧ t.agreement.believed = s.agreement.believed ∧
    t.agreement.restImage = s.agreement.restImage ∧ t.agreement.number = s.agreement.number ∧
    t.agreement.record = s.agreement.record ∧ t.agreement.history = s.agreement.history ∧
    t.agreement.lateProposals = s.agreement.lateProposals ∧ t.agreement.streaks = s.agreement.streaks ∧
    t.agreement.voteWindow = s.agreement.voteWindow ∧ t.agreement.voteGuard = s.agreement.voteGuard ∧
    t.presence = s.presence ∧ t.executor = s.executor ∧ t.wake = s.wake ∧ t.request = s.request ∧
    t.faults = s.faults ∧ t.loader = s.loader ∧ t.port = s.port ∧ t.pending = s.pending := by
  refine ⟨_, rfl, ?_⟩
  split <;> simp

theorem execPinReset_keeps (s : State) :
    ∃ t, execPinReset s = .next t ∧
    t.pins = s.pins ∧ t.agreement.history = s.agreement.history ∧ t.faults.latched = s.faults.latched ∧
    t.faults.unrecorded = s.faults.unrecorded ∧ t.pending = s.pending :=
  ⟨_, rfl, by simp⟩

theorem execPor_keeps (s : State) : ∃ t, execPor s = .next t ∧ t.pins = s.pins ∧ t.pending = s.pending :=
  ⟨_, rfl, by simp⟩

theorem execDiscardedAtThisStationAlone_keeps (rx : Reception) (s : State) :
    ∃ t, execDiscardedAtThisStationAlone rx s = .next t ∧
    t.time = s.time ∧ t.pins = s.pins ∧ t.link.integrated = s.link.integrated ∧ t.agreement = s.agreement ∧
    t.presence = s.presence ∧ t.executor = s.executor ∧ t.channel = s.channel ∧ t.wake = s.wake ∧
    t.request = s.request ∧ t.faults = s.faults ∧ t.loader = s.loader ∧ t.port = s.port ∧ t.pending = s.pending := by
  refine ⟨_, rfl, ?_⟩
  unfold discardAlone
  dsimp only
  (repeat' split) <;> simp

theorem execFrameRejected_keeps (rx : Reception) (s : State) :
    ∃ t, execFrameRejected rx s = .next t ∧
    t.time = s.time ∧ t.pins = s.pins ∧ t.link.integrated = s.link.integrated ∧
    t.agreement.believed = s.agreement.believed ∧ t.agreement.restImage = s.agreement.restImage ∧
    t.agreement.number = s.agreement.number ∧ t.agreement.lateProposals = s.agreement.lateProposals ∧
    t.agreement.streaks = s.agreement.streaks ∧ t.presence.peers = s.presence.peers ∧
    t.presence.barring = s.presence.barring ∧ t.presence.beat = s.presence.beat ∧
    t.channel.corrections = s.channel.corrections ∧ t.wake.pressed = s.wake.pressed ∧
    t.wake.debounce = s.wake.debounce ∧ t.wake.longPress = s.wake.longPress ∧
    t.wake.commonWindow = s.wake.commonWindow ∧ t.wake.queue = s.wake.queue ∧ t.wake.minDwell = s.wake.minDwell ∧
    t.wake.faultHold = s.wake.faultHold ∧ t.request.deferHold = s.request.deferHold ∧
    t.request.lockout = s.request.lockout ∧ t.request.refresh = s.request.refresh ∧ t.loader = s.loader ∧
    t.port = s.port ∧ t.pending = s.pending := by
  exact ⟨_, rfl, by simp⟩

@[simp] theorem startNext_keeps (s : State) :
    (startNext s).time = s.time ∧ (startNext s).pins = s.pins ∧ (startNext s).link.integrated = s.link.integrated ∧
    (startNext s).link.receiveErrors = s.link.receiveErrors ∧ (startNext s).agreement = s.agreement ∧
    (startNext s).presence = s.presence ∧ (startNext s).executor = s.executor ∧ (startNext s).channel = s.channel ∧
    (startNext s).wake = s.wake ∧ (startNext s).request = s.request ∧ (startNext s).faults = s.faults ∧
    (startNext s).loader = s.loader ∧ (startNext s).port = s.port ∧ (startNext s).pending = s.pending := by
  unfold startNext
  (repeat' split) <;> simp

theorem execFrameStart_keeps (s : State) :
    ∃ t, execFrameStart s = .next t ∧
    t.time = s.time ∧ t.pins = s.pins ∧ t.link.integrated = s.link.integrated ∧
    t.link.receiveErrors = s.link.receiveErrors ∧ t.agreement = s.agreement ∧ t.presence = s.presence ∧
    t.executor = s.executor ∧ t.channel = s.channel ∧ t.wake = s.wake ∧ t.request = s.request ∧ t.faults = s.faults ∧
    t.loader = s.loader ∧ t.port = s.port ∧ t.pending = s.pending := by
  exact ⟨_, rfl, by simp⟩

theorem execLostArbitration_keeps (winner : BitVec 6) (s : State) :
    ∃ t, execLostArbitration winner s = .next t ∧
    t.time = s.time ∧ t.pins = s.pins ∧ t.link.integrated = s.link.integrated ∧
    t.link.receiveErrors = s.link.receiveErrors ∧ t.agreement = s.agreement ∧ t.presence = s.presence ∧
    t.executor = s.executor ∧ t.channel = s.channel ∧ t.wake.inputs = s.wake.inputs ∧
    t.wake.pressed = s.wake.pressed ∧ t.wake.debounce = s.wake.debounce ∧ t.wake.longPress = s.wake.longPress ∧
    t.wake.commonWindow = s.wake.commonWindow ∧ t.wake.queue = s.wake.queue ∧ t.wake.minDwell = s.wake.minDwell ∧
    t.wake.faultHold = s.wake.faultHold ∧ t.wake.demote = s.wake.demote ∧ t.request.underVote = s.request.underVote ∧
    t.request.deferHold = s.request.deferHold ∧ t.request.lockout = s.request.lockout ∧
    t.request.refresh = s.request.refresh ∧ t.request.pulses = s.request.pulses ∧
    t.request.result = s.request.result ∧ t.faults = s.faults ∧ t.loader = s.loader ∧ t.port = s.port ∧
    t.pending = s.pending := by
  exact ⟨_, rfl, by simp⟩

theorem execAbortDelivered_keeps (sender : StationId) (number : TxnNumber) (reason : AbortReason) (s : State) :
    ∃ t, execAbortDelivered sender number reason s = .next t ∧
    t.time = s.time ∧ t.pins = s.pins ∧ t.link.integrated = s.link.integrated ∧
    t.link.receiveErrors = s.link.receiveErrors ∧ t.agreement.number = s.agreement.number ∧
    t.agreement.lateProposals = s.agreement.lateProposals ∧ t.agreement.streaks = s.agreement.streaks ∧
    t.presence.muteCause = s.presence.muteCause ∧ t.presence.censusWindow = s.presence.censusWindow ∧
    t.presence.barredRetry = s.presence.barredRetry ∧ t.presence.retryHeld = s.presence.retryHeld ∧
    t.presence.alignment = s.presence.alignment ∧ t.wake.debounce = s.wake.debounce ∧
    t.wake.longPress = s.wake.longPress ∧ t.wake.faultHold = s.wake.faultHold ∧ t.loader = s.loader ∧
    t.port = s.port ∧ t.pending = s.pending := by
  refine ⟨_, rfl, ?_⟩
  obtain h | ⟨t, h, ht⟩ | ⟨own, t, h, ht⟩ := handOff_cases _ _ _ <;> rw [h] <;> simp [*]

theorem execBeatDelivered_keeps (sender : StationId) (number : TxnNumber) (b : BeatBody) (s : State) :
    ∃ t, execBeatDelivered sender number b s = .next t ∧
    t.time = s.time ∧ t.pins = s.pins ∧ t.link.integrated = s.link.integrated ∧
    t.link.receiveErrors = s.link.receiveErrors ∧ t.agreement.lateProposals = s.agreement.lateProposals ∧
    t.agreement.streaks = s.agreement.streaks ∧ t.wake.faultHold = s.wake.faultHold ∧ t.loader = s.loader ∧
    t.port = s.port ∧ t.pending = s.pending := by
  exact ⟨_, rfl, by simp⟩

theorem execCensusDelivered_keeps (sender : StationId) (sig : Signature) (cause : ResetCause) (s : State) :
    ∃ t, execCensusDelivered sender sig cause s = .next t ∧
    t.time = s.time ∧ t.pins = s.pins ∧ t.link.integrated = s.link.integrated ∧
    t.link.receiveErrors = s.link.receiveErrors ∧ t.agreement.restImage = s.agreement.restImage ∧
    t.agreement.lateProposals = s.agreement.lateProposals ∧ t.agreement.streaks = s.agreement.streaks ∧
    t.presence.alignment = s.presence.alignment ∧ t.channel.corrections = s.channel.corrections ∧
    t.wake.pressed = s.wake.pressed ∧ t.wake.queue = s.wake.queue ∧ t.wake.minDwell = s.wake.minDwell ∧
    t.wake.faultHold = s.wake.faultHold ∧ t.request.deferHold = s.request.deferHold ∧
    t.request.lockout = s.request.lockout ∧ t.loader = s.loader ∧ t.port = s.port ∧ t.pending = s.pending := by
  exact ⟨_, rfl, by simp⟩

theorem execFaultDelivered_keeps (sender : StationId) (number : TxnNumber) (code : FaultCode) (target : Target) (s : State) :
    ∃ t, execFaultDelivered sender number code target s = .next t ∧
    t.time = s.time ∧ t.pins = s.pins ∧ t.link.integrated = s.link.integrated ∧
    t.link.receiveErrors = s.link.receiveErrors ∧ t.agreement.restImage = s.agreement.restImage ∧
    t.agreement.lateProposals = s.agreement.lateProposals ∧ t.agreement.streaks = s.agreement.streaks ∧
    t.presence.barring = s.presence.barring ∧ t.presence.muteCause = s.presence.muteCause ∧
    t.presence.barredRetry = s.presence.barredRetry ∧ t.presence.retryHeld = s.presence.retryHeld ∧
    t.channel.corrections = s.channel.corrections ∧ t.wake.pressed = s.wake.pressed ∧
    t.wake.debounce = s.wake.debounce ∧ t.wake.longPress = s.wake.longPress ∧
    t.wake.commonWindow = s.wake.commonWindow ∧ t.wake.queue = s.wake.queue ∧ t.wake.minDwell = s.wake.minDwell ∧
    t.wake.faultHold = s.wake.faultHold ∧ t.request.deferHold = s.request.deferHold ∧
    t.request.lockout = s.request.lockout ∧ t.request.refresh = s.request.refresh ∧ t.loader = s.loader ∧
    t.port = s.port ∧ t.pending = s.pending := by
  refine ⟨_, rfl, ?_⟩
  obtain h | ⟨t, h, ht⟩ | ⟨own, t, h, ht⟩ := handOff_cases _ _ _ <;> rw [h] <;> simp [*]

theorem execForcedProposeDelivered_keeps (sender : StationId) (number : TxnNumber) (kind : Kind) (imageBacked : Bool) (s : State) :
    ∃ t, execForcedProposeDelivered sender number kind imageBacked s = .next t ∧
    t.time = s.time ∧ t.pins = s.pins ∧ t.link.integrated = s.link.integrated ∧
    t.link.receiveErrors = s.link.receiveErrors ∧ t.agreement.restImage = s.agreement.restImage ∧
    t.agreement.streaks = s.agreement.streaks ∧ t.presence.barring = s.presence.barring ∧
    t.presence.muteCause = s.presence.muteCause ∧ t.presence.barredRetry = s.presence.barredRetry ∧
    t.presence.retryHeld = s.presence.retryHeld ∧ t.channel.corrections = s.channel.corrections ∧
    t.wake.pressed = s.wake.pressed ∧ t.wake.debounce = s.wake.debounce ∧ t.wake.longPress = s.wake.longPress ∧
    t.wake.commonWindow = s.wake.commonWindow ∧ t.wake.queue = s.wake.queue ∧ t.wake.minDwell = s.wake.minDwell ∧
    t.wake.faultHold = s.wake.faultHold ∧ t.request.deferHold = s.request.deferHold ∧
    t.request.lockout = s.request.lockout ∧ t.request.refresh = s.request.refresh ∧ t.loader = s.loader ∧
    t.port = s.port ∧ t.pending = s.pending := by
  refine ⟨_, rfl, ?_⟩
  obtain h | ⟨t, h, ht⟩ | ⟨own, t, h, ht⟩ := handOff_cases _ _ _ <;> rw [h] <;> simp [*]

theorem execProposeDelivered_keeps (sender : StationId) (number : TxnNumber) (kind : Kind) (imageBacked : Bool) (inh : Inhibits) (s : State) :
    ∃ t, execProposeDelivered sender number kind imageBacked inh s = .next t ∧
    t.time = s.time ∧ t.pins = s.pins ∧ t.link.integrated = s.link.integrated ∧
    t.link.receiveErrors = s.link.receiveErrors ∧ t.agreement.restImage = s.agreement.restImage ∧
    t.agreement.history = s.agreement.history ∧ t.presence.barring = s.presence.barring ∧
    t.presence.muteCause = s.presence.muteCause ∧ t.presence.barredRetry = s.presence.barredRetry ∧
    t.presence.retryHeld = s.presence.retryHeld ∧ t.channel.corrections = s.channel.corrections ∧
    t.wake.pressed = s.wake.pressed ∧ t.wake.debounce = s.wake.debounce ∧ t.wake.longPress = s.wake.longPress ∧
    t.wake.commonWindow = s.wake.commonWindow ∧ t.wake.queue = s.wake.queue ∧ t.wake.minDwell = s.wake.minDwell ∧
    t.wake.faultHold = s.wake.faultHold ∧ t.request.deferHold = s.request.deferHold ∧
    t.request.lockout = s.request.lockout ∧ t.request.refresh = s.request.refresh ∧ t.faults = s.faults ∧
    t.loader = s.loader ∧ t.port = s.port ∧ t.pending = s.pending := by
  refine ⟨_, rfl, ?_⟩
  obtain h | ⟨t, h, ht⟩ | ⟨own, t, h, ht⟩ := handOff_cases _ _ _ <;> rw [h] <;> simp [*]

theorem execStageForwardDelivered_keeps (sender : StationId) (number : TxnNumber) (stage : Nat) (s : State) :
    ∃ t, execStageForwardDelivered sender number stage s = .next t ∧
    t.time = s.time ∧ t.pins = s.pins ∧ t.link.integrated = s.link.integrated ∧
    t.link.receiveErrors = s.link.receiveErrors ∧ t.agreement.lateProposals = s.agreement.lateProposals ∧
    t.agreement.streaks = s.agreement.streaks ∧ t.presence.barring = s.presence.barring ∧
    t.presence.alignment = s.presence.alignment ∧ t.request.underVote = s.request.underVote ∧ t.loader = s.loader ∧
    t.port = s.port ∧ t.pending = s.pending := by
  refine ⟨_, rfl, ?_⟩
  obtain h | ⟨t, h, ht⟩ | ⟨own, t, h, ht⟩ := handOff_cases _ _ _ <;> rw [h] <;> simp [*]

theorem execStageUnwindDelivered_keeps (sender : StationId) (number : TxnNumber) (stage : Nat) (s : State) :
    ∃ t, execStageUnwindDelivered sender number stage s = .next t ∧
    t.time = s.time ∧ t.pins = s.pins ∧ t.link.integrated = s.link.integrated ∧
    t.link.receiveErrors = s.link.receiveErrors ∧ t.agreement.number = s.agreement.number ∧
    t.agreement.lateProposals = s.agreement.lateProposals ∧ t.agreement.streaks = s.agreement.streaks ∧
    t.presence.barring = s.presence.barring ∧ t.presence.muteCause = s.presence.muteCause ∧
    t.presence.censusWindow = s.presence.censusWindow ∧ t.presence.barredRetry = s.presence.barredRetry ∧
    t.presence.retryHeld = s.presence.retryHeld ∧ t.presence.alignment = s.presence.alignment ∧
    t.wake.debounce = s.wake.debounce ∧ t.wake.longPress = s.wake.longPress ∧ t.wake.faultHold = s.wake.faultHold ∧
    t.request.underVote = s.request.underVote ∧ t.loader = s.loader ∧ t.port = s.port ∧ t.pending = s.pending := by
  refine ⟨_, rfl, ?_⟩
  obtain h | ⟨t, h, ht⟩ | ⟨own, t, h, ht⟩ := handOff_cases _ _ _ <;> rw [h] <;> simp [*]

theorem execVoteDelivered_keeps (sender : StationId) (number : TxnNumber) (a : Answer) (s : State) :
    ∃ t, execVoteDelivered sender number a s = .next t ∧
    t.time = s.time ∧ t.pins = s.pins ∧ t.link.integrated = s.link.integrated ∧
    t.link.receiveErrors = s.link.receiveErrors ∧ t.agreement.number = s.agreement.number ∧
    t.agreement.lateProposals = s.agreement.lateProposals ∧ t.presence.barring = s.presence.barring ∧
    t.presence.muteCause = s.presence.muteCause ∧ t.presence.censusWindow = s.presence.censusWindow ∧
    t.presence.barredRetry = s.presence.barredRetry ∧ t.presence.retryHeld = s.presence.retryHeld ∧
    t.presence.alignment = s.presence.alignment ∧ t.wake.debounce = s.wake.debounce ∧
    t.wake.longPress = s.wake.longPress ∧ t.wake.faultHold = s.wake.faultHold ∧ t.loader = s.loader ∧
    t.port = s.port ∧ t.pending = s.pending := by
  refine ⟨_, rfl, ?_⟩
  obtain h | ⟨t, h, ht⟩ | ⟨own, t, h, ht⟩ := handOff_cases _ _ _ <;> rw [h] <;> simp [*]

theorem execWakeDelivered_keeps (sender : StationId) (number : TxnNumber) (target : WakeTarget) (input : Fin 8) (s : State) :
    ∃ t, execWakeDelivered sender number target input s = .next t ∧
    t.time = s.time ∧ t.pins = s.pins ∧ t.link.integrated = s.link.integrated ∧
    t.link.receiveErrors = s.link.receiveErrors ∧ t.agreement.streaks = s.agreement.streaks ∧
    t.presence.barring = s.presence.barring ∧ t.presence.muteCause = s.presence.muteCause ∧
    t.presence.barredRetry = s.presence.barredRetry ∧ t.presence.retryHeld = s.presence.retryHeld ∧
    t.wake.debounce = s.wake.debounce ∧ t.wake.longPress = s.wake.longPress ∧
    t.request.underVote = s.request.underVote ∧ t.loader = s.loader ∧ t.port = s.port ∧ t.pending = s.pending := by
  refine ⟨_, rfl, ?_⟩
  obtain h | ⟨t, h, ht⟩ | ⟨own, t, h, ht⟩ := handOff_cases _ _ _ <;> rw [h] <;> simp [*]

theorem execBarredRetryExpiry_keeps (s : State) :
    ∃ t, execBarredRetryExpiry s = .next t ∧
    t.time = s.time ∧ t.pins = s.pins ∧ t.link.integrated = s.link.integrated ∧
    t.link.receiveErrors = s.link.receiveErrors ∧ t.agreement = s.agreement ∧ t.presence.peers = s.presence.peers ∧
    t.presence.barring = s.presence.barring ∧ t.presence.muteCause = s.presence.muteCause ∧
    t.presence.beat = s.presence.beat ∧ t.presence.beatTimer = s.presence.beatTimer ∧
    t.presence.debt = s.presence.debt ∧ t.presence.censusWindow = s.presence.censusWindow ∧
    t.presence.alignment = s.presence.alignment ∧ t.executor = s.executor ∧ t.channel = s.channel ∧
    t.wake.inputs = s.wake.inputs ∧ t.wake.pressed = s.wake.pressed ∧ t.wake.debounce = s.wake.debounce ∧
    t.wake.longPress = s.wake.longPress ∧ t.wake.commonWindow = s.wake.commonWindow ∧ t.wake.queue = s.wake.queue ∧
    t.wake.minDwell = s.wake.minDwell ∧ t.wake.faultHold = s.wake.faultHold ∧ t.wake.demote = s.wake.demote ∧
    t.request.underVote = s.request.underVote ∧ t.request.deferHold = s.request.deferHold ∧
    t.request.lockout = s.request.lockout ∧ t.request.refresh = s.request.refresh ∧
    t.request.pulses = s.request.pulses ∧ t.request.result = s.request.result ∧ t.faults = s.faults ∧
    t.loader = s.loader ∧ t.port = s.port ∧ t.pending = s.pending := by
  refine ⟨_, rfl, ?_⟩
  dsimp only
  (repeat' split) <;> simp

theorem execBarrierTimerExpiry_keeps (s : State) :
    ∃ t, execBarrierTimerExpiry s = .next t ∧
    t.time = s.time ∧ t.pins = s.pins ∧ t.link.integrated = s.link.integrated ∧
    t.link.receiveErrors = s.link.receiveErrors ∧ t.agreement.phase = s.agreement.phase ∧
    t.agreement.believed = s.agreement.believed ∧ t.agreement.restImage = s.agreement.restImage ∧
    t.agreement.number = s.agreement.number ∧ t.agreement.history = s.agreement.history ∧
    t.agreement.lateProposals = s.agreement.lateProposals ∧ t.agreement.streaks = s.agreement.streaks ∧
    t.agreement.voteWindow = s.agreement.voteWindow ∧ t.agreement.voteGuard = s.agreement.voteGuard ∧
    t.presence = s.presence ∧ t.channel.corrections = s.channel.corrections ∧ t.wake.inputs = s.wake.inputs ∧
    t.wake.pressed = s.wake.pressed ∧ t.wake.debounce = s.wake.debounce ∧ t.wake.longPress = s.wake.longPress ∧
    t.wake.commonWindow = s.wake.commonWindow ∧ t.wake.queue = s.wake.queue ∧ t.wake.minDwell = s.wake.minDwell ∧
    t.wake.faultHold = s.wake.faultHold ∧ t.wake.demote = s.wake.demote ∧ t.request.underVote = s.request.underVote ∧
    t.request.deferHold = s.request.deferHold ∧ t.request.lockout = s.request.lockout ∧
    t.request.refresh = s.request.refresh ∧ t.request.pulses = s.request.pulses ∧
    t.request.result = s.request.result ∧ t.faults.deferred = s.faults.deferred ∧ t.loader = s.loader ∧
    t.port = s.port ∧ t.pending = s.pending := by
  refine ⟨_, rfl, ?_⟩
  (repeat' split) <;> simp

theorem execBeatTick_keeps (s : State) :
    ∃ t, execBeatTick s = .next t ∧
    t.time = s.time ∧ t.pins = s.pins ∧ t.link.integrated = s.link.integrated ∧
    t.link.receiveErrors = s.link.receiveErrors ∧ t.agreement = s.agreement ∧ t.presence.peers = s.presence.peers ∧
    t.presence.barring = s.presence.barring ∧ t.presence.muteCause = s.presence.muteCause ∧
    t.presence.beat = s.presence.beat ∧ t.presence.censusWindow = s.presence.censusWindow ∧
    t.presence.barredRetry = s.presence.barredRetry ∧ t.presence.retryHeld = s.presence.retryHeld ∧
    t.presence.alignment = s.presence.alignment ∧ t.executor = s.executor ∧ t.channel = s.channel ∧
    t.wake.inputs = s.wake.inputs ∧ t.wake.pressed = s.wake.pressed ∧ t.wake.debounce = s.wake.debounce ∧
    t.wake.longPress = s.wake.longPress ∧ t.wake.commonWindow = s.wake.commonWindow ∧ t.wake.queue = s.wake.queue ∧
    t.wake.minDwell = s.wake.minDwell ∧ t.wake.faultHold = s.wake.faultHold ∧ t.wake.demote = s.wake.demote ∧
    t.request.underVote = s.request.underVote ∧ t.request.deferHold = s.request.deferHold ∧
    t.request.lockout = s.request.lockout ∧ t.request.refresh = s.request.refresh ∧
    t.request.pulses = s.request.pulses ∧ t.request.result = s.request.result ∧
    t.faults.deferred = s.faults.deferred ∧ t.loader = s.loader ∧ t.port = s.port ∧ t.pending = s.pending := by
  refine ⟨_, rfl, ?_⟩
  split <;> simp

theorem execCensusWindowExpiry_keeps (s : State) :
    ∃ t, execCensusWindowExpiry s = .next t ∧
    t.time = s.time ∧ t.pins = s.pins ∧ t.link.integrated = s.link.integrated ∧
    t.link.receiveErrors = s.link.receiveErrors ∧ t.agreement.record = s.agreement.record ∧
    t.agreement.history = s.agreement.history ∧ t.agreement.lateProposals = s.agreement.lateProposals ∧
    t.agreement.streaks = s.agreement.streaks ∧ t.agreement.voteWindow = s.agreement.voteWindow ∧
    t.agreement.voteGuard = s.agreement.voteGuard ∧ t.presence.peers = s.presence.peers ∧
    t.presence.barring = s.presence.barring ∧ t.presence.muteCause = s.presence.muteCause ∧
    t.presence.debt = s.presence.debt ∧ t.presence.barredRetry = s.presence.barredRetry ∧
    t.presence.retryHeld = s.presence.retryHeld ∧ t.executor = s.executor ∧ t.channel.awaits = s.channel.awaits ∧
    t.channel.waitCounter = s.channel.waitCounter ∧ t.wake.debounce = s.wake.debounce ∧
    t.wake.longPress = s.wake.longPress ∧ t.wake.faultHold = s.wake.faultHold ∧
    t.request.underVote = s.request.underVote ∧ t.faults.deferred = s.faults.deferred ∧ t.loader = s.loader ∧
    t.port = s.port ∧ t.pending = s.pending := by
  refine ⟨_, rfl, ?_⟩
  dsimp only
  (repeat' split) <;> simp

theorem execClosingWaitExpiry_keeps (s : State) :
    ∃ t, execClosingWaitExpiry s = .next t ∧
    t.time = s.time ∧ t.pins = s.pins ∧ t.link.integrated = s.link.integrated ∧
    t.link.receiveErrors = s.link.receiveErrors ∧ t.agreement.lateProposals = s.agreement.lateProposals ∧
    t.agreement.streaks = s.agreement.streaks ∧ t.presence.peers = s.presence.peers ∧
    t.presence.barring = s.presence.barring ∧ t.presence.alignment = s.presence.alignment ∧
    t.channel.awaits = s.channel.awaits ∧ t.channel.waitCounter = s.channel.waitCounter ∧
    t.request.underVote = s.request.underVote ∧ t.loader = s.loader ∧ t.port = s.port ∧ t.pending = s.pending := by
  refine ⟨_, rfl, ?_⟩
  split <;> simp

theorem execCompletionWaitExpiry_keeps (s : State) :
    ∃ t, execCompletionWaitExpiry s = .next t ∧
    t.time = s.time ∧ t.pins = s.pins ∧ t.link.integrated = s.link.integrated ∧
    t.link.receiveErrors = s.link.receiveErrors ∧ t.agreement = s.agreement ∧ t.presence = s.presence ∧
    t.executor.sub = s.executor.sub ∧ t.executor.cursor = s.executor.cursor ∧
    t.executor.actionCursor = s.executor.actionCursor ∧ t.executor.running = s.executor.running ∧
    t.executor.stack = s.executor.stack ∧ t.channel = s.channel ∧ t.wake.inputs = s.wake.inputs ∧
    t.wake.pressed = s.wake.pressed ∧ t.wake.debounce = s.wake.debounce ∧ t.wake.longPress = s.wake.longPress ∧
    t.wake.commonWindow = s.wake.commonWindow ∧ t.wake.queue = s.wake.queue ∧ t.wake.minDwell = s.wake.minDwell ∧
    t.wake.faultHold = s.wake.faultHold ∧ t.wake.demote = s.wake.demote ∧ t.request.underVote = s.request.underVote ∧
    t.request.deferHold = s.request.deferHold ∧ t.request.lockout = s.request.lockout ∧
    t.request.refresh = s.request.refresh ∧ t.request.pulses = s.request.pulses ∧
    t.request.result = s.request.result ∧ t.faults.deferred = s.faults.deferred ∧ t.loader = s.loader ∧
    t.port = s.port ∧ t.pending = s.pending := by
  refine ⟨_, rfl, ?_⟩
  split <;> simp

theorem execDeferHoldExpiry_keeps (s : State) :
    ∃ t, execDeferHoldExpiry s = .next t ∧
    t.time = s.time ∧ t.pins = s.pins ∧ t.link.integrated = s.link.integrated ∧
    t.link.receiveErrors = s.link.receiveErrors ∧ t.agreement = s.agreement ∧ t.presence = s.presence ∧
    t.executor = s.executor ∧ t.channel = s.channel ∧ t.wake.inputs = s.wake.inputs ∧
    t.wake.pressed = s.wake.pressed ∧ t.wake.debounce = s.wake.debounce ∧ t.wake.longPress = s.wake.longPress ∧
    t.wake.commonWindow = s.wake.commonWindow ∧ t.wake.queue = s.wake.queue ∧ t.wake.minDwell = s.wake.minDwell ∧
    t.wake.faultHold = s.wake.faultHold ∧ t.wake.demote = s.wake.demote ∧ t.request.underVote = s.request.underVote ∧
    t.request.lockout = s.request.lockout ∧ t.request.refresh = s.request.refresh ∧
    t.request.pulses = s.request.pulses ∧ t.request.result = s.request.result ∧ t.faults = s.faults ∧
    t.loader = s.loader ∧ t.port = s.port ∧ t.pending = s.pending := by
  refine ⟨_, rfl, ?_⟩
  dsimp only
  (repeat' split) <;> simp

theorem execDemoteTimerExpiry_keeps (s : State) :
    ∃ t, execDemoteTimerExpiry s = .next t ∧
    t.time = s.time ∧ t.pins = s.pins ∧ t.link.integrated = s.link.integrated ∧
    t.link.receiveErrors = s.link.receiveErrors ∧ t.agreement = s.agreement ∧ t.presence = s.presence ∧
    t.executor = s.executor ∧ t.channel = s.channel ∧ t.wake.inputs = s.wake.inputs ∧
    t.wake.pressed = s.wake.pressed ∧ t.wake.debounce = s.wake.debounce ∧ t.wake.longPress = s.wake.longPress ∧
    t.wake.commonWindow = s.wake.commonWindow ∧ t.wake.queue = s.wake.queue ∧ t.wake.minDwell = s.wake.minDwell ∧
    t.wake.faultHold = s.wake.faultHold ∧ t.request.underVote = s.request.underVote ∧
    t.request.deferHold = s.request.deferHold ∧ t.request.lockout = s.request.lockout ∧
    t.request.refresh = s.request.refresh ∧ t.request.pulses = s.request.pulses ∧
    t.request.result = s.request.result ∧ t.faults = s.faults ∧ t.loader = s.loader ∧ t.port = s.port ∧
    t.pending = s.pending := by
  refine ⟨_, rfl, ?_⟩
  dsimp only
  (repeat' split) <;> simp

theorem execFaultHoldExpiry_keeps (s : State) :
    ∃ t, execFaultHoldExpiry s = .next t ∧
    t.time = s.time ∧ t.pins = s.pins ∧ t.link.integrated = s.link.integrated ∧
    t.link.receiveErrors = s.link.receiveErrors ∧ t.agreement = s.agreement ∧ t.presence = s.presence ∧
    t.executor = s.executor ∧ t.channel = s.channel ∧ t.wake.inputs = s.wake.inputs ∧
    t.wake.pressed = s.wake.pressed ∧ t.wake.debounce = s.wake.debounce ∧ t.wake.longPress = s.wake.longPress ∧
    t.wake.commonWindow = s.wake.commonWindow ∧ t.wake.queue = s.wake.queue ∧ t.wake.minDwell = s.wake.minDwell ∧
    t.wake.demote = s.wake.demote ∧ t.request.underVote = s.request.underVote ∧
    t.request.deferHold = s.request.deferHold ∧ t.request.lockout = s.request.lockout ∧
    t.request.refresh = s.request.refresh ∧ t.request.pulses = s.request.pulses ∧
    t.request.result = s.request.result ∧ t.faults = s.faults ∧ t.loader = s.loader ∧ t.port = s.port ∧
    t.pending = s.pending := by
  refine ⟨_, rfl, ?_⟩
  dsimp only
  (repeat' split) <;> simp

theorem execMinimumDwellExpiry_keeps (s : State) :
    ∃ t, execMinimumDwellExpiry s = .next t ∧
    t.time = s.time ∧ t.pins = s.pins ∧ t.link.integrated = s.link.integrated ∧
    t.link.receiveErrors = s.link.receiveErrors ∧ t.agreement = s.agreement ∧ t.presence = s.presence ∧
    t.executor = s.executor ∧ t.channel = s.channel ∧ t.wake.inputs = s.wake.inputs ∧
    t.wake.pressed = s.wake.pressed ∧ t.wake.debounce = s.wake.debounce ∧ t.wake.longPress = s.wake.longPress ∧
    t.wake.commonWindow = s.wake.commonWindow ∧ t.wake.queue = s.wake.queue ∧ t.wake.faultHold = s.wake.faultHold ∧
    t.wake.demote = s.wake.demote ∧ t.request.underVote = s.request.underVote ∧
    t.request.deferHold = s.request.deferHold ∧ t.request.lockout = s.request.lockout ∧
    t.request.refresh = s.request.refresh ∧ t.request.pulses = s.request.pulses ∧
    t.request.result = s.request.result ∧ t.faults = s.faults ∧ t.loader = s.loader ∧ t.port = s.port ∧
    t.pending = s.pending := by
  refine ⟨_, rfl, ?_⟩
  dsimp only
  (repeat' split) <;> simp

theorem execReEntryLockoutExpiry_keeps (s : State) :
    ∃ t, execReEntryLockoutExpiry s = .next t ∧
    t.time = s.time ∧ t.pins = s.pins ∧ t.link.integrated = s.link.integrated ∧
    t.link.receiveErrors = s.link.receiveErrors ∧ t.agreement = s.agreement ∧ t.presence = s.presence ∧
    t.executor = s.executor ∧ t.channel = s.channel ∧ t.wake.inputs = s.wake.inputs ∧
    t.wake.pressed = s.wake.pressed ∧ t.wake.debounce = s.wake.debounce ∧ t.wake.longPress = s.wake.longPress ∧
    t.wake.commonWindow = s.wake.commonWindow ∧ t.wake.queue = s.wake.queue ∧ t.wake.minDwell = s.wake.minDwell ∧
    t.wake.faultHold = s.wake.faultHold ∧ t.wake.demote = s.wake.demote ∧ t.request.underVote = s.request.underVote ∧
    t.request.deferHold = s.request.deferHold ∧ t.request.refresh = s.request.refresh ∧
    t.request.pulses = s.request.pulses ∧ t.request.result = s.request.result ∧ t.faults = s.faults ∧
    t.loader = s.loader ∧ t.port = s.port ∧ t.pending = s.pending := by
  refine ⟨_, rfl, ?_⟩
  dsimp only
  (repeat' split) <;> simp

theorem execReverseBarrierExpiry_keeps (s : State) :
    ∃ t, execReverseBarrierExpiry s = .next t ∧
    t.time = s.time ∧ t.pins = s.pins ∧ t.link.integrated = s.link.integrated ∧
    t.link.receiveErrors = s.link.receiveErrors ∧ t.agreement = s.agreement ∧ t.presence = s.presence ∧
    t.executor.sub = s.executor.sub ∧ t.executor.cursor = s.executor.cursor ∧
    t.executor.actionCursor = s.executor.actionCursor ∧ t.executor.running = s.executor.running ∧
    t.executor.stack = s.executor.stack ∧ t.channel = s.channel ∧ t.wake.inputs = s.wake.inputs ∧
    t.wake.pressed = s.wake.pressed ∧ t.wake.debounce = s.wake.debounce ∧ t.wake.longPress = s.wake.longPress ∧
    t.wake.commonWindow = s.wake.commonWindow ∧ t.wake.queue = s.wake.queue ∧ t.wake.minDwell = s.wake.minDwell ∧
    t.wake.faultHold = s.wake.faultHold ∧ t.wake.demote = s.wake.demote ∧ t.request.underVote = s.request.underVote ∧
    t.request.deferHold = s.request.deferHold ∧ t.request.lockout = s.request.lockout ∧
    t.request.refresh = s.request.refresh ∧ t.request.pulses = s.request.pulses ∧
    t.request.result = s.request.result ∧ t.faults.deferred = s.faults.deferred ∧ t.loader = s.loader ∧
    t.port = s.port ∧ t.pending = s.pending := by
  refine ⟨_, rfl, ?_⟩
  split <;> simp

theorem execSilenceTimerExpiry_keeps (peer : StationId) (s : State) :
    ∃ t, execSilenceTimerExpiry peer s = .next t ∧
    t.time = s.time ∧ t.pins = s.pins ∧ t.link.integrated = s.link.integrated ∧
    t.link.receiveErrors = s.link.receiveErrors ∧ t.agreement.restImage = s.agreement.restImage ∧
    t.agreement.record = s.agreement.record ∧ t.agreement.history = s.agreement.history ∧
    t.agreement.lateProposals = s.agreement.lateProposals ∧ t.agreement.streaks = s.agreement.streaks ∧
    t.agreement.voteWindow = s.agreement.voteWindow ∧ t.agreement.voteGuard = s.agreement.voteGuard ∧
    t.presence.alignment = s.presence.alignment ∧ t.executor = s.executor ∧ t.channel.signals = s.channel.signals ∧
    t.channel.awaits = s.channel.awaits ∧ t.channel.waitCounter = s.channel.waitCounter ∧
    t.channel.corrections = s.channel.corrections ∧ t.wake.pressed = s.wake.pressed ∧ t.wake.queue = s.wake.queue ∧
    t.wake.minDwell = s.wake.minDwell ∧ t.wake.faultHold = s.wake.faultHold ∧ t.wake.demote = s.wake.demote ∧
    t.request.underVote = s.request.underVote ∧ t.request.deferHold = s.request.deferHold ∧
    t.request.lockout = s.request.lockout ∧ t.request.pulses = s.request.pulses ∧
    t.request.result = s.request.result ∧ t.faults.deferred = s.faults.deferred ∧ t.loader = s.loader ∧
    t.port = s.port ∧ t.pending = s.pending := by
  refine ⟨_, rfl, ?_⟩
  split <;> simp

@[simp] theorem voteRunsOut_keeps (s : State) :
    (voteRunsOut s).time = s.time ∧ (voteRunsOut s).pins = s.pins ∧
    (voteRunsOut s).link.integrated = s.link.integrated ∧ (voteRunsOut s).link.receiveErrors = s.link.receiveErrors ∧
    (voteRunsOut s).agreement = s.agreement ∧ (voteRunsOut s).presence = s.presence ∧
    (voteRunsOut s).executor = s.executor ∧ (voteRunsOut s).channel = s.channel ∧
    (voteRunsOut s).wake.inputs = s.wake.inputs ∧ (voteRunsOut s).wake.pressed = s.wake.pressed ∧
    (voteRunsOut s).wake.debounce = s.wake.debounce ∧ (voteRunsOut s).wake.longPress = s.wake.longPress ∧
    (voteRunsOut s).wake.commonWindow = s.wake.commonWindow ∧ (voteRunsOut s).wake.queue = s.wake.queue ∧
    (voteRunsOut s).wake.minDwell = s.wake.minDwell ∧ (voteRunsOut s).wake.faultHold = s.wake.faultHold ∧
    (voteRunsOut s).wake.demote = s.wake.demote ∧ (voteRunsOut s).request.underVote = s.request.underVote ∧
    (voteRunsOut s).request.deferHold = s.request.deferHold ∧ (voteRunsOut s).request.lockout = s.request.lockout ∧
    (voteRunsOut s).request.refresh = s.request.refresh ∧ (voteRunsOut s).request.pulses = s.request.pulses ∧
    (voteRunsOut s).request.result = s.request.result ∧ (voteRunsOut s).faults = s.faults ∧
    (voteRunsOut s).loader = s.loader ∧ (voteRunsOut s).port = s.port ∧ (voteRunsOut s).pending = s.pending := by
  unfold voteRunsOut
  split <;> simp

theorem execVoteGuardExpiry_keeps (s : State) :
    ∃ t, execVoteGuardExpiry s = .next t ∧
    t.time = s.time ∧ t.pins = s.pins ∧ t.link.integrated = s.link.integrated ∧
    t.link.receiveErrors = s.link.receiveErrors ∧ t.agreement.phase = s.agreement.phase ∧
    t.agreement.believed = s.agreement.believed ∧ t.agreement.restImage = s.agreement.restImage ∧
    t.agreement.number = s.agreement.number ∧ t.agreement.record = s.agreement.record ∧
    t.agreement.history = s.agreement.history ∧ t.agreement.lateProposals = s.agreement.lateProposals ∧
    t.agreement.streaks = s.agreement.streaks ∧ t.agreement.voteWindow = s.agreement.voteWindow ∧
    t.presence = s.presence ∧ t.executor = s.executor ∧ t.channel = s.channel ∧ t.wake.inputs = s.wake.inputs ∧
    t.wake.pressed = s.wake.pressed ∧ t.wake.debounce = s.wake.debounce ∧ t.wake.longPress = s.wake.longPress ∧
    t.wake.commonWindow = s.wake.commonWindow ∧ t.wake.queue = s.wake.queue ∧ t.wake.minDwell = s.wake.minDwell ∧
    t.wake.faultHold = s.wake.faultHold ∧ t.wake.demote = s.wake.demote ∧ t.request.underVote = s.request.underVote ∧
    t.request.deferHold = s.request.deferHold ∧ t.request.lockout = s.request.lockout ∧
    t.request.refresh = s.request.refresh ∧ t.request.pulses = s.request.pulses ∧
    t.request.result = s.request.result ∧ t.faults = s.faults ∧ t.loader = s.loader ∧ t.port = s.port ∧
    t.pending = s.pending := by
  refine ⟨_, rfl, ?_⟩
  dsimp only
  (repeat' split) <;> simp

theorem execVoteWindowExpiry_keeps (s : State) :
    ∃ t, execVoteWindowExpiry s = .next t ∧
    t.time = s.time ∧ t.pins = s.pins ∧ t.link.integrated = s.link.integrated ∧
    t.link.receiveErrors = s.link.receiveErrors ∧ t.agreement.phase = s.agreement.phase ∧
    t.agreement.believed = s.agreement.believed ∧ t.agreement.restImage = s.agreement.restImage ∧
    t.agreement.number = s.agreement.number ∧ t.agreement.record = s.agreement.record ∧
    t.agreement.history = s.agreement.history ∧ t.agreement.lateProposals = s.agreement.lateProposals ∧
    t.agreement.streaks = s.agreement.streaks ∧ t.agreement.voteGuard = s.agreement.voteGuard ∧
    t.presence = s.presence ∧ t.executor = s.executor ∧ t.channel = s.channel ∧ t.wake.inputs = s.wake.inputs ∧
    t.wake.pressed = s.wake.pressed ∧ t.wake.debounce = s.wake.debounce ∧ t.wake.longPress = s.wake.longPress ∧
    t.wake.commonWindow = s.wake.commonWindow ∧ t.wake.queue = s.wake.queue ∧ t.wake.minDwell = s.wake.minDwell ∧
    t.wake.faultHold = s.wake.faultHold ∧ t.wake.demote = s.wake.demote ∧ t.request.underVote = s.request.underVote ∧
    t.request.deferHold = s.request.deferHold ∧ t.request.lockout = s.request.lockout ∧
    t.request.refresh = s.request.refresh ∧ t.request.pulses = s.request.pulses ∧
    t.request.result = s.request.result ∧ t.faults = s.faults ∧ t.loader = s.loader ∧ t.port = s.port ∧
    t.pending = s.pending := by
  refine ⟨_, rfl, ?_⟩
  dsimp only
  (repeat' split) <;> simp

@[simp] theorem dropout_keeps (ch : Fin 6) (s : State) :
    (dropout ch s).time = s.time ∧ (dropout ch s).pins = s.pins ∧
    (dropout ch s).link.integrated = s.link.integrated ∧ (dropout ch s).link.receiveErrors = s.link.receiveErrors ∧
    (dropout ch s).agreement = s.agreement ∧ (dropout ch s).presence = s.presence ∧
    (dropout ch s).executor = s.executor ∧ (dropout ch s).channel.signals = s.channel.signals ∧
    (dropout ch s).channel.awaits = s.channel.awaits ∧ (dropout ch s).channel.waitCounter = s.channel.waitCounter ∧
    (dropout ch s).channel.corrections = s.channel.corrections ∧ (dropout ch s).wake.inputs = s.wake.inputs ∧
    (dropout ch s).wake.pressed = s.wake.pressed ∧ (dropout ch s).wake.debounce = s.wake.debounce ∧
    (dropout ch s).wake.longPress = s.wake.longPress ∧ (dropout ch s).wake.commonWindow = s.wake.commonWindow ∧
    (dropout ch s).wake.queue = s.wake.queue ∧ (dropout ch s).wake.minDwell = s.wake.minDwell ∧
    (dropout ch s).wake.faultHold = s.wake.faultHold ∧ (dropout ch s).wake.demote = s.wake.demote ∧
    (dropout ch s).request.underVote = s.request.underVote ∧ (dropout ch s).request.deferHold = s.request.deferHold ∧
    (dropout ch s).request.lockout = s.request.lockout ∧ (dropout ch s).request.refresh = s.request.refresh ∧
    (dropout ch s).request.pulses = s.request.pulses ∧ (dropout ch s).request.result = s.request.result ∧
    (dropout ch s).loader = s.loader ∧ (dropout ch s).port = s.port ∧ (dropout ch s).pending = s.pending := by
  unfold dropout
  dsimp only
  (repeat' split) <;> simp

theorem execDischargeWindowExpiry_keeps (ch : Fin 6) (s : State) :
    ∃ t, execDischargeWindowExpiry ch s = .next t ∧
    t.time = s.time ∧ t.pins = s.pins ∧ t.link.integrated = s.link.integrated ∧
    t.link.receiveErrors = s.link.receiveErrors ∧ t.agreement.believed = s.agreement.believed ∧
    t.agreement.restImage = s.agreement.restImage ∧ t.agreement.number = s.agreement.number ∧
    t.agreement.record = s.agreement.record ∧ t.agreement.history = s.agreement.history ∧
    t.agreement.lateProposals = s.agreement.lateProposals ∧ t.agreement.streaks = s.agreement.streaks ∧
    t.agreement.voteWindow = s.agreement.voteWindow ∧ t.agreement.voteGuard = s.agreement.voteGuard ∧
    t.presence.peers = s.presence.peers ∧ t.presence.barring = s.presence.barring ∧
    t.presence.muteCause = s.presence.muteCause ∧ t.presence.debt = s.presence.debt ∧
    t.presence.censusWindow = s.presence.censusWindow ∧ t.presence.barredRetry = s.presence.barredRetry ∧
    t.presence.retryHeld = s.presence.retryHeld ∧ t.wake.debounce = s.wake.debounce ∧
    t.wake.longPress = s.wake.longPress ∧ t.wake.faultHold = s.wake.faultHold ∧
    t.request.underVote = s.request.underVote ∧ t.faults.deferred = s.faults.deferred ∧ t.loader = s.loader ∧
    t.port = s.port ∧ t.pending = s.pending := by
  refine ⟨_, rfl, ?_⟩
  split <;> simp

theorem execDropoutFilterExpiry_keeps (ch : Fin 6) (s : State) :
    ∃ t, execDropoutFilterExpiry ch s = .next t ∧
    t.time = s.time ∧ t.pins = s.pins ∧ t.link.integrated = s.link.integrated ∧
    t.link.receiveErrors = s.link.receiveErrors ∧ t.agreement = s.agreement ∧ t.presence = s.presence ∧
    t.executor = s.executor ∧ t.channel.signals = s.channel.signals ∧ t.channel.awaits = s.channel.awaits ∧
    t.channel.waitCounter = s.channel.waitCounter ∧ t.channel.corrections = s.channel.corrections ∧
    t.wake.inputs = s.wake.inputs ∧ t.wake.pressed = s.wake.pressed ∧ t.wake.debounce = s.wake.debounce ∧
    t.wake.longPress = s.wake.longPress ∧ t.wake.commonWindow = s.wake.commonWindow ∧ t.wake.queue = s.wake.queue ∧
    t.wake.minDwell = s.wake.minDwell ∧ t.wake.faultHold = s.wake.faultHold ∧ t.wake.demote = s.wake.demote ∧
    t.request.underVote = s.request.underVote ∧ t.request.deferHold = s.request.deferHold ∧
    t.request.lockout = s.request.lockout ∧ t.request.refresh = s.request.refresh ∧
    t.request.pulses = s.request.pulses ∧ t.request.result = s.request.result ∧ t.loader = s.loader ∧
    t.port = s.port ∧ t.pending = s.pending := by
  refine ⟨_, rfl, ?_⟩
  dsimp only
  (repeat' split) <;> simp

theorem execDropoutWindowExpiry_keeps (ch : Fin 6) (s : State) :
    ∃ t, execDropoutWindowExpiry ch s = .next t ∧
    t.time = s.time ∧ t.pins = s.pins ∧ t.link = s.link ∧ t.agreement = s.agreement ∧ t.presence = s.presence ∧
    t.executor = s.executor ∧ t.channel.signals = s.channel.signals ∧ t.channel.awaits = s.channel.awaits ∧
    t.channel.waitCounter = s.channel.waitCounter ∧ t.channel.corrections = s.channel.corrections ∧ t.wake = s.wake ∧
    t.request = s.request ∧ t.faults = s.faults ∧ t.loader = s.loader ∧ t.port = s.port ∧ t.pending = s.pending := by
  refine ⟨_, rfl, ?_⟩
  dsimp only
  (repeat' split) <;> simp

theorem execHoldDownEnd_keeps (ch : Fin 6) (s : State) :
    ∃ t, execHoldDownEnd ch s = .next t ∧
    t.time = s.time ∧ t.pins = s.pins ∧ t.link.integrated = s.link.integrated ∧
    t.link.receiveErrors = s.link.receiveErrors ∧ t.agreement.believed = s.agreement.believed ∧
    t.agreement.restImage = s.agreement.restImage ∧ t.agreement.number = s.agreement.number ∧
    t.agreement.record = s.agreement.record ∧ t.agreement.history = s.agreement.history ∧
    t.agreement.lateProposals = s.agreement.lateProposals ∧ t.agreement.streaks = s.agreement.streaks ∧
    t.agreement.voteWindow = s.agreement.voteWindow ∧ t.agreement.voteGuard = s.agreement.voteGuard ∧
    t.presence.peers = s.presence.peers ∧ t.presence.barring = s.presence.barring ∧
    t.presence.muteCause = s.presence.muteCause ∧ t.presence.debt = s.presence.debt ∧
    t.presence.censusWindow = s.presence.censusWindow ∧ t.presence.barredRetry = s.presence.barredRetry ∧
    t.presence.retryHeld = s.presence.retryHeld ∧ t.wake.debounce = s.wake.debounce ∧
    t.wake.longPress = s.wake.longPress ∧ t.wake.faultHold = s.wake.faultHold ∧
    t.request.underVote = s.request.underVote ∧ t.faults.deferred = s.faults.deferred ∧ t.loader = s.loader ∧
    t.port = s.port ∧ t.pending = s.pending := by
  refine ⟨_, rfl, ?_⟩
  split <;> simp

theorem execHoldUpEnd_keeps (ch : Fin 6) (s : State) :
    ∃ t, execHoldUpEnd ch s = .next t ∧
    t.time = s.time ∧ t.pins = s.pins ∧ t.link.integrated = s.link.integrated ∧
    t.link.receiveErrors = s.link.receiveErrors ∧ t.agreement.believed = s.agreement.believed ∧
    t.agreement.restImage = s.agreement.restImage ∧ t.agreement.number = s.agreement.number ∧
    t.agreement.record = s.agreement.record ∧ t.agreement.history = s.agreement.history ∧
    t.agreement.lateProposals = s.agreement.lateProposals ∧ t.agreement.streaks = s.agreement.streaks ∧
    t.agreement.voteWindow = s.agreement.voteWindow ∧ t.agreement.voteGuard = s.agreement.voteGuard ∧
    t.presence.peers = s.presence.peers ∧ t.presence.barring = s.presence.barring ∧
    t.presence.muteCause = s.presence.muteCause ∧ t.presence.debt = s.presence.debt ∧
    t.presence.censusWindow = s.presence.censusWindow ∧ t.presence.barredRetry = s.presence.barredRetry ∧
    t.presence.retryHeld = s.presence.retryHeld ∧ t.wake.debounce = s.wake.debounce ∧
    t.wake.longPress = s.wake.longPress ∧ t.wake.faultHold = s.wake.faultHold ∧
    t.request.underVote = s.request.underVote ∧ t.faults.deferred = s.faults.deferred ∧ t.loader = s.loader ∧
    t.port = s.port ∧ t.pending = s.pending := by
  refine ⟨_, rfl, ?_⟩
  split <;> simp

@[simp] theorem fallOn_keeps (ch : Fin 6) (s : State) :
    (fallOn ch s).time = s.time ∧ (fallOn ch s).pins = s.pins ∧ (fallOn ch s).link = s.link ∧
    (fallOn ch s).agreement = s.agreement ∧ (fallOn ch s).presence = s.presence ∧
    (fallOn ch s).executor = s.executor ∧ (fallOn ch s).channel.signals = s.channel.signals ∧
    (fallOn ch s).channel.awaits = s.channel.awaits ∧ (fallOn ch s).channel.waitCounter = s.channel.waitCounter ∧
    (fallOn ch s).channel.corrections = s.channel.corrections ∧ (fallOn ch s).wake = s.wake ∧
    (fallOn ch s).request = s.request ∧ (fallOn ch s).faults = s.faults ∧ (fallOn ch s).loader = s.loader ∧
    (fallOn ch s).port = s.port ∧ (fallOn ch s).pending = s.pending := by
  unfold fallOn
  split <;> simp

@[simp] theorem judgeFall_keeps (ch : Fin 6) (s : State) :
    (judgeFall ch s).time = s.time ∧ (judgeFall ch s).pins = s.pins ∧
    (judgeFall ch s).link.integrated = s.link.integrated ∧
    (judgeFall ch s).link.receiveErrors = s.link.receiveErrors ∧
    (judgeFall ch s).agreement.believed = s.agreement.believed ∧
    (judgeFall ch s).agreement.restImage = s.agreement.restImage ∧
    (judgeFall ch s).agreement.number = s.agreement.number ∧ (judgeFall ch s).agreement.record = s.agreement.record ∧
    (judgeFall ch s).agreement.history = s.agreement.history ∧
    (judgeFall ch s).agreement.lateProposals = s.agreement.lateProposals ∧
    (judgeFall ch s).agreement.streaks = s.agreement.streaks ∧
    (judgeFall ch s).agreement.voteWindow = s.agreement.voteWindow ∧
    (judgeFall ch s).agreement.voteGuard = s.agreement.voteGuard ∧
    (judgeFall ch s).presence.peers = s.presence.peers ∧ (judgeFall ch s).presence.barring = s.presence.barring ∧
    (judgeFall ch s).presence.muteCause = s.presence.muteCause ∧ (judgeFall ch s).presence.debt = s.presence.debt ∧
    (judgeFall ch s).presence.censusWindow = s.presence.censusWindow ∧
    (judgeFall ch s).presence.barredRetry = s.presence.barredRetry ∧
    (judgeFall ch s).presence.retryHeld = s.presence.retryHeld ∧ (judgeFall ch s).wake.debounce = s.wake.debounce ∧
    (judgeFall ch s).wake.longPress = s.wake.longPress ∧ (judgeFall ch s).wake.faultHold = s.wake.faultHold ∧
    (judgeFall ch s).request.underVote = s.request.underVote ∧ (judgeFall ch s).faults.deferred = s.faults.deferred ∧
    (judgeFall ch s).loader = s.loader ∧ (judgeFall ch s).port = s.port ∧ (judgeFall ch s).pending = s.pending := by
  unfold judgeFall
  split <;> simp

@[simp] theorem setPowerGood_keeps (ch : Fin 6) (l : Level) (s : State) :
    (setPowerGood ch l s).time = s.time ∧ (setPowerGood ch l s).pins.sense = s.pins.sense ∧
    (setPowerGood ch l s).pins.wake = s.pins.wake ∧ (setPowerGood ch l s).link = s.link ∧
    (setPowerGood ch l s).agreement = s.agreement ∧ (setPowerGood ch l s).presence = s.presence ∧
    (setPowerGood ch l s).executor = s.executor ∧ (setPowerGood ch l s).channel = s.channel ∧
    (setPowerGood ch l s).wake = s.wake ∧ (setPowerGood ch l s).request = s.request ∧
    (setPowerGood ch l s).faults = s.faults ∧ (setPowerGood ch l s).loader = s.loader ∧
    (setPowerGood ch l s).port = s.port ∧ (setPowerGood ch l s).pending = s.pending := by
  simp [setPowerGood]

@[simp] theorem powerGoodFalls_keeps (ch : Fin 6) (s : State) :
    (powerGoodFalls ch s).time = s.time ∧ (powerGoodFalls ch s).pins.sense = s.pins.sense ∧
    (powerGoodFalls ch s).pins.wake = s.pins.wake ∧ (powerGoodFalls ch s).link.integrated = s.link.integrated ∧
    (powerGoodFalls ch s).link.receiveErrors = s.link.receiveErrors ∧
    (powerGoodFalls ch s).agreement.believed = s.agreement.believed ∧
    (powerGoodFalls ch s).agreement.restImage = s.agreement.restImage ∧
    (powerGoodFalls ch s).agreement.number = s.agreement.number ∧
    (powerGoodFalls ch s).agreement.record = s.agreement.record ∧
    (powerGoodFalls ch s).agreement.history = s.agreement.history ∧
    (powerGoodFalls ch s).agreement.lateProposals = s.agreement.lateProposals ∧
    (powerGoodFalls ch s).agreement.streaks = s.agreement.streaks ∧
    (powerGoodFalls ch s).agreement.voteWindow = s.agreement.voteWindow ∧
    (powerGoodFalls ch s).agreement.voteGuard = s.agreement.voteGuard ∧
    (powerGoodFalls ch s).presence.peers = s.presence.peers ∧
    (powerGoodFalls ch s).presence.barring = s.presence.barring ∧
    (powerGoodFalls ch s).presence.muteCause = s.presence.muteCause ∧
    (powerGoodFalls ch s).presence.debt = s.presence.debt ∧
    (powerGoodFalls ch s).presence.censusWindow = s.presence.censusWindow ∧
    (powerGoodFalls ch s).presence.barredRetry = s.presence.barredRetry ∧
    (powerGoodFalls ch s).presence.retryHeld = s.presence.retryHeld ∧
    (powerGoodFalls ch s).wake.debounce = s.wake.debounce ∧ (powerGoodFalls ch s).wake.longPress = s.wake.longPress ∧
    (powerGoodFalls ch s).wake.faultHold = s.wake.faultHold ∧
    (powerGoodFalls ch s).request.underVote = s.request.underVote ∧
    (powerGoodFalls ch s).faults.deferred = s.faults.deferred ∧ (powerGoodFalls ch s).loader = s.loader ∧
    (powerGoodFalls ch s).port = s.port ∧ (powerGoodFalls ch s).pending = s.pending := by
  unfold powerGoodFalls
  split <;> simp

theorem execPowerGoodFallFailedDown_keeps (ch : Fin 6) (s : State) :
    ∃ t, execPowerGoodFallFailedDown ch s = .next t ∧
    t.time = s.time ∧ t.pins.sense = s.pins.sense ∧ t.pins.wake = s.pins.wake ∧
    t.link.integrated = s.link.integrated ∧ t.link.receiveErrors = s.link.receiveErrors ∧
    t.agreement.believed = s.agreement.believed ∧ t.agreement.restImage = s.agreement.restImage ∧
    t.agreement.number = s.agreement.number ∧ t.agreement.record = s.agreement.record ∧
    t.agreement.history = s.agreement.history ∧ t.agreement.lateProposals = s.agreement.lateProposals ∧
    t.agreement.streaks = s.agreement.streaks ∧ t.agreement.voteWindow = s.agreement.voteWindow ∧
    t.agreement.voteGuard = s.agreement.voteGuard ∧ t.presence.peers = s.presence.peers ∧
    t.presence.barring = s.presence.barring ∧ t.presence.muteCause = s.presence.muteCause ∧
    t.presence.debt = s.presence.debt ∧ t.presence.censusWindow = s.presence.censusWindow ∧
    t.presence.barredRetry = s.presence.barredRetry ∧ t.presence.retryHeld = s.presence.retryHeld ∧
    t.wake.debounce = s.wake.debounce ∧ t.wake.longPress = s.wake.longPress ∧ t.wake.faultHold = s.wake.faultHold ∧
    t.request.underVote = s.request.underVote ∧ t.faults.deferred = s.faults.deferred ∧ t.loader = s.loader ∧
    t.port = s.port ∧ t.pending = s.pending := by
  exact ⟨_, rfl, by simp⟩

theorem execPowerGoodFallFalling_keeps (ch : Fin 6) (s : State) :
    ∃ t, execPowerGoodFallFalling ch s = .next t ∧
    t.time = s.time ∧ t.pins.sense = s.pins.sense ∧ t.pins.wake = s.pins.wake ∧
    t.link.integrated = s.link.integrated ∧ t.link.receiveErrors = s.link.receiveErrors ∧
    t.agreement.believed = s.agreement.believed ∧ t.agreement.restImage = s.agreement.restImage ∧
    t.agreement.number = s.agreement.number ∧ t.agreement.record = s.agreement.record ∧
    t.agreement.history = s.agreement.history ∧ t.agreement.lateProposals = s.agreement.lateProposals ∧
    t.agreement.streaks = s.agreement.streaks ∧ t.agreement.voteWindow = s.agreement.voteWindow ∧
    t.agreement.voteGuard = s.agreement.voteGuard ∧ t.presence.peers = s.presence.peers ∧
    t.presence.barring = s.presence.barring ∧ t.presence.muteCause = s.presence.muteCause ∧
    t.presence.debt = s.presence.debt ∧ t.presence.censusWindow = s.presence.censusWindow ∧
    t.presence.barredRetry = s.presence.barredRetry ∧ t.presence.retryHeld = s.presence.retryHeld ∧
    t.wake.debounce = s.wake.debounce ∧ t.wake.longPress = s.wake.longPress ∧ t.wake.faultHold = s.wake.faultHold ∧
    t.request.underVote = s.request.underVote ∧ t.faults.deferred = s.faults.deferred ∧ t.loader = s.loader ∧
    t.port = s.port ∧ t.pending = s.pending := by
  exact ⟨_, rfl, by simp⟩

theorem execPowerGoodFallHoldingUp_keeps (ch : Fin 6) (s : State) :
    ∃ t, execPowerGoodFallHoldingUp ch s = .next t ∧
    t.time = s.time ∧ t.pins.sense = s.pins.sense ∧ t.pins.wake = s.pins.wake ∧
    t.link.integrated = s.link.integrated ∧ t.link.receiveErrors = s.link.receiveErrors ∧
    t.agreement.believed = s.agreement.believed ∧ t.agreement.restImage = s.agreement.restImage ∧
    t.agreement.number = s.agreement.number ∧ t.agreement.record = s.agreement.record ∧
    t.agreement.history = s.agreement.history ∧ t.agreement.lateProposals = s.agreement.lateProposals ∧
    t.agreement.streaks = s.agreement.streaks ∧ t.agreement.voteWindow = s.agreement.voteWindow ∧
    t.agreement.voteGuard = s.agreement.voteGuard ∧ t.presence.peers = s.presence.peers ∧
    t.presence.barring = s.presence.barring ∧ t.presence.muteCause = s.presence.muteCause ∧
    t.presence.debt = s.presence.debt ∧ t.presence.censusWindow = s.presence.censusWindow ∧
    t.presence.barredRetry = s.presence.barredRetry ∧ t.presence.retryHeld = s.presence.retryHeld ∧
    t.wake.debounce = s.wake.debounce ∧ t.wake.longPress = s.wake.longPress ∧ t.wake.faultHold = s.wake.faultHold ∧
    t.request.underVote = s.request.underVote ∧ t.faults.deferred = s.faults.deferred ∧ t.loader = s.loader ∧
    t.port = s.port ∧ t.pending = s.pending := by
  exact ⟨_, rfl, by simp⟩

theorem execPowerGoodFallOn_keeps (ch : Fin 6) (s : State) :
    ∃ t, execPowerGoodFallOn ch s = .next t ∧
    t.time = s.time ∧ t.pins.sense = s.pins.sense ∧ t.pins.wake = s.pins.wake ∧
    t.link.integrated = s.link.integrated ∧ t.link.receiveErrors = s.link.receiveErrors ∧
    t.agreement.believed = s.agreement.believed ∧ t.agreement.restImage = s.agreement.restImage ∧
    t.agreement.number = s.agreement.number ∧ t.agreement.record = s.agreement.record ∧
    t.agreement.history = s.agreement.history ∧ t.agreement.lateProposals = s.agreement.lateProposals ∧
    t.agreement.streaks = s.agreement.streaks ∧ t.agreement.voteWindow = s.agreement.voteWindow ∧
    t.agreement.voteGuard = s.agreement.voteGuard ∧ t.presence.peers = s.presence.peers ∧
    t.presence.barring = s.presence.barring ∧ t.presence.muteCause = s.presence.muteCause ∧
    t.presence.debt = s.presence.debt ∧ t.presence.censusWindow = s.presence.censusWindow ∧
    t.presence.barredRetry = s.presence.barredRetry ∧ t.presence.retryHeld = s.presence.retryHeld ∧
    t.wake.debounce = s.wake.debounce ∧ t.wake.longPress = s.wake.longPress ∧ t.wake.faultHold = s.wake.faultHold ∧
    t.request.underVote = s.request.underVote ∧ t.faults.deferred = s.faults.deferred ∧ t.loader = s.loader ∧
    t.port = s.port ∧ t.pending = s.pending := by
  exact ⟨_, rfl, by simp⟩

@[simp] theorem riseOn_keeps (ch : Fin 6) (s : State) :
    (riseOn ch s).time = s.time ∧ (riseOn ch s).pins = s.pins ∧ (riseOn ch s).link.integrated = s.link.integrated ∧
    (riseOn ch s).link.receiveErrors = s.link.receiveErrors ∧ (riseOn ch s).agreement = s.agreement ∧
    (riseOn ch s).presence = s.presence ∧ (riseOn ch s).executor = s.executor ∧
    (riseOn ch s).channel.signals = s.channel.signals ∧ (riseOn ch s).channel.awaits = s.channel.awaits ∧
    (riseOn ch s).channel.waitCounter = s.channel.waitCounter ∧
    (riseOn ch s).channel.corrections = s.channel.corrections ∧ (riseOn ch s).wake.inputs = s.wake.inputs ∧
    (riseOn ch s).wake.pressed = s.wake.pressed ∧ (riseOn ch s).wake.debounce = s.wake.debounce ∧
    (riseOn ch s).wake.longPress = s.wake.longPress ∧ (riseOn ch s).wake.commonWindow = s.wake.commonWindow ∧
    (riseOn ch s).wake.queue = s.wake.queue ∧ (riseOn ch s).wake.minDwell = s.wake.minDwell ∧
    (riseOn ch s).wake.faultHold = s.wake.faultHold ∧ (riseOn ch s).wake.demote = s.wake.demote ∧
    (riseOn ch s).request.underVote = s.request.underVote ∧ (riseOn ch s).request.deferHold = s.request.deferHold ∧
    (riseOn ch s).request.lockout = s.request.lockout ∧ (riseOn ch s).request.refresh = s.request.refresh ∧
    (riseOn ch s).request.pulses = s.request.pulses ∧ (riseOn ch s).request.result = s.request.result ∧
    (riseOn ch s).loader = s.loader ∧ (riseOn ch s).port = s.port ∧ (riseOn ch s).pending = s.pending := by
  unfold riseOn
  split <;> simp

@[simp] theorem judgeRise_keeps (ch : Fin 6) (s : State) :
    (judgeRise ch s).time = s.time ∧ (judgeRise ch s).pins = s.pins ∧
    (judgeRise ch s).link.integrated = s.link.integrated ∧
    (judgeRise ch s).link.receiveErrors = s.link.receiveErrors ∧
    (judgeRise ch s).agreement.believed = s.agreement.believed ∧
    (judgeRise ch s).agreement.restImage = s.agreement.restImage ∧
    (judgeRise ch s).agreement.number = s.agreement.number ∧ (judgeRise ch s).agreement.record = s.agreement.record ∧
    (judgeRise ch s).agreement.history = s.agreement.history ∧
    (judgeRise ch s).agreement.lateProposals = s.agreement.lateProposals ∧
    (judgeRise ch s).agreement.streaks = s.agreement.streaks ∧
    (judgeRise ch s).agreement.voteWindow = s.agreement.voteWindow ∧
    (judgeRise ch s).agreement.voteGuard = s.agreement.voteGuard ∧
    (judgeRise ch s).presence.peers = s.presence.peers ∧ (judgeRise ch s).presence.barring = s.presence.barring ∧
    (judgeRise ch s).presence.muteCause = s.presence.muteCause ∧ (judgeRise ch s).presence.debt = s.presence.debt ∧
    (judgeRise ch s).presence.censusWindow = s.presence.censusWindow ∧
    (judgeRise ch s).presence.barredRetry = s.presence.barredRetry ∧
    (judgeRise ch s).presence.retryHeld = s.presence.retryHeld ∧ (judgeRise ch s).wake.debounce = s.wake.debounce ∧
    (judgeRise ch s).wake.longPress = s.wake.longPress ∧ (judgeRise ch s).wake.faultHold = s.wake.faultHold ∧
    (judgeRise ch s).request.underVote = s.request.underVote ∧ (judgeRise ch s).loader = s.loader ∧
    (judgeRise ch s).port = s.port ∧ (judgeRise ch s).pending = s.pending := by
  unfold judgeRise
  split <;> simp

@[simp] theorem powerGoodRises_keeps (ch : Fin 6) (s : State) :
    (powerGoodRises ch s).time = s.time ∧ (powerGoodRises ch s).pins.sense = s.pins.sense ∧
    (powerGoodRises ch s).pins.wake = s.pins.wake ∧ (powerGoodRises ch s).link.integrated = s.link.integrated ∧
    (powerGoodRises ch s).link.receiveErrors = s.link.receiveErrors ∧
    (powerGoodRises ch s).agreement.believed = s.agreement.believed ∧
    (powerGoodRises ch s).agreement.restImage = s.agreement.restImage ∧
    (powerGoodRises ch s).agreement.number = s.agreement.number ∧
    (powerGoodRises ch s).agreement.record = s.agreement.record ∧
    (powerGoodRises ch s).agreement.history = s.agreement.history ∧
    (powerGoodRises ch s).agreement.lateProposals = s.agreement.lateProposals ∧
    (powerGoodRises ch s).agreement.streaks = s.agreement.streaks ∧
    (powerGoodRises ch s).agreement.voteWindow = s.agreement.voteWindow ∧
    (powerGoodRises ch s).agreement.voteGuard = s.agreement.voteGuard ∧
    (powerGoodRises ch s).presence.peers = s.presence.peers ∧
    (powerGoodRises ch s).presence.barring = s.presence.barring ∧
    (powerGoodRises ch s).presence.muteCause = s.presence.muteCause ∧
    (powerGoodRises ch s).presence.debt = s.presence.debt ∧
    (powerGoodRises ch s).presence.censusWindow = s.presence.censusWindow ∧
    (powerGoodRises ch s).presence.barredRetry = s.presence.barredRetry ∧
    (powerGoodRises ch s).presence.retryHeld = s.presence.retryHeld ∧
    (powerGoodRises ch s).wake.debounce = s.wake.debounce ∧ (powerGoodRises ch s).wake.longPress = s.wake.longPress ∧
    (powerGoodRises ch s).wake.faultHold = s.wake.faultHold ∧
    (powerGoodRises ch s).request.underVote = s.request.underVote ∧ (powerGoodRises ch s).loader = s.loader ∧
    (powerGoodRises ch s).port = s.port ∧ (powerGoodRises ch s).pending = s.pending := by
  unfold powerGoodRises
  split <;> simp

theorem execPowerGoodRiseHoldingDown_keeps (ch : Fin 6) (s : State) :
    ∃ t, execPowerGoodRiseHoldingDown ch s = .next t ∧
    t.time = s.time ∧ t.pins.sense = s.pins.sense ∧ t.pins.wake = s.pins.wake ∧
    t.link.integrated = s.link.integrated ∧ t.link.receiveErrors = s.link.receiveErrors ∧
    t.agreement.believed = s.agreement.believed ∧ t.agreement.restImage = s.agreement.restImage ∧
    t.agreement.number = s.agreement.number ∧ t.agreement.record = s.agreement.record ∧
    t.agreement.history = s.agreement.history ∧ t.agreement.lateProposals = s.agreement.lateProposals ∧
    t.agreement.streaks = s.agreement.streaks ∧ t.agreement.voteWindow = s.agreement.voteWindow ∧
    t.agreement.voteGuard = s.agreement.voteGuard ∧ t.presence.peers = s.presence.peers ∧
    t.presence.barring = s.presence.barring ∧ t.presence.muteCause = s.presence.muteCause ∧
    t.presence.debt = s.presence.debt ∧ t.presence.censusWindow = s.presence.censusWindow ∧
    t.presence.barredRetry = s.presence.barredRetry ∧ t.presence.retryHeld = s.presence.retryHeld ∧
    t.wake.debounce = s.wake.debounce ∧ t.wake.longPress = s.wake.longPress ∧ t.wake.faultHold = s.wake.faultHold ∧
    t.request.underVote = s.request.underVote ∧ t.loader = s.loader ∧ t.port = s.port ∧ t.pending = s.pending := by
  exact ⟨_, rfl, by simp⟩

theorem execPowerGoodRiseOn_keeps (ch : Fin 6) (s : State) :
    ∃ t, execPowerGoodRiseOn ch s = .next t ∧
    t.time = s.time ∧ t.pins.sense = s.pins.sense ∧ t.pins.wake = s.pins.wake ∧
    t.link.integrated = s.link.integrated ∧ t.link.receiveErrors = s.link.receiveErrors ∧
    t.agreement.believed = s.agreement.believed ∧ t.agreement.restImage = s.agreement.restImage ∧
    t.agreement.number = s.agreement.number ∧ t.agreement.record = s.agreement.record ∧
    t.agreement.history = s.agreement.history ∧ t.agreement.lateProposals = s.agreement.lateProposals ∧
    t.agreement.streaks = s.agreement.streaks ∧ t.agreement.voteWindow = s.agreement.voteWindow ∧
    t.agreement.voteGuard = s.agreement.voteGuard ∧ t.presence.peers = s.presence.peers ∧
    t.presence.barring = s.presence.barring ∧ t.presence.muteCause = s.presence.muteCause ∧
    t.presence.debt = s.presence.debt ∧ t.presence.censusWindow = s.presence.censusWindow ∧
    t.presence.barredRetry = s.presence.barredRetry ∧ t.presence.retryHeld = s.presence.retryHeld ∧
    t.wake.debounce = s.wake.debounce ∧ t.wake.longPress = s.wake.longPress ∧ t.wake.faultHold = s.wake.faultHold ∧
    t.request.underVote = s.request.underVote ∧ t.loader = s.loader ∧ t.port = s.port ∧ t.pending = s.pending := by
  exact ⟨_, rfl, by simp⟩

theorem execPowerGoodRiseRising_keeps (ch : Fin 6) (s : State) :
    ∃ t, execPowerGoodRiseRising ch s = .next t ∧
    t.time = s.time ∧ t.pins.sense = s.pins.sense ∧ t.pins.wake = s.pins.wake ∧
    t.link.integrated = s.link.integrated ∧ t.link.receiveErrors = s.link.receiveErrors ∧
    t.agreement.believed = s.agreement.believed ∧ t.agreement.restImage = s.agreement.restImage ∧
    t.agreement.number = s.agreement.number ∧ t.agreement.record = s.agreement.record ∧
    t.agreement.history = s.agreement.history ∧ t.agreement.lateProposals = s.agreement.lateProposals ∧
    t.agreement.streaks = s.agreement.streaks ∧ t.agreement.voteWindow = s.agreement.voteWindow ∧
    t.agreement.voteGuard = s.agreement.voteGuard ∧ t.presence.peers = s.presence.peers ∧
    t.presence.barring = s.presence.barring ∧ t.presence.muteCause = s.presence.muteCause ∧
    t.presence.debt = s.presence.debt ∧ t.presence.censusWindow = s.presence.censusWindow ∧
    t.presence.barredRetry = s.presence.barredRetry ∧ t.presence.retryHeld = s.presence.retryHeld ∧
    t.wake.debounce = s.wake.debounce ∧ t.wake.longPress = s.wake.longPress ∧ t.wake.faultHold = s.wake.faultHold ∧
    t.request.underVote = s.request.underVote ∧ t.loader = s.loader ∧ t.port = s.port ∧ t.pending = s.pending := by
  exact ⟨_, rfl, by simp⟩

theorem execSettleWindowExpiry_keeps (ch : Fin 6) (s : State) :
    ∃ t, execSettleWindowExpiry ch s = .next t ∧
    t.time = s.time ∧ t.pins = s.pins ∧ t.link.integrated = s.link.integrated ∧
    t.link.receiveErrors = s.link.receiveErrors ∧ t.agreement.believed = s.agreement.believed ∧
    t.agreement.restImage = s.agreement.restImage ∧ t.agreement.number = s.agreement.number ∧
    t.agreement.record = s.agreement.record ∧ t.agreement.history = s.agreement.history ∧
    t.agreement.lateProposals = s.agreement.lateProposals ∧ t.agreement.streaks = s.agreement.streaks ∧
    t.agreement.voteWindow = s.agreement.voteWindow ∧ t.agreement.voteGuard = s.agreement.voteGuard ∧
    t.presence.peers = s.presence.peers ∧ t.presence.barring = s.presence.barring ∧
    t.presence.muteCause = s.presence.muteCause ∧ t.presence.debt = s.presence.debt ∧
    t.presence.censusWindow = s.presence.censusWindow ∧ t.presence.barredRetry = s.presence.barredRetry ∧
    t.presence.retryHeld = s.presence.retryHeld ∧ t.wake.debounce = s.wake.debounce ∧
    t.wake.longPress = s.wake.longPress ∧ t.wake.faultHold = s.wake.faultHold ∧
    t.request.underVote = s.request.underVote ∧ t.faults.deferred = s.faults.deferred ∧ t.loader = s.loader ∧
    t.port = s.port ∧ t.pending = s.pending := by
  refine ⟨_, rfl, ?_⟩
  split <;> simp

theorem execAwaitTimeout_keeps (i : Fin 2) (s : State) :
    ∃ t, execAwaitTimeout i s = .next t ∧
    t.time = s.time ∧ t.pins = s.pins ∧ t.link.integrated = s.link.integrated ∧
    t.link.receiveErrors = s.link.receiveErrors ∧ t.agreement = s.agreement ∧ t.presence = s.presence ∧
    t.channel.corrections = s.channel.corrections ∧ t.wake.inputs = s.wake.inputs ∧ t.wake.pressed = s.wake.pressed ∧
    t.wake.debounce = s.wake.debounce ∧ t.wake.longPress = s.wake.longPress ∧
    t.wake.commonWindow = s.wake.commonWindow ∧ t.wake.queue = s.wake.queue ∧ t.wake.minDwell = s.wake.minDwell ∧
    t.wake.faultHold = s.wake.faultHold ∧ t.wake.demote = s.wake.demote ∧ t.request.underVote = s.request.underVote ∧
    t.request.deferHold = s.request.deferHold ∧ t.request.lockout = s.request.lockout ∧
    t.request.refresh = s.request.refresh ∧ t.request.pulses = s.request.pulses ∧
    t.request.result = s.request.result ∧ t.faults.deferred = s.faults.deferred ∧ t.loader = s.loader ∧
    t.port = s.port ∧ t.pending = s.pending := by
  refine ⟨_, rfl, ?_⟩
  dsimp only
  (repeat' split) <;> simp

theorem execPulseEnd_keeps (i : Fin 4) (s : State) :
    ∃ t, execPulseEnd i s = .next t ∧
    t.time = s.time ∧ t.pins = s.pins ∧ t.link.integrated = s.link.integrated ∧
    t.link.receiveErrors = s.link.receiveErrors ∧ t.agreement = s.agreement ∧ t.presence = s.presence ∧
    t.channel.corrections = s.channel.corrections ∧ t.wake.inputs = s.wake.inputs ∧ t.wake.pressed = s.wake.pressed ∧
    t.wake.debounce = s.wake.debounce ∧ t.wake.longPress = s.wake.longPress ∧
    t.wake.commonWindow = s.wake.commonWindow ∧ t.wake.queue = s.wake.queue ∧ t.wake.minDwell = s.wake.minDwell ∧
    t.wake.faultHold = s.wake.faultHold ∧ t.wake.demote = s.wake.demote ∧ t.request.underVote = s.request.underVote ∧
    t.request.deferHold = s.request.deferHold ∧ t.request.lockout = s.request.lockout ∧
    t.request.refresh = s.request.refresh ∧ t.request.pulses = s.request.pulses ∧
    t.request.result = s.request.result ∧ t.faults = s.faults ∧ t.loader = s.loader ∧ t.port = s.port ∧
    t.pending = s.pending := by
  refine ⟨_, rfl, ?_⟩
  dsimp only
  (repeat' split) <;> simp

@[simp] theorem setSense_keeps (i : Fin 2) (l : Level) (s : State) :
    (setSense i l s).time = s.time ∧ (setSense i l s).pins.powerGood = s.pins.powerGood ∧
    (setSense i l s).pins.wake = s.pins.wake ∧ (setSense i l s).link = s.link ∧
    (setSense i l s).agreement = s.agreement ∧ (setSense i l s).presence = s.presence ∧
    (setSense i l s).executor = s.executor ∧ (setSense i l s).channel = s.channel ∧ (setSense i l s).wake = s.wake ∧
    (setSense i l s).request = s.request ∧ (setSense i l s).faults = s.faults ∧ (setSense i l s).loader = s.loader ∧
    (setSense i l s).port = s.port ∧ (setSense i l s).pending = s.pending := by
  simp [setSense]

theorem execSenseChange_keeps (i : Fin 2) (l : Level) (s : State) :
    ∃ t, execSenseChange i l s = .next t ∧
    t.time = s.time ∧ t.pins.powerGood = s.pins.powerGood ∧ t.pins.wake = s.pins.wake ∧
    t.link.integrated = s.link.integrated ∧ t.link.receiveErrors = s.link.receiveErrors ∧ t.agreement = s.agreement ∧
    t.presence = s.presence ∧ t.channel.corrections = s.channel.corrections ∧ t.wake.inputs = s.wake.inputs ∧
    t.wake.pressed = s.wake.pressed ∧ t.wake.debounce = s.wake.debounce ∧ t.wake.longPress = s.wake.longPress ∧
    t.wake.commonWindow = s.wake.commonWindow ∧ t.wake.queue = s.wake.queue ∧ t.wake.minDwell = s.wake.minDwell ∧
    t.wake.faultHold = s.wake.faultHold ∧ t.wake.demote = s.wake.demote ∧ t.request.underVote = s.request.underVote ∧
    t.request.deferHold = s.request.deferHold ∧ t.request.lockout = s.request.lockout ∧
    t.request.refresh = s.request.refresh ∧ t.request.pulses = s.request.pulses ∧
    t.request.result = s.request.result ∧ t.faults = s.faults ∧ t.loader = s.loader ∧ t.port = s.port ∧
    t.pending = s.pending := by
  refine ⟨_, rfl, ?_⟩
  dsimp only
  (repeat' split) <;> simp

theorem execWaitEnd_keeps (s : State) :
    ∃ t, execWaitEnd s = .next t ∧
    t.time = s.time ∧ t.pins = s.pins ∧ t.link.integrated = s.link.integrated ∧
    t.link.receiveErrors = s.link.receiveErrors ∧ t.agreement = s.agreement ∧ t.presence = s.presence ∧
    t.channel.corrections = s.channel.corrections ∧ t.wake.inputs = s.wake.inputs ∧ t.wake.pressed = s.wake.pressed ∧
    t.wake.debounce = s.wake.debounce ∧ t.wake.longPress = s.wake.longPress ∧
    t.wake.commonWindow = s.wake.commonWindow ∧ t.wake.queue = s.wake.queue ∧ t.wake.minDwell = s.wake.minDwell ∧
    t.wake.faultHold = s.wake.faultHold ∧ t.wake.demote = s.wake.demote ∧ t.request.underVote = s.request.underVote ∧
    t.request.deferHold = s.request.deferHold ∧ t.request.lockout = s.request.lockout ∧
    t.request.refresh = s.request.refresh ∧ t.request.pulses = s.request.pulses ∧
    t.request.result = s.request.result ∧ t.faults = s.faults ∧ t.loader = s.loader ∧ t.port = s.port ∧
    t.pending = s.pending := by
  refine ⟨_, rfl, ?_⟩
  dsimp only
  (repeat' split) <;> simp

theorem execReqackPulseEnd_keeps (s : State) :
    ∃ t, execReqackPulseEnd s = .next t ∧
    t.time = s.time ∧ t.pins = s.pins ∧ t.link = s.link ∧ t.agreement = s.agreement ∧ t.presence = s.presence ∧
    t.executor = s.executor ∧ t.channel = s.channel ∧ t.wake = s.wake ∧ t.request.latch = s.request.latch ∧
    t.request.underVote = s.request.underVote ∧ t.request.deferHold = s.request.deferHold ∧
    t.request.lockout = s.request.lockout ∧ t.request.refresh = s.request.refresh ∧
    t.request.result = s.request.result ∧ t.faults = s.faults ∧ t.loader = s.loader ∧ t.port = s.port ∧
    t.pending = s.pending := by
  refine ⟨_, rfl, ?_⟩
  dsimp only
  simp

@[simp] theorem takeRequest_keeps (r : Request) (s : State) :
    (takeRequest r s).time = s.time ∧ (takeRequest r s).pins = s.pins ∧
    (takeRequest r s).link.integrated = s.link.integrated ∧
    (takeRequest r s).link.receiveErrors = s.link.receiveErrors ∧ (takeRequest r s).agreement = s.agreement ∧
    (takeRequest r s).presence = s.presence ∧ (takeRequest r s).executor = s.executor ∧
    (takeRequest r s).channel = s.channel ∧ (takeRequest r s).wake.inputs = s.wake.inputs ∧
    (takeRequest r s).wake.pressed = s.wake.pressed ∧ (takeRequest r s).wake.debounce = s.wake.debounce ∧
    (takeRequest r s).wake.longPress = s.wake.longPress ∧ (takeRequest r s).wake.commonWindow = s.wake.commonWindow ∧
    (takeRequest r s).wake.queue = s.wake.queue ∧ (takeRequest r s).wake.minDwell = s.wake.minDwell ∧
    (takeRequest r s).wake.faultHold = s.wake.faultHold ∧ (takeRequest r s).wake.demote = s.wake.demote ∧
    (takeRequest r s).request.underVote = s.request.underVote ∧
    (takeRequest r s).request.lockout = s.request.lockout ∧ (takeRequest r s).request.refresh = s.request.refresh ∧
    (takeRequest r s).faults = s.faults ∧ (takeRequest r s).loader = s.loader ∧ (takeRequest r s).port = s.port ∧
    (takeRequest r s).pending = s.pending := by
  simp [takeRequest]

@[simp] theorem requestEdge_keeps (type1 type0 imgrdy : Level) (s : State) :
    (requestEdge type1 type0 imgrdy s).time = s.time ∧ (requestEdge type1 type0 imgrdy s).pins = s.pins ∧
    (requestEdge type1 type0 imgrdy s).link.integrated = s.link.integrated ∧
    (requestEdge type1 type0 imgrdy s).link.receiveErrors = s.link.receiveErrors ∧
    (requestEdge type1 type0 imgrdy s).agreement = s.agreement ∧
    (requestEdge type1 type0 imgrdy s).presence = s.presence ∧
    (requestEdge type1 type0 imgrdy s).executor = s.executor ∧
    (requestEdge type1 type0 imgrdy s).channel = s.channel ∧
    (requestEdge type1 type0 imgrdy s).wake.inputs = s.wake.inputs ∧
    (requestEdge type1 type0 imgrdy s).wake.pressed = s.wake.pressed ∧
    (requestEdge type1 type0 imgrdy s).wake.debounce = s.wake.debounce ∧
    (requestEdge type1 type0 imgrdy s).wake.longPress = s.wake.longPress ∧
    (requestEdge type1 type0 imgrdy s).wake.commonWindow = s.wake.commonWindow ∧
    (requestEdge type1 type0 imgrdy s).wake.queue = s.wake.queue ∧
    (requestEdge type1 type0 imgrdy s).wake.minDwell = s.wake.minDwell ∧
    (requestEdge type1 type0 imgrdy s).wake.faultHold = s.wake.faultHold ∧
    (requestEdge type1 type0 imgrdy s).wake.demote = s.wake.demote ∧
    (requestEdge type1 type0 imgrdy s).request.underVote = s.request.underVote ∧
    (requestEdge type1 type0 imgrdy s).request.lockout = s.request.lockout ∧
    (requestEdge type1 type0 imgrdy s).request.refresh = s.request.refresh ∧
    (requestEdge type1 type0 imgrdy s).faults = s.faults ∧ (requestEdge type1 type0 imgrdy s).loader = s.loader ∧
    (requestEdge type1 type0 imgrdy s).port = s.port ∧ (requestEdge type1 type0 imgrdy s).pending = s.pending := by
  unfold requestEdge
  (repeat' split) <;> simp

theorem execSlpreqEdge_keeps (type1 type0 imgrdy : Level) (s : State) :
    ∃ t, execSlpreqEdge type1 type0 imgrdy s = .next t ∧
    t.time = s.time ∧ t.pins = s.pins ∧ t.link.integrated = s.link.integrated ∧
    t.link.receiveErrors = s.link.receiveErrors ∧ t.agreement = s.agreement ∧ t.presence = s.presence ∧
    t.executor = s.executor ∧ t.channel = s.channel ∧ t.wake.inputs = s.wake.inputs ∧
    t.wake.pressed = s.wake.pressed ∧ t.wake.debounce = s.wake.debounce ∧ t.wake.longPress = s.wake.longPress ∧
    t.wake.commonWindow = s.wake.commonWindow ∧ t.wake.queue = s.wake.queue ∧ t.wake.minDwell = s.wake.minDwell ∧
    t.wake.faultHold = s.wake.faultHold ∧ t.wake.demote = s.wake.demote ∧ t.request.underVote = s.request.underVote ∧
    t.request.lockout = s.request.lockout ∧ t.request.refresh = s.request.refresh ∧ t.faults = s.faults ∧
    t.loader = s.loader ∧ t.port = s.port ∧ t.pending = s.pending := by
  refine ⟨_, rfl, ?_⟩
  split <;> simp

@[simp] theorem buttonPressed_keeps (i : Fin 8) (s : State) :
    (buttonPressed i s).time = s.time ∧ (buttonPressed i s).pins = s.pins ∧
    (buttonPressed i s).link.integrated = s.link.integrated ∧
    (buttonPressed i s).link.receiveErrors = s.link.receiveErrors ∧ (buttonPressed i s).agreement = s.agreement ∧
    (buttonPressed i s).presence = s.presence ∧ (buttonPressed i s).executor = s.executor ∧
    (buttonPressed i s).channel = s.channel ∧ (buttonPressed i s).wake.inputs = s.wake.inputs ∧
    (buttonPressed i s).wake.debounce = s.wake.debounce ∧
    (buttonPressed i s).wake.commonWindow = s.wake.commonWindow ∧
    (buttonPressed i s).wake.minDwell = s.wake.minDwell ∧ (buttonPressed i s).wake.faultHold = s.wake.faultHold ∧
    (buttonPressed i s).wake.demote = s.wake.demote ∧ (buttonPressed i s).request.underVote = s.request.underVote ∧
    (buttonPressed i s).request.deferHold = s.request.deferHold ∧
    (buttonPressed i s).request.lockout = s.request.lockout ∧
    (buttonPressed i s).request.refresh = s.request.refresh ∧ (buttonPressed i s).request.pulses = s.request.pulses ∧
    (buttonPressed i s).request.result = s.request.result ∧ (buttonPressed i s).faults = s.faults ∧
    (buttonPressed i s).loader = s.loader ∧ (buttonPressed i s).port = s.port ∧
    (buttonPressed i s).pending = s.pending := by
  unfold buttonPressed
  dsimp only
  (repeat' split) <;> simp

@[simp] theorem shortPress_keeps (s : State) :
    (shortPress s).time = s.time ∧ (shortPress s).pins = s.pins ∧
    (shortPress s).link.integrated = s.link.integrated ∧ (shortPress s).link.receiveErrors = s.link.receiveErrors ∧
    (shortPress s).agreement = s.agreement ∧ (shortPress s).presence = s.presence ∧
    (shortPress s).executor = s.executor ∧ (shortPress s).channel = s.channel ∧
    (shortPress s).wake.inputs = s.wake.inputs ∧ (shortPress s).wake.pressed = s.wake.pressed ∧
    (shortPress s).wake.debounce = s.wake.debounce ∧ (shortPress s).wake.longPress = s.wake.longPress ∧
    (shortPress s).wake.commonWindow = s.wake.commonWindow ∧ (shortPress s).wake.queue = s.wake.queue ∧
    (shortPress s).wake.minDwell = s.wake.minDwell ∧ (shortPress s).wake.faultHold = s.wake.faultHold ∧
    (shortPress s).wake.demote = s.wake.demote ∧ (shortPress s).request.underVote = s.request.underVote ∧
    (shortPress s).request.lockout = s.request.lockout ∧ (shortPress s).request.refresh = s.request.refresh ∧
    (shortPress s).faults = s.faults ∧ (shortPress s).loader = s.loader ∧ (shortPress s).port = s.port ∧
    (shortPress s).pending = s.pending := by
  unfold shortPress
  (repeat' split) <;> simp

@[simp] theorem buttonReleased_keeps (s : State) :
    (buttonReleased s).time = s.time ∧ (buttonReleased s).pins = s.pins ∧
    (buttonReleased s).link.integrated = s.link.integrated ∧
    (buttonReleased s).link.receiveErrors = s.link.receiveErrors ∧ (buttonReleased s).agreement = s.agreement ∧
    (buttonReleased s).presence = s.presence ∧ (buttonReleased s).executor = s.executor ∧
    (buttonReleased s).channel = s.channel ∧ (buttonReleased s).wake.inputs = s.wake.inputs ∧
    (buttonReleased s).wake.debounce = s.wake.debounce ∧ (buttonReleased s).wake.commonWindow = s.wake.commonWindow ∧
    (buttonReleased s).wake.queue = s.wake.queue ∧ (buttonReleased s).wake.minDwell = s.wake.minDwell ∧
    (buttonReleased s).wake.faultHold = s.wake.faultHold ∧ (buttonReleased s).wake.demote = s.wake.demote ∧
    (buttonReleased s).request.underVote = s.request.underVote ∧
    (buttonReleased s).request.lockout = s.request.lockout ∧ (buttonReleased s).request.refresh = s.request.refresh ∧
    (buttonReleased s).faults = s.faults ∧ (buttonReleased s).loader = s.loader ∧ (buttonReleased s).port = s.port ∧
    (buttonReleased s).pending = s.pending := by
  unfold buttonReleased
  dsimp only
  (repeat' split) <;> simp

@[simp] theorem countActiveEdge_keeps (i : Fin 8) (s : State) :
    (countActiveEdge i s).time = s.time ∧ (countActiveEdge i s).pins = s.pins ∧
    (countActiveEdge i s).link.integrated = s.link.integrated ∧
    (countActiveEdge i s).link.receiveErrors = s.link.receiveErrors ∧ (countActiveEdge i s).agreement = s.agreement ∧
    (countActiveEdge i s).presence = s.presence ∧ (countActiveEdge i s).executor = s.executor ∧
    (countActiveEdge i s).channel = s.channel ∧ (countActiveEdge i s).wake.pressed = s.wake.pressed ∧
    (countActiveEdge i s).wake.debounce = s.wake.debounce ∧ (countActiveEdge i s).wake.longPress = s.wake.longPress ∧
    (countActiveEdge i s).wake.commonWindow = s.wake.commonWindow ∧ (countActiveEdge i s).wake.queue = s.wake.queue ∧
    (countActiveEdge i s).wake.minDwell = s.wake.minDwell ∧ (countActiveEdge i s).wake.faultHold = s.wake.faultHold ∧
    (countActiveEdge i s).wake.demote = s.wake.demote ∧
    (countActiveEdge i s).request.underVote = s.request.underVote ∧
    (countActiveEdge i s).request.deferHold = s.request.deferHold ∧
    (countActiveEdge i s).request.lockout = s.request.lockout ∧
    (countActiveEdge i s).request.refresh = s.request.refresh ∧
    (countActiveEdge i s).request.pulses = s.request.pulses ∧
    (countActiveEdge i s).request.result = s.request.result ∧
    (countActiveEdge i s).faults.deferred = s.faults.deferred ∧ (countActiveEdge i s).loader = s.loader ∧
    (countActiveEdge i s).port = s.port ∧ (countActiveEdge i s).pending = s.pending := by
  unfold countActiveEdge
  dsimp only
  (repeat' split) <;> simp

@[simp] theorem setWakePin_keeps (i : Fin 8) (l : Level) (s : State) :
    (setWakePin i l s).time = s.time ∧ (setWakePin i l s).pins.powerGood = s.pins.powerGood ∧
    (setWakePin i l s).pins.sense = s.pins.sense ∧ (setWakePin i l s).link = s.link ∧
    (setWakePin i l s).agreement = s.agreement ∧ (setWakePin i l s).presence = s.presence ∧
    (setWakePin i l s).executor = s.executor ∧ (setWakePin i l s).channel = s.channel ∧
    (setWakePin i l s).wake = s.wake ∧ (setWakePin i l s).request = s.request ∧
    (setWakePin i l s).faults = s.faults ∧ (setWakePin i l s).loader = s.loader ∧ (setWakePin i l s).port = s.port ∧
    (setWakePin i l s).pending = s.pending := by
  simp [setWakePin]

theorem execButtonInputChange_keeps (i : Fin 8) (l : Level) (s : State) :
    ∃ t, execButtonInputChange i l s = .next t ∧
    t.time = s.time ∧ t.pins.powerGood = s.pins.powerGood ∧ t.pins.sense = s.pins.sense ∧ t.link = s.link ∧
    t.agreement = s.agreement ∧ t.presence = s.presence ∧ t.executor = s.executor ∧ t.channel = s.channel ∧
    t.wake.inputs = s.wake.inputs ∧ t.wake.pressed = s.wake.pressed ∧ t.wake.longPress = s.wake.longPress ∧
    t.wake.commonWindow = s.wake.commonWindow ∧ t.wake.queue = s.wake.queue ∧ t.wake.mark = s.wake.mark ∧
    t.wake.minDwell = s.wake.minDwell ∧ t.wake.faultHold = s.wake.faultHold ∧ t.wake.demote = s.wake.demote ∧
    t.request = s.request ∧ t.faults = s.faults ∧ t.loader = s.loader ∧ t.port = s.port ∧ t.pending = s.pending := by
  refine ⟨_, rfl, ?_⟩
  dsimp only
  (repeat' split) <;> simp

theorem execCommonWindowExpiry_keeps (s : State) :
    ∃ t, execCommonWindowExpiry s = .next t ∧
    t.time = s.time ∧ t.pins = s.pins ∧ t.link.integrated = s.link.integrated ∧
    t.link.receiveErrors = s.link.receiveErrors ∧ t.agreement = s.agreement ∧ t.presence = s.presence ∧
    t.executor = s.executor ∧ t.channel = s.channel ∧ t.wake.pressed = s.wake.pressed ∧
    t.wake.debounce = s.wake.debounce ∧ t.wake.longPress = s.wake.longPress ∧ t.wake.minDwell = s.wake.minDwell ∧
    t.wake.faultHold = s.wake.faultHold ∧ t.wake.demote = s.wake.demote ∧ t.request.underVote = s.request.underVote ∧
    t.request.deferHold = s.request.deferHold ∧ t.request.lockout = s.request.lockout ∧
    t.request.refresh = s.request.refresh ∧ t.request.pulses = s.request.pulses ∧
    t.request.result = s.request.result ∧ t.faults = s.faults ∧ t.loader = s.loader ∧ t.port = s.port ∧
    t.pending = s.pending := by
  refine ⟨_, rfl, ?_⟩
  split
  · dsimp only
    exact
      ⟨(foldl_keep (fun s => s.time) (fun s a => by simp) _ _).trans (by simp),
       (foldl_keep (fun s => s.pins) (fun s a => by simp) _ _).trans (by simp),
       (foldl_keep (fun s => s.link.integrated) (fun s a => by simp) _ _).trans (by simp),
       (foldl_keep (fun s => s.link.receiveErrors) (fun s a => by simp) _ _).trans (by simp),
       (foldl_keep (fun s => s.agreement) (fun s a => by simp) _ _).trans (by simp),
       (foldl_keep (fun s => s.presence) (fun s a => by simp) _ _).trans (by simp),
       (foldl_keep (fun s => s.executor) (fun s a => by simp) _ _).trans (by simp),
       (foldl_keep (fun s => s.channel) (fun s a => by simp) _ _).trans (by simp),
       (foldl_keep (fun s => s.wake.pressed) (fun s a => by simp) _ _).trans (by simp),
       (foldl_keep (fun s => s.wake.debounce) (fun s a => by simp) _ _).trans (by simp),
       (foldl_keep (fun s => s.wake.longPress) (fun s a => by simp) _ _).trans (by simp),
       (foldl_keep (fun s => s.wake.minDwell) (fun s a => by simp) _ _).trans (by simp),
       (foldl_keep (fun s => s.wake.faultHold) (fun s a => by simp) _ _).trans (by simp),
       (foldl_keep (fun s => s.wake.demote) (fun s a => by simp) _ _).trans (by simp),
       (foldl_keep (fun s => s.request.underVote) (fun s a => by simp) _ _).trans (by simp),
       (foldl_keep (fun s => s.request.deferHold) (fun s a => by simp) _ _).trans (by simp),
       (foldl_keep (fun s => s.request.lockout) (fun s a => by simp) _ _).trans (by simp),
       (foldl_keep (fun s => s.request.refresh) (fun s a => by simp) _ _).trans (by simp),
       (foldl_keep (fun s => s.request.pulses) (fun s a => by simp) _ _).trans (by simp),
       (foldl_keep (fun s => s.request.result) (fun s a => by simp) _ _).trans (by simp),
       (foldl_keep (fun s => s.faults) (fun s a => by simp) _ _).trans (by simp),
       (foldl_keep (fun s => s.loader) (fun s a => by simp) _ _).trans (by simp),
       (foldl_keep (fun s => s.port) (fun s a => by simp) _ _).trans (by simp),
       (foldl_keep (fun s => s.pending) (fun s a => by simp) _ _).trans (by simp)⟩
  · simp

theorem execCountEdge_keeps (i : Fin 8) (s : State) :
    ∃ t, execCountEdge i s = .next t ∧
    t.time = s.time ∧ t.pins = s.pins ∧ t.link.integrated = s.link.integrated ∧
    t.link.receiveErrors = s.link.receiveErrors ∧ t.agreement = s.agreement ∧ t.presence = s.presence ∧
    t.executor = s.executor ∧ t.channel = s.channel ∧ t.wake.pressed = s.wake.pressed ∧
    t.wake.debounce = s.wake.debounce ∧ t.wake.longPress = s.wake.longPress ∧
    t.wake.commonWindow = s.wake.commonWindow ∧ t.wake.queue = s.wake.queue ∧ t.wake.minDwell = s.wake.minDwell ∧
    t.wake.faultHold = s.wake.faultHold ∧ t.wake.demote = s.wake.demote ∧ t.request.underVote = s.request.underVote ∧
    t.request.deferHold = s.request.deferHold ∧ t.request.lockout = s.request.lockout ∧
    t.request.refresh = s.request.refresh ∧ t.request.pulses = s.request.pulses ∧
    t.request.result = s.request.result ∧ t.faults.deferred = s.faults.deferred ∧ t.loader = s.loader ∧
    t.port = s.port ∧ t.pending = s.pending := by
  refine ⟨_, rfl, ?_⟩
  split <;> simp

theorem execDebounceEnd_keeps (s : State) :
    ∃ t, execDebounceEnd s = .next t ∧
    t.time = s.time ∧ t.pins = s.pins ∧ t.link.integrated = s.link.integrated ∧
    t.link.receiveErrors = s.link.receiveErrors ∧ t.agreement = s.agreement ∧ t.presence = s.presence ∧
    t.executor = s.executor ∧ t.channel = s.channel ∧ t.wake.inputs = s.wake.inputs ∧
    t.wake.commonWindow = s.wake.commonWindow ∧ t.wake.minDwell = s.wake.minDwell ∧
    t.wake.faultHold = s.wake.faultHold ∧ t.wake.demote = s.wake.demote ∧ t.request.underVote = s.request.underVote ∧
    t.request.lockout = s.request.lockout ∧ t.request.refresh = s.request.refresh ∧ t.faults = s.faults ∧
    t.loader = s.loader ∧ t.port = s.port ∧ t.pending = s.pending := by
  refine ⟨_, rfl, ?_⟩
  dsimp only
  (repeat' split) <;> simp

theorem execLevelHoldEnd_keeps (i : Fin 8) (s : State) :
    ∃ t, execLevelHoldEnd i s = .next t ∧
    t.time = s.time ∧ t.pins = s.pins ∧ t.link.integrated = s.link.integrated ∧
    t.link.receiveErrors = s.link.receiveErrors ∧ t.agreement = s.agreement ∧ t.presence = s.presence ∧
    t.executor = s.executor ∧ t.channel = s.channel ∧ t.wake.pressed = s.wake.pressed ∧
    t.wake.debounce = s.wake.debounce ∧ t.wake.longPress = s.wake.longPress ∧
    t.wake.commonWindow = s.wake.commonWindow ∧ t.wake.minDwell = s.wake.minDwell ∧
    t.wake.faultHold = s.wake.faultHold ∧ t.wake.demote = s.wake.demote ∧ t.request.underVote = s.request.underVote ∧
    t.request.deferHold = s.request.deferHold ∧ t.request.lockout = s.request.lockout ∧
    t.request.refresh = s.request.refresh ∧ t.request.pulses = s.request.pulses ∧
    t.request.result = s.request.result ∧ t.faults = s.faults ∧ t.loader = s.loader ∧ t.port = s.port ∧
    t.pending = s.pending := by
  refine ⟨_, rfl, ?_⟩
  dsimp only
  (repeat' split) <;> simp

theorem execLevelInputChange_keeps (i : Fin 8) (l : Level) (s : State) :
    ∃ t, execLevelInputChange i l s = .next t ∧
    t.time = s.time ∧ t.pins.powerGood = s.pins.powerGood ∧ t.pins.sense = s.pins.sense ∧ t.link = s.link ∧
    t.agreement = s.agreement ∧ t.presence = s.presence ∧ t.executor = s.executor ∧ t.channel = s.channel ∧
    t.wake.pressed = s.wake.pressed ∧ t.wake.debounce = s.wake.debounce ∧ t.wake.longPress = s.wake.longPress ∧
    t.wake.commonWindow = s.wake.commonWindow ∧ t.wake.queue = s.wake.queue ∧ t.wake.mark = s.wake.mark ∧
    t.wake.minDwell = s.wake.minDwell ∧ t.wake.faultHold = s.wake.faultHold ∧ t.wake.demote = s.wake.demote ∧
    t.request = s.request ∧ t.faults = s.faults ∧ t.loader = s.loader ∧ t.port = s.port ∧ t.pending = s.pending := by
  refine ⟨_, rfl, ?_⟩
  dsimp only
  (repeat' split) <;> simp

theorem execLongPressEnd_keeps (s : State) :
    ∃ t, execLongPressEnd s = .next t ∧
    t.time = s.time ∧ t.pins = s.pins ∧ t.link.integrated = s.link.integrated ∧
    t.link.receiveErrors = s.link.receiveErrors ∧ t.agreement = s.agreement ∧ t.presence = s.presence ∧
    t.executor = s.executor ∧ t.channel = s.channel ∧ t.wake.inputs = s.wake.inputs ∧
    t.wake.pressed = s.wake.pressed ∧ t.wake.debounce = s.wake.debounce ∧ t.wake.commonWindow = s.wake.commonWindow ∧
    t.wake.queue = s.wake.queue ∧ t.wake.minDwell = s.wake.minDwell ∧ t.wake.faultHold = s.wake.faultHold ∧
    t.wake.demote = s.wake.demote ∧ t.request.underVote = s.request.underVote ∧
    t.request.deferHold = s.request.deferHold ∧ t.request.lockout = s.request.lockout ∧
    t.request.refresh = s.request.refresh ∧ t.request.pulses = s.request.pulses ∧
    t.request.result = s.request.result ∧ t.faults = s.faults ∧ t.loader = s.loader ∧ t.port = s.port ∧
    t.pending = s.pending := by
  refine ⟨_, rfl, ?_⟩
  dsimp only
  (repeat' split) <;> simp

theorem execOwnWindowExpiry_keeps (i : Fin 8) (s : State) :
    ∃ t, execOwnWindowExpiry i s = .next t ∧
    t.time = s.time ∧ t.pins = s.pins ∧ t.link.integrated = s.link.integrated ∧
    t.link.receiveErrors = s.link.receiveErrors ∧ t.agreement = s.agreement ∧ t.presence = s.presence ∧
    t.executor = s.executor ∧ t.channel = s.channel ∧ t.wake.pressed = s.wake.pressed ∧
    t.wake.debounce = s.wake.debounce ∧ t.wake.longPress = s.wake.longPress ∧
    t.wake.commonWindow = s.wake.commonWindow ∧ t.wake.minDwell = s.wake.minDwell ∧
    t.wake.faultHold = s.wake.faultHold ∧ t.wake.demote = s.wake.demote ∧ t.request.underVote = s.request.underVote ∧
    t.request.deferHold = s.request.deferHold ∧ t.request.lockout = s.request.lockout ∧
    t.request.refresh = s.request.refresh ∧ t.request.pulses = s.request.pulses ∧
    t.request.result = s.request.result ∧ t.faults = s.faults ∧ t.loader = s.loader ∧ t.port = s.port ∧
    t.pending = s.pending := by
  refine ⟨_, rfl, ?_⟩
  dsimp only
  (repeat' split) <;> simp

theorem execAckFaults_keeps (w : PortWrite) (s : State) :
    ∃ t, execAckFaults w s = .next t ∧
    t.time = s.time ∧ t.pins = s.pins ∧ t.link = s.link ∧ t.agreement = s.agreement ∧ t.presence = s.presence ∧
    t.executor = s.executor ∧ t.channel = s.channel ∧ t.wake = s.wake ∧ t.request = s.request ∧
    t.faults.deferred = s.faults.deferred ∧ t.loader = s.loader ∧ t.port.output = s.port.output ∧
    t.pending = s.pending := by
  refine ⟨_, rfl, ?_⟩
  unfold onPort
  (repeat' split) <;> simp

theorem execFaults_keeps (w : PortWrite) (s : State) :
    ∃ t, execFaults w s = .next t ∧
    t.time = s.time ∧ t.pins = s.pins ∧ t.link = s.link ∧ t.agreement = s.agreement ∧ t.presence = s.presence ∧
    t.executor = s.executor ∧ t.channel = s.channel ∧ t.wake = s.wake ∧ t.request = s.request ∧ t.faults = s.faults ∧
    t.loader = s.loader ∧ t.port.output = s.port.output ∧ t.pending = s.pending := by
  refine ⟨_, rfl, ?_⟩
  unfold onPort
  (repeat' split) <;> simp

theorem execHistory_keeps (argument : Option Byte) (w : PortWrite) (s : State) :
    ∃ t, execHistory argument w s = .next t ∧
    t.time = s.time ∧ t.pins = s.pins ∧ t.link = s.link ∧ t.agreement = s.agreement ∧ t.presence = s.presence ∧
    t.executor = s.executor ∧ t.channel = s.channel ∧ t.wake = s.wake ∧ t.request = s.request ∧ t.faults = s.faults ∧
    t.loader = s.loader ∧ t.port.output = s.port.output ∧ t.pending = s.pending := by
  refine ⟨_, rfl, ?_⟩
  unfold onPort
  (repeat' split) <;> simp

@[simp] theorem readPeer_keeps (i : StationId) (acks : List Bool) (s : State) :
    (readPeer i acks s).time = s.time ∧ (readPeer i acks s).pins = s.pins ∧ (readPeer i acks s).link = s.link ∧
    (readPeer i acks s).agreement = s.agreement ∧ (readPeer i acks s).presence.barring = s.presence.barring ∧
    (readPeer i acks s).presence.muteCause = s.presence.muteCause ∧
    (readPeer i acks s).presence.beat = s.presence.beat ∧
    (readPeer i acks s).presence.beatTimer = s.presence.beatTimer ∧
    (readPeer i acks s).presence.debt = s.presence.debt ∧
    (readPeer i acks s).presence.censusWindow = s.presence.censusWindow ∧
    (readPeer i acks s).presence.barredRetry = s.presence.barredRetry ∧
    (readPeer i acks s).presence.retryHeld = s.presence.retryHeld ∧
    (readPeer i acks s).presence.alignment = s.presence.alignment ∧ (readPeer i acks s).executor = s.executor ∧
    (readPeer i acks s).channel = s.channel ∧ (readPeer i acks s).wake = s.wake ∧
    (readPeer i acks s).request = s.request ∧ (readPeer i acks s).faults = s.faults ∧
    (readPeer i acks s).loader = s.loader ∧ (readPeer i acks s).port.output = s.port.output ∧
    (readPeer i acks s).pending = s.pending := by
  simp [readPeer]

theorem execPeer_keeps (argument : Option Byte) (w : PortWrite) (s : State) :
    ∃ t, execPeer argument w s = .next t ∧
    t.time = s.time ∧ t.pins = s.pins ∧ t.link = s.link ∧ t.agreement = s.agreement ∧
    t.presence.barring = s.presence.barring ∧ t.presence.muteCause = s.presence.muteCause ∧
    t.presence.beat = s.presence.beat ∧ t.presence.beatTimer = s.presence.beatTimer ∧
    t.presence.debt = s.presence.debt ∧ t.presence.censusWindow = s.presence.censusWindow ∧
    t.presence.barredRetry = s.presence.barredRetry ∧ t.presence.retryHeld = s.presence.retryHeld ∧
    t.presence.alignment = s.presence.alignment ∧ t.executor = s.executor ∧ t.channel = s.channel ∧ t.wake = s.wake ∧
    t.request = s.request ∧ t.faults = s.faults ∧ t.loader = s.loader ∧ t.port.output = s.port.output ∧
    t.pending = s.pending := by
  refine ⟨_, rfl, ?_⟩
  unfold onPort
  (repeat' split) <;> simp

theorem execRestart_keeps (w : PortWrite) (s : State) :
    ∃ t, execRestart w s = .next t ∧
    t.pins = s.pins ∧ t.agreement.history = s.agreement.history ∧ t.faults.latched = s.faults.latched ∧
    t.faults.unrecorded = s.faults.unrecorded ∧ t.pending = s.pending := by
  refine ⟨_, rfl, ?_⟩
  unfold onPort
  split <;> simp

@[simp] theorem readSnapshot_keeps (count : Nat) (s : State) :
    (readSnapshot count s).time = s.time ∧ (readSnapshot count s).pins = s.pins ∧
    (readSnapshot count s).link = s.link ∧ (readSnapshot count s).agreement = s.agreement ∧
    (readSnapshot count s).presence = s.presence ∧ (readSnapshot count s).executor = s.executor ∧
    (readSnapshot count s).channel = s.channel ∧ (readSnapshot count s).wake = s.wake ∧
    (readSnapshot count s).request = s.request ∧ (readSnapshot count s).faults = s.faults ∧
    (readSnapshot count s).loader = s.loader ∧ (readSnapshot count s).pending = s.pending := by
  simp [readSnapshot]

theorem execSnapshotRead_keeps (r : PortRead) (s : State) :
    ∃ t, execSnapshotRead r s = .next t ∧
    t.time = s.time ∧ t.pins = s.pins ∧ t.link = s.link ∧ t.agreement = s.agreement ∧ t.presence = s.presence ∧
    t.executor = s.executor ∧ t.channel = s.channel ∧ t.wake = s.wake ∧ t.request = s.request ∧ t.faults = s.faults ∧
    t.loader = s.loader ∧ t.pending = s.pending := by
  refine ⟨_, rfl, ?_⟩
  unfold onPort
  (repeat' split) <;> simp

theorem execStack_keeps (w : PortWrite) (s : State) :
    ∃ t, execStack w s = .next t ∧
    t.time = s.time ∧ t.pins = s.pins ∧ t.link = s.link ∧ t.agreement = s.agreement ∧ t.presence = s.presence ∧
    t.executor = s.executor ∧ t.channel = s.channel ∧ t.wake = s.wake ∧ t.request = s.request ∧ t.faults = s.faults ∧
    t.loader = s.loader ∧ t.port.output = s.port.output ∧ t.pending = s.pending := by
  refine ⟨_, rfl, ?_⟩
  unfold onPort
  (repeat' split) <;> simp

theorem execStatus_keeps (w : PortWrite) (s : State) :
    ∃ t, execStatus w s = .next t ∧
    t.time = s.time ∧ t.pins = s.pins ∧ t.link = s.link ∧ t.agreement.phase = s.agreement.phase ∧
    t.agreement.believed = s.agreement.believed ∧ t.agreement.restImage = s.agreement.restImage ∧
    t.agreement.number = s.agreement.number ∧ t.agreement.record = s.agreement.record ∧
    t.agreement.lateProposals = s.agreement.lateProposals ∧ t.agreement.streaks = s.agreement.streaks ∧
    t.agreement.voteWindow = s.agreement.voteWindow ∧ t.agreement.voteGuard = s.agreement.voteGuard ∧
    t.presence = s.presence ∧ t.executor = s.executor ∧ t.channel = s.channel ∧ t.wake = s.wake ∧
    t.request = s.request ∧ t.faults = s.faults ∧ t.loader = s.loader ∧ t.port.output = s.port.output ∧
    t.pending = s.pending := by
  refine ⟨_, rfl, ?_⟩
  unfold onPort
  (repeat' split) <;> simp

theorem execTxn_keeps (w : PortWrite) (s : State) :
    ∃ t, execTxn w s = .next t ∧
    t.time = s.time ∧ t.pins = s.pins ∧ t.link = s.link ∧ t.agreement = s.agreement ∧ t.presence = s.presence ∧
    t.executor = s.executor ∧ t.channel = s.channel ∧ t.wake = s.wake ∧ t.request = s.request ∧ t.faults = s.faults ∧
    t.loader = s.loader ∧ t.port.output = s.port.output ∧ t.pending = s.pending := by
  refine ⟨_, rfl, ?_⟩
  unfold onPort
  (repeat' split) <;> simp

theorem execUnknownCommand_keeps (w : CodeWrite) (s : State) :
    ∃ t, execUnknownCommand w s = .next t ∧
    t.time = s.time ∧ t.pins = s.pins ∧ t.link = s.link ∧ t.agreement = s.agreement ∧ t.presence = s.presence ∧
    t.executor = s.executor ∧ t.channel = s.channel ∧ t.wake = s.wake ∧ t.request = s.request ∧ t.faults = s.faults ∧
    t.loader = s.loader ∧ t.port.selected = s.port.selected ∧ t.port.output = s.port.output ∧ t.pending = s.pending := by
  refine ⟨_, rfl, ?_⟩
  unfold onPort
  (repeat' split) <;> simp

theorem execWakeq_keeps (w : PortWrite) (s : State) :
    ∃ t, execWakeq w s = .next t ∧
    t.time = s.time ∧ t.pins = s.pins ∧ t.link = s.link ∧ t.agreement = s.agreement ∧ t.presence = s.presence ∧
    t.executor = s.executor ∧ t.channel = s.channel ∧ t.wake = s.wake ∧ t.request = s.request ∧ t.faults = s.faults ∧
    t.loader = s.loader ∧ t.port.output = s.port.output ∧ t.pending = s.pending := by
  refine ⟨_, rfl, ?_⟩
  unfold onPort
  (repeat' split) <;> simp

end Sys2Proof.Machine
end

