-- ==== Sys2Proof/Laws/Opening.lean ====
section
/-! SUPPORT. What an opening does to the transmit slots and their owners, said once: the purges of R10 and R138, and what the
latch and the announcing mark do at them. -/

namespace Sys2Proof.Machine

open Sys2Proof

/-- A report on a purged frame clears the mark for a WAKE, makes the latch wait for a PROPOSE of the latched request, and
touches neither otherwise (R22, R124). -/
theorem reportPurged_owners (r : Ready) (s : State) :
    (reportPurged r s).wake = (match r.frame.body with
      | .wake _ _ => { s.wake with mark := none }
      | _ => s.wake) ∧
    (reportPurged r s).request.latch = (match r.frame.body with
      | .propose kind forced _ => if forced || kind == .demote || r.forReplaced then s.request.latch
        else s.request.latch.map fun l => { l with queued := false }
      | _ => s.request.latch) := by
  unfold reportPurged latchWaits clearMark
  cases r.frame.body <;> try exact ⟨rfl, rfl⟩
  dsimp only
  split
  · exact ⟨rfl, rfl⟩
  · cases h : s.request.latch <;> simp [h]

/-- What a slot holds after every frame of its kind was purged (R138): no composed frame queued, and the mark at one on the
line. -/
theorem purgeAll_slot (k : FrameKind) (s : State) :
    (∀ r, ((purgeKind k (fun _ => true) s).slot k).queued ≠ some (.ready r)) ∧
    (((purgeKind k (fun _ => true) s).slot k).sending.isSome = true →
      ((purgeKind k (fun _ => true) s).slot k).purgeMark = true) ∧
    (∀ r, (s.slot k).queued = some (.ready r) → ((purgeKind k (fun _ => true) s).slot k).queued = none) := by
  rw [purgeKind_slot_same]
  dsimp only
  refine ⟨fun r => ?_, fun h => ?_, fun r h => ?_⟩
  · rcases hq : (s.slot k).queued with _ | (r' | n) <;> simp [queuedMatches]
  · obtain ⟨r, hr⟩ := Option.isSome_iff_exists.1 h
    simp [hr, sendingMatches]
  · simp [h, queuedMatches]

/-- The latch as it waits again (R22). -/
def waits (l : Option Latch) : Option Latch := l.map fun l => { l with queued := false }

theorem waits_waits (l : Option Latch) : waits (waits l) = waits l := by
  cases l <;> rfl

/-- What the owners do as every frame of a kind is purged: the mark is cleared for a WAKE, the latch waits for a PROPOSE of the
latched request, and each stands otherwise (R22, R124, R138). -/
theorem purgeAll_owners (k : FrameKind) (s : State) :
    (∀ r w x, (s.slot k).queued = some (.ready r) → r.frame.body = .wake w x →
      (purgeKind k (fun _ => true) s).wake.mark = none) ∧
    ((∀ r w x, (s.slot k).queued = some (.ready r) → r.frame.body ≠ .wake w x) →
      (purgeKind k (fun _ => true) s).wake.mark = s.wake.mark) ∧
    (∀ r kd img, (s.slot k).queued = some (.ready r) → r.frame.body = .propose kd false img → kd ≠ .demote →
      r.forReplaced = false → (purgeKind k (fun _ => true) s).request.latch = waits s.request.latch) ∧
    ((purgeKind k (fun _ => true) s).request.latch = s.request.latch ∨
      (purgeKind k (fun _ => true) s).request.latch = waits s.request.latch) := by
  rcases hq : (s.slot k).queued with _ | (r | n)
  · simp [purgeKind, hq, queuedMatches, State.withSlot]
  · obtain ⟨h1, h2⟩ := reportPurged_owners r (s.withSlot k
      { queued := none, sending := (s.slot k).sending, rejections := 0,
        purgeMark := (s.slot k).purgeMark || sendingMatches (fun _ => true) (s.slot k).sending })
    simp only [purgeKind, hq, queuedMatches, if_true, reportQueued, h1, h2]
    refine ⟨?_, ?_, ?_, ?_⟩
    · rintro _ w x ⟨rfl⟩ hb
      rw [hb]
    · intro hn
      split
      · exact absurd (by assumption) (hn r _ _ rfl)
      · rfl
    · rintro _ kd img ⟨rfl⟩ hb hk hf
      rw [hb]
      simp [hk, hf, waits]
    · split
      · split
        · exact .inl rfl
        · exact .inr rfl
      · exact .inl rfl
  · simp [purgeKind, hq, queuedMatches, State.withSlot]

/-- The purge of FAULT(PEER_LOST) tells nobody and leaves no such frame queued (R10, R138). -/
theorem purgePeerLost (s : State) :
    (purgeKind .fault isPeerLostFault s).wake = s.wake ∧ (purgeKind .fault isPeerLostFault s).request = s.request ∧
    ∀ r tgt, ((purgeKind .fault isPeerLostFault s).slot .fault).queued = some (.ready r) →
      r.frame.body ≠ .fault .peerLost tgt := by
  refine ⟨?_, ?_, fun r tgt h hb => ?_⟩
  rotate_left 2
  · rw [purgeKind_slot_same] at h
    dsimp only at h
    split at h
    · cases h
    · rename_i hn
      rw [h] at hn
      simp [queuedMatches, isPeerLostFault, hb] at hn
  all_goals
    rcases hq : (s.slot .fault).queued with _ | (r | n)
    · simp [purgeKind, hq, queuedMatches, State.withSlot]
    · cases hb : r.frame.body
      case fault code tgt =>
        cases code <;> simp [purgeKind, hq, queuedMatches, State.withSlot, isPeerLostFault, hb, reportQueued, reportPurged]
      all_goals simp [purgeKind, hq, queuedMatches, State.withSlot, isPeerLostFault, hb]
    · simp [purgeKind, hq, queuedMatches, State.withSlot]

/-- A forced PROPOSE queued again while a long press applies (R26). -/
theorem requeueForced_slots (took : Bool) (s : State) :
    (∀ k, k ≠ .propose → (requeueForced took s).slot k = s.slot k) ∧
    (requeueForced took s).wake = s.wake ∧ (requeueForced took s).request = s.request ∧
    (took = true → s.longPressApplies = true → (s.slot .propose).queued = none →
      (requeueForced took s).hasQueued .propose s.nextNumber (.propose .enterOff true false)) ∧
    ((requeueForced took s).slot .propose).sending = (s.slot .propose).sending ∧
    ((requeueForced took s).slot .propose).purgeMark = (s.slot .propose).purgeMark ∧
    (took = false ∨ s.longPressApplies = false → requeueForced took s = s) := by
  unfold requeueForced fillForcedPropose
  by_cases h : (took && s.longPressApplies && (s.slot .propose).queued.isNone) = true
  · rw [if_pos h]
    simp only [Bool.and_eq_true, Option.isNone_iff_eq_none] at h
    obtain ⟨⟨h1, h2⟩, h3⟩ := h
    have ht : s.takesFill .propose = true := takesFill_of_phase (by
      rcases (by simpa [State.longPressApplies, State.votingOrStaging] using h2 :
        s.agreement.phase = .voting ∨ s.agreement.phase = .staging) with q | q <;> simp [q]) _
    have hs := fillSlot_slot_same (k := .propose) ht
      (.ready { frame := s.ownFrame s.nextNumber (.propose .enterOff true false), forReplaced := false })
    refine ⟨fun k hk => fillFrame_slot_ne s (by exact hk) _, ?_, ?_, fun _ _ _ => fillFrame_hasQueued (by exact ht) _, ?_, ?_,
      ?_⟩
    · simp [fillFrame, fillSlot, Body.kind, ht, h3, reportQueued]
    · simp [fillFrame, fillSlot, Body.kind, ht, h3, reportQueued]
    · simp only [fillFrame, Body.kind, hs]
    · simp only [fillFrame, Body.kind, hs]
    · simp [h1, h2]
  · rw [if_neg h]
    refine ⟨fun _ _ => rfl, rfl, rfl, fun a b c => ?_, rfl, rfl, fun _ => rfl⟩
    simp [a, b, c] at h

/-- The slots and owners after the purges of an opening (R10). -/
theorem purgeAtOpening_slots (forced : Bool) (s : State) :
    let t := purgeAtOpening forced s
    (∀ k, k = .wake ∨ k = .propose → (∀ r, (t.slot k).queued ≠ some (.ready r)) ∧
      ((t.slot k).sending.isSome = true → (t.slot k).purgeMark = true)) ∧
    (∀ r, (s.slot .propose).queued = some (.ready r) → (t.slot .propose).queued = none) ∧
    (forced = true → ∀ r tgt, (t.slot .fault).queued = some (.ready r) → r.frame.body ≠ .fault .peerLost tgt) ∧
    OwnersToldOfPurge s t := by
  intro t
  have ht : t = if forced then
      purgeKind .fault isPeerLostFault (purgeKind .wake (fun _ => true) (purgeKind .propose (fun _ => true) s))
      else purgeKind .wake (fun _ => true) (purgeKind .propose (fun _ => true) s) := rfl
  clear_value t
  obtain ⟨a1, a2, a3⟩ := purgeAll_slot .propose s
  obtain ⟨-, a5, a6, a7⟩ := purgeAll_owners .propose s
  have aw : (purgeKind .propose (fun _ => true) s).slot .wake = s.slot .wake := purgeKind_slot_ne s (by decide) _
  have aq : (purgeKind .propose (fun _ => true) s).wake.queue = s.wake.queue := by simp
  generalize purgeKind .propose (fun _ => true) s = a at *
  obtain ⟨b1, b2, b3⟩ := purgeAll_slot .wake a
  obtain ⟨b4, b5, -, b7⟩ := purgeAll_owners .wake a
  have bp : (purgeKind .wake (fun _ => true) a).slot .propose = a.slot .propose := purgeKind_slot_ne a (by decide) _
  have bq : (purgeKind .wake (fun _ => true) a).wake.queue = a.wake.queue := by simp
  generalize purgeKind .wake (fun _ => true) a = b at *
  obtain ⟨c1, c2, c3⟩ := purgePeerLost b
  have tw : t.slot .wake = b.slot .wake := by
    rw [ht]
    split
    · exact purgeKind_slot_ne b (by decide) _
    · rfl
  have tp : t.slot .propose = b.slot .propose := by
    rw [ht]
    split
    · exact purgeKind_slot_ne b (by decide) _
    · rfl
  have tk : t.wake = b.wake ∧ t.request = b.request := by
    rw [ht]
    split
    · exact ⟨c1, c2⟩
    · exact ⟨rfl, rfl⟩
  refine ⟨?_, ?_, ?_, ?_, ?_, ?_, ?_⟩
  · rintro k (rfl | rfl)
    · rw [tw]
      exact ⟨b1, b2⟩
    · rw [tp, bp]
      exact ⟨a1, a2⟩
  · rw [tp, bp]
    exact a3
  · intro hf
    rw [ht, if_pos hf]
    exact c3
  · intro r l k img h hb hk hr hl
    have hw : a.request.latch = waits (some l) := by rw [a6 r k img h hb hk hr, hl]
    rw [tk.2]
    rcases b7 with q | q
    · rw [q, hw]
      rfl
    · rw [q, hw, waits_waits]
      rfl
  · rw [tk.1, bq, aq]
  · intro r w x h hb
    rw [tk.1]
    exact b4 r w x (by rw [aw]; exact h) hb
  · intro hs hn
    rw [tk.1, b5 fun r w x h => absurd (by rw [← aw]; exact h) (hn r), a5]
    intro r w x h hb
    have := (hs .propose).1 r h
    rw [hb] at this
    cases this

/-- The purges of an opening, in the state it leaves (R10, R26, R138). -/
theorem openTransaction_purges (o : Opening) (p : Phase) (s : State) :
    OpeningPurges s (openTransaction o p s) ∧ OwnersToldOfPurge s (openTransaction o p s) := by
  obtain ⟨h1, h2, h3, h4⟩ := purgeAtOpening_slots o.forced
    (s.withAgreement { s.agreement with
      number := some s.nextNumber
      record := some (newRecord o s.nextNumber s.participantsNow s.system.required s.time) })
  have ho : openTransaction o p s = requeueForced s.forcedQueued (recomputeBeat (refreshQualification (stopDemote
      ((purgeAtOpening o.forced (s.withAgreement { s.agreement with
        number := some s.nextNumber
        record := some (newRecord o s.nextNumber s.participantsNow s.system.required s.time) })).withPhase p)))) := rfl
  have hag := (purgeAtOpening_keeps o.forced (s.withAgreement { s.agreement with
      number := some s.nextNumber
      record := some (newRecord o s.nextNumber s.participantsNow s.system.required s.time) })).2.2.2.2.1
  generalize purgeAtOpening o.forced _ = u at *
  have hl : (recomputeBeat (refreshQualification (stopDemote (u.withPhase p)))).link = u.link := by simp
  have hm : (recomputeBeat (refreshQualification (stopDemote (u.withPhase p)))).wake.mark = u.wake.mark := by simp
  have hq : (recomputeBeat (refreshQualification (stopDemote (u.withPhase p)))).wake.queue = u.wake.queue := by simp
  have hr : (recomputeBeat (refreshQualification (stopDemote (u.withPhase p)))).request = u.request := by simp
  have ha : (recomputeBeat (refreshQualification (stopDemote (u.withPhase p)))).agreement =
      { u.agreement with phase := p } := by simp [State.withPhase]
  generalize recomputeBeat (refreshQualification (stopDemote (u.withPhase p))) = v at *
  obtain ⟨r1, r2, r3, r4, r5, r6, r7⟩ := requeueForced_slots s.forcedQueued v
  have hta : (requeueForced s.forcedQueued v).agreement = v.agreement := by simp
  have hap : v.longPressApplies = true ↔ p = .voting ∨ p = .staging := by
    simp [State.longPressApplies, State.votingOrStaging, ha]
  have hph : (requeueForced s.forcedQueued v).agreement.phase = p := by rw [hta, ha]
  rw [ho]
  have hsl := slot_eq_of_link hl
  refine ⟨⟨?_, ?_, ?_, ?_, ?_⟩, ?_, ?_, ?_, ?_⟩
  · rw [r1 _ (by decide), hsl]
    exact (h1 .wake (.inl rfl)).1
  · intro hf hp
    rw [hph] at hp
    obtain ⟨r, hr'⟩ : ∃ r, (s.slot .propose).queued = some (.ready r) := by
      unfold State.forcedQueued queuedMatches at hf
      split at hf
      · exact ⟨_, by assumption⟩
      · cases hf
    have := r4 hf (hap.2 hp) (by rw [hsl]; exact h2 r hr')
    unfold State.nextNumber at this ⊢
    rwa [hta]
  · intro hc
    rw [hph] at hc
    rw [r7 (hc.imp_right fun q => by rw [← Bool.not_eq_true, hap]; tauto), hsl]
    exact (h1 .propose (.inr rfl)).1
  · rintro k (rfl | rfl)
    · rw [r1 _ (by decide), hsl]
      exact (h1 .wake (.inl rfl)).2
    · rw [r5, r6, hsl]
      exact (h1 .propose (.inr rfl)).2
  · intro hf
    rw [r1 _ (by decide), hsl]
    refine h3 ?_
    unfold State.forced at hf
    rw [hta, ha, hag] at hf
    exact hf
  · rw [r3, hr]
    exact h4.1
  · rw [r2, hq]
    exact h4.2.1
  · rw [r2, hm]
    exact h4.2.2.1
  · rw [r2, hm]
    exact h4.2.2.2

end Sys2Proof.Machine
end

