-- ==== Sys2Proof/Laws/Port.lean ====
section
/-! SUPPORT. What the byte and field readers of Safety.lean give on the pieces the responses of Port.lean are built from. -/

namespace Sys2Proof.Machine

open Sys2Proof

theorem byteOf_toNat {n : Nat} (h : n < 256) : (byteOf n).toNat = n := by
  simp [byteOf, Nat.mod_eq_of_lt h]

theorem byteOf_toNat_mod (n : Nat) : (byteOf n).toNat = n % 256 := by simp [byteOf]

/-- One byte read is the byte itself. -/
theorem bytesAt_one (bs : List Byte) (p : Nat) : bytesAt bs p 1 = (bs.getD p 0).toNat := by
  unfold bytesAt
  rcases h : bs.drop p with _ | ⟨b, rest⟩
  · rw [List.getD_eq_default _ _ (List.drop_eq_nil_iff.mp h)]; simp
  · have : bs[p]? = some b := by simpa [h] using (List.getElem?_drop (xs := bs) (i := p) (j := 0)).symm
    simp [List.getD_eq_getElem?_getD, this]

/-- A field read from the first part of a response. -/
theorem bytesAt_append_left (xs ys : List Byte) {p c : Nat} (h : p + c ≤ xs.length) :
    bytesAt (xs ++ ys) p c = bytesAt xs p c := by
  unfold bytesAt
  rw [List.drop_append_of_le_length (by omega), List.take_append_of_le_length (by simp; omega)]

/-- A field read from the second part of a response. -/
theorem bytesAt_append_right (xs ys : List Byte) (p c : Nat) :
    bytesAt (xs ++ ys) (xs.length + p) c = bytesAt ys p c := by
  rw [bytesAt, List.drop_length_add_append, bytesAt]

/-- A field read past the first byte. -/
theorem bytesAt_cons (b : Byte) (bs : List Byte) (p c : Nat) : bytesAt (b :: bs) (p + 1) c = bytesAt bs p c := rfl

/-- The length of a list of pieces of one length. -/
theorem length_flatMap_of_length {α : Type} (f : α → List Byte) {k : Nat} (hf : ∀ x, (f x).length = k) (xs : List α) :
    (xs.flatMap f).length = k * xs.length := by
  induction xs with
  | nil => simp
  | cons x xs ih => simp [hf, ih, Nat.mul_succ, Nat.add_comm]

/-- A field read from the `n`th of pieces of one length. -/
theorem bytesAt_flatMap {α : Type} (f : α → List Byte) {k : Nat} (hf : ∀ x, (f x).length = k) {xs : List α} {n : Nat}
    {x : α} (hx : xs[n]? = some x) {p c : Nat} (hp : p + c ≤ k) :
    bytesAt (xs.flatMap f) (k * n + p) c = bytesAt (f x) p c := by
  induction xs generalizing n with
  | nil => simp at hx
  | cons y ys ih =>
    rw [List.flatMap_cons]
    cases n with
    | zero =>
      obtain rfl : y = x := by simpa using hx
      rw [Nat.mul_zero, Nat.zero_add]
      exact bytesAt_append_left _ _ (by rw [hf]; exact hp)
    | succ n =>
      rw [show k * (n + 1) + p = (f y).length + (k * n + p) by rw [hf, Nat.mul_succ]; omega, bytesAt_append_right]
      exact ih (by simpa using hx)

/-- A timestamp reads back (R165). -/
theorem bytesAt_bytes32 (t : Time) : bytesAt (bytes32 t) 0 4 = t.toNat := by
  have := t.isLt
  simp [bytesAt, bytes32, byteOf_toNat_mod]
  omega

/-- A two-byte value reads back (R162). -/
theorem bytesAt_bytes16 {n : Nat} (h : n < 65536) : bytesAt (bytes16 n) 0 2 = n := by
  simp [bytesAt, bytes16, byteOf_toNat_mod]
  omega

theorem length_bytes32 (t : Time) : (bytes32 t).length = 4 := rfl

theorem length_bytes16 (n : Nat) : (bytes16 n).length = 2 := rfl

/-- What an optional field takes of a response (R165). -/
theorem length_optionBytes {α : Type} (f : α → List Byte) {k : Nat} (hf : ∀ x, (f x).length = k) (o : Option α) :
    (optionBytes f o).length = optionSize k o.isSome := by
  cases o with
  | none => rfl
  | some x => simp [optionBytes, optionSize, hf, Nat.add_comm]

/-- An optional field reads back (R165). -/
theorem optionAt_optionBytes {α : Type} (f : α → List Byte) {k : Nat} (v : α → Nat) (hf : ∀ x, bytesAt (f x) 0 k = v x)
    (o : Option α) : optionAt (optionBytes f o) 0 k (o.map v) := by
  cases o with
  | none => rfl
  | some x => exact ⟨rfl, hf x⟩

/-- The readers look at a response from a place on. -/
theorem optionAt_append_right (xs ys : List Byte) (p c : Nat) (o : Option Nat) :
    optionAt (xs ++ ys) (xs.length + p) c o ↔ optionAt ys p c o := by
  cases o <;> simp [optionAt, bytesAt_append_right, Nat.add_assoc]

end Sys2Proof.Machine
end

