-- ==== Sys2Proof/Laws/Settle.lean ====
section
/-! SUPPORT. What the settle signal does, said once: `settleSignal_settled`, from one lemma for each block that acts on it
(R17). -/

namespace Sys2Proof.Machine

open Sys2Proof

/-- A relation that every round of a fold keeps, the fold keeps. -/
theorem foldl_rel {α : Type} {R : State → State → Prop} {f : State → α → State} (refl : ∀ s, R s s)
    (trans : ∀ {s t u}, R s t → R t u → R s u) (step : ∀ s a, R s (f s a)) (l : List α) (s : State) : R s (l.foldl f s) := by
  induction l generalizing s with
  | nil => exact refl s
  | cons a l ih => exact trans (step s a) (ih _)

/-! ### The wake unit -/

/-- A condition of severity NOTICE is latched and nothing more (R98). -/
theorem raiseFault_notice (code : FaultCode) (target : Target) (s : State) :
    raiseFault code target .notice s = latchFault code target .notice s := by
  simp [raiseFault, disposeFault]

/-- The settle evaluation clears the mark, touches no slot and no request, and latches WAKE_FAILED alone (R121). -/
theorem settleEvaluation_owners (st : SystemState) (s : State) :
    (settleEvaluation st s).wake.mark = none ∧ (settleEvaluation st s).link = s.link ∧
    (settleEvaluation st s).request = s.request ∧ FaultsGrow s (settleEvaluation st s) ∧
    ∀ e ∈ (settleEvaluation st s).faults.latched, e.code = .peerLost → e ∈ s.faults.latched := by
  unfold settleEvaluation
  split
  · exact ⟨rfl, rfl, rfl, .of_eq rfl rfl, fun _ h _ => h⟩
  · dsimp only
    refine ⟨?_, ?_, ?_, ?_, ?_⟩
    · exact foldl_keep (fun s => s.wake.mark) (fun s a => by simp [raiseFault_notice]) _ _
    · exact foldl_keep (fun s => s.link) (fun s a => by simp [raiseFault_notice]) _ _
    · exact foldl_keep (fun s => s.request) (fun s a => by simp [raiseFault_notice]) _ _
    · refine FaultsGrow.trans ?_ (foldl_rel (R := FaultsGrow) ?_ ?_ ?_ _ _)
      · exact .of_eq rfl rfl
      · exact fun _ => .of_eq rfl rfl
      · exact fun h k => h.trans k
      · exact fun _ _ => (raiseFault_latched ..).grow
    · refine foldl_rel (R := fun s t => ∀ e ∈ t.faults.latched, e.code = .peerLost → e ∈ s.faults.latched)
        (fun _ _ h _ => h) (fun h k e he hc => h e (k e he hc) hc) (fun s a e he hc => ?_) _ _
      rcases (raiseFault_latched ..).mem he with h | h
      · exact h
      · exact absurd (h.1.symm.trans hc) (by decide)

/-- The gates of R122, as the model computes them. -/
theorem mayAnnounce_iff (s : State) : s.mayAnnounce = true ↔ s.gatesOpen ∧ s.wake.mark = none := by
  have hq : s.quorumPresent = true ↔
      ∀ i, setHas s.system.quorum i = true → i = s.me ∨ (s.peerAt i).presence = .present := by
    simp only [State.quorumPresent, State.isPresent, allStations, List.all_eq_true, List.mem_finRange, true_implies,
      Bool.or_eq_true, Bool.not_eq_true', beq_iff_eq]
    refine forall_congr' fun i => ?_
    cases setHas s.system.quorum i <;> simp
  have ha : asleep s.agreement.believed = true ↔
      (s.agreement.believed = some .rest ∨ s.agreement.believed = some .stow ∨ s.agreement.believed = some .off) := by
    rcases s.agreement.believed with _ | (_ | _ | _ | _) <;> simp [asleep]
  simp only [State.mayAnnounce, State.gatesOpen, Bool.and_eq_true, hq, ha, beq_iff_eq, Option.isNone_iff_eq_none,
    Bool.not_eq_true', Bool.and_eq_false_iff, beq_eq_false_iff_ne, ne_eq, Option.isSome_eq_false_iff]
  constructor
  · rintro ⟨⟨⟨⟨⟨h1, h2⟩, h3⟩, h4⟩, h5⟩, h6⟩
    exact ⟨⟨h1, h2, fun h => h4.resolve_left (not_not_intro h), h5, h6⟩, h3⟩
  · rintro ⟨⟨h1, h2, h4, h5, h6⟩, h3⟩
    exact ⟨⟨⟨⟨⟨h1, h2⟩, h3⟩, Decidable.or_iff_not_imp_left.2 fun h => h4 (not_not.1 h)⟩, h5⟩, h6⟩

/-- The oldest PENDING entry, as the model finds it. -/
theorem oldestPending_iff (q : List WakeEntry) (e : WakeEntry) : oldestPending q = some e ↔ IsOldestPending q e := by
  simp only [oldestPending, IsOldestPending, List.find?_eq_some_iff_append, beq_iff_eq, Bool.not_eq_true',
    beq_eq_false_iff_ne, ne_eq]
  exact ⟨fun ⟨h, a, b, q, r⟩ => ⟨a, b, q, h, r⟩, fun ⟨a, b, q, h, r⟩ => ⟨h, a, b, q, r⟩⟩

theorem gatesOpen_congr {s t : State} (hp : t.agreement.phase = s.agreement.phase)
    (hb : t.agreement.believed = s.agreement.believed) (hd : t.wake.minDwell = s.wake.minDwell)
    (hf : t.wake.faultHold = s.wake.faultHold) (hl : t.loader = s.loader) (hs : t.presence.peers = s.presence.peers) :
    t.gatesOpen ↔ s.gatesOpen := by
  simp [State.gatesOpen, hp, hb, hd, hf, State.system, State.me, State.peerAt, hl, hs]

/-- The announcement test (R122). -/
theorem testAnnounce_announces {s : State} (hm : s.wake.mark = none) :
    (∀ e, IsOldestPending s.wake.queue e → s.gatesOpen → (testAnnounce s).announces e.input) ∧
    (¬ s.gatesOpen → testAnnounce s = s) := by
  refine ⟨fun e he hg => ?_, fun hg => ?_⟩
  · have ht : s.takesFill FrameKind.wake = true := takesFill_of_phase (by simp [hg.1]) _
    unfold testAnnounce
    rw [if_pos ((mayAnnounce_iff s).2 ⟨hg, hm⟩), (oldestPending_iff _ _).2 he]
    have := fillFrame_hasQueued (body := .wake s.wakeTarget e.input) ht s.nextNumber
    refine ⟨rfl, ?_⟩
    simpa [State.hasQueued, State.ownReady, State.ownFrame, State.slot, State.nextNumber, State.wakeTarget, State.withWake,
      State.me, Body.kind] using this
  · unfold testAnnounce
    rw [if_neg fun h => hg ((mayAnnounce_iff s).1 h).1]

/-- In SETTLED qualification runs exactly in REST, STOW and OFF (R113). -/
theorem qualifies_settled {s : State} (hp : s.agreement.phase = .settled) : s.qualifies = asleep s.agreement.believed := by
  have ho : s.txnOpen = false := by simp [State.txnOpen, hp]
  simp [State.qualifies, State.openKind, hp, ho, Phase.loaded]

/-- The wake unit between the settle evaluation and the announcement test (R17). -/
def settleTimers (closed : Option (Kind × TxnOutcome)) (s : State) : State :=
  settleDemote closed (settleDwell closed (refreshQualification (restartCommon (if closed.isNone then startWindows s else s))))

theorem settleWake_eq (closed : Option (Kind × TxnOutcome)) (s : State) :
    settleWake closed s =
      testAnnounce (settleTimers closed (settleEvaluation (s.agreement.believed.getD .off) s)) := rfl

/-- The timers and inputs write the wake unit alone, and neither its queue, its mark nor the fault hold. -/
theorem settleTimers_keeps (closed : Option (Kind × TxnOutcome)) (s : State) :
    (settleTimers closed s).time = s.time ∧ (settleTimers closed s).pins = s.pins ∧ (settleTimers closed s).link = s.link ∧
    (settleTimers closed s).agreement = s.agreement ∧ (settleTimers closed s).presence = s.presence ∧
    (settleTimers closed s).wake.debounce = s.wake.debounce ∧ (settleTimers closed s).wake.longPress = s.wake.longPress ∧
    (settleTimers closed s).wake.queue = s.wake.queue ∧ (settleTimers closed s).wake.mark = s.wake.mark ∧
    (settleTimers closed s).wake.faultHold = s.wake.faultHold ∧ (settleTimers closed s).request = s.request ∧
    (settleTimers closed s).faults = s.faults ∧ (settleTimers closed s).loader = s.loader := by
  unfold settleTimers
  cases closed <;> simp

/-- The outcomes of DEMOTE after which the demote timer takes the defer hold's length (R27). -/
theorem demoteLength_eq (closed : Option (Kind × TxnOutcome)) (s : State) :
    s.demoteLength closed = if closed = some (.demote, .declined) ∨ closed = some (.demote, .deferred) ∨
      closed = some (.demote, .noQuorum) then s.system.deferHold else s.station.demoteMinutes * 60000 := by
  rcases closed with _ | ⟨k, o⟩
  · simp [State.demoteLength]
  · cases k <;> cases o <;> simp [State.demoteLength, demoteRefused]

/-- A wake input brought in line with qualification in SETTLED (R113). -/
theorem refreshQualification_wakeInput {s : State} (hp : s.agreement.phase = .settled) (i : Fin 8) :
    (refreshQualification s).wakeInput i = if asleep s.agreement.believed then
      startedInput (s.wakeDef i) (s.wakeActive i) (s.wakeInput i) else stoppedInput (s.wakeInput i) := by
  simp only [refreshQualification, State.wakeInput, State.withWake, tabGet_tabMap, qualifies_settled hp]

/-- A wake input at the settle signal, its own window first (R113, R116). -/
theorem inputSettled_eq (census : Bool) (b : Option SystemState) (d : WakeInputDef) (active : Bool) (w : WakeInput) :
    inputSettled census b d active w =
      let w := if census then censusWindowInput (d.kind == .count && d.window == .own) d w else w
      if asleep b then startedInput d active w else stoppedInput w := by
  have h : { w with ownWindow :=
      if census = true ∧ d.kind = .count ∧ d.window = .own then some d.ownLength else w.ownWindow } =
      if census then censusWindowInput (d.kind == .count && d.window == .own) d w else w := by
    cases census
    · simp
    · by_cases hc : d.kind = .count ∧ d.window = .own <;> simp [censusWindowInput, hc]
  dsimp only
  rw [← h]
  simp only [inputSettled, startedInput, stoppedInput, Bool.and_eq_true, beq_iff_eq, and_assoc]

/-- The timers and inputs at the settle signal (R27, R113, R116, R117, R123). -/
theorem settleTimers_settled (closed : Option (Kind × TxnOutcome)) {s : State} (hp : s.agreement.phase = .settled) :
    let t := settleTimers closed s
    t.wake.commonWindow = some s.station.commonWindow ∧
    t.wake.minDwell = (if closed = some (.enterRest, .completed) ∧ s.system.minDwell ≠ 0 then some s.system.minDwell
      else s.wake.minDwell) ∧
    t.wake.demote = (if s.agreement.believed = some .rest ∧ s.agreement.restImage = true ∧ s.station.demoteMinutes ≠ 0 then
        some (if closed = some (.demote, .declined) ∨ closed = some (.demote, .deferred) ∨
          closed = some (.demote, .noQuorum) then s.system.deferHold else s.station.demoteMinutes * 60000)
      else s.wake.demote) ∧
    (∀ i, t.wakeInput i =
      inputSettled closed.isNone s.agreement.believed (s.wakeDef i) (s.wakeActive i) (s.wakeInput i)) ∧
    t.wake.pressed = (if closed = none then (match s.buttonInput with | some b => s.wakeActive b | none => false)
      else s.wake.pressed) := by
  intro t
  have hd : ∀ u : State, (settleDemote closed u).wake.demote =
      if u.agreement.believed = some .rest ∧ u.agreement.restImage = true ∧ u.station.demoteMinutes ≠ 0 then
        some (u.demoteLength closed) else u.wake.demote := fun u => by
    unfold settleDemote
    by_cases hc : u.agreement.believed = some .rest ∧ u.agreement.restImage = true ∧ u.station.demoteMinutes ≠ 0
    · rw [if_pos hc, if_pos (by simp [hc])]
      rfl
    · rw [if_neg hc, if_neg (by simpa [and_assoc] using hc)]
  have hw : ∀ u : State, (settleDwell closed u).wake.minDwell =
      if closed = some (.enterRest, .completed) ∧ u.system.minDwell ≠ 0 then some u.system.minDwell
      else u.wake.minDwell := fun u => by
    unfold settleDwell startDwell
    by_cases hc : closed = some (.enterRest, .completed) <;> by_cases hz : u.system.minDwell = 0 <;> simp [hc, hz]
  have hq := qualifies_settled hp
  refine ⟨?_, ?_, ?_, fun i => ?_, ?_⟩
  · cases closed <;> simp [t, settleTimers, restartCommon, State.withWake, State.station]
  · show (settleTimers closed s).wake.minDwell = _
    rw [settleTimers, (settleDemote_keeps ..).2.2.2.2.2.2.2.2.2.2.2.2.2.2.1, hw]
    cases closed <;> simp [State.system]
  · show (settleTimers closed s).wake.demote = _
    rw [settleTimers, hd, demoteLength_eq]
    cases closed <;> simp [State.system, State.station]
  · show (settleTimers closed s).wakeInput i = _
    have hi : ∀ u : State, (settleDemote closed (settleDwell closed u)).wakeInput i = u.wakeInput i := fun u => by
      simp [State.wakeInput]
    rw [inputSettled_eq, settleTimers, hi, refreshQualification_wakeInput (by cases closed <;> simp [hp])]
    cases closed
    · show _ = if asleep s.agreement.believed then
        startedInput (s.wakeDef i) (s.wakeActive i) (censusWindowInput (s.isOwnInput i) (s.wakeDef i) (s.wakeInput i))
        else stoppedInput (censusWindowInput (s.isOwnInput i) (s.wakeDef i) (s.wakeInput i))
      rw [← show (startWindows s).wakeInput i = censusWindowInput (s.isOwnInput i) (s.wakeDef i) (s.wakeInput i) by
        simp [startWindows, State.wakeInput, State.withWake]]
      rfl
    · rfl
  · cases closed
    · show (settleDemote none (settleDwell none _)).wake.pressed = _
      simp only [settleDemote_keeps, settleDwell_keeps, refreshQualification_keeps, restartCommon_keeps]
      rfl
    · simp [t, settleTimers]

/-- The wake unit at the settle signal (R17). -/
theorem settleWake_settled (closed : Option (Kind × TxnOutcome)) {s : State} (hp : s.agreement.phase = .settled) :
    WakeSettled closed s (settleWake closed s) ∧ FaultsGrow s (settleWake closed s) ∧
    (∀ e ∈ (settleWake closed s).faults.latched, e.code = .peerLost → e ∈ s.faults.latched) ∧
    (s.agreement.believed = some .run →
      (settleWake closed s).link = s.link ∧ (settleWake closed s).request = s.request) := by
  rw [settleWake_eq]
  obtain ⟨hm, hl, hr, hf, he⟩ := settleEvaluation_owners (s.agreement.believed.getD .off) s
  have hk := settleEvaluation_keeps (s.agreement.believed.getD .off) s
  generalize settleEvaluation (s.agreement.believed.getD .off) s = u at *
  obtain ⟨-, hpins, -, -, hag, hpr, -, -, hin, hpd, hdb, hlp, -, hmd, -, hdm, -, -, -, -, -, -, -, hld, -, -⟩ := hk
  obtain ⟨c1, c2, c3, c4, c5⟩ := settleTimers_settled closed (s := u) (by rw [hag]; exact hp)
  have hv := settleTimers_keeps closed u
  generalize settleTimers closed u = v at *
  obtain ⟨-, -, vl, va, vp, vdb, vlp, vq, vm, vf, vr, vfa, vld⟩ := hv
  have hst : u.station = s.station := by simp [State.station, hld]
  have hsy : u.system = s.system := by simp [State.system, hld]
  have hwd : ∀ i, u.wakeDef i = s.wakeDef i := fun i => by simp [State.wakeDef, hst]
  have hwa : ∀ i, u.wakeActive i = s.wakeActive i := fun i => by simp [State.wakeActive, hwd, hpins]
  have hwi : ∀ i, u.wakeInput i = s.wakeInput i := fun i => by simp [State.wakeInput, hin]
  have hbi : u.buttonInput = s.buttonInput := by simp [State.buttonInput, hwd]
  simp only [hst, hsy, hwd, hwa, hwi, hbi, hag, hmd, hdm, hpd] at c1 c2 c3 c4 c5
  obtain ⟨a1, a2⟩ := testAnnounce_announces (vm.trans hm)
  have hg : (testAnnounce v).gatesOpen ↔ v.gatesOpen := gatesOpen_congr (by simp) (by simp) (by simp) (by simp) (by simp) (by simp)
  have hfa : (testAnnounce v).faults = u.faults := by simp [vfa]
  refine ⟨⟨?_, ?_, ?_, ?_, ?_, ?_, ?_, ?_, ?_⟩, ?_, ?_, ?_⟩
  · simp [c1]
  · simp [c2]
  · simp [c3, va, hag]
  · intro i
    rw [show (testAnnounce v).wakeInput i = v.wakeInput i by simp [State.wakeInput], c4 i]
    simp [va, hag]
  · exact (show (testAnnounce v).wake.pressed = v.wake.pressed by simp).trans c5
  · simp [vdb, hdb]
  · simp [vlp, hlp]
  · intro e ho ho2
    exact a1 e (by simpa using ho) (hg.1 ho2)
  · intro hn
    rw [a2 (mt hg.2 hn), vm, hm]
  · exact hf.trans (.of_eq (by rw [hfa]) (by rw [hfa]))
  · rw [hfa]
    exact he
  · intro hb
    rw [a2 fun h => by simp [State.gatesOpen, va, hag, hb] at h, vl, vr, hl, hr]
    exact ⟨rfl, rfl⟩

/-! ### The request unit -/

/-- The conditions of R21 but for the phase and the believed state, as the model computes them. -/
theorem mayPropose_iff {s : State} (hp : s.agreement.phase = .settled) (hb : s.agreement.believed = some .run) :
    s.mayPropose = true ↔ s.request.lockout = none ∧ s.request.refresh = 0 ∧ s.request.deferHold = none ∧
      s.forcedQueued = false ∧ s.forcedSending = false := by
  simp [State.mayPropose, hp, hb, and_assoc]

/-- The test of R21 in SETTLED in RUN. -/
theorem testPropose_proposes {s : State} (hp : s.agreement.phase = .settled) :
    (s.mayPropose = true → ∀ l, s.request.latch = some l → l.queued = false →
      (testPropose s).request.latch = some { l with queued := true } ∧
      (testPropose s).hasQueued .propose (testPropose s).nextNumber
        (.propose l.request.kind false (l.request.imageBacked && l.request.kind == .enterRest))) ∧
    (s.mayPropose = false → testPropose s = s) ∧ (testPropose s).slot .wake = s.slot .wake := by
  refine ⟨fun hm l hl hq => ?_, fun hm => ?_, ?_⟩
  · unfold testPropose
    rw [hl]
    dsimp only
    rw [if_pos (by simp [hm, hq])]
    refine ⟨rfl, ?_⟩
    have ht : s.takesFill FrameKind.propose = true := takesFill_of_phase (by simp [hp]) _
    have := fillFrame_hasQueued (body := .propose l.request.kind false l.request.flag) ht s.nextNumber
    simpa [State.hasQueued, State.ownReady, State.ownFrame, State.slot, State.nextNumber, State.withRequest, State.me,
      Body.kind, Request.flag] using this
  · unfold testPropose
    split
    · rw [if_neg (by simp [hm])]
    · rfl
  · unfold testPropose
    split
    · split
      · exact fillFrame_slot_ne s (j := .wake) (body := .propose _ _ _) (by simp [Body.kind]) _
      · rfl
    · rfl

/-- A mark that is clear stays so through a fill. -/
theorem testPropose_mark {s : State} (hm : s.wake.mark = none) : (testPropose s).wake.mark = none := by
  have hr : ∀ r u, u.wake.mark = none → (reportPurged r u).wake.mark = none := fun r u hu => by
    unfold reportPurged latchWaits
    (repeat' split) <;> simp [hu, clearMark]
  have hq : ∀ q u, u.wake.mark = none → (reportQueued q u).wake.mark = none := fun q u hu => by
    unfold reportQueued
    split
    · exact hr _ _ hu
    · exact hu
  unfold testPropose
  split
  · split
    · show (fillFrame ..).wake.mark = none
      unfold fillFrame fillSlot
      split
      · exact hq _ _ hm
      · exact hq _ _ hm
    · exact hm
  · exact hm

/-- The lockout and the refreshed-view set start after a wake kind COMPLETED (R29, R30), the defer hold after an entry kind
DEFERRED (R28). -/
theorem settleHolds (closed : Option (Kind × TxnOutcome)) (s : State) :
    let t := settleDeferHold closed (settleAwake closed s)
    (∀ k, closed = some (k, .completed) → k.isWake = true →
      t.request.lockout = (if s.system.lockout = 0 then s.request.lockout else some s.system.lockout) ∧
      t.request.refresh = s.participants) ∧
    ((∀ k, closed = some (k, .completed) → k.isWake = false) → t.request.lockout = s.request.lockout) ∧
    (∀ k, closed = some (k, .deferred) → k.isEntry = true → t.request.deferHold = some s.system.deferHold) ∧
    ((∀ k, closed = some (k, .deferred) → k.isEntry = false) → t.request.deferHold = s.request.deferHold) := by
  rcases closed with _ | ⟨k, o⟩
  · simp [settleDeferHold, settleAwake]
  · cases o <;> cases hk : k.isWake <;> cases he : k.isEntry <;>
      simp [settleDeferHold, settleAwake, startLockout, hk, he] <;>
      by_cases hz : s.system.lockout = 0 <;> simp [hz, show ∀ r, (s.withRequest r).participants = s.participants from fun _ => rfl]

/-- The request unit at the settle signal (R17). -/
theorem settleRequest_settled (closed : Option (Kind × TxnOutcome)) {s : State} (hp : s.agreement.phase = .settled)
    (hw : ∀ k, closed = some (k, .completed) → k.isWake = true → s.agreement.believed = some .run)
    (hm : s.agreement.believed = some .run → s.wake.mark = none) :
    RequestSettled closed s (settleRequest closed s) ∧ (settleRequest closed s).wake.mark = s.wake.mark ∧
    (settleRequest closed s).slot .wake = s.slot .wake := by
  by_cases hb : s.agreement.believed = some .run
  · obtain ⟨h1, h2, h3, h4⟩ := settleHolds closed s
    have hk : (settleDeferHold closed (settleAwake closed s)).link = s.link ∧
        (settleDeferHold closed (settleAwake closed s)).agreement = s.agreement ∧
        (settleDeferHold closed (settleAwake closed s)).wake = s.wake ∧
        (settleDeferHold closed (settleAwake closed s)).request.latch = s.request.latch := by simp
    have he : settleRequest closed s = testPropose (settleDeferHold closed (settleAwake closed s)) := by
      simp [settleRequest, hb]
    rw [he]
    generalize settleDeferHold closed (settleAwake closed s) = u at *
    obtain ⟨kl, ka, kw, kr⟩ := hk
    obtain ⟨p1, p2, p3⟩ := testPropose_proposes (s := u) (by rw [ka]; exact hp)
    have hmp := mayPropose_iff (s := u) (by rw [ka]; exact hp) (by rw [ka]; exact hb)
    have hfq : u.forcedQueued = s.forcedQueued := by simp [State.forcedQueued, slot_eq_of_link kl]
    have hfs : u.forcedSending = s.forcedSending := by simp [State.forcedSending, slot_eq_of_link kl]
    rw [hfq, hfs] at hmp
    refine ⟨⟨?_, ?_, ?_, fun _ => ⟨?_, ?_, ?_, ?_⟩⟩, ?_, ?_⟩
    · simpa using h1
    · simpa using h2
    · simp [ka, hb]
    · simpa using h3
    · simpa using h4
    · intro hc
      rw [← kr]
      exact p1 (hmp.2 (by simpa using hc))
    · intro hc
      rw [p2, slot_eq_of_link kl]
      rw [← Bool.not_eq_true, hmp]
      rintro ⟨q1, q2, q3, q4, q5⟩
      simp [q1, q2, q3, q4, q5] at hc
    · rw [testPropose_mark (by rw [kw]; exact hm hb), hm hb]
    · rw [p3, slot_eq_of_link kl]
  · have he : settleRequest closed s = clearLatch (s.withRequest { s.request with deferHold := none }) := by
      simp [settleRequest, hb]
    rw [he]
    refine ⟨⟨?_, ?_, ?_, ?_⟩, ?_, ?_⟩
    · exact fun k hk hk2 => absurd (hw k hk hk2) hb
    · simp
    · refine fun _ => ⟨?_, by simp⟩
      unfold clearLatch
      split
      · unfold answerRequest
        split <;> rfl
      · assumption
    · intro h
      simp [hb] at h
    · simp
    · exact slot_eq_of_link (by simp) _

/-! ### The presence unit -/

/-- T_beat recomputed in SETTLED (R144). -/
theorem recomputeBeat_settled {s : State} (hp : s.agreement.phase = .settled) :
    (recomputeBeat s).presence.beat =
      some (if s.agreement.believed = some .run then s.system.beatRun else s.system.beatLow) ∧
    (recomputeBeat s).presence.beatTimer = (if (recomputeBeat s).presence.beat = s.presence.beat then s.presence.beatTimer
      else (recomputeBeat s).presence.beat) := by
  have hi : s.beatInterval = if s.agreement.believed = some .run then s.system.beatRun else s.system.beatLow := by
    simp [State.beatInterval, State.txnOpen, hp]
  rw [← hi]
  unfold recomputeBeat setBeat
  by_cases h : s.presence.beat = some s.beatInterval
  · simp only [if_pos h]
    exact ⟨h, by simp⟩
  · have hn : ¬ some s.beatInterval = s.presence.beat := fun q => h q.symm
    simp [h, hn, State.withPresence, hp]

/-- A SEVERE condition raised where FAULT is requested: latched, one FAULT stands queued, and nothing of another owner is
touched (R98, R101). -/
theorem raisePeerLost_owners (i : StationId) {s : State} (hp : s.agreement.phase = .settled) :
    (raisePeerLost i s).wake = s.wake ∧ (raisePeerLost i s).request = s.request ∧
    (∀ j, j ≠ .fault → (raisePeerLost i s).slot j = s.slot j) ∧
    ((raisePeerLost i s).slot .fault).queued.isSome = true := by
  have he : raisePeerLost i s = requestFault .peerLost (eightTarget i) (latchFault .peerLost (eightTarget i) .severe s) := by
    simp [raisePeerLost, raiseFault, disposeFault, hp, Phase.requestsFault, Phase.takesPart]
  rw [he]
  obtain ⟨h1, h2, h3⟩ := requestFault_owners .peerLost (eightTarget i) (latchFault .peerLost (eightTarget i) .severe s)
  refine ⟨by rw [h1]; simp, by rw [h2]; simp, fun j hj => by rw [h3 j hj]; exact slot_eq_of_link (by simp) j, ?_⟩
  exact requestFault_queued (by simp [hp]) _ _

/-- A member of the quorum set that is SILENT (R143). -/
def State.missed (s : State) (i : StationId) : Prop :=
  i ≠ s.me ∧ setHas s.system.quorum i = true ∧ (s.peerAt i).presence = .silent

/-- PEER_LOST of the missed stations of a list (R143). -/
theorem settlePeers_fold (l : List StationId) {s : State} (hp : s.agreement.phase = .settled) :
    let t := l.foldl (fun s i =>
      if i != s.me && setHas s.system.quorum i && (s.peerAt i).presence == .silent then raisePeerLost i s else s) s
    (t.wake = s.wake ∧ t.request = s.request ∧ (∀ j, j ≠ .fault → t.slot j = s.slot j) ∧ FaultsGrow s t ∧
      ((s.slot .fault).queued.isSome = true → (t.slot .fault).queued.isSome = true)) ∧
    (∀ i ∈ l, s.missed i →
      LatchedAmong s t .peerLost (eightTarget i) .severe ∧ (t.slot .fault).queued.isSome = true) ∧
    ∀ e ∈ t.faults.latched, e ∈ s.faults.latched ∨ ∃ i ∈ l, s.missed i ∧ e.target = eightTarget i := by
  induction l generalizing s with
  | nil => exact ⟨⟨rfl, rfl, fun _ _ => rfl, .refl s, id⟩, fun _ h => by simp at h, fun _ h => .inl h⟩
  | cons a l ih =>
    rw [List.foldl_cons]
    by_cases ha : s.missed a
    · obtain ⟨r1, r2, r3, r4⟩ := raisePeerLost_owners a hp
      have hl := raiseFault_latched .peerLost (eightTarget a) .severe s
      have hm : ∀ i, (raisePeerLost a s).missed i ↔ s.missed i := fun i => by
        simp [State.missed, State.me, State.system, State.peerAt]
      obtain ⟨⟨i1, i2, i3, i4, i5⟩, i6, i7⟩ := ih (s := raisePeerLost a s) (by simp [hp])
      rw [if_pos (by obtain ⟨x, y, z⟩ := ha; simp [x, y, z])]
      refine ⟨⟨i1.trans r1, i2.trans r2, fun j hj => (i3 j hj).trans (r3 j hj), hl.grow.trans i4, fun _ => i5 r4⟩,
        fun i hi hmi => ?_, fun e he => ?_⟩
      · rcases List.mem_cons.1 hi with rfl | hi
        · exact ⟨hl.among (.refl s) i4, i5 r4⟩
        · exact ⟨(i6 i hi ((hm i).2 hmi)).1.of_grow hl.grow, i5 r4⟩
      · rcases i7 e he with h | ⟨i, hi, h⟩
        · rcases hl.mem h with h | h
          · exact .inl h
          · exact .inr ⟨a, List.mem_cons_self, ha, h.2⟩
        · exact .inr ⟨i, List.mem_cons_of_mem _ hi, (hm i).1 h.1, h.2⟩
    · obtain ⟨i0, i6, i7⟩ := ih hp
      rw [if_neg (by simpa [State.missed, and_assoc] using ha)]
      refine ⟨i0, fun i hi hmi => ?_, fun e he => ?_⟩
      · rcases List.mem_cons.1 hi with rfl | hi
        · exact absurd hmi ha
        · exact i6 i hi hmi
      · exact (i7 e he).imp_right fun ⟨i, hi, h⟩ => ⟨i, List.mem_cons_of_mem _ hi, h⟩

/-- PEER_LOST at the settle signal (R143). -/
theorem settlePeers_settled {s : State} (hp : s.agreement.phase = .settled) :
    ((settlePeers s).wake = s.wake ∧ (settlePeers s).request = s.request ∧
      (∀ j, j ≠ .fault → (settlePeers s).slot j = s.slot j) ∧ FaultsGrow s (settlePeers s)) ∧
    (∀ i, s.missed i → s.agreement.believed = some .run ∨ s.agreement.believed = some .rest →
      LatchedAmong s (settlePeers s) .peerLost (eightTarget i) .severe ∧
      ((settlePeers s).slot .fault).queued.isSome = true) ∧
    ∀ e ∈ (settlePeers s).faults.latched, e ∈ s.faults.latched ∨
      ((s.agreement.believed = some .run ∨ s.agreement.believed = some .rest) ∧
        ∃ i, s.missed i ∧ e.target = eightTarget i) := by
  have hm : s.missesPeers = true ↔ s.agreement.believed = some .run ∨ s.agreement.believed = some .rest := by
    simp [State.missesPeers, State.txnOpen, hp]
  unfold settlePeers
  by_cases h : s.missesPeers = true
  · rw [if_pos h]
    obtain ⟨⟨a, b, c, d, -⟩, e, f⟩ := settlePeers_fold allStations hp
    exact ⟨⟨a, b, c, d⟩, fun i hi _ => e i (List.mem_finRange i) hi,
      fun x hx => (f x hx).imp_right fun ⟨i, _, hi⟩ => ⟨hm.1 h, i, hi⟩⟩
  · rw [if_neg h]
    exact ⟨⟨rfl, rfl, fun _ _ => rfl, .refl s⟩, fun i _ hb => absurd (hm.2 hb) h, fun _ hx => .inl hx⟩

/-! ### The settle signal -/

theorem WakeSettled.congr {closed : Option (Kind × TxnOutcome)} {s t u : State} (h : WakeSettled closed s t)
    (hw : u.wake = t.wake) (ha : u.agreement = t.agreement) (hp : u.presence.peers = t.presence.peers)
    (hl : u.loader = t.loader) (hs : u.slot .wake = t.slot .wake) : WakeSettled closed s u := by
  have hg : u.gatesOpen ↔ t.gatesOpen :=
    gatesOpen_congr (by rw [ha]) (by rw [ha]) (by rw [hw]) (by rw [hw]) hl hp
  simpa only [WakeSettled, State.announces, State.hasQueued, State.ownReady, State.ownFrame, State.nextNumber, State.me,
    State.wakeInput, hw, ha, hl, hs, hg] using h

theorem RequestSettled.congr {closed : Option (Kind × TxnOutcome)} {s t u : State} (h : RequestSettled closed s t)
    (hr : u.request = t.request) (ha : u.agreement = t.agreement) (hl : u.loader = t.loader)
    (hs : u.slot .propose = t.slot .propose) : RequestSettled closed s u := by
  simpa only [RequestSettled, State.hasQueued, State.ownReady, State.ownFrame, State.nextNumber, State.me, hr, ha, hl, hs]
    using h

/-- What the request unit does in RUN depends on the request and the slots, elsewhere on the holds alone. -/
theorem RequestSettled.of_before {closed : Option (Kind × TxnOutcome)} {s s' t : State} (h : RequestSettled closed s' t)
    (ha : s'.agreement = s.agreement) (hl : s'.loader = s.loader) (ho : s'.request.lockout = s.request.lockout)
    (hr : t.agreement.believed = some .run → s'.link = s.link ∧ s'.request = s.request) : RequestSettled closed s t := by
  have hsy : s'.system = s.system := by simp [State.system, hl]
  have hpa : s'.participants = s.participants := by simp [State.participants, ha]
  obtain ⟨h1, h2, h3, h4⟩ := h
  rw [hsy, hpa, ho] at h1
  rw [ho] at h2
  refine ⟨h1, h2, h3, fun hb => ?_⟩
  obtain ⟨q1, q2⟩ := hr hb
  simpa only [hsy, q2, State.forcedQueued, State.forcedSending, slot_eq_of_link q1] using h4 hb

theorem WakeUnit.eq_of {a b : WakeUnit} (h1 : a.inputs = b.inputs) (h2 : a.pressed = b.pressed)
    (h3 : a.debounce = b.debounce) (h4 : a.longPress = b.longPress) (h5 : a.commonWindow = b.commonWindow)
    (h6 : a.queue = b.queue) (h7 : a.mark = b.mark) (h8 : a.minDwell = b.minDwell) (h9 : a.faultHold = b.faultHold)
    (h10 : a.demote = b.demote) : a = b := by
  cases a
  cases b
  simp_all

/-- The settle signal in SETTLED, but for the evaluation of the wake queue and the channel block (R17). A wake kind that
COMPLETED leaves the station in RUN (R14). -/
theorem settleSignal_settled (closed : Option (Kind × TxnOutcome)) {s : State} (hp : s.agreement.phase = .settled)
    (hw : ∀ k, closed = some (k, .completed) → k.isWake = true → s.agreement.believed = some .run) :
    Settled closed s (settleSignal closed s) := by
  obtain ⟨wA, gA, fA, rA⟩ := settleWake_settled closed hp
  have agA : (settleWake closed s).agreement = s.agreement := by simp
  have prA : (settleWake closed s).presence = s.presence := by simp
  have ldA : (settleWake closed s).loader = s.loader := by simp
  have loA : (settleWake closed s).request.lockout = s.request.lockout := by simp
  unfold settleSignal
  generalize settleWake closed s = a at *
  have hmA : a.agreement.believed = some .run → a.wake.mark = none := fun hb =>
    wA.2.2.2.2.2.2.2.2 fun hg => by simp [State.gatesOpen, hb] at hg
  obtain ⟨rB, mB, sB⟩ := settleRequest_settled closed (s := a) (by rw [agA]; exact hp) (by rw [agA]; exact hw) hmA
  have wkB : (settleRequest closed a).wake = a.wake :=
    WakeUnit.eq_of (by simp) (by simp) (by simp) (by simp) (by simp) (by simp) mB (by simp) (by simp) (by simp)
  have agB : (settleRequest closed a).agreement = a.agreement := by simp
  have prB : (settleRequest closed a).presence = a.presence := by simp
  have ldB : (settleRequest closed a).loader = a.loader := by simp
  have faB : (settleRequest closed a).faults = a.faults := by simp
  generalize settleRequest closed a = b at *
  have hpB : b.agreement.phase = .settled := by rw [agB, agA]; exact hp
  obtain ⟨bC, tC⟩ := recomputeBeat_settled hpB
  have kC : (recomputeBeat b).link = b.link ∧ (recomputeBeat b).agreement = b.agreement ∧
      (recomputeBeat b).presence.peers = b.presence.peers ∧ (recomputeBeat b).wake = b.wake ∧
      (recomputeBeat b).request = b.request ∧ (recomputeBeat b).faults = b.faults ∧
      (recomputeBeat b).loader = b.loader := by simp
  generalize recomputeBeat b = c at *
  obtain ⟨liC, agC, peC, wkC, rqC, faC, ldC⟩ := kC
  obtain ⟨⟨wkD, rqD, slD, -⟩, hD, eD⟩ := settlePeers_settled (s := c) (by rw [agC]; exact hpB)
  have kD : (settlePeers c).agreement = c.agreement ∧ (settlePeers c).presence = c.presence ∧
      (settlePeers c).loader = c.loader := by simp
  generalize settlePeers c = d at *
  obtain ⟨agD, prD, ldD⟩ := kD
  have kE : (settleChannel closed.isNone d).link = d.link ∧ (settleChannel closed.isNone d).agreement = d.agreement ∧
      (settleChannel closed.isNone d).presence = d.presence ∧ (settleChannel closed.isNone d).wake = d.wake ∧
      (settleChannel closed.isNone d).request = d.request ∧ (settleChannel closed.isNone d).faults = d.faults ∧
      (settleChannel closed.isNone d).loader = d.loader := by simp
  generalize settleChannel closed.isNone d = t at *
  obtain ⟨liE, agE, prE, wkE, rqE, faE, ldE⟩ := kE
  have ag : t.agreement = s.agreement := by rw [agE, agD, agC, agB, agA]
  have ld : t.loader = s.loader := by rw [ldE, ldD, ldC, ldB, ldA]
  have pe : t.presence.peers = s.presence.peers := by rw [prE, prD, peC, prB, prA]
  have hme : c.me = s.me := by simp [State.me, ldC, ldB, ldA]
  have hsy : c.system = s.system := by simp [State.system, ldC, ldB, ldA]
  have hpc : ∀ i, c.peerAt i = t.peerAt i := fun i => by simp [State.peerAt, prE, prD]
  have hmi : ∀ i, c.missed i ↔ i ≠ s.me ∧ setHas s.system.quorum i = true ∧ (t.peerAt i).presence = .silent := fun i => by
    rw [State.missed, hme, hsy, hpc]
  have hbe : c.agreement.believed = t.agreement.believed := by rw [agE, agD]
  have sl : ∀ j, j ≠ .fault → t.slot j = b.slot j := fun j hj => by
    rw [slot_eq_of_link liE, slD j hj, slot_eq_of_link liC]
  refine ⟨by rw [ag]; exact hp, ?_, ?_, ?_⟩
  · refine wA.congr (by rw [wkE, wkD, wkC, wkB]) (by rw [ag, agA]) (by rw [pe, prA]) (by rw [ld, ldA]) ?_
    rw [sl _ (by decide), sB]
  · refine ((rB.of_before agA ldA loA fun hb => rA ?_).congr (by rw [rqE, rqD, rqC]) (by rw [ag, agB, agA])
      (by rw [ld, ldB, ldA]) (sl _ (by decide)))
    rw [← hb, agB, agA]
  · refine ⟨?_, ?_, fun i h1 h2 h3 h4 => ?_, fun e he hc => ?_⟩
    · rw [prE, prD, bC, ag, agB, agA]
      simp [State.system, ldB, ldA]
    · rw [prE, prD, tC, prB, prA]
    · obtain ⟨q1, q2⟩ := hD i ((hmi i).2 ⟨h1, h2, h3⟩) (by rw [hbe]; exact h4)
      have gB : FaultsGrow s c := gA.trans (.of_eq (by rw [faC, faB]) (by rw [faC, faB]))
      refine ⟨?_, by rw [slot_eq_of_link liE]; exact q2⟩
      have := q1.of_grow gB
      simpa only [LatchedAmong, State.holdsFault, faE] using this
    · rw [faE] at he
      rcases eD e he with h | ⟨h, i, hi, hq⟩
      · rw [faC, faB] at h
        exact .inl (fA e h hc)
      · obtain ⟨h1, h2, h3⟩ := (hmi i).1 hi
        exact .inr ⟨by rw [← hbe]; exact h, i, h1, h2, h3, hq⟩

/-! ### Closes -/

/-- What a command may have done before the settle signal without a change of what `Settled` says of it: every part that it
reads stands, but that the latch may wait already, that the mark and the queue are evaluated anew, and that conditions other
than PEER_LOST may have been latched. -/
structure SettlesAlike (s s' : State) : Prop where
  pins : s'.pins = s.pins
  loader : s'.loader = s.loader
  participants : s'.participants = s.participants
  beat : s'.presence.beat = s.presence.beat
  beatTimer : s'.presence.beatTimer = s.presence.beatTimer
  inputs : s'.wake.inputs = s.wake.inputs
  pressed : s'.wake.pressed = s.wake.pressed
  debounce : s'.wake.debounce = s.wake.debounce
  longPress : s'.wake.longPress = s.wake.longPress
  minDwell : s'.wake.minDwell = s.wake.minDwell
  demote : s'.wake.demote = s.wake.demote
  latch : ∀ l, s.request.latch = some l → l.queued = false → s'.request.latch = some l
  deferHold : s'.request.deferHold = s.request.deferHold
  lockout : s'.request.lockout = s.request.lockout
  propose : s'.slot .propose = s.slot .propose
  faults : FaultsGrow s s'
  peerLost : ∀ e ∈ s'.faults.latched, e.code = .peerLost → e ∈ s.faults.latched

theorem Settled.of_alike {closed : Option (Kind × TxnOutcome)} {s s' t : State} (h : Settled closed s' t)
    (a : SettlesAlike s s') : Settled closed s t := by
  have hst : s'.station = s.station := by simp [State.station, a.loader]
  have hsy : s'.system = s.system := by simp [State.system, a.loader]
  have hme : s'.me = s.me := by simp [State.me, a.loader]
  have hwd : ∀ i, s'.wakeDef i = s.wakeDef i := fun i => by simp [State.wakeDef, hst]
  have hwa : ∀ i, s'.wakeActive i = s.wakeActive i := fun i => by simp [State.wakeActive, hwd, a.pins]
  have hwi : ∀ i, s'.wakeInput i = s.wakeInput i := fun i => by simp [State.wakeInput, a.inputs]
  have hbi : s'.buttonInput = s.buttonInput := by simp [State.buttonInput, hwd]
  obtain ⟨hp, hw, hr, hq⟩ := h
  refine ⟨hp, ?_, ?_, ?_⟩
  · simpa only [WakeSettled, hst, hsy, hwd, hwa, hwi, hbi, a.minDwell, a.demote, a.pressed, a.debounce, a.longPress] using hw
  · obtain ⟨h1, h2, h3, h4⟩ := hr
    rw [hsy, a.participants, a.lockout] at h1
    rw [a.lockout] at h2
    refine ⟨h1, h2, h3, fun hb => ?_⟩
    obtain ⟨q1, q2, q3, q4⟩ := h4 hb
    rw [hsy] at q1
    rw [a.deferHold] at q2
    simp only [State.forcedQueued, State.forcedSending, a.propose] at q3 q4
    exact ⟨q1, q2, fun hc l hl hn => q3 hc l (a.latch l hl hn) hn, q4⟩
  · obtain ⟨h1, h2, h3, h4⟩ := hq
    rw [hsy] at h1
    rw [a.beat, a.beatTimer] at h2
    refine ⟨h1, h2, fun i x y z w => ?_, fun e he hc => ?_⟩
    · obtain ⟨q1, q2⟩ := h3 i (by rwa [hme]) (by rwa [hsy]) z w
      exact ⟨q1.of_grow a.faults, q2⟩
    · rcases h4 e he hc with q | q
      · exact .inl (a.peerLost e q hc)
      · rw [hme, hsy] at q
        exact .inr q

/-- Disposing of a condition touches no owner and no slot but that of FAULT (R98, R101). -/
theorem disposeFault_owners (code : FaultCode) (target : Target) (sev : Severity) (send : Bool) (s : State) :
    (disposeFault code target sev send s).wake = s.wake ∧ (disposeFault code target sev send s).request = s.request ∧
    ∀ j, j ≠ .fault → (disposeFault code target sev send s).slot j = s.slot j := by
  obtain ⟨h1, h2, h3⟩ := requestFault_owners code target (latchFault code target sev s)
  have hw : (latchFault code target sev s).wake = s.wake := by simp
  have hr : (latchFault code target sev s).request = s.request := by simp
  have hl : (latchFault code target sev s).link = s.link := by simp
  unfold disposeFault
  dsimp only
  split
  · exact ⟨h1.trans hw, h2.trans hr, fun j hj => (h3 j hj).trans (slot_eq_of_link hl j)⟩
  · exact ⟨hw, hr, fun j _ => slot_eq_of_link hl j⟩

/-- Judging the deferred list latches RAIL_LOSS and RAIL_UNSTABLE alone and tells no owner (R103). -/
theorem judgeDeferred_owners (send : Bool) (s : State) :
    (judgeDeferred send s).wake = s.wake ∧ (judgeDeferred send s).request = s.request ∧
    (∀ j, j ≠ .fault → (judgeDeferred send s).slot j = s.slot j) ∧ FaultsGrow s (judgeDeferred send s) ∧
    ∀ e ∈ (judgeDeferred send s).faults.latched, e.code = .peerLost → e ∈ s.faults.latched := by
  refine ⟨?_, ?_, ?_, ?_, ?_⟩
  · exact foldl_keep (fun s => s.wake) (fun s a => (disposeFault_owners ..).1) s.faults.deferred s
  · exact foldl_keep (fun s => s.request) (fun s a => (disposeFault_owners ..).2.1) s.faults.deferred s
  · exact fun j hj => foldl_keep (fun s => s.slot j) (fun s a => (disposeFault_owners ..).2.2 j hj) s.faults.deferred s
  · exact (foldl_rel (R := FaultsGrow) .refl (fun h k => h.trans k) (fun s a => (disposeFault_latched ..).grow)
      s.faults.deferred s).trans (.of_eq rfl rfl)
  · refine foldl_rel (R := fun s t => ∀ e ∈ t.faults.latched, e.code = .peerLost → e ∈ s.faults.latched)
      (fun _ _ h _ => h) (fun h k e he hc => h e (k e he hc) hc) (fun s a e he hc => ?_) s.faults.deferred s
    rcases (disposeFault_latched ..).mem he with h | h
    · exact h
    · rw [hc] at h
      cases hl : a.loss <;> simp [lossCode, hl] at h

/-- A purge that names other frames than PROPOSE leaves the PROPOSE slot, and the latch but that it may wait (R138). -/
theorem purgeKind_latch {k : FrameKind} (hk : k ≠ .propose) (test : Frame → Bool) (s : State) :
    (purgeKind k test s).slot .propose = s.slot .propose ∧
    ∀ l, s.request.latch = some l → l.queued = false → (purgeKind k test s).request.latch = some l := by
  refine ⟨purgeKind_slot_ne s (Ne.symm hk) test, fun l hl hq => ?_⟩
  have hw : ∀ u : State, u.request.latch = some l → ∀ q, (reportQueued q u).request.latch = some l := fun u hu q => by
    unfold reportQueued
    split
    · rename_i r
      unfold reportPurged latchWaits clearMark
      rw [hu]
      (repeat' split) <;> try exact hu
      rename_i l' heq
      obtain rfl : l' = l := (Option.some.inj heq).symm
      cases l'
      cases hq
      rfl
    · exact hu
  simp only [purgeKind]
  split
  · exact hw (s.withSlot k _) hl _
  · exact hl

/-- What a close does before SETTLED is entered leaves all that the settle signal's neighbours read (R15). -/
theorem closeTransaction_alike (o : TxnOutcome) (c : Cause) (send : Bool) (s : State) :
    SettlesAlike s (closeTransaction o c send s) := by
  have hpa : (s.onRecord fun r => r.closed o c s.time).participants = s.participants := by
    unfold State.onRecord
    cases h : s.agreement.record <;> simp [State.participants, h, Record.closed]
  obtain ⟨u, hu⟩ : ∃ u, u = settleBelief o (execIdle (stopVoteTimers (s.onRecord fun r => r.closed o c s.time))) :=
    ⟨_, rfl⟩
  have hup : u.participants = s.participants := by
    rw [← hpa]
    simp [State.participants, hu]
  have hk : u.pins = s.pins ∧ u.loader = s.loader ∧ u.presence = s.presence ∧ u.wake = s.wake ∧ u.request = s.request ∧
      u.link = s.link ∧ u.faults = s.faults := by simp [hu]
  obtain ⟨j1, j2, j3, j4, j5⟩ := judgeDeferred_owners send u
  have jp : (judgeDeferred send u).participants = u.participants := by simp [State.participants]
  have jk : (judgeDeferred send u).pins = u.pins ∧ (judgeDeferred send u).loader = u.loader ∧
      (judgeDeferred send u).presence = u.presence := by simp
  have hc : closeTransaction o c send s = purgeTransaction
      (archive u.faults.deferred.length (judgeDeferred send u)).openNumber
      (archive u.faults.deferred.length (judgeDeferred send u)) := by rw [hu]; rfl
  rw [hc]
  clear hc hu
  generalize judgeDeferred send u = v at *
  have wk : (archive u.faults.deferred.length v).pins = v.pins ∧ (archive u.faults.deferred.length v).loader = v.loader ∧
      (archive u.faults.deferred.length v).presence = v.presence ∧ (archive u.faults.deferred.length v).wake = v.wake ∧
      (archive u.faults.deferred.length v).request = v.request ∧ (archive u.faults.deferred.length v).link = v.link ∧
      (archive u.faults.deferred.length v).faults = v.faults := by simp
  have wp : (archive u.faults.deferred.length v).participants = v.participants := by simp [State.participants]
  generalize archive u.faults.deferred.length v = w at *
  have hl : ∀ l, s.request.latch = some l → l.queued = false →
      (purgeTransaction w.openNumber w).request.latch = some l := fun l h1 h2 => by
    have hw : w.request.latch = some l := by rw [wk.2.2.2.2.1, j2, hk.2.2.2.2.1]; exact h1
    exact (purgeKind_latch (by decide) _ _).2 l ((purgeKind_latch (by decide) _ _).2 l
      ((purgeKind_latch (by decide) _ _).2 l hw h2) h2) h2
  have hs : (purgeTransaction w.openNumber w).slot .propose = w.slot .propose :=
    (purgeKind_latch (k := .abort) (by decide) _ _).1.trans ((purgeKind_latch (k := .stage) (by decide) _ _).1.trans
      (purgeKind_latch (k := .vote) (by decide) _ _).1)
  have pp : (purgeTransaction w.openNumber w).participants = w.participants := by simp [State.participants]
  obtain ⟨k1, k2, k3, k4, k5, k6, k7⟩ := hk
  obtain ⟨w1, w2, w3, w4, w5, w6, w7⟩ := wk
  obtain ⟨jk1, jk2, jk3⟩ := jk
  constructor
  · simp [w1, jk1, k1]
  · simp [w2, jk2, k2]
  · rw [pp, wp, jp, hup]
  · simp [w3, jk3, k3]
  · simp [w3, jk3, k3]
  · simp [w4, j1, k4]
  · simp [w4, j1, k4]
  · simp [w4, j1, k4]
  · simp [w4, j1, k4]
  · simp [w4, j1, k4]
  · simp [w4, j1, k4]
  · exact hl
  · simp [w5, j2, k5]
  · simp [w5, j2, k5]
  · rw [hs, slot_eq_of_link w6, j3 _ (by decide), slot_eq_of_link k6]
  · exact ((FaultsGrow.of_eq (by rw [k7]) (by rw [k7])).trans j4).trans (.of_eq (by simp [w7]) (by simp [w7]))
  · intro e he hc
    have : e ∈ v.faults.latched := by simpa [w7] using he
    have := j5 e this hc
    rwa [k7] at this

theorem SettlesAlike.withPhase {s s' : State} (a : SettlesAlike s s') (p : Phase) : SettlesAlike s (s'.withPhase p) :=
  ⟨a.pins, a.loader, a.participants, a.beat, a.beatTimer, a.inputs, a.pressed, a.debounce, a.longPress, a.minDwell,
    a.demote, a.latch, a.deferHold, a.lockout, a.propose, ⟨a.faults.holds, a.faults.length, a.faults.unrecorded⟩,
    a.peerLost⟩

theorem SettlesAlike.trans {s t u : State} (a : SettlesAlike s t) (b : SettlesAlike t u) : SettlesAlike s u :=
  ⟨b.pins.trans a.pins, b.loader.trans a.loader, b.participants.trans a.participants, b.beat.trans a.beat,
    b.beatTimer.trans a.beatTimer, b.inputs.trans a.inputs, b.pressed.trans a.pressed, b.debounce.trans a.debounce,
    b.longPress.trans a.longPress, b.minDwell.trans a.minDwell, b.demote.trans a.demote,
    fun l h q => b.latch l (a.latch l h q) q, b.deferHold.trans a.deferHold, b.lockout.trans a.lockout,
    b.propose.trans a.propose, a.faults.trans b.faults, fun e h c => a.peerLost e (b.peerLost e h c) c⟩

/-- A close COMPLETED believes the target state of its kind (R14). -/
theorem closeTransaction_believed (c : Cause) (send : Bool) {s : State} {r : Record} (hr : s.agreement.record = some r) :
    (closeTransaction .completed c send s).agreement.believed = some r.kind.target := by
  have h : (settleBelief .completed (execIdle (stopVoteTimers (s.onRecord fun r =>
      r.closed .completed c s.time)))).agreement.believed = some r.kind.target := by
    have hq : (execIdle (stopVoteTimers (s.onRecord fun r => r.closed .completed c s.time))).agreement.record =
        some (r.closed .completed c s.time) := by
      simp [State.onRecord, hr]
    unfold settleBelief
    rw [hq]
    rfl
  simpa [closeTransaction] using h

/-- A close after which the station is SETTLED gives the settle signal (R15, R17). -/
theorem closeSettled_settled (o : TxnOutcome) (c : Cause) (s : State) :
    Settled (some (s.kind, o)) s (closeSettled o c s) := by
  have ha := (closeTransaction_alike o c true s).withPhase .settled
  have hb : ∀ k, some (s.kind, o) = some (k, TxnOutcome.completed) → k.isWake = true →
      (closeTransaction o c true s).agreement.believed = some .run := by
    intro k hk hw
    obtain ⟨h1, h2⟩ := Prod.mk.inj (Option.some.inj hk)
    subst h2
    rw [← h1] at hw
    cases hr : s.agreement.record with
    | none => simp [State.kind, hr, Kind.isWake] at hw
    | some r =>
      rw [closeTransaction_believed c true hr]
      simp only [State.kind, hr] at hw
      cases hk : r.kind <;> simp_all [Kind.isWake, Kind.target]
  have hp : ((closeTransaction o c true s).withPhase .settled).agreement.phase = .settled := by simp
  have hv : ((closeTransaction o c true s).withPhase .settled).agreement.believed =
      (closeTransaction o c true s).agreement.believed := by simp
  rw [← hv] at hb
  unfold closeSettled becomeSettled
  generalize (closeTransaction o c true s).withPhase .settled = u at *
  exact (settleSignal_settled _ hp hb).of_alike ha

end Sys2Proof.Machine
end

