-- ==== Sys2Proof/Tests/Slice0.lean ====
section
/-! SUPPORT. Tests: the refused commands of WellFormed, the bits of frames written out from the manual's tables, states
that meet the hypotheses of the statements (named test_<Statement>), and a few single steps. -/

namespace Sys2Proof.Tests

open Sys2Proof Sys2Proof.Machine

set_option Elab.async false

/-! ### A small board: an image and states -/

/-- A rail channel in use. -/
def plainRail : RailParams :=
  { RailParams.blank with
    enabled := true, settleWindow := 2000, dischargeWindow := 2000, holdUp := 500, holdDown := 500
    dropoutFilter := 20, dropoutThreshold := 3, dropoutWindow := 100 }

/-- Rail 0 plain, rail 1 tolerant, rail 2 with holds of 0, the others not enabled. -/
def boardRails : Table 6 RailParams :=
  #v[plainRail, { plainRail with tolerant := true }, { plainRail with holdUp := 0, holdDown := 0 }, RailParams.blank,
    RailParams.blank, RailParams.blank]

/-- Input 0 the button, 1 COUNT by the common window, 2 LEVEL, 3 COUNT by its own window. -/
def boardWakes : Table 8 WakeInputDef :=
  let d := { WakeInputDef.blank with allowRest := true, allowStow := true, allowOff := true }
  #v[{ d with kind := .button, debounce := 20, longPress := 4000 }, { d with kind := .count, window := .common, threshold := 3 },
    { d with kind := .level, holdTime := 20 }, { d with kind := .count, window := .own, ownLength := 50, threshold := 3 },
    WakeInputDef.blank, WakeInputDef.blank, WakeInputDef.blank, WakeInputDef.blank]

/-- A row with rail 0 at this level and every other output low. -/
def rowOf (l : Level) : ProfileRow := { ProfileRow.blank with rails := #v[l, .low, .low, .low, .low, .low] }

/-- A plan section: rail 0 is up in RUN and REST. -/
def boardPlan : PlanSection where
  plans :=
    { enterRest := [⟨1, 0, 500, [.pulse 0 5]⟩, ⟨2, 2, 500, [.wait 10]⟩, ⟨3, 2, 500, [.await 0 .high 50]⟩]
      enterStow := [⟨1, 0, 500, [.change (.drop 0) true]⟩]
      enterOff := [⟨1, 0, 500, [.change (.drop 0) true]⟩, ⟨2, 2, 500, [.wait 10]⟩, ⟨3, 2, 500, [.await 0 .high 50]⟩]
      resume := []
      rise := [⟨1, 0, 500, [.change (.raise 0) true]⟩]
      demote := [⟨1, 0, 500, [.change (.drop 0) true]⟩] }
  profile := ⟨rowOf .high, rowOf .high, rowOf .low, rowOf .low⟩

/-- A system section of four stations. -/
def boardSystem : SystemSection where
  linkRate := .kbit100
  beatRun := 20
  beatLow := 500
  voteWindow := 30
  censusWindow := 500
  barredRetry := 1000
  stages := ⟨4, 3, 3, 4, 4, 2⟩
  commits := ⟨3, 2, 3, 2, 0, 1⟩
  required := 15
  quorum := 15
  minDwell := 3000
  lockout := 1000
  faultHold := 5000
  deferHold := 2000

/-- The image of station 0. -/
def board : Image where
  header := [0x5A, 0x53, 0, 21, 0, 0, 3, 0, 2, 0, 3, 0x48, 0x79]
  systemBytes := [1, 2, 3]
  stationBytes := [4, 5]
  planBytes := [6, 7, 8]
  system := boardSystem
  station :=
    { StationSection.blank with
      address := 0x10, rails := boardRails, wakes := boardWakes, commonWindow := 100, shortPress := .enterRest }
  plan := boardPlan

/-- Quiet inhibit inputs. -/
def quiet : Inhibits := ⟨.low, .low⟩

/-- A peer that is PRESENT. -/
def presentPeer : Peer := { Peer.blank with presence := .present, silence := some 100, lastReset := some .por }

/-- An EXCLUDED peer. -/
def excludedPeer : Peer := { Peer.blank with presence := .excluded, misses := 3 }

/-- The state that a command answers with. -/
def after (c : Instr) (s : State) : State :=
  match exec c s with
  | .next t => t
  | _ => s

/-- Station 0 on the link, SETTLED in RUN under number 6, with stations 1 to 3 PRESENT and station 4 EXCLUDED. -/
def station : State :=
  { State.reset with
    link := { Link.blank with integrated := true }
    agreement := { Agreement.blank with phase := .settled, believed := some .run, number := some 6 }
    presence := { Presence.blank with
      peers := #v[Peer.blank, presentPeer, presentPeer, presentPeer, excludedPeer, Peer.blank, Peer.blank, Peer.blank]
      beat := some 20, beatTimer := some 20 }
    channel := { Channel.blank with rails := tabSet Channel.blank.rails 0 (Rail.still .on) }
    wake := { WakeUnit.blank with commonWindow := some 100 }
    loader := { image := some board, signature := crc16 board.systemBytes, resetCause := .por, bytesRead := some 21 } }

/-- A write to the station's address with this many bytes behind the command. -/
def write (extra : Nat) : PortWrite := ⟨0x10, extra⟩

/-- A write to another station. -/
def elsewhere : PortWrite := ⟨0x11, 0⟩

/-- The station in this phase. -/
def inPhase (p : Phase) (s : State) : State := s.withPhase p

/-- The station believing this state. -/
def believing (x : SystemState) (s : State) : State := { s with agreement := { s.agreement with believed := some x } }

/-- A transaction of number 7 that station 1 proposed, with participants 0 to 3. -/
def record : Record where
  number := 7
  kind := .enterRest
  forced := false
  imageBacked := false
  originator := 1
  openingCause := .propose
  wakeSource := none
  participants := 15
  consent := 15
  votes := #v[none, some .accept, none, none, none, none, none, none]
  outcome := .opened
  outcomeCause := none
  abortCause := none
  forward := Vector.replicate 12 0
  unwind := Vector.replicate 12 0
  committed := false
  unwindTop := none
  missing := 0
  faults := []
  faultOverflow := 0
  openedAt := 0
  acceptedAt := none
  committedAt := none
  stageTimes := Vector.replicate 12 none
  closedAt := none

/-- The station in a phase with this record. -/
def holding (p : Phase) (r : Record) : State :=
  { station with agreement := { station.agreement with phase := p, number := some 7, record := some r } }

/-- The vote of number 7 under way. -/
def voting : State := holding .voting record

/-- Number 7 accepted. -/
def staging : State := holding .staging { record with outcome := .accepted }

/-- Number 7 unwinding. -/
def unwinding : State :=
  holding .unwinding { record with outcome := .accepted, abortCause := some .timeout, unwindTop := some 1 }

/-- A forced descent under number 7. -/
def descending : State :=
  holding .descending { record with outcome := .accepted, kind := .enterOff, forced := true, openingCause := .fault }

/-- The station in census. -/
def census : State :=
  { station with
    agreement := { Agreement.blank with phase := .census }
    presence := { station.presence with censusWindow := some 500 } }

/-- The station with another sub-state of the executor, stage and running action. -/
def withExec (f : Executor → Executor) (s : State) : State := { s with executor := f s.executor }

/-- The station with this rail channel. -/
def withRail0 (r : Rail) (s : State) : State := s.withRail 0 r

/-- The power-good pin of rail 0 high. -/
def powered (s : State) : State := { s with pins := { s.pins with powerGood := tabSet s.pins.powerGood 0 .high } }

/-- A claim over the frame kinds, kind by kind. -/
theorem forall_frameKind {p : FrameKind → Prop} (h : ∀ k ∈ frameKinds, p k) : ∀ k, p k := by
  intro k
  exact h k (by cases k <;> decide)

/-- The image passes every check of the loader. -/
theorem test_boardValid : imageValid board = true := by decide +kernel

/-! ### Well-formedness: one term refused by each check -/

theorem test_wf_board : (Instr.loadDone board).wellFormed = true := by decide +kernel

theorem test_wf_image : (Instr.loadDone { board with systemBytes := [] }).wellFormed = false := by decide +kernel

theorem test_wf_rejected : (Instr.frameRejected ⟨List.replicate 29 true, []⟩).wellFormed = false := by decide

theorem test_wf_discarded : (Instr.discardedAtThisStationAlone ⟨[], []⟩).wellFormed = false := by decide

theorem test_wf_stageForward :
    (Instr.stageForwardDelivered 1 7 0).wellFormed = false ∧ (Instr.stageForwardDelivered 1 7 1).wellFormed = true ∧
      (Instr.stageForwardDelivered 1 7 12).wellFormed = true ∧ (Instr.stageForwardDelivered 1 7 13).wellFormed = false := by
  decide

theorem test_wf_stageUnwind :
    (Instr.stageUnwindDelivered 1 7 0).wellFormed = false ∧ (Instr.stageUnwindDelivered 1 7 13).wellFormed = false := by
  decide

theorem test_wf_faultCode : (Instr.faultDelivered 1 7 .wakeOverflow 1).wellFormed = false := by decide

theorem test_wf_faultTarget :
    (Instr.faultDelivered 1 7 .railLoss 6).wellFormed = false ∧ (Instr.faultDelivered 1 7 .railLoss 5).wellFormed = true ∧
      (Instr.faultDelivered 1 7 .stall 0).wellFormed = false ∧ (Instr.faultDelivered 1 7 .stall 15).wellFormed = true := by
  decide

theorem test_wf_beatPhase : (Instr.beatDelivered 1 7 ⟨.run, false, .loading, 0, 0⟩).wellFormed = false := by decide

theorem test_wf_beatState : (Instr.beatDelivered 1 7 ⟨.off, false, .census, 0, 0⟩).wellFormed = false := by decide

theorem test_wf_peer : (Instr.peer none (write 1)).wellFormed = false ∧ (Instr.peer none (write 0)).wellFormed = true := by
  decide

theorem test_wf_history : (Instr.history none (write 1)).wellFormed = false := by decide

theorem test_wf_unknown :
    (Instr.unknownCommand ⟨0x10, 0x07, 0⟩).wellFormed = false ∧ (Instr.unknownCommand ⟨0x10, 0x08, 0⟩).wellFormed = true := by
  decide

theorem test_wf_read : (Instr.snapshotRead ⟨0x10, 0⟩).wellFormed = false := by decide

theorem test_wf_frame : (Frame.wellFormed ⟨1, 7, .stage .forward 13⟩) = false := by decide

/-! ### Words and frames -/

/-- The table gives no row any bits, so no word spells a command, and the queue is left as it is. -/
theorem test_decode (n w : Nat) (s : State) : decodeTableWord n w = none ∧ s.withFetchWord n w = s := ⟨rfl, rfl⟩

/-- The codes of R163 to R166, with and without bytes behind them; the codes beside them are unknown. -/
theorem test_writtenCommand :
    writtenCommand 0x10 [0x01] = some (.status (write 0)) ∧ writtenCommand 0x10 [0x02] = some (.peer none (write 0)) ∧
      writtenCommand 0x10 [0x02, 9] = some (.peer (some 9) (write 0)) ∧
      writtenCommand 0x10 [0x03, 1] = some (.txn (write 1)) ∧
      writtenCommand 0x10 [0x04, 3, 7] = some (.history (some 3) (write 1)) ∧
      writtenCommand 0x10 [0x05] = some (.wakeq (write 0)) ∧ writtenCommand 0x10 [0x06] = some (.faults (write 0)) ∧
      writtenCommand 0x10 [0x07] = some (.stack (write 0)) ∧ writtenCommand 0x10 [0xA1] = some (.ackFaults (write 0)) ∧
      writtenCommand 0x10 [0xC3] = some (.restart (write 0)) ∧ writtenCommand 0x10 [] = none ∧
      ([0x00, 0x08, 0xA0, 0xA2, 0xC2, 0xC4, 0xFF] : List Byte).map (fun c => writtenCommand 0x10 [c, 5]) =
        ([0x00, 0x08, 0xA0, 0xA2, 0xC2, 0xC4, 0xFF] : List Byte).map (fun c => some (.unknownCommand ⟨0x10, c, 1⟩)) := by
  decide

/-- A WAKE from station 3 has the arbitration value 19 (R129). -/
theorem test_arbitration : Frame.arbitration ⟨3, 0, .wake .rise 2⟩ = 19 := by decide

/-- PROPOSE of ENTER_OFF, forced, from station 2 under number 5, field by field: class 5, sender 2, number 5, kind 2,
forced, not image-backed, three zeros (R129, R130). -/
theorem test_proposeBits :
    Frame.covered ⟨2, 5, .propose .enterOff true false⟩ =
      [true, false, true] ++ [false, true, false] ++ [false, false, false, false, false, true, false, true] ++
        [false, true, false] ++ [true] ++ [false] ++ [false, false, false] := by decide

/-- VOTE of DECLINE(LOCKOUT) from station 1 under number 7: class 4, answer 2, reason 2, two zeros (R130). -/
theorem test_voteBits :
    Frame.covered ⟨1, 7, .vote (.decline .lockout)⟩ =
      [true, false, false] ++ [false, false, true] ++ [false, false, false, false, false, true, true, true] ++
        [true, false] ++ [false, false, true, false] ++ [false, false] := by decide

/-- BEAT of station 0: STOW, open, phase STAGING, summary 3, station 7 EXCLUDED (R130). -/
theorem test_beatBits :
    Frame.covered ⟨0, 0, .beat ⟨.stow, true, .staging, 3, 0x80⟩⟩ =
      [true, true, false] ++ [false, false, false] ++ List.replicate 8 false ++ [true, false] ++ [true] ++
        [false, true, true] ++ [true, true] ++ [true, false, false, false, false, false, false, false] := by decide

/-- A frame that reads back, and one whose zero bits are recessive (R131). -/
theorem test_readFrame :
    readFrame (Frame.covered ⟨3, 9, .fault .senseTimeout 11⟩) = some ⟨3, 9, .fault .senseTimeout 11⟩ ∧
      readFrame (fieldBits 6 19 ++ fieldBits 8 9 ++ [true, false, false, false, false, false, false, true]) = none := by
  decide +kernel

/-! ### States that meet the hypotheses of the statements -/

theorem test_StepRunsFrontCommand :
    ({ station with pending := [.integration, .por] } : State).pending = .integration :: [.por] ∧ station.pending = [] :=
  ⟨rfl, rfl⟩

theorem test_EveryCommandCompletes :
    (Instr.txn (write 0)).isReset = false ∧ (Instr.txn (write 0)).movesPin = false ∧ Instr.beatTick.isReset = false ∧
      Instr.beatTick.endsLoad = false ∧ Instr.beatTick.isTransfer = false := by decide

theorem test_CommandsLeaveOtherBlocks :
    (Instr.txn (write 0)).group = .transfer ∧ Instr.frameStart.group = .link ∧ (Instr.slpreqEdge .low .high .low).group = .request ∧
      (Instr.countEdge 1).group = .wake ∧ Instr.voteGuardExpiry.group = .voteTimer ∧
      Instr.barrierTimerExpiry.group = .barrier ∧ Instr.beatTick.group = .beat ∧
      (Instr.dropoutFilterExpiry 0).group = .dropout ∧ Instr.waitEnd.group = .signal ∧ (Instr.holdUpEnd 0).group = .rail ∧
      (Instr.voteDelivered 2 7 .accept).group = .delivery ∧ Instr.pinReset.group = .reset ∧ Instr.pinReset ≠ .por ∧
      Instr.loadFailure.group = .load ∧ (Instr.frameRejected ⟨[], []⟩).group = .rejection ∧
      Instr.closingWaitExpiry.group = .closing ∧ Instr.censusWindowExpiry.group = .census ∧
      (Instr.silenceTimerExpiry 1).group = .silence := by decide

/-- The station answers its own address and no other; after a reset it answers none. -/
theorem test_WarmResetKeepsOutputsAndRecords :
    station.answers (write 0).addr = true ∧ station.answers elsewhere.addr = false ∧
      State.reset.answers (write 0).addr = false := by decide

theorem test_LoadDoneStartsCensus :
    State.reset.agreement.phase = .loading ∧ imageValid board = true ∧ (tabGet board.station.rails 0).enabled = true ∧
      (tabGet board.station.rails 5).enabled = false ∧ census.agreement.phase.loaded = true ∧
      State.reset.agreement.phase.loaded = false := by decide +kernel

theorem test_FailedLoadIsConfigFault :
    imageValid { board with header := [] } = false ∧ State.reset.agreement.phase = .loading ∧
      Instr.loadFailure.endsLoad = true ∧ (Instr.loadDone board).endsLoad = true ∧ station.agreement.phase ≠ .loading ∧
      (station.withPhase .configFault).agreement.phase = .configFault := by decide +kernel

/-- The read ends with the identifier, with a length of 12 or 2049, with station ID 8, and with section lengths that do not
add up; a length of 13 to 2048 that they fit is read whole (R154, R155). -/
theorem test_FailedLoadIsConfigFault_read :
    readLength [0, 0x53] = 2 ∧ readLength [0x5A, 0x53, 0, 12] = 4 ∧ readLength [0x5A, 0x53, 8, 1] = 4 ∧
      readLength [0x5A, 0x53, 0, 21, 8] = 5 ∧ readLength [0x5A, 0x53, 0, 21, 7, 0, 3, 0, 2, 0, 4] = 11 ∧
      readLength [0x5A, 0x53, 0, 13, 0, 0, 0, 0, 0, 0, 0] = 13 ∧
      readLength [0x5A, 0x53, 8, 0, 0, 7, 0xF3, 0, 0, 0, 0] = 2048 ∧ readLength board.header = 21 := by decide

/-- The own VOTE of number 7. -/
def ownVote : Ready := station.ownReady 7 (.vote .accept)

/-- The station with its VOTE and a BEAT queued. -/
def queuedVote : State :=
  (station.withSlot .vote { Slot.blank with queued := some (.ready ownVote) }).withSlot .beat
    { Slot.blank with queued := some (.beatDue 6) }

/-- The station with a BEAT queued. -/
def queuedBeat : State := station.withSlot .beat { Slot.blank with queued := some (.beatDue 6) }

/-- The station sending its VOTE, rejected this often in a row. -/
def sendingVote (n : Nat) : State := station.withSlot .vote { Slot.blank with sending := some ownVote, rejections := n }

theorem test_LowestClassStarts :
    queuedVote.onLink = true ∧ (∀ j, (queuedVote.slot j).sending = none) ∧
      (queuedVote.slot .vote).queued = some (.ready ownVote) ∧
      (∀ j, j.class < FrameKind.vote.class → (queuedVote.slot j).queued = none) :=
  ⟨by decide, forall_frameKind (by decide +kernel), by decide, forall_frameKind (by decide +kernel)⟩

theorem test_LowestClassStarts_idle :
    State.reset.onLink = false ∧ ((sendingVote 0).slot .vote).sending ≠ none ∧ (∀ j, (station.slot j).queued = none) :=
  ⟨by decide, by decide, forall_frameKind (by decide +kernel)⟩

/-- A BEAT composed in SETTLED, in CENSUS with the number absent, with a transaction open, and in MUTE with none open. -/
theorem test_LowestClassStarts_beat :
    station.agreement.number = some 6 ∧ station.agreement.phase ≠ .census ∧ station.agreement.believed = some .run ∧
      census.agreement.phase = .census ∧ census.agreement.number = none ∧ voting.agreement.phase = .voting ∧
      (inPhase .mute station).recordOpen = false ∧ (inPhase .mute descending).recordOpen = true ∧
      (station.peerAt 4).presence = .excluded ∧ (station.peerAt 1).presence ≠ .excluded := by decide

/-- The BEAT of the settled station: number 6, RUN, not open, phase SETTLED, no fault, station 4 EXCLUDED. -/
theorem test_composeBeat :
    station.composeBeat 6 = ⟨0, 6, .beat ⟨.run, false, .settled, 0, 16⟩⟩ ∧
      census.composeBeat 0 = ⟨0, 0, .beat ⟨.run, false, .census, 0, 16⟩⟩ ∧
      ((fillBeat station).slot .beat).queued = some (.beatDue 6) ∧
      ((fillBeat census).slot .beat).queued = some (.beatDue 0) := by decide +kernel

/-- A latched entry of this severity. -/
def entry (sev : Severity) : FaultEntry := ⟨.railLoss, 0, sev, 0, 0, 1⟩

/-- The station with these fault lists. -/
def withLists (l : List FaultEntry) (d : List DeferredEntry) : State :=
  { station with faults := { latched := l, unrecorded := 0, deferred := d } }

theorem test_FaultSummaryAndAttn_beat :
    (queuedBeat.slot .beat).queued = some (.beatDue 6) ∧ queuedBeat.onLink = true ∧
      (∀ j, (queuedBeat.slot j).sending = none) ∧
      (∀ j, j.class < FrameKind.beat.class → (queuedBeat.slot j).queued = none) :=
  ⟨by decide, by decide, forall_frameKind (by decide +kernel), forall_frameKind (by decide +kernel)⟩

theorem test_FaultSummaryAndAttn :
    (∃ e ∈ (withLists [entry .severe] []).faults.latched, e.severity = .severe) ∧
      (∀ e ∈ (withLists [entry .notice] [⟨0, true, 1, 1⟩]).faults.latched, e.severity ≠ .severe) ∧
      (withLists [entry .notice] [⟨0, true, 1, 1⟩]).faults.deferred ≠ [] ∧
      (∀ e ∈ (withLists [entry .notice] []).faults.latched, e.severity ≠ .severe) ∧
      (withLists [entry .notice] []).faults.latched ≠ [] ∧ station.faults.latched = [] ∧ station.faults.deferred = [] ∧
      station.agreement.phase.loaded = true ∧ State.reset.agreement.phase.loaded = false := by decide

/-- Station 0 sends 32 in the VOTE class: lost to 0 and 31, not to 32. -/
theorem test_LosingFrameIsQueuedAgain :
    (sendingVote 2).sendingKind = some .vote ∧ ((sendingVote 2).slot .vote).sending = some ownVote ∧
      (sendingVote 2).sendingValue .vote = 32 ∧ losesTo 32 0 = true ∧ losesTo 32 31 = true ∧ losesTo 32 32 = false ∧
      ((sendingVote 2).slot .vote).purgeMark = false ∧ ((sendingVote 2).slot .vote).queued = none ∧
      FrameKind.vote ≠ .propose ∧ FrameKind.vote ≠ .wake ∧ station.sendingKind = none ∧ losesTo 63 62 = true := by
  decide +kernel

/-- The station sending its WAKE under the announcing mark. -/
def sendingWake : State :=
  { station.withSlot .wake { Slot.blank with sending := some (station.ownReady 7 (.wake .rise 1)) } with
    wake := { WakeUnit.blank with mark := some 1 } }

theorem test_RejectedFrameIsSentAgain :
    (sendingVote 6).onLink = true ∧ (sendingVote 6).sendingKind = some .vote ∧
      ((sendingVote 6).slot .vote).sending = some ownVote ∧ ((sendingVote 6).slot .vote).purgeMark = false ∧
      ((sendingVote 6).slot .vote).queued = none ∧ ((sendingVote 6).slot .vote).rejections < 7 ∧
      station.sendingKind = none ∧ State.reset.onLink = false ∧ (sendingVote 7).onLink = true ∧
      (sendingVote 7).sendingKind = some .vote ∧ 7 ≤ ((sendingVote 7).slot .vote).rejections := by decide +kernel

/-- A quarter of a bit time at 100 kbit/s is 2.5 µs: an edge 2.5 µs off is matched, one 2.6 µs off is not (R127). -/
theorem test_ReceiverJudgesCheckAndEdges :
    (ownVote.frame.wellFormed = true) ∧
      Reception.inError .kbit100 ⟨ownVote.frame.covered ++ fieldBits 8 (crc8 ownVote.frame.covered).toNat, [0, 25]⟩ = false ∧
      Reception.inError .kbit100 ⟨ownVote.frame.covered ++ fieldBits 8 (crc8 ownVote.frame.covered).toNat, [26]⟩ = true ∧
      Reception.inError .kbit100 ⟨ownVote.frame.covered ++ fieldBits 8 ((crc8 ownVote.frame.covered).toNat ^^^ 1), []⟩
        = true := by decide +kernel

/-- A station that sends nothing, one that sends, one in MUTE and one off the link, with a length error, a check that is
wrong and no error. -/
theorem test_ReceiverJudgesCheckAndEdges_drive :
    State.reset.onLink = false ∧ station.onLink = true ∧ station.agreement.phase ≠ .mute ∧ station.sendingKind = none ∧
      (sendingVote 0).sendingKind = some .vote ∧ ((sendingVote 0).slot .vote).sending = some ownVote ∧
      (inPhase .mute station).agreement.phase = .mute ∧
      (∃ d ∈ [0, 26], station.system.linkRate.bitTime / 4 < d) ∧ (∀ d ∈ [0, 25], d ≤ station.system.linkRate.bitTime / 4) ∧
      Reception.inError station.system.linkRate
        ⟨ownVote.frame.covered ++ fieldBits 8 ((crc8 ownVote.frame.covered).toNat ^^^ 1), [0, 25]⟩ = true ∧
      Reception.inError station.system.linkRate
        ⟨ownVote.frame.covered ++ fieldBits 8 (crc8 ownVote.frame.covered).toNat, [0, 25]⟩ = false := by decide +kernel

/-- Bits of no well-formed frame: none at all, and a STAGE of station 3 with stage 0 (R131). -/
theorem test_ReceiverJudgesCheckAndEdges_form :
    (∀ f : Frame, f.wellFormed = true → ([] : List Bool) ≠ f.covered) ∧
      (∀ f : Frame, f.wellFormed = true → Frame.covered ⟨3, 7, .stage .forward 0⟩ ≠ f.covered) := by
  refine ⟨fun f _ => by simp [Frame.covered, fieldBits], fun f hf h => ?_⟩
  obtain ⟨i, n, b⟩ := f
  have hk : ∀ (k : FrameKind) (j : Fin 8), (fieldBits 6 27).take 3 = (fieldBits 6 (k.class.val * 8 + j.val)).take 3 →
      k = .stage := by
    intro k
    cases k <;> decide
  have e := congrArg (List.take 3) h
  have h3 : b.kind = .stage := hk _ i e
  cases b <;> try cases h3
  rename_i d k
  have h8 : (Body.stage .forward 0).bits = (Body.stage d k).bits := by
    have e := congrArg (List.drop 14) h
    exact e
  have : 1 ≤ k ∧ k ≤ 12 := by simpa [Frame.wellFormed, stageOk] using hf
  obtain ⟨h1, h2⟩ := this
  revert h8
  cases d <;> interval_cases k <;> decide

/-- A claim about the record follows from the claim about the one held. -/
theorem ofRecord {s : State} {r : Record} {p : Record → Prop} (h : s.agreement.record = some r) (hp : p r) :
    ∀ r', s.agreement.record = some r' → p r' := by
  rintro r' h'
  obtain rfl := Option.some.inj (h.symm.trans h')
  exact hp

theorem test_UnheardDeliveriesChangeNothing :
    (Instr.wakeDelivered 4 7 .rise 1).deliveredFrom = some 4 ∧ State.reset.onLink = false ∧
      (Instr.wakeDelivered 4 7 .rise 1).isCensus = false ∧ (4 : StationId) ≠ station.me ∧
      (station.peerAt 4).presence = .excluded := by decide

/-- Stale votes: of another number, of station 5, which does not participate, of the originator, a second one, and one in
STAGING. -/
theorem test_UnheardDeliveriesChangeNothing_votes :
    voting.takes 2 ∧ voting.takes 5 ∧ voting.discards (.voteDelivered 2 8 .accept) ∧
      voting.discards (.voteDelivered 5 7 .accept) ∧ voting.discards (.voteDelivered 1 7 .accept) ∧
      (holding .voting { record with votes := tabSet record.votes 3 (some .accept) }).discards (.voteDelivered 3 7 .defer) ∧
      staging.takes 2 ∧ staging.discards (.voteDelivered 2 7 .accept) := by
  refine ⟨by unfold State.takes; decide, by unfold State.takes; decide, .inr (ofRecord rfl ?_), .inr (ofRecord rfl ?_),
    .inr (ofRecord rfl ?_), .inr (ofRecord rfl ?_), by unfold State.takes; decide, .inl (by decide)⟩
  all_goals decide

/-- Stale reports: of another number, of a station that does not participate, of stage 0 and of stage 5 at S = 4, and one in
VOTING; stages 1 and 4 are no such. -/
theorem test_UnheardDeliveriesChangeNothing_stages :
    staging.takes 2 ∧ staging.discards (.stageForwardDelivered 2 8 1) ∧ staging.discards (.stageUnwindDelivered 5 7 1) ∧
      staging.discards (.stageForwardDelivered 2 7 0) ∧ staging.discards (.stageUnwindDelivered 2 7 5) ∧
      voting.discards (.stageForwardDelivered 2 7 1) ∧ ¬ staging.discards (.stageForwardDelivered 2 7 1) ∧
      ¬ staging.discards (.stageForwardDelivered 2 7 4) := by
  refine ⟨by unfold State.takes; decide, .inr (ofRecord rfl ?_), .inr (ofRecord rfl ?_), .inr (ofRecord rfl ?_),
    .inr (ofRecord rfl ?_), .inl (by decide), ?_, ?_⟩
  rotate_right 2
  all_goals try decide
  all_goals
    rintro (h | h)
    · exact absurd h (by decide)
    · exact absurd (h _ rfl) (by decide)

/-- Stale ABORTs: of another number, of a station that does not participate, of a committed transaction, and in SETTLED. A
committed transaction of number 7. -/
theorem test_UnheardDeliveriesChangeNothing_aborts :
    voting.discards (.abortDelivered 2 8 .timeout) ∧ staging.discards (.abortDelivered 5 7 .timeout) ∧
      (holding .staging { record with outcome := .accepted, committed := true }).takes 2 ∧
      (holding .staging { record with outcome := .accepted, committed := true }).discards (.abortDelivered 2 7 .timeout) ∧
      station.discards (.abortDelivered 2 7 .timeout) ∧ station.takes 2 := by
  refine ⟨.inr (ofRecord rfl ?_), .inr (ofRecord rfl ?_), by unfold State.takes; decide, .inr (ofRecord rfl ?_),
    .inl (by decide), by unfold State.takes; decide⟩
  all_goals decide

/-- Opening frames that are ignored: a WAKE in every phase that ignores it, a PROPOSE in MUTE and CENSUS, a forced PROPOSE and
a FAULT in MUTE with the believed state UNKNOWN, and in CENSUS. -/
theorem test_UnheardDeliveriesChangeNothing_openings :
    (∀ s ∈ [voting, staging, unwinding, inPhase .mute station, census], s.discards (.wakeDelivered 1 7 .rise 1)) ∧
      (∀ s ∈ [inPhase .mute station, census], s.discards (.proposeDelivered 1 7 .enterOff false quiet)) ∧
      (∀ s ∈ [inPhase .mute census, inPhase .mute descending, census],
        s.discards (.forcedProposeDelivered 1 7 .enterOff false)) ∧
      (∀ s ∈ [inPhase .mute census, census], s.discards (.faultDelivered 1 7 .stall 15)) ∧
      (inPhase .mute census).takes 1 ∧ census.takes 1 := by
  unfold State.discards State.takes
  decide +kernel

theorem test_HeardPeerIsPresent :
    (Instr.voteDelivered 1 7 .accept).deliveredFrom = some 1 ∧ (Instr.voteDelivered 1 7 .accept).isCensus = false ∧
      (∀ n r, Instr.voteDelivered 1 7 .accept ≠ .abortDelivered 1 n r) ∧ station.hears 1 :=
  ⟨rfl, rfl, fun _ _ => Instr.noConfusion, by unfold State.hears; decide⟩

/-- The station hears and takes station 1, takes its own frames, and would await station 2 (or itself) in a vote. -/
theorem test_hearing :
    station.hears 1 ∧ station.takes 1 ∧ station.takes 0 ∧ station.awaitsSome 0 ∧ station.awaitsSome 1 ∧
      (believing .rest station).takes 1 ∧ (believing .rest station).awaitsSome 1 := by
  unfold State.hears State.takes State.awaitsSome
  decide +kernel

theorem test_ProposeOpensVoting :
    station.agreement.phase = .settled ∧ station.agreement.number = some 6 ∧ station.agreement.believed = some .run ∧
      Kind.enterRest.isEntry = true ∧ (believing .rest station).agreement.believed = some .rest ∧ station.me = 0 := by
  decide

/-- The station with inhibit 0 configured like this for every kind. -/
def inhibited (a : InhibitAction) : State :=
  { station with loader := { station.loader with image := some { board with
      station := { board.station with inhibits := tabSet board.station.inhibits 0 ⟨a, a, a, a⟩ } } } }

/-- An inhibit input that reads high. -/
def busy : Inhibits := ⟨.high, .low⟩

/-- The seven rows of the vote policy, each in a state where those before it do not match. -/
theorem test_ProposeOpensVoting_policy :
    (inhibited .decline).inhibitedTo busy .enterRest .decline ∧ ¬ station.inhibitedTo busy .enterRest .decline ∧
      ({ station with request := { RequestUnit.blank with lockout := some 9 } } : State).request.lockout.isSome = true ∧
      Kind.demote.isEntry = false ∧ station.request.lockout = none ∧ station.request.refresh = 0 ∧
      ({ station with request := { RequestUnit.blank with refresh := 2 } } : State).request.refresh ≠ 0 ∧
      (∀ e ∈ station.faults.latched, e.severity ≠ .severe) ∧ station.agreement.restImage = false ∧
      (inhibited .defer).inhibitedTo busy .enterRest .defer ∧ ¬ (inhibited .defer).inhibitedTo busy .enterRest .decline ∧
      ¬ station.inhibitedTo busy .enterRest .defer := by
  unfold State.inhibitedTo
  decide +kernel

/-- The station for which this quorum set is required, so that with nobody in it nobody is awaited. -/
def requiring (q : StationSet) : State :=
  { station with loader := { station.loader with image := some { board with
      system := { board.system with required := q } } } }

theorem test_ProposeOpensVoting_nobody :
    ¬ (requiring 0).awaitsSome 0 ∧ (requiring 0).takes 1 ∧ (requiring 0).agreement.phase = .settled ∧
      (requiring 0).agreement.number = some 6 ∧ (requiring 0).agreement.believed = some .run := by
  unfold State.awaitsSome State.takes
  decide +kernel

/-- The station sending its own PROPOSE for a latched request. -/
def proposing : State :=
  { station.withSlot .propose
      { Slot.blank with sending := some (station.ownReady 7 (.propose .enterOff false false)) } with
    request := { RequestUnit.blank with latch := some ⟨⟨.enterOff, false, .lines⟩, true⟩ } }

theorem test_OwnProposeGoesUnderVote :
    proposing.onLink = true ∧ proposing.agreement.phase = .settled ∧ proposing.agreement.believed = some .run ∧
      Kind.enterOff.isEntry = true ∧ proposing.agreement.number = some 6 ∧ proposing.awaitsSome proposing.me ∧
      proposing.request.latch = some ⟨⟨.enterOff, false, .lines⟩, true⟩ ∧
      (proposing.slot .propose).sending = some (proposing.ownReady 7 (.propose .enterOff false false)) := by
  unfold State.awaitsSome
  decide +kernel

/-- This state with a frame of the station queued. -/
def queueing (body : Body) (s : State) : State :=
  s.withSlot body.kind { s.slot body.kind with queued := some (.ready (station.ownReady 7 body)) }

/-- What the purges of an opening can meet: the PROPOSE of the latched request, a forced PROPOSE, a WAKE under the mark, and a
FAULT(PEER_LOST); the frame delivered is another's. -/
theorem test_openings_purge :
    ((queueing (.propose .enterOff false false) station).slot .propose).queued =
        some (.ready (station.ownReady 7 (.propose .enterOff false false))) ∧
      Kind.enterOff ≠ .demote ∧ (station.ownReady 7 (.propose .enterOff false false)).forReplaced = false ∧
      (queueing (.propose .enterOff true false) station).forcedQueued = true ∧
      ((queueing (.wake .rise 1) sendingWake).slot .wake).queued = some (.ready (station.ownReady 7 (.wake .rise 1))) ∧
      ((queueing (.fault .peerLost 1) station).slot .fault).queued =
        some (.ready (station.ownReady 7 (.fault .peerLost 1))) ∧
      (∀ r, (station.slot .wake).queued ≠ some (.ready r)) ∧ ¬ station.sends ⟨1, 7, .propose .enterRest false false⟩ := by
  refine ⟨by decide +kernel, by decide, rfl, by decide +kernel, by decide +kernel, by decide +kernel, nofun, ?_⟩
  rintro ⟨h, -⟩
  exact absurd h (by decide)

theorem test_LosingFrameIsQueuedAgain_owner :
    proposing.sendingKind = some .propose ∧ (proposing.slot .propose).purgeMark = false ∧
      (proposing.slot .propose).queued = none ∧ losesTo (proposing.sendingValue .propose) 0 = true ∧
      proposing.request.latch = some ⟨⟨.enterOff, false, .lines⟩, true⟩ ∧ sendingWake.sendingKind = some .wake ∧
      (sendingWake.slot .wake).purgeMark = false ∧ (sendingWake.slot .wake).queued = none ∧
      losesTo (sendingWake.sendingValue .wake) 0 = true ∧ sendingWake.wake.mark.isSome = true := by decide +kernel

/-- The own VOTE as a sender reads it back up to bit `m`, and the other way there. -/
def readBack (m : Nat) : List Bool := ownVote.frame.line.take m ++ (ownVote.frame.line[m]?.toList.map fun b => !b)

/-- The line of the own VOTE has its reject slot at bit 31: start bit, 22 covered bits and 8 of the check lie before it
(R129). -/
theorem test_rejectSlot : ownVote.frame.rejectSlot = 31 ∧ ownVote.frame.line[31]? = some true := by decide +kernel

/-- A difference at bit 6, the last of the arbitration field, at bit 7, the first behind it, and at bit 30, the last before
the reject slot. -/
theorem test_LosingFrameIsQueuedAgain_drive :
    (∀ m ∈ [6, 7, 30], (∀ q, q < m → (readBack m)[q]? = ownVote.frame.line[q]?) ∧
      ∃ b, ownVote.frame.line[m]? = some b ∧ (readBack m)[m]? = some (!b)) ∧
      (∀ q, q < ownVote.frame.rejectSlot → (ownVote.frame.line.take 31)[q]? = ownVote.frame.line[q]?) := by
  decide +kernel

/-- A lost bit ends the drive; a mismatch holds the line from the next bit through bit 33, the second end bit. -/
theorem test_holds :
    (∀ p < 40, 6 < p → ownVote.frame.holds (readBack 6) p = false) ∧
      (∀ p < 40, 30 < p → ownVote.frame.holds (readBack 30) p = decide (p ≤ 33)) := by decide +kernel

/-- A PROPOSE of a latched request, and a WAKE, rejected once: each is queued again. -/
theorem test_RejectedFrameIsSentAgain_owner :
    proposing.onLink = true ∧ proposing.sendingKind = some .propose ∧ (proposing.slot .propose).purgeMark = false ∧
      (proposing.slot .propose).queued = none ∧ (proposing.slot .propose).rejections < 7 ∧
      (∀ l, proposing.request.latch = some l → l.queued = true) ∧ sendingWake.onLink = true ∧
      sendingWake.sendingKind = some .wake ∧ (sendingWake.slot .wake).rejections < 7 ∧
      sendingWake.wake.mark.isSome = true := by
  refine ⟨by decide, by decide +kernel, rfl, rfl, by decide, ?_, by decide, by decide +kernel, by decide, rfl⟩
  rintro l ⟨⟩
  rfl

/-- The frame on the line has a purge mark. -/
def marked (k : FrameKind) (s : State) : State := s.withSlot k { s.slot k with purgeMark := true }

/-- The station sending a forced PROPOSE of ENTER_OFF. -/
def forcing (s : State) : State :=
  s.withSlot .propose { Slot.blank with sending := some (station.ownReady 7 (.propose .enterOff true false)) }

/-- A barred station sending its CENSUS. -/
def sendingCensus : State :=
  (inPhase .mute station).withSlot .census { Slot.blank with sending := some (station.ownReady 0 (.census 1 .por)) }

/-- The same frames with a purge mark, or with a newer frame waiting, and forced PROPOSEs with and without a vote open. -/
theorem test_RejectedFrameIsSentAgain_dropped :
    ((marked .propose proposing).slot .propose).purgeMark = true ∧
      (marked .propose proposing).sendingKind = some .propose ∧
      losesTo ((marked .propose proposing).sendingValue .propose) 0 = true ∧
      ((marked .wake sendingWake).slot .wake).purgeMark = true ∧
      (((sendingVote 6).withSlot .vote { (sendingVote 6).slot .vote with queued := some (.ready ownVote) }).slot
        .vote).queued.isSome = true ∧
      (marked .propose (forcing voting)).votingOrStaging = true ∧
      ((marked .propose (forcing voting)).slot .propose).queued = none ∧
      (marked .propose (forcing voting)).sendingKind = some .propose ∧
      (marked .propose (forcing station)).votingOrStaging = false := by decide +kernel

/-- The eighth rejection, with a purge mark and without: LINK_FAULT either way. -/
theorem test_RejectedFrameIsSentAgain_eighth :
    ((marked .vote (sendingVote 7)).slot .vote).purgeMark = true ∧
      (marked .vote (sendingVote 7)).sendingKind = some .vote ∧
      (after (.frameRejected ⟨ownVote.frame.covered, []⟩) (marked .vote (sendingVote 7))).presence.muteCause = .linkFault := by
  decide +kernel

/-- Station 0 sends the frame that it discards alone. -/
theorem test_RejectedFrameIsSentAgain_discarded :
    sendingCensus.onLink = true ∧ sendingCensus.sendingKind = some .census ∧ station.onLink = true ∧
      station.sendingKind = none := by decide +kernel

theorem test_LateOpeningsAreCounted :
    voting.takes 1 ∧ staging.takes 0 ∧ unwinding.takes 1 ∧ descending.takes 1 ∧ station.takes 1 ∧
      voting.agreement.phase = .voting ∧ staging.agreement.phase = .staging ∧ unwinding.agreement.phase = .unwinding ∧
      descending.agreement.phase = .descending ∧ proposeValid .demote station.agreement.believed = false ∧
      wakeValid .rise station.agreement.believed = false := by
  unfold State.takes
  decide +kernel

/-- A forced PROPOSE of ENTER_REST, in every phase where ENTER_OFF would open, and in MUTE. -/
theorem test_LateOpeningsAreCounted_forced :
    Kind.enterRest ≠ .enterOff ∧
      (∀ s ∈ [station, voting, staging, unwinding, inPhase .mute station], s.takes 1 ∧ s.agreement.number.isSome = true) ∧
      (inPhase .mute station).recordOpen = false ∧ (inPhase .mute station).agreement.believed.isSome = true := by
  unfold State.takes
  decide +kernel

/-- Number 7 in this phase, with the station's own PROPOSE for its latched request on the line. -/
def lateProposing (s : State) : State :=
  { s.withSlot .propose (proposing.slot .propose) with request := proposing.request }

/-- The own PROPOSE comes late in each phase that has it so. -/
theorem test_LateOpeningsAreCounted_latch :
    (∀ s ∈ [lateProposing voting, lateProposing staging, lateProposing unwinding, lateProposing descending],
      s.onLink = true ∧
        (s.slot .propose).sending = some (s.ownReady 7 (.propose .enterOff false false)) ∧
        s.request.latch = some ⟨⟨.enterOff, false, .lines⟩, true⟩) ∧
      (proposing.ownReady 7 (.propose .enterOff false false)).frame = proposing.ownFrame 7 (.propose .enterOff false false) ∧
      (proposing.ownReady 7 (.propose .enterOff false false)).forReplaced = false := by
  decide +kernel

/-- This state with the station's own WAKE of input 1 on the line, under the announcing mark, and a PENDING entry queued. -/
def waking (w : WakeTarget) (s : State) : State :=
  { s.withSlot .wake { Slot.blank with sending := some (station.ownReady 7 (.wake w 1)) } with
    wake := { WakeUnit.blank with mark := some 1, queue := [⟨1, 0, 0, 0, .pending⟩] } }

/-- The own WAKE comes late in SETTLED, with the gates of announcement closed in RUN and open in REST for a RISE, and stale in
VOTING and MUTE. -/
theorem test_LateOpeningsAreCounted_wake :
    (waking .rise station).sends ((waking .rise station).ownFrame 7 (.wake .rise 1)) ∧
      ¬ (waking .rise station).gatesOpen ∧ wakeValid .rise (waking .rise station).agreement.believed = false ∧
      (waking .rise (believing .rest station)).gatesOpen ∧ wakeValid .rise (some .rest) = false ∧
      IsOldestPending (waking .rise (believing .rest station)).wake.queue ⟨1, 0, 0, 0, .pending⟩ ∧
      (waking .rise voting).discards (.wakeDelivered 0 7 .rise 1) ∧
      (waking .rise (inPhase .mute station)).discards (.wakeDelivered 0 7 .rise 1) := by
  refine ⟨⟨rfl, _, rfl, rfl⟩, by unfold State.gatesOpen; decide +kernel, by decide, by unfold State.gatesOpen; decide +kernel,
    by decide, ⟨[], [], rfl, rfl, nofun⟩, .inl rfl, .inr (.inr (.inr (.inl rfl)))⟩

theorem test_ForcedFrameSupersedes :
    voting.takes 1 ∧ staging.takes 0 ∧ unwinding.takes 1 ∧ voting.agreement.phase.defers = true ∧
      staging.agreement.phase.defers = true ∧ unwinding.agreement.phase.defers = true ∧
      voting.agreement.number = some 7 ∧ voting.agreement.record = some record ∧ voting.onLink = true ∧
      setHas record.participants 3 = true := by
  unfold State.takes
  decide +kernel

theorem test_ForcedFrameOpensDescent_silent :
    (inPhase .mute station).takes 1 ∧ (inPhase .mute station).agreement.phase = .mute ∧
      (inPhase .mute station).recordOpen = false ∧ (inPhase .mute station).agreement.believed.isSome = true ∧
      (inPhase .mute station).agreement.number = some 6 ∧ station.takes 1 ∧ station.agreement.phase = .settled := by
  unfold State.takes
  decide

/-- A RISE from OFF has C of 0 on this board, a RESUME from REST does not. -/
theorem test_WakeOpensStaging :
    (believing .off station).takes 1 ∧ (believing .off station).agreement.phase = .settled ∧
      (believing .off station).agreement.number = some 6 ∧ wakeValid .rise (some .off) = true ∧
      wakeValid .rise (some .stow) = true ∧ wakeValid .resume (some .rest) = true ∧
      (believing .off station).commitStage WakeTarget.rise.kind = 0 ∧ station.commitStage WakeTarget.resume.kind = 2 := by
  unfold State.takes
  decide +kernel

/-- The station's own WAKE is delivered and opens, with the mark on its entry; another's is not the station's. -/
theorem test_WakeOpensStaging_own :
    (waking .rise (believing .off station)).takes 0 ∧ (waking .rise (believing .off station)).sends ⟨0, 7, .wake .rise 1⟩ ∧
      (waking .rise (believing .off station)).wake.mark = some 1 ∧
      ¬ (waking .rise (believing .off station)).sends ⟨1, 7, .wake .rise 1⟩ ∧
      (waking .rise descending).takes 0 ∧ (waking .rise descending).sends ⟨0, 7, .wake .rise 1⟩ ∧
      (after (.wakeDelivered 0 7 .rise 1) (waking .rise (believing .off station))).wake.queue =
        [⟨1, 0, 0, 0, .announced⟩] := by
  refine ⟨by unfold State.takes; decide, ⟨rfl, _, rfl, rfl⟩, rfl, fun h => absurd h.1 (by decide),
    by unfold State.takes; decide, ⟨rfl, _, rfl, rfl⟩, by decide +kernel⟩

theorem test_WakeEndsDescent :
    descending.takes 1 ∧ descending.agreement.phase = .descending ∧ descending.agreement.number = some 7 ∧
      descending.agreement.record =
        some { record with outcome := .accepted, kind := .enterOff, forced := true, openingCause := .fault } := by
  unfold State.takes
  decide +kernel

/-- The own RISE ends a descent with every slot holding frames of its own kind, and its entry becomes ANNOUNCED. -/
theorem test_WakeEndsDescent_own :
    (∀ k, SlotHolds k ((waking .rise descending).slot k)) ∧ (waking .rise descending).wake.mark = some 1 ∧
      (after (.wakeDelivered 0 7 .rise 1) (waking .rise descending)).wake.queue = [⟨1, 0, 0, 0, .announced⟩] ∧
      (after (.wakeDelivered 0 7 .rise 1) (waking .rise descending)).wake.mark = none := by
  refine ⟨fun k => ?_, rfl, by decide +kernel, by decide +kernel⟩
  cases k
  case wake => exact ⟨nofun, nofun, fun r h => by cases h; rfl⟩
  all_goals exact ⟨nofun, nofun, nofun⟩

/-! The vote of number 7: station 2 answers first, or last, or station 4 answers without being awaited. -/

/-- The record with stations 0 and 3 answered. -/
def almost (a : Answer) : Record := { record with votes := #v[some .accept, some .accept, none, some a, none, none, none, none] }

/-- The record with station 2 not awaited. -/
def advisory : Record := { record with consent := 11 }

theorem test_VoteIsRecorded :
    voting.hears 2 ∧ voting.agreement.phase = .voting ∧ voting.agreement.record = some record ∧
      record.matches record.number 2 = true ∧ (2 : StationId) ≠ record.originator ∧ tabGet record.votes 2 = none ∧
      ({ record with votes := tabSet record.votes 2 (some .accept) } : Record).allVoted = false ∧
      (∀ d, Answer.accept ≠ .decline d) ∧ (holding .voting advisory).hears 2 ∧ advisory.matches advisory.number 2 = true ∧
      setHas advisory.awaited 2 = false := by
  refine ⟨?_, rfl, rfl, by decide, by decide, by decide, by decide, fun d => Answer.noConfusion, ?_, by decide, by decide⟩
  all_goals unfold State.hears; decide +kernel

theorem test_VoteDecides :
    (holding .voting (almost .accept)).takes 2 ∧ (almost .accept).matches (almost .accept).number 2 = true ∧
      (2 : StationId) ≠ (almost .accept).originator ∧ setHas (almost .accept).awaited 2 = true ∧
      tabGet (almost .accept).votes 2 = none ∧
      ({ almost .accept with votes := tabSet (almost .accept).votes 2 (some .accept) } : Record).allVoted = true ∧
      ({ almost .accept with votes := tabSet (almost .accept).votes 2 (some .accept) } : Record).someDefer = false ∧
      ({ almost .accept with votes := tabSet (almost .accept).votes 2 (some .defer) } : Record).allVoted = true ∧
      ({ almost .accept with votes := tabSet (almost .accept).votes 2 (some .defer) } : Record).someDefer = true ∧
      streakOf (holding .voting (almost .accept)).agreement.streaks .enterRest < 3 ∧
      3 ≤ streakOf (⟨3, 0, 0, 0⟩ : PerProposal Nat) .enterRest ∧ (almost .accept).kind.isWake = false := by
  unfold State.takes
  decide +kernel

/-- The deciding vote with this request under vote and this latch. -/
def underVote (q : Option Request) (l : Option Latch) : State :=
  { holding .voting (almost .accept) with request := { RequestUnit.blank with underVote := q, latch := l } }

/-- A request of the lines. -/
def lines : Request := ⟨.enterRest, true, .lines⟩

/-- A request of the lines under vote with the latch absent or taken, one of the button, and none. -/
theorem test_VoteDecides_answers :
    answersFor (some lines) = 1 ∧ answersFor (some ⟨.enterRest, false, .button⟩) = 0 ∧ answersFor none = 0 ∧
      (underVote (some lines) none).takes 2 ∧ (underVote (some lines) none).request.underVote = some lines ∧
      (underVote (some lines) none).request.latch = none ∧
      (underVote (some lines) (some ⟨lines, false⟩)).request.latch.isSome = true ∧
      (underVote none none).request.underVote = none ∧ (underVote none none).agreement.believed = some .run ∧
      (almost .accept).kind.isEntry = true ∧
      (after (.voteDelivered 2 7 .accept) (underVote (some lines) none)).request.result = .high ∧
      (after (.voteDelivered 2 7 .defer) (underVote (some lines) none)).request.deferHold = some 2000 ∧
      (after (.voteDelivered 2 7 .defer) (underVote (some lines) none)).request.latch = some ⟨lines, false⟩ := by
  unfold State.takes
  decide +kernel

/-- A vote about to be decided with this ABORT queued. -/
def aborting (a : AbortReason) : State :=
  (holding .voting (almost .accept)).withSlot .abort
    { Slot.blank with queued := some (.ready (station.ownReady 7 (.abort a))) }

theorem test_VoteDecides_abort :
    (aborting (.wake 3)).takes 2 ∧ (aborting (.wake 3)).agreement.phase = .voting ∧ (almost .accept).committed = false ∧
      1 ≤ (aborting (.wake 3)).commitStage (almost .accept).kind ∧
      ((aborting (.wake 3)).slot .abort).queued = some (.ready (station.ownReady 7 (.abort (.wake 3)))) ∧
      ((aborting .noQuorum).slot .abort).queued = some (.ready (station.ownReady 7 (.abort .noQuorum))) ∧
      (station.ownReady 7 (.abort .noQuorum)).frame.number = (almost .accept).number := by
  unfold State.takes
  decide +kernel

/-! Reports of stages. -/

/-- A record in which stations 0, 1 and 3 have reported stage 4. -/
def nearlyDone : Record := { record with outcome := .accepted, forward := Vector.replicate 12 11 }

theorem test_ForwardReportFillsDoneSets :
    staging.takes 2 ∧ staging.lastStage .enterRest = 4 ∧ descending.lastStage .enterOff = 3 ∧ staging.forced = false ∧
      descending.takes 2 ∧ descending.forced = true ∧ setHas record.participants 2 = true ∧
      setSubset record.participants (doneAt (enterForward record.forward 4 2) 4) = false := by
  unfold State.takes
  decide +kernel

/-- In a silent descent, and in UNWINDING with the set of stage S about to fill. -/
theorem test_ForwardReportFillsDoneSets_elsewhere :
    (inPhase .mute descending).takes 2 ∧ (inPhase .mute descending).silentDescent = true ∧
      (inPhase .mute descending).forced = true ∧ (inPhase .mute descending).lastStage .enterOff = 3 ∧
      setSubset record.participants (doneAt (enterForward record.forward 3 2) 3) = false ∧
      (holding .unwinding nearlyDone).takes 2 ∧ (holding .unwinding nearlyDone).agreement.phase = .unwinding ∧
      setSubset nearlyDone.participants (doneAt (enterForward nearlyDone.forward 4 2) 4) = true := by
  unfold State.takes
  decide +kernel

theorem test_LastForwardReportCloses :
    (holding .staging nearlyDone).takes 2 ∧ nearlyDone.forced = false ∧
      (holding .staging nearlyDone).lastStage nearlyDone.kind = 4 ∧
      setSubset nearlyDone.participants (doneAt (enterForward nearlyDone.forward 4 2) 4) = true ∧
      (holding .descending { nearlyDone with forced := true, kind := .enterOff }).takes 2 ∧
      setSubset nearlyDone.participants (doneAt (enterForward nearlyDone.forward 3 2) 3) = true ∧
      setSubset nearlyDone.participants (doneAt (enterForward nearlyDone.forward 1 2) 3) = false := by
  unfold State.takes
  decide +kernel

/-- A request waits as the last report of ENTER_REST comes, with quorum member 3 SILENT. -/
def closing (r : Record) : State :=
  let s := (holding .staging r).withPeer 3 { presentPeer with presence := .silent, silence := none }
  { s with request := { RequestUnit.blank with latch := some ⟨lines, false⟩ } }

/-- What the settle signal starts: the minimum dwell after ENTER_REST, the lockout and the refreshed-view set after RISE, the
demote timer with the REST image flag, PEER_LOST for a SILENT member of the quorum set; the latch is answered low. -/
theorem test_LastForwardReportCloses_settled :
    (closing nearlyDone).takes 2 ∧ (closing nearlyDone).system.minDwell ≠ 0 ∧
      ((closing nearlyDone).peerAt 3).presence = .silent ∧ setHas (closing nearlyDone).system.quorum 3 = true ∧
      latchAnswers (some .rest) (closing nearlyDone).request.latch = 1 ∧
      (after (.stageForwardDelivered 2 7 4) (closing nearlyDone)).wake.minDwell = some 3000 ∧
      (after (.stageForwardDelivered 2 7 4) (closing nearlyDone)).request.pulses = 1 ∧
      (after (.stageForwardDelivered 2 7 4) (closing nearlyDone)).faults.latched.map (fun e => (e.code, e.target)) =
        [(.peerLost, 3)] ∧
      Kind.rise.isWake = true ∧ (closing nearlyDone).system.lockout ≠ 0 ∧
      (after (.stageForwardDelivered 2 7 4) (closing { nearlyDone with kind := .rise })).request.lockout = some 1000 ∧
      (after (.stageForwardDelivered 2 7 4) (closing { nearlyDone with kind := .rise })).request.refresh = 15 ∧
      (closing { nearlyDone with kind := .rise }).forcedQueued = false := by
  unfold State.takes
  decide +kernel

/-- The closing report is awaited with four entries in the wake queue. -/
def announced : State :=
  { holding .staging nearlyDone with wake := { WakeUnit.blank with
      queue := [⟨1, 0, 0, 1, .announced⟩, ⟨2, 0, 0, 2, .announced⟩, ⟨4, 0, 0, 0, .pending⟩, ⟨3, 0, 0, 0, .pending⟩] } }

/-- The executor carrying out the last action of a stage. -/
def acting (k : Nat) (a : Action) : State :=
  withExec (fun e => { e with sub := .acting, cursor := some k, actionCursor := some 0, running := some (.forward k a) }) staging

/-- The last report comes while an action of the executor's own is in progress, with an ANNOUNCED entry for the second and
for the third time, and one whose input the target state does not allow. -/
theorem test_LastForwardReportCloses_working :
    (acting 3 (.change (.drop 0) true)).executor.running.isSome = true ∧ announced.agreement.phase = .staging ∧
      announced.takes 2 ∧ announced.agreement.record = some nearlyDone ∧
      (announced.wakeDef 1).allowedIn nearlyDone.kind.target = true ∧
      (announced.wakeDef 4).allowedIn nearlyDone.kind.target = false ∧
      announced.wake.queue.map (fun e => (e.input, e.attempts, e.state)) =
        [(1, 1, .announced), (2, 2, .announced), (4, 0, .pending), (3, 0, .pending)] := by
  unfold State.takes
  decide +kernel

theorem test_UnwindReportFillsDoneSets :
    unwinding.takes 2 ∧ unwinding.agreement.phase = .unwinding ∧ setHas record.participants 2 = true ∧
      unwinding.lastStage .enterRest = 4 ∧
      setSubset record.participants (doneAt (enterUnwind record.unwind 4 4 2) 1) = false ∧
      setSubset record.participants (doneAt (enterUnwind (Vector.replicate 12 11) 1 4 2) 1) = true := by
  unfold State.takes
  decide +kernel

theorem test_UnwindReportFillsDoneSets_evaluated :
    (holding .unwinding { record with unwind := Vector.replicate 12 11 }).agreement.believed = some .run ∧
      (holding .unwinding { record with unwind := Vector.replicate 12 11 }).takes 2 := by
  unfold State.takes
  decide

/-- In STAGING, in a descent and in a silent one; and a report of level 2 at S = 4, which fills the sets of 2 to 4. -/
theorem test_UnwindReportFillsDoneSets_elsewhere :
    staging.takes 2 ∧ staging.agreement.phase = .staging ∧ descending.takes 2 ∧ descending.agreement.phase = .descending ∧
      (inPhase .mute descending).takes 2 ∧ (inPhase .mute descending).silentDescent = true ∧
      ([1, 2, 4, 5].map fun m => setHas (doneAt (enterUnwind record.unwind 2 4 2) m) 2) = [false, true, true, false] := by
  unfold State.takes
  decide +kernel

theorem test_AbortStartsUnwinding :
    staging.takes 2 ∧ setHas record.participants 2 = true ∧ staging.committed = false ∧
      (holding .staging { record with outcome := .accepted, committed := true }).committed = true ∧
      (holding .staging { record with outcome := .accepted, committed := true }).takes 2 ∧ unwinding.takes 2 ∧
      descending.takes 2 := by
  unfold State.takes
  decide +kernel

/-- Number 7 accepted, with these records on the unwind stack, rail 0 up with power-good high, and signal 0 high. -/
def recorded (l : List UnwindRecord) : State :=
  withExec (fun e => { e with stack := l }) (powered (staging.withSignal 0 { state := .high, pulse := none }))

/-- The unwind top is 1: a RAISE or a SET_HIGH of stage 1 on the stack, a record of a lower stage, and an action under way. -/
theorem test_AbortStartsUnwinding_undo :
    (recorded [⟨7, 1, .raise 0, .low⟩]).takes 2 ∧
      min (greatestDone record.forward (staging.lastStage .enterRest) + 1) (staging.commitStage .enterRest) = 1 ∧
      (recorded [⟨7, 1, .raise 0, .low⟩]).executor.running = none ∧
      ((recorded []).railParams 0).enabled = true ∧ ((recorded []).rail 0).state = .on ∧
      (recorded []).powerGood 0 = .high ∧ (recorded [⟨7, 1, .setHigh 0, .low⟩]).executor.stack = [⟨7, 1, .setHigh 0, .low⟩] ∧
      (recorded []).executor.stack.head? = none ∧
      (withExec (fun e => { e with running := some (.forward 1 (.wait 10)) }) staging).executor.running.isSome = true := by
  unfold State.takes
  decide +kernel

/-- A DROP of stage 1 on the stack, with rail 0 off and power-good low. -/
theorem test_AbortStartsUnwinding_undoDrop :
    (withRail0 (Rail.still .off) (withExec (fun e => { e with stack := [⟨7, 1, .drop 0, .high⟩] }) staging)).takes 2 ∧
      ((withRail0 (Rail.still .off) staging).rail 0).state = .off ∧ staging.powerGood 0 = .low ∧
      (staging.railParams 0).enabled = true ∧ staging.executor.running = none := by
  unfold State.takes
  decide +kernel

theorem test_AbortEndsVote :
    voting.takes 1 ∧ voting.agreement.phase = .voting ∧ voting.agreement.record = some record ∧
      setHas record.participants 1 = true ∧ setHas record.awaited 2 = true ∧ tabGet record.votes 2 = none ∧
      (2 : StationId) ≠ voting.me ∧ (voting.peerAt 2).misses = 0 ∧
      2 ≤ ((voting.withPeer 2 { presentPeer with misses := 2 }).peerAt 2).misses := by
  unfold State.takes
  decide +kernel

/-! BEAT and CENSUS. -/

/-- A settled BEAT of this state that lists nobody. -/
def settledBeat (x : SystemState) : BeatBody := ⟨x, false, .settled, 0, 0⟩

theorem test_BeatIsMirrored :
    station.hears 1 ∧ station.agreement.phase.takesPart = true ∧ setHas (settledBeat .run).exclusion station.me = false := by
  unfold State.hears
  decide

/-- A barred station with its retry timer running, barred by these. -/
def barredBy (l : StationSet) : State :=
  { inPhase .mute station with
    presence := { station.presence with
      muteCause := .barred, barring := l, barredRetry := some 1000, beatTimer := none } }

/-- Station 1 alone bars the station, or stations 1 and 2 do. -/
theorem test_BeatIsMirrored_leaving :
    (barredBy 2).hears 1 ∧ (barredBy 2).agreement.phase = .mute ∧ (barredBy 2).presence.muteCause = .barred ∧
      (barredBy 2).recordOpen = false ∧ setHas (settledBeat .run).exclusion (barredBy 2).me = false ∧
      setDrop (barredBy 2).presence.barring 1 = 0 ∧ setDrop (barredBy 6).presence.barring 1 ≠ 0 ∧
      ((barredBy 2).rail 0).state = .on := by
  unfold State.hears
  decide +kernel

/-- A barred station whose retry expiry is held, with or without an open flag heard from station 2. -/
def retrying (o : Bool) : State :=
  let s := (barredBy 6).withPeer 2 { presentPeer with lastOpen := o }
  { s with presence := { s.presence with barredRetry := none, retryHeld := true } }

/-- The station sending its own BEAT. -/
def sendingBeat : State :=
  station.withSlot .beat { Slot.blank with sending := some (station.ownReady 6 (.beat (settledBeat .run))) }

/-- A barred station whose retry expired while it heard an open flag: a BEAT from station 1 ends that, or station 2 still
has its flag open. -/
theorem test_BeatIsMirrored_held :
    (retrying false).hears 1 ∧ (retrying false).agreement.phase = .mute ∧ (retrying false).presence.muteCause = .barred ∧
      (retrying false).presence.retryHeld = true ∧ setDrop (retrying false).presence.barring 1 ≠ 0 ∧
      (settledBeat .run).openFlag = false ∧
      (∀ j, j ≠ 1 → j ≠ (retrying false).me → ((retrying false).peerAt j).presence = .present →
        ((retrying false).peerAt j).lastOpen = false) ∧
      (∃ j, j ≠ 1 ∧ j ≠ (retrying true).me ∧ ((retrying true).peerAt j).presence = .present ∧
        ((retrying true).peerAt j).lastOpen = true) := by
  unfold State.hears
  decide +kernel

/-- The station sending its own BEAT. -/
theorem test_BeatIsMirrored_own :
    (sendingBeat.slot .beat).sending = some (sendingBeat.ownReady 6 (.beat (settledBeat .run))) ∧ sendingBeat.onLink = true :=
  by decide

theorem test_BarringBeatMutes :
    voting.hears 1 ∧ voting.agreement.phase.takesPart = true ∧ voting.agreement.phase.defers = true ∧
      setHas ({ settledBeat .run with exclusion := 1 } : BeatBody).exclusion voting.me = true ∧ census.hears 1 ∧
      census.agreement.phase = .census ∧ census.agreement.phase.defers = false ∧ census.recordOpen = false ∧
      (census.rail 0).state = .on := by
  unfold State.hears
  decide

/-- In the census state rail 0 stands as RUN has it; with every output low it stands as OFF has it. -/
theorem test_SettledBeatIsAdopted :
    census.hears 1 ∧ census.agreement.phase = .census ∧ census.presence.alignment = none ∧
      setHas (settledBeat .run).exclusion census.me = false ∧ (settledBeat .run).phase = .settled ∧
      (settledBeat .run).openFlag = false ∧
      ({ census with channel := Channel.blank } : State).outputsDiffer (census.profileRow .off) = false ∧
      ({ census with channel := Channel.blank } : State).outputsDiffer (census.profileRow .run) = true := by
  unfold State.hears
  decide +kernel

/-- With rail 0 up, OFF differs in it alone; with every rail low and signal 0 high, in that signal alone. -/
theorem test_SettledBeatIsAdopted_aligned :
    (powered census).hears 1 ∧ (powered census).alignmentSteps ((powered census).profileRow .off) = [.drop 0] ∧
      ((powered census).rail 0).state = .on ∧ (powered census).powerGood 0 = .high ∧
      (∀ ch, ({ census with channel := Channel.blank } : State).railDiffers (census.profileRow .off) ch = false) ∧
      ({ census with channel := Channel.blank } : State).hears 1 := by
  unfold State.hears
  decide +kernel

/-- Census with these rails and signal 0 high, power-good of rail 0 high, and rail 0 at this level in STOW. -/
def unaligned (l : Level) (r0 r2 : RailState) : State :=
  let c := powered census
  { c with
    channel := { Channel.blank with
      rails := tabSet (tabSet Channel.blank.rails 0 (Rail.still r0)) 2 (Rail.still r2)
      signals := tabSet Channel.blank.signals 0 { state := .high, pulse := none } }
    loader := { c.loader with image := some { board with plan := { boardPlan with profile :=
      ⟨rowOf .high, rowOf .high, rowOf l, rowOf .low⟩ } } } }

/-- A first step that is a RAISE, with a signal behind it; a DROP that takes time behind one that does not (rail 2 has a
hold-down of 0 and reads low); and a DROP and a signal that complete at once. -/
theorem test_SettledBeatIsAdopted_steps :
    (unaligned .high .off .off).hears 1 ∧
      (unaligned .high .off .off).alignmentSteps ((unaligned .high .off .off).profileRow .stow) =
        [] ++ .raise 0 :: [.setLow 0] ∧
      (unaligned .high .off .off).stepTakesTime (.raise 0) = true ∧
      ((after (.beatDelivered 1 9 (settledBeat .stow)) (unaligned .high .off .off)).rail 0).state = .holdingUp ∧
      (unaligned .low .on .on).alignmentSteps ((unaligned .low .on .on).profileRow .stow) =
        [.drop 2] ++ .drop 0 :: [.setLow 0] ∧
      (unaligned .low .on .on).stepTakesTime (.drop 2) = false ∧
      (unaligned .low .on .on).stepTakesTime (.drop 0) = true ∧
      ((after (.beatDelivered 1 9 (settledBeat .stow)) (unaligned .low .on .on)).rail 2).state = .off ∧
      ((after (.beatDelivered 1 9 (settledBeat .stow)) (unaligned .low .on .on)).rail 0).state = .falling ∧
      (after (.beatDelivered 1 9 (settledBeat .stow)) (unaligned .low .on .on)).presence.alignment = some [.setLow 0] ∧
      (unaligned .low .off .on).alignmentSteps ((unaligned .low .off .on).profileRow .stow) = [.drop 2, .setLow 0] ∧
      (unaligned .low .off .on).stepTakesTime (.setLow 0) = false ∧
      (after (.beatDelivered 1 9 (settledBeat .stow)) (unaligned .low .off .on)).agreement.phase = .settled := by
  unfold State.hears
  decide +kernel

/-- A step behind an action in progress is held. -/
theorem test_SettledBeatIsAdopted_behind :
    (unaligned .high .falling .off).stepTakesTime (.raise 0) = true ∧
      ((after (.beatDelivered 1 9 (settledBeat .stow)) (unaligned .high .falling .off)).rail 0).held =
        [⟨.alignment, true⟩] := by decide +kernel

/-- Census with an alignment running. -/
def aligning (l : List Change) : State := { census with presence := { census.presence with alignment := some l } }

/-- The settle signal that ends census, with rail 0 in ON as RUN has it and the button's pin at its active level. -/
theorem test_SettledBeatIsAdopted_settled :
    (census.rail 0).state = .on ∧ census.railDiffers (census.profileRow .run) 0 = false ∧ census.buttonInput = some 0 ∧
      (after (.beatDelivered 1 9 (settledBeat .run)) census).wake.commonWindow = some 100 ∧
      ((after (.beatDelivered 1 9 (settledBeat .run)) census).wakeInput 3).ownWindow = some 50 ∧
      ((after (.beatDelivered 1 9 (settledBeat .run)) census).rail 0).window = some 100 := by decide +kernel

theorem test_SettledBeatIsAdopted_withdrawn :
    (aligning [.raise 1]).hears 1 ∧ (aligning [.raise 1]).takes 1 ∧ (aligning [.raise 1]).agreement.phase = .census ∧
      (aligning [.raise 1]).presence.alignment.isSome = true ∧
      setHas ({ settledBeat .run with openFlag := true } : BeatBody).exclusion (aligning [.raise 1]).me = false := by
  unfold State.hears State.takes
  decide

theorem test_CensusJudgesSignature :
    station.onLink = true ∧ (1 : StationId) ≠ station.me ∧ station.agreement.phase.takesPart = true ∧
      station.loader.signature + 1 ≠ station.loader.signature := by decide +kernel

/-! Timers of a transaction. -/

/-- The vote with its window or guard running. -/
def timedVote (w g : Timer) : State := { voting with agreement := { voting.agreement with voteWindow := w, voteGuard := g } }

theorem test_VoteTimersQueueNoQuorum :
    (timedVote (some 30) none).agreement.voteWindow.isSome = true ∧ (timedVote (some 30) none).agreement.phase = .voting ∧
      ((timedVote (some 30) none).slot .abort).queued = none ∧
      (timedVote none (some 60)).agreement.voteGuard.isSome = true ∧
      ((timedVote none (some 60)).slot .abort).queued = none ∧ station.agreement.voteWindow = none ∧
      station.agreement.voteGuard = none := by decide

/-- The executor waiting for a stage with this use of the barrier timer. -/
def barrierOf (use : BarrierUse) (cursor : Nat) (s : State) : State :=
  withExec (fun e => { e with sub := .waiting, cursor := some cursor, barrier := some ⟨use, 500⟩ }) s

/-- The record accepted and committed. -/
def committedRecord : Record := { record with outcome := .accepted, committed := true }

theorem test_BarrierExpiryAbortsOrStalls :
    (barrierOf .stage 2 staging).agreement.phase = .staging ∧ (barrierOf .stage 2 staging).forced = false ∧
      (barrierOf .stage 2 staging).barrierIn .stage = true ∧ (barrierOf .stage 2 staging).executor.sub = .waiting ∧
      2 ≤ (barrierOf .stage 2 staging).lastStage (barrierOf .stage 2 staging).kind ∧
      (barrierOf .stage 2 staging).committed = false ∧ ((barrierOf .stage 2 staging).slot .abort).queued = none ∧
      (barrierOf .completion 5 staging).barrierIn .completion = true ∧
      (barrierOf .stage 4 (holding .staging committedRecord)).committed = true ∧
      ((barrierOf .stage 4 (holding .staging committedRecord)).slot .fault).queued = none ∧
      (barrierOf .reverse 1 unwinding).barrierIn .reverse = true ∧
      (barrierOf .reverse 1 unwinding).agreement.phase = .unwinding ∧
      ((barrierOf .reverse 1 unwinding).slot .fault).queued = none := by decide +kernel

theorem test_DescentRecordsMissingAndFaults :
    (barrierOf .stage 2 descending).agreement.phase = .descending ∧ (barrierOf .stage 2 descending).forced = true ∧
      (barrierOf .stage 2 descending).barrierIn .stage = true ∧ (barrierOf .stage 2 descending).executor.sub = .waiting ∧
      (barrierOf .stage 2 descending).executor.cursor = some 2 ∧ 2 ≤ descending.lastStage .enterOff ∧
      descending.takes 1 ∧ record.faults.length < 4 ∧
      ¬ (List.replicate 4 ((.stall : FaultCode), (1 : StationId))).length < 4 := by
  unfold State.takes
  decide +kernel

theorem test_ClosingWaitClosesDescent :
    (barrierOf .closing 4 descending).barrierIn .closing = true ∧
      (barrierOf .closing 4 descending).agreement.phase = .descending ∧
      (barrierOf .closing 4 (inPhase .mute descending)).barrierIn .closing = true ∧
      (inPhase .mute { descending with presence := { descending.presence with muteCause := .linkFault } }).agreement.phase
        = .mute := by decide

/-- Slots with nothing in them fit. -/
theorem linkFits_blank {s : State} (h : ∀ k, s.slot k = Slot.blank) : LinkFits s := by
  refine ⟨fun k => ?_, fun j k hj => ?_, fun _ k _ => ?_⟩
  · rw [h k]
    exact ⟨nofun, nofun, nofun⟩
  · rw [h j] at hj
    exact absurd rfl hj
  · rw [h k]
    exact ⟨rfl, rfl⟩

/-- A silent descent about to close, for this cause of MUTE and this barring set. -/
def closingSilent (c : MuteCause) (l : StationSet) : State :=
  let s := barrierOf .closing 4 (inPhase .mute descending)
  { s with presence := { s.presence with muteCause := c, barring := l } }

theorem test_ClosingWaitClosesDescent_silent :
    (∀ c l, LinkFits (closingSilent c l)) ∧ (closingSilent .linkFault 0).barrierIn .closing = true ∧
      (closingSilent .barred 2).presence.barring ≠ 0 ∧ (closingSilent .barred 0).presence.muteCause = .barred ∧
      (closingSilent .barred 0).agreement.phase = .mute :=
  ⟨fun _ _ => linkFits_blank fun k => by cases k <;> rfl, by decide, by decide, by decide, by decide⟩

/-- A silent descent closes in OFF and stays MUTE; with the barring set empty the station goes to CENSUS. -/
theorem test_step_closingSilent :
    (after .closingWaitExpiry (closingSilent .barred 2)).agreement.phase = .mute ∧
      (after .closingWaitExpiry (closingSilent .barred 2)).agreement.believed = some .off ∧
      (after .closingWaitExpiry (closingSilent .barred 0)).agreement.phase = .census ∧
      (after .closingWaitExpiry (closingSilent .barred 0)).agreement.believed = none := by decide +kernel

/-- A silent descent whose set of stage S the report of station 2 fills, for this cause of MUTE and this barring set. -/
def fillingSilent (c : MuteCause) (l : StationSet) : State :=
  let s := holding .mute { nearlyDone with kind := .enterOff, forced := true, openingCause := .fault }
  { s with presence := { s.presence with muteCause := c, barring := l } }

/-- The report closes the silent descent: the station stays MUTE, or goes to CENSUS where nobody bars it any more. -/
theorem test_LastForwardReportCloses_silent :
    (∀ c l, LinkFits (fillingSilent c l)) ∧ (fillingSilent .barred 0).takes 2 ∧
      (fillingSilent .barred 0).silentDescent = true ∧ (fillingSilent .barred 0).forced = true ∧
      (fillingSilent .barred 0).lastStage .enterOff = 3 ∧
      (after (.stageForwardDelivered 2 7 3) (fillingSilent .linkFault 0)).agreement.phase = .mute ∧
      (after (.stageForwardDelivered 2 7 3) (fillingSilent .barred 2)).agreement.believed = some .off ∧
      (after (.stageForwardDelivered 2 7 3) (fillingSilent .barred 2)).channel = (fillingSilent .barred 2).channel ∧
      (after (.stageForwardDelivered 2 7 3) (fillingSilent .barred 0)).agreement.phase = .census :=
  ⟨fun _ _ => linkFits_blank fun k => by cases k <;> rfl, by unfold State.takes; decide, by decide, by decide, by decide +kernel,
    by decide +kernel, by decide +kernel, by decide +kernel, by decide +kernel⟩

/-! Holds. -/

/-- The station with a request waiting. -/
def waitingRequest : State :=
  { station with request := { RequestUnit.blank with
      latch := some ⟨⟨.enterRest, true, .lines⟩, false⟩, deferHold := some 2000 } }

/-- SETTLED in REST with the REST image flag set and the demote timer running. -/
def demoting : State :=
  { believing .rest station with
    agreement := { (believing .rest station).agreement with restImage := true }
    wake := { WakeUnit.blank with demote := some 60000 } }

theorem test_HoldEndProposes :
    waitingRequest.request.deferHold.isSome = true ∧ waitingRequest.request.lockout = none ∧
      waitingRequest.request.latch = some ⟨⟨.enterRest, true, .lines⟩, false⟩ ∧ waitingRequest.agreement.phase = .settled ∧
      waitingRequest.agreement.believed = some .run ∧ waitingRequest.request.refresh = 0 ∧
      waitingRequest.forcedQueued = false ∧ waitingRequest.forcedSending = false ∧ demoting.wake.demote.isSome = true ∧
      demoting.agreement.phase = .settled ∧ demoting.agreement.believed = some .rest ∧ demoting.agreement.restImage = true ∧
      ({ station with wake := { WakeUnit.blank with demote := some 1 } } : State).agreement.restImage = false := by decide

/-- A PENDING entry. -/
def pendingEntry : WakeEntry := ⟨1, 0, 0, 0, .pending⟩

/-- SETTLED in OFF with a PENDING entry. -/
def wantsWake : State := { believing .off station with wake := { WakeUnit.blank with queue := [pendingEntry] } }

/-- The gates of announcement, open in OFF and in REST, with the oldest PENDING entry behind an ANNOUNCED one. -/
theorem test_HoldEndAnnounces :
    wantsWake.agreement.phase = .settled ∧ wantsWake.agreement.believed = some .off ∧ wantsWake.wake.mark = none ∧
      (∀ j, setHas wantsWake.system.quorum j = true → j = wantsWake.me ∨ (wantsWake.peerAt j).presence = .present) ∧
      IsOldestPending wantsWake.wake.queue pendingEntry ∧
      IsOldestPending [⟨2, 0, 0, 1, .announced⟩, pendingEntry, ⟨3, 0, 0, 0, .pending⟩] pendingEntry ∧
      (believing .rest wantsWake).agreement.believed = some .rest ∧ (∀ e ∈ station.wake.queue, e.state ≠ .pending) :=
  ⟨rfl, rfl, rfl, by decide +kernel, ⟨[], [], rfl, rfl, nofun⟩, ⟨[⟨2, 0, 0, 1, .announced⟩], [⟨3, 0, 0, 0, .pending⟩], rfl,
    rfl, by decide⟩, rfl, by decide⟩

/-- The gates closed one by one: another phase, RUN, UNKNOWN, the mark, the dwell in REST, the fault hold, a SILENT member of
the quorum set. -/
theorem test_HoldEndAnnounces_closed :
    voting.agreement.phase ≠ .settled ∧ station.agreement.believed = some .run ∧ census.agreement.believed = none ∧
      (waking .rise wantsWake).wake.mark.isSome = true ∧
      ({ believing .rest wantsWake with wake := { wantsWake.wake with minDwell := some 1, faultHold := some 1 } } :
        State).wake.minDwell.isSome = true ∧
      ∃ j, setHas (wantsWake.withPeer 3 { presentPeer with presence := .silent }).system.quorum j = true ∧
        j ≠ wantsWake.me ∧ ((wantsWake.withPeer 3 { presentPeer with presence := .silent }).peerAt j).presence ≠ .present :=
  by decide +kernel

/-! Presence timers. -/

theorem test_SilentPeerIsLost :
    (station.peerAt 1).silence.isSome = true ∧ (station.peerAt 1).presence = .present ∧
      setHas station.system.quorum 1 = true ∧ station.txnOpen = false ∧ station.agreement.believed = some .run := by decide

/-- The same where the last member of the barring set goes SILENT in MUTE. -/
theorem test_SilentPeerIsLost_barred :
    ((barredBy 2).peerAt 1).silence.isSome = true ∧ ((barredBy 2).peerAt 1).presence = .present ∧
      setDrop (barredBy 2).presence.barring 1 = 0 ∧ setHas (barredBy 2).system.quorum 1 = true ∧
      (barredBy 2).txnOpen = false ∧ (barredBy 2).agreement.believed = some .run ∧
      (after (.silenceTimerExpiry 1) (barredBy 2)).agreement.phase = .census := by decide +kernel

/-- The station with this beat debt. -/
def owing (n : Nat) : State := { station with presence := { station.presence with debt := n } }

theorem test_BeatTickRaisesDebt :
    (owing 3).presence.beatTimer.isSome = true ∧ (owing 3).agreement.phase ≠ .mute ∧ (owing 3).presence.debt = 3 ∧
      1 ≤ (owing 1).presence.debt ∧ (owing 0).presence.debt = 0 ∧ State.reset.presence.beatTimer = none := by decide

/-- Eight conditions latched, none of them BEAT_OVERDUE, with this unrecorded count. -/
def fullList (n : Nat) (s : State) : State :=
  { s with faults := { latched := List.replicate 8 (entry .notice), unrecorded := n, deferred := [] } }

/-- A condition met with a full list: its pair is not held, and the unrecorded count rises, at most to 255; or its pair is held
(R99). -/
theorem test_Latched_full :
    8 ≤ (fullList 0 (owing 3)).faults.latched.length ∧
      (∀ e ∈ (fullList 0 (owing 3)).faults.latched, ¬ (e.code = .beatOverdue ∧ e.target = noTarget)) ∧
      (∃ e ∈ (fullList 0 (owing 3)).faults.latched, e.code = .railLoss ∧ e.target = 0) ∧
      (after .beatTick (fullList 254 (owing 3))).faults.unrecorded = 255 ∧
      (after .beatTick (fullList 255 (owing 3))).faults.unrecorded = 255 ∧
      (after .beatTick (fullList 0 (owing 3))).faults.latched = (fullList 0 (owing 3)).faults.latched := by decide +kernel

theorem test_BeatTickRaisesDebt_filled : (owing 1).beatInSlot = false ∧ census.beatInSlot = false ∧
    queuedBeat.beatInSlot = true := by decide

/-- A barred station with its retry timer running. -/
def barred : State := barredBy 2

theorem test_CensusTimers :
    census.presence.censusWindow.isSome = true ∧ census.openHeard = false ∧
      (census.withPeer 1 { presentPeer with lastOpen := true }).openHeard = true ∧
      ({ census with channel := Channel.blank } : State).outputsDiffer (census.profileRow .off) = false ∧
      barred.presence.barredRetry.isSome = true ∧ barred.openHeard = false ∧ barred.agreement.phase = .mute ∧
      barred.presence.muteCause = .barred ∧ (barred.withPeer 1 { presentPeer with lastOpen := true }).openHeard = true := by
  decide +kernel

/-! Rails. -/

/-- A rail in this state with its counter running for this issuer. -/
def rail (x : RailState) (iss : Issuer) (n : Nat) : Rail :=
  { Rail.still x with counter := some 500, issuer := some iss, bounces := n }

/-- The channel with an action of the executor in progress. -/
def executing (r : Rail) (x : Change) (s : State) : State :=
  withExec (fun e => { e with sub := .acting, cursor := some 1, actionCursor := some 0, running := some (.forward 1 (.change x true)) })
    (s.withRail 0 r)

theorem test_RailWindowExpiryFails :
    ((executing (rail .rising .executor 0) (.raise 0) staging).rail 0).state = .rising ∧
      ((executing (rail .falling .executor 0) (.drop 0) staging).rail 0).state = .falling ∧
      ((executing (rail .rising .executor 0) (.raise 0) staging).rail 0).held = [] ∧
      staging.presence.alignment = none ∧ staging.forced = false ∧
      (executing (rail .rising .executor 0) (.raise 0) staging).executor.running.isSome = true ∧
      ((powered station).withRail 0 (rail .holdingUp .correction 2)).powerGood 0 = .high ∧
      (station.withRail 0 (rail .holdingDown .correction 2)).powerGood 0 = .low ∧
      (station.railParams 0).dropoutThreshold ≤ (rail .holdingUp .correction 2).bounces + 1 := by decide +kernel

/-- The undo of a DROP raises rail 0. -/
def undoing : State :=
  withExec (fun e => { e with running := some (.undo ⟨7, 1, .drop 0, .high⟩) })
    (unwinding.withRail 0 (rail .rising .executor 0))

/-- Outside a transaction a failing rail asks for a descent, and an undo can be what fails. -/
theorem test_RailWindowExpiryFails_fault :
    station.agreement.phase.requestsFault = true ∧ (station.slot .fault).queued = none ∧
      ((station.withRail 0 (rail .rising .correction 0)).rail 0).issuer ≠ some .executor ∧
      (undoing.rail 0).state = .rising ∧ (undoing.rail 0).issuer = some .executor ∧ (undoing.rail 0).held = [] ∧
      undoing.executor.running.isSome = true ∧ undoing.forced = false ∧ undoing.presence.alignment = none := by
  decide +kernel

theorem test_HoldEndCompletesRailAction :
    ((station.withRail 0 (rail .holdingUp .correction 0)).rail 0).state = .holdingUp ∧
      ((station.withRail 0 (rail .holdingDown .detached 0)).rail 0).state = .holdingDown ∧
      ((station.withRail 0 (rail .holdingUp .correction 0)).rail 0).held = [] ∧
      station.agreement.phase.monitors = true ∧
      (executing (rail .holdingDown .executor 0) (.drop 0) staging).executor.running =
        some (.forward 1 (.change (.drop 0) true)) ∧
      (executing (rail .holdingDown .executor 0) (.drop 0) staging).executor.sub = .acting ∧ staging.forced = false ∧
      1 ≤ staging.commitStage staging.kind ∧ staging.agreement.phase = .staging ∧ staging.committed = false ∧
      (holding .staging committedRecord).committed = true ∧
      (((aligning []).withRail 0 (rail .holdingDown .alignment 0)).rail 0).issuer = some .alignment ∧
      ((aligning []).withRail 0 (rail .holdingDown .alignment 0)).presence.alignment = some [] := by decide +kernel

/-- Alignment goes on behind a completed step: to a rail that takes time, or to signals and the end of census. -/
def goingOn (l : List Change) : State :=
  { (aligning l).withRail 1 (rail .holdingDown .alignment 0) with
    agreement := { census.agreement with believed := some .off, number := some 9 } }

theorem test_HoldEndCompletesRailAction_aligning :
    (goingOn [.drop 0, .setLow 0]).presence.alignment = some (.drop 0 :: [.setLow 0]) ∧
      ((goingOn [.drop 0]).rail 1).state = .holdingDown ∧ ((goingOn [.drop 0]).rail 1).held = [] ∧
      ((goingOn [.drop 0]).railParams 0).enabled = true ∧ (goingOn [.drop 0]).enable 0 = .high ∧
      (goingOn [.drop 0]).stepTakesTime (.drop 0) = true ∧
      ((after (.holdDownEnd 1) (goingOn [.drop 0, .setLow 0])).rail 0).state = .holdingDown ∧
      (after (.holdDownEnd 1) (goingOn [.drop 0, .setLow 0])).presence.alignment = some [.setLow 0] ∧
      (after (.holdDownEnd 1) (goingOn [.setLow 0])).agreement.phase = .settled := by decide +kernel

/-- A rail in ON with its filter running after this many dropouts. -/
def dropping (n : Nat) : Rail := { Rail.still .on with filter := some 20, window := some 100, dropouts := n }

/-- Below the threshold of 3 and at it, for bounces and dropouts; rail 2 has holds of 0 and rail 1 is tolerant. -/
theorem test_PowerGoodRises :
    (powered station).powerGood 0 = .high ∧ station.powerGood 0 = .low ∧ 0 < (station.railParams 0).holdUp ∧
      (station.railParams 2).holdUp = 0 ∧ (rail .rising .detached 0).issuer = some .detached ∧
      (rail .holdingDown .correction 1).bounces + 1 < (station.railParams 0).dropoutThreshold ∧
      (Rail.still .on).filter = none ∧ (dropping 1).filter.isSome = true ∧
      (dropping 1).dropouts + 1 < (station.railParams 0).dropoutThreshold ∧
      (station.railParams 0).dropoutThreshold ≤ (dropping 2).dropouts + 1 ∧ (station.railParams 0).tolerant = false ∧
      (station.railParams 1).tolerant = true ∧ voting.agreement.phase.defers = true := by decide +kernel

theorem test_PowerGoodFalls :
    (powered station).powerGood 0 = .high ∧
      (rail .holdingUp .correction 1).bounces + 1 < (station.railParams 0).dropoutThreshold ∧
      0 < (station.railParams 0).holdDown ∧ (station.railParams 2).holdDown = 0 ∧
      ({ Rail.still .on with window := some 100 } : Rail).window.isSome = true ∧
      ({ Rail.still .on with window := some 100 } : Rail).loss = false ∧ (Rail.still .on).window = none := by decide +kernel

theorem test_DropoutTimers :
    ((station.withRail 0 (dropping 0)).rail 0).filter.isSome = true ∧ (station.railParams 0).tolerant = false ∧
      (station.railParams 1).tolerant = true ∧ ((voting.withRail 1 (dropping 0)).rail 1).filter.isSome = true ∧
      voting.agreement.phase.defers = true ∧ ((station.withRail 0 (dropping 0)).rail 0).window.isSome = true := by
  decide +kernel

/-! Signals and senses. -/

/-- The station with signal 0 pulsing. -/
def pulsing (s : State) : State :=
  { s with channel := { s.channel with signals := tabSet s.channel.signals 0 { state := .pulsing .low, pulse := some 5 } } }

/-- The station with an AWAIT of sense 0 and a WAIT running. -/
def counting (s : State) : State :=
  { s with channel := { s.channel with awaits := tabSet s.channel.awaits 0 (some 50), waitCounter := some 10 } }

theorem test_SignalAndSenseEvents :
    (pulsing station).signalAt 0 = { state := .pulsing .low, pulse := some 5 } ∧
      runsPulse 0 station.executor.running = false ∧ runsAwait 0 (some .high) station.executor.running = false ∧
      (tabGet (counting station).channel.awaits 0).isSome = true ∧
      runsAwait 0 none (acting 3 (.await 0 .high 50)).executor.running = true ∧ staging.forced = false ∧
      (counting station).channel.waitCounter.isSome = true ∧ runsWait station.executor.running = false := by decide +kernel

theorem test_SignalAndSenseEvents_ending :
    ((pulsing (acting 1 (.pulse 0 5))).signalAt 0).pulse.isSome = true ∧
      (counting (acting 2 (.wait 10))).channel.waitCounter.isSome = true ∧
      (acting 1 (.pulse 0 5)).agreement.phase = .staging ∧
      (acting 1 (.pulse 0 5)).executor.running = some (.forward 1 (.pulse 0 5)) ∧
      (acting 1 (.pulse 0 5)).executor.sub = .acting ∧ (acting 1 (.pulse 0 5)).executor.halted = false ∧
      (acting 1 (.pulse 0 5)).executor.cursor = some 1 ∧ (acting 1 (.pulse 0 5)).executor.actionCursor = some 0 ∧
      ((acting 1 (.pulse 0 5)).actionsAt (acting 1 (.pulse 0 5)).kind 1).length = 0 + 1 ∧
      ((acting 2 (.wait 10)).actionsAt (acting 2 (.wait 10)).kind 2).length = 0 + 1 ∧
      ((acting 3 (.await 0 .high 50)).actionsAt (acting 3 (.await 0 .high 50)).kind 3).length = 0 + 1 := by decide +kernel

/-- The same in a descent, heard or silent: an AWAIT that runs out completes there. Stage 1 of ENTER_OFF is followed by
stage 2, for which reports are missing; stage 3 is its last. -/
def actingDown (p : Phase) (k : Nat) (a : Action) : State :=
  inPhase p (withExec
    (fun e => { e with sub := .acting, cursor := some k, actionCursor := some 0, running := some (.forward k a) }) descending)

theorem test_SignalAndSenseEvents_descent :
    (counting (actingDown .descending 1 (.await 0 .high 50))).forced = true ∧
      runsAwait 0 none (actingDown .descending 1 (.await 0 .high 50)).executor.running = true ∧
      (tabGet (counting (actingDown .descending 1 (.await 0 .high 50))).channel.awaits 0).isSome = true ∧
      (actingDown .descending 1 (.wait 10)).silentDescent = false ∧
      (actingDown .mute 1 (.wait 10)).silentDescent = true ∧ (actingDown .mute 1 (.wait 10)).shortOf 2 ≠ 0 ∧
      1 ≠ (actingDown .mute 1 (.wait 10)).lastStage (actingDown .mute 1 (.wait 10)).kind ∧
      ((actingDown .mute 1 (.wait 10)).actionsAt (actingDown .mute 1 (.wait 10)).kind 1).length = 0 + 1 ∧
      3 = (actingDown .mute 3 (.await 0 .high 50)).lastStage (actingDown .mute 3 (.await 0 .high 50)).kind ∧
      ((actingDown .mute 3 (.await 0 .high 50)).actionsAt (actingDown .mute 3 (.await 0 .high 50)).kind 3).length = 0 + 1 := by
  decide +kernel

/-! Requests, wake inputs and the port. -/

theorem test_SlpreqLatchesRequest :
    station.agreement.phase.loaded = true ∧ State.reset.agreement.phase.loaded = false ∧
      waitingRequest.request.latch = some ⟨⟨.enterRest, true, .lines⟩, false⟩ ∧ station.request.latch = none := by decide

/-- Asleep, so that qualification runs. -/
def sleeping : State := believing .stow station

theorem test_LevelInputQualifies :
    (sleeping.wakeDef 2).kind = .level ∧ Level.low ≠ (sleeping.wakeDef 2).activeLevel ∧
      Level.high = (sleeping.wakeDef 2).activeLevel ∧ sleeping.qualifies = true ∧ station.qualifies = false ∧
      (sleeping.wakeInput 2).level = .idle ∧
      ((sleeping.withWakeInput 2 { WakeInput.blank with level := .holding, hold := some 20 }).wakeInput 2).hold.isSome = true ∧
      (∀ e ∈ sleeping.wake.queue, e.input ≠ 2) := by decide +kernel

/-- A LEVEL input at the end of its hold while a vote of ENTER_REST is open: input 2 is allowed in REST, input 4 is not;
no ABORT is queued, one of another cause is, or an ABORT(WAKE). -/
theorem test_LevelInputQualifies_abort :
    voting.agreement.phase = .voting ∧ voting.committed = false ∧ voting.kind.isEntry = true ∧
      (voting.wakeDef 2).allowedIn voting.kind.target = true ∧ (voting.slot .abort).queued = none ∧
      (∀ x, (station.ownReady 7 (.abort .noQuorum)).frame.body ≠ .abort (.wake x)) ∧
      ((aborting .noQuorum).slot .abort).queued = some (.ready (station.ownReady 7 (.abort .noQuorum))) ∧
      ((aborting (.wake 3)).slot .abort).queued = some (.ready (station.ownReady 7 (.abort (.wake 3)))) ∧
      (station.ownReady 7 (.abort (.wake 3))).frame.number = (aborting (.wake 3)).openNumber ∧
      (voting.wakeDef 4).allowedIn voting.kind.target = false ∧ descending.agreement.phase ≠ .settled ∧
      descending.agreement.phase ≠ .voting := by decide +kernel

/-- The edge count at 65534 and at 65535, below the threshold of 3 and at it. -/
theorem test_CountWindowQualifies :
    (sleeping.wakeDef 3).kind = .count ∧ sleeping.qualifies = true ∧
      ((sleeping.withWakeInput 3 { WakeInput.blank with edges := 65534 }).wakeInput 3).edges < 65535 ∧
      65535 ≤ ((sleeping.withWakeInput 3 { WakeInput.blank with edges := 65535 }).wakeInput 3).edges ∧
      (sleeping.wakeInput 3).overflow = false ∧ station.qualifies = false ∧
      ((sleeping.withWakeInput 3 { WakeInput.blank with edges := 2, ownWindow := some 50 }).wakeInput 3).edges
        < (sleeping.wakeDef 3).threshold ∧
      (sleeping.wakeDef 3).threshold ≤ ({ WakeInput.blank with edges := 3, ownWindow := some 50 } : WakeInput).edges ∧
      ({ sleeping with wake := { WakeUnit.blank with commonWindow := some 100 } } : State).wake.commonWindow.isSome = true ∧
      sleeping.isCommonInput 1 = true ∧ sleeping.isCommonInput 3 = false := by decide +kernel

/-- The button held at its active level. -/
def held (s : State) : State := { s with pins := { s.pins with wake := tabSet s.pins.wake 0 .high } }

theorem test_ButtonEvents :
    (station.wakeDef 0).kind = .button ∧ station.readsButton = true ∧ (station.wakeDef 2).kind ≠ .button ∧
      census.readsButton = false ∧ station.buttonInput = some 0 ∧ (held station).wakeActive 0 = true ∧
      station.wakeActive 0 = false ∧ asleep sleeping.agreement.believed = true ∧
      asleep station.agreement.believed = false ∧ station.longPressReported = true ∧ sleeping.longPressReported = false ∧
      ({ station with wake := { WakeUnit.blank with debounce := some 20, longPress := some 4000, pressed := true } } :
        State).wake.longPress.isSome = true ∧ station.station.shortPress = .enterRest := by decide +kernel

theorem test_OtherTransfers :
    station.answers (write 0).addr = true ∧ station.answers elsewhere.addr = false ∧ 8 ≤ (8 : Byte).toNat ∧
      4 ≤ (4 : Byte).toNat ∧ (Instr.snapshotRead ⟨0x11, 3⟩).transferTo = some elsewhere.addr := by decide

/-- The station with something in every list that the port shows. -/
def shown : State :=
  { holding .descending { record with outcome := .accepted, forced := true, faults := [(.stall, 1)] } with
    wake := { WakeUnit.blank with queue := [pendingEntry], mark := some 1 }
    faults := { latched := [entry .severe], unrecorded := 0, deferred := [⟨0, true, 1, 1⟩] }
    executor := { Executor.idle with stack := [⟨7, 1, .drop 0, .high⟩] } }

theorem test_ReadCommandsSnapshot : shown.answers (write 0).addr = true ∧ CountsInRange shown := by
  unfold CountsInRange FaultListFits
  constructorm* _ ∧ _
  case right.right => rintro r ⟨⟩; decide
  all_goals decide

/-- A history entry, and a place that none holds. -/
theorem test_ReadCommandsSnapshot_history :
    (after (.abortDelivered 2 7 .noQuorum) voting).agreement.history[0]?.isSome = true ∧
      station.agreement.history[0]? = none := by decide +kernel

theorem test_ReadCommandsSnapshot_write :
    writtenCommand 0x10 [0x02, 4] = some (.peer (some 4) (write 0)) ∧ station.pending = [] ∧
      station.withPortWrite 0x10 [] = station := by decide +kernel

/-! ### Single steps -/

/-- The response bytes of STATUS, written out from the table of R163: SETTLED, RUN, number 6 present, STATEOK high, rail 0
in ON. -/
theorem test_step_status :
    (after (.status (write 1)) station).port.selected =
      some [1, 6, 4, 0, 0, 0, 0x80, 0, 0, 0, 0, 3, 0, 0, 0, 0, 0, 0] ∧
      (after (.status (write 1)) station).port.acks = [true, true, false] := by decide +kernel

/-- A read past the two bytes of a response (R162). -/
theorem test_step_read :
    (after (.snapshotRead ⟨0x10, 3⟩) (after (.ackFaults (write 0)) (withLists [entry .severe] []))).port.output = [1, 0, 0xFF] := by
  decide +kernel

/-- Load done queues CENSUS and enters CENSUS (R154, R150). -/
theorem test_step_loadDone :
    (after (.loadDone board) State.reset).agreement.phase = .census ∧
      ((after (.loadDone board) State.reset).slot .census).queued.isSome = true ∧
      (after (.loadDone { board with header := [] }) State.reset).agreement.phase = .configFault := by decide +kernel

/-- A RESTART keeps rail 0 high and enters LOADING (R79, R160). -/
theorem test_step_restart :
    (after (.restart (write 0)) station).enable 0 = .high ∧ (after (.restart (write 0)) station).agreement.phase = .loading ∧
      (after .por station).enable 0 = .low := by decide +kernel

/-- A proposal of station 1 opens the vote of number 7, and station 0 answers ACCEPT (R11, R32). -/
theorem test_step_propose :
    (after (.proposeDelivered 1 7 .enterRest true quiet) station).agreement.phase = .voting ∧
      ((after (.proposeDelivered 1 7 .enterRest true quiet) station).slot .vote).queued = some (.ready ownVote) := by
  decide +kernel

/-- The last ACCEPT starts the plan: stage 1 pulses signal 0 (R34, R46). -/
theorem test_step_accept :
    (after (.voteDelivered 2 7 .accept) (holding .voting (almost .accept))).agreement.phase = .staging ∧
      (after (.voteDelivered 2 7 .accept) (holding .voting (almost .accept))).signal 0 = .high ∧
      (after (.voteDelivered 2 7 (.decline .lockout)) voting).agreement.phase = .settled := by decide +kernel

/-- A FAULT opens a descent, whose stage 1 drops rail 0 (R13, R61). -/
theorem test_step_fault :
    (after (.faultDelivered 1 7 .stall 15) station).agreement.phase = .descending ∧
      (after (.faultDelivered 1 7 .stall 15) station).enable 0 = .low ∧
      (after (.faultDelivered 1 7 .stall 15) station).agreement.number = some 7 := by decide +kernel

/-- The last report of stage S completes ENTER_REST (R60). -/
theorem test_step_complete :
    (after (.stageForwardDelivered 2 7 4) (holding .staging nearlyDone)).agreement.phase = .settled ∧
      (after (.stageForwardDelivered 2 7 4) (holding .staging nearlyDone)).agreement.believed = some .rest := by
  decide +kernel

/-- An ABORT before commit unwinds from stage 1, where nothing was done (R82, R83). -/
theorem test_step_abort :
    (after (.abortDelivered 2 7 .timeout) staging).agreement.phase = .unwinding ∧
      (after (.abortDelivered 2 7 .noQuorum) voting).agreement.phase = .settled := by decide +kernel

/-- The end of a hold-down in a recorded DROP pushes its record with prior level HIGH (R86, R87). -/
theorem test_step_record :
    (after (.holdDownEnd 0) (executing (rail .holdingDown .executor 0) (.drop 0) staging)).executor.stack =
      [⟨7, 1, .drop 0, .high⟩] := by decide +kernel

/-- The end of the first pulse reports stage 1 (R53, R75). -/
theorem test_step_pulse :
    (after (.pulseEnd 0) (pulsing (acting 1 (.pulse 0 5)))).executor.sub = .reporting ∧
      ((after (.pulseEnd 0) (pulsing (acting 1 (.pulse 0 5)))).slot .stage).queued =
        some (.ready (station.ownReady 7 (.stage .forward 1))) := by decide +kernel

/-- A settled BEAT ends census (R151). -/
theorem test_step_adopt :
    (after (.beatDelivered 1 9 (settledBeat .run)) census).agreement.phase = .settled ∧
      (after (.beatDelivered 1 9 (settledBeat .run)) census).agreement.number = some 9 ∧
      (after (.beatDelivered 1 9 (settledBeat .run)) census).stateOk = true := by decide +kernel

/-- An edge of SLPREQ in RUN queues a PROPOSE at once (R20, R21). -/
theorem test_step_slpreq :
    ((after (.slpreqEdge .high .high .low) station).slot .propose).queued =
      some (.ready (station.ownReady 7 (.propose .enterOff false false))) := by decide +kernel

/-- The tick that makes the debt 4 latches BEAT_OVERDUE (R145). -/
theorem test_step_overdue :
    (after .beatTick (owing 3)).presence.debt = 4 ∧ (after .beatTick (owing 3)).faults.latched.length = 1 ∧
      (after .beatTick (owing 4)).faults.latched.length = 0 := by decide +kernel

/-- A step takes the front of the queue, and with none waiting counts one millisecond. -/
theorem test_step_queue :
    (step { station with pending := [.beatTick, .por] } = exec .beatTick { station with pending := [.por] }) ∧
      step station = .next { station with time := 1 } := ⟨rfl, rfl⟩

end Sys2Proof.Tests
end

section
/-! SUPPORT. What an opening and a close write of the record, the executor and the vote timers. -/

namespace Sys2Proof.Machine

open Sys2Proof

/-! ### The record at an opening and at a close -/

/-- What an opening writes of the agreement engine (R10). -/
theorem openTransaction_agreement (o : Opening) (p : Phase) (s : State) :
    (openTransaction o p s).agreement = { s.agreement with
      phase := p, number := some s.nextNumber
      record := some (newRecord o s.nextNumber s.participantsNow s.system.required s.time) } := by
  simp [openTransaction, State.withPhase, State.withAgreement]

theorem onRecord_record (f : Record → Record) (s : State) :
    (State.onRecord f s).agreement.record = s.agreement.record.map f := by
  unfold State.onRecord
  split <;> simp [*]

/-- What a close writes of the record (R5, R15). -/
theorem closeTransaction_record (o : TxnOutcome) (c : Cause) (send : Bool) (s : State) :
    (closeTransaction o c send s).agreement.record = s.agreement.record.map fun r => r.closed o c s.time := by
  simp only [closeTransaction, purgeTransaction_keeps, archive_keeps, judgeDeferred_keeps, settleBelief_keeps, execIdle_keeps,
    stopVoteTimers_keeps, onRecord_record]

theorem closeTransaction_executor (o : TxnOutcome) (c : Cause) (send : Bool) (s : State) :
    (closeTransaction o c send s).executor = Executor.idle := by
  simp [closeTransaction, execIdle]

theorem closeTransaction_timers (o : TxnOutcome) (c : Cause) (send : Bool) (s : State) :
    (closeTransaction o c send s).agreement.voteWindow = none ∧
    (closeTransaction o c send s).agreement.voteGuard = none := by
  simp [closeTransaction, stopVoteTimers]

theorem closeSuperseded_record (who : Issuer → Bool) (c : Cause) (s : State) :
    (closeSuperseded who c s).agreement.record = s.agreement.record.map fun r => r.closed .superseded c s.time := by
  simp only [closeSuperseded, archive_keeps, judgeDeferred_keeps, purgeTransaction_keeps, answerUnderVote_keeps,
    stopVoteTimers_keeps, onRecord_record, execIdle_keeps, abandonWork_keeps]

theorem closeSuperseded_executor (who : Issuer → Bool) (c : Cause) (s : State) :
    (closeSuperseded who c s).executor = Executor.idle := by
  simp [closeSuperseded, execIdle]

theorem closeSuperseded_timers (who : Issuer → Bool) (c : Cause) (s : State) :
    (closeSuperseded who c s).agreement.voteWindow = none ∧ (closeSuperseded who c s).agreement.voteGuard = none := by
  simp [closeSuperseded, stopVoteTimers]

end Sys2Proof.Machine
end

section
/-! SUPPORT. The transaction invariant: what goes on within a transaction keeps it, and so does a close. -/

namespace Sys2Proof.Machine

open Sys2Proof

/-! ### A step within a transaction -/

/-- The fields of the record that the phase speaks of, but for the committed flag. -/
def Record.core (r : Record) : TxnNumber × Kind × Bool × TxnOutcome := (r.number, r.kind, r.forced, r.outcome)

/-- From one state to another the phase and the record go on as they were: no timer of the phase starts that stood, and the
executor does not leave IDLE. Only in STAGING can the committed flag change. -/
structure Continues (s t : State) : Prop where
  phase : t.agreement.phase = s.agreement.phase
  number : t.agreement.number = s.agreement.number
  core : t.agreement.record.map Record.core = s.agreement.record.map Record.core
  committed : s.agreement.phase ≠ .staging → t.committed = s.committed
  voteWindow : s.agreement.voteWindow = none → t.agreement.voteWindow = none
  voteGuard : s.agreement.voteGuard = none → t.agreement.voteGuard = none
  censusWindow : s.presence.censusWindow = none → t.presence.censusWindow = none
  alignment : s.presence.alignment = none → t.presence.alignment = none
  executor : s.executor = Executor.idle → t.executor = Executor.idle

theorem Continues.refl (s : State) : Continues s s := ⟨rfl, rfl, rfl, fun _ => rfl, id, id, id, id, id⟩

theorem Continues.trans {s t u : State} (h : Continues s t) (k : Continues t u) : Continues s u where
  phase := k.phase.trans h.phase
  number := k.number.trans h.number
  core := k.core.trans h.core
  committed hp := (k.committed (by rw [h.phase]; exact hp)).trans (h.committed hp)
  voteWindow e := k.voteWindow (h.voteWindow e)
  voteGuard e := k.voteGuard (h.voteGuard e)
  censusWindow e := k.censusWindow (h.censusWindow e)
  alignment e := k.alignment (h.alignment e)
  executor e := k.executor (h.executor e)

/-- An operation that leaves the agreement engine and the census timers alone, and an executor in IDLE. -/
theorem Continues.of_agreement {s t : State} (ha : t.agreement = s.agreement)
    (hp : t.presence.censusWindow = s.presence.censusWindow ∧ t.presence.alignment = s.presence.alignment)
    (he : s.executor = Executor.idle → t.executor = Executor.idle) : Continues s t where
  phase := by rw [ha]
  number := by rw [ha]
  core := by rw [ha]
  committed _ := by simp only [State.committed, ha]
  voteWindow := by rw [ha]; exact id
  voteGuard := by rw [ha]; exact id
  censusWindow := by rw [hp.1]; exact id
  alignment := by rw [hp.2]; exact id
  executor := he

/-- The same, with the executor left alone. -/
theorem Continues.of_keeps {s t : State} (h : t.agreement = s.agreement ∧
    t.presence.censusWindow = s.presence.censusWindow ∧ t.presence.alignment = s.presence.alignment ∧
    t.executor = s.executor) : Continues s t :=
  .of_agreement h.1 ⟨h.2.1, h.2.2.1⟩ fun e => h.2.2.2.trans e

/-- A change of the record that its phase does not speak of. -/
theorem Continues.onRecord (f : Record → Record) (s : State) (hf : ∀ r, (f r).core = r.core)
    (hc : s.agreement.phase ≠ .staging → ∀ r, s.agreement.record = some r → (f r).committed = r.committed) :
    Continues s (State.onRecord f s) where
  phase := by simp
  number := by simp
  core := by rw [onRecord_record]; cases s.agreement.record <;> simp [hf]
  committed hp := by
    have := hc hp
    unfold State.committed
    rw [onRecord_record]
    cases hr : s.agreement.record <;> simp_all
  voteWindow := by simp
  voteGuard := by simp
  censusWindow := by simp
  alignment := by simp
  executor := by simp

theorem runs_congr {s t : State} (hc : t.agreement.record.map Record.core = s.agreement.record.map Record.core)
    (hn : t.agreement.number = s.agreement.number) (o : TxnOutcome) (f : Bool) : t.runs o f ↔ s.runs o f := by
  unfold State.runs
  rw [hn]
  cases hs : s.agreement.record <;> cases ht : t.agreement.record <;> simp_all [Record.core]

theorem recordOpen_congr {s t : State} (hc : t.agreement.record.map Record.core = s.agreement.record.map Record.core) :
    t.recordOpen = s.recordOpen := by
  unfold State.recordOpen
  cases hs : s.agreement.record <;> cases ht : t.agreement.record <;> simp_all [Record.core]

theorem kind_congr {s t : State} (hc : t.agreement.record.map Record.core = s.agreement.record.map Record.core) :
    t.kind = s.kind := by
  unfold State.kind
  cases hs : s.agreement.record <;> cases ht : t.agreement.record <;> simp_all [Record.core]

theorem forwardWork_congr {s t : State} (hp : t.agreement.phase = s.agreement.phase)
    (hr : t.recordOpen = s.recordOpen) : t.forwardWork = s.forwardWork := by
  simp only [State.forwardWork, State.silentDescent, hp, hr]

theorem Continues.recordFits {s t : State} (h : Continues s t) (hs : RecordFitsPhase s) : RecordFitsPhase t := by
  have hr := runs_congr h.core h.number
  have hd : t.runsDescent ↔ s.runsDescent := by
    unfold State.runsDescent
    rw [hr, kind_congr h.core]
  have hc := h.committed
  unfold RecordFitsPhase at *
  rw [h.phase]
  cases hp : s.agreement.phase <;> simp only [hp] at hs hc ⊢ <;>
    simpa [hr, hd, recordOpen_congr h.core, hc] using hs

/-- What continues keeps the transaction invariant. -/
theorem Continues.fits {s t : State} (h : Continues s t) (hs : TransactionFits s) : TransactionFits t := by
  obtain ⟨hr, he, hv, hc, hx⟩ := hs
  refine ⟨h.recordFits hr, ?_, ?_, ?_, ?_⟩
  · unfold ExecutorFitsPhase at *
    rw [forwardWork_congr h.phase (recordOpen_congr h.core), h.phase]
    exact he.imp_right (Or.imp_right h.executor)
  · rw [h.phase]
    exact fun q => ⟨h.voteWindow (hv q).1, h.voteGuard (hv q).2⟩
  · rw [h.phase]
    exact fun q => ⟨h.censusWindow (hc q).1, h.alignment (hc q).2⟩
  · exact hx.imp h.alignment h.censusWindow

/-- A command whose `keeps` lemma shows that the transaction goes on. -/
theorem fits_of_next {r : Result} {s t : State} {p : State → Prop} (hs : TransactionFits s) (e : r = .next t)
    (k : ∃ u, r = .next u ∧ p u) (f : ∀ u, p u → Continues s u) : TransactionFits t := by
  obtain ⟨u, hu, hp⟩ := k
  rw [hu] at e
  cases e
  exact (f _ hp).fits hs

/-! ### A station without a transaction under way -/

/-- No transaction is open, the executor is in IDLE, and the vote is not timed. -/
structure Quiet (s : State) : Prop where
  record : s.recordOpen = false
  executor : s.executor = Executor.idle
  timers : s.agreement.voteWindow = none ∧ s.agreement.voteGuard = none

theorem Quiet.of_eq {s t : State} (h : Quiet s) (hr : t.agreement.record = s.agreement.record)
    (he : t.executor = s.executor)
    (hv : t.agreement.voteWindow = s.agreement.voteWindow ∧ t.agreement.voteGuard = s.agreement.voteGuard) : Quiet t := by
  refine ⟨?_, he.trans h.executor, hv.1.trans h.timers.1, hv.2.trans h.timers.2⟩
  rw [← h.record]
  simp only [State.recordOpen, hr]

/-- Outside a transaction the record, the executor and the vote timers have nothing in progress. -/
theorem TransactionFits.quiet {s : State} (h : TransactionFits s) (hr : s.recordOpen = false)
    (hp : s.agreement.phase ≠ .voting ∧ s.agreement.phase ≠ .staging ∧ s.agreement.phase ≠ .unwinding ∧
      s.agreement.phase ≠ .descending) : Quiet s := by
  obtain ⟨_, he, hv, _⟩ := h
  refine ⟨hr, ?_, hv hp.1⟩
  unfold ExecutorFitsPhase at he
  simpa [State.forwardWork, State.silentDescent, hr, hp] using he

/-- In LOADING, CONFIG_FAULT, CENSUS and SETTLED no transaction is open. -/
theorem TransactionFits.quiet_of_phase {s : State} (h : TransactionFits s)
    (hp : s.agreement.phase = .loading ∨ s.agreement.phase = .configFault ∨ s.agreement.phase = .census ∨
      s.agreement.phase = .settled) : Quiet s := by
  have hr := h.1
  unfold RecordFitsPhase at hr
  rcases hp with q | q | q | q <;>
  · rw [q] at hr
    exact h.quiet hr (by simp [q])

/-- A quiet station fits in every phase that has no transaction open. -/
theorem Quiet.fits {s : State} (h : Quiet s)
    (hp : s.agreement.phase ≠ .voting ∧ s.agreement.phase ≠ .staging ∧ s.agreement.phase ≠ .unwinding ∧
      s.agreement.phase ≠ .descending)
    (hc : s.agreement.phase ≠ .census → s.presence.censusWindow = none ∧ s.presence.alignment = none)
    (hx : s.presence.alignment = none ∨ s.presence.censusWindow = none) : TransactionFits s := by
  have hr := h.record
  refine ⟨?_, .inr (.inr h.executor), fun _ => h.timers, hc, hx⟩
  unfold RecordFitsPhase
  cases hq : s.agreement.phase <;> simp_all

/-- Outside CENSUS neither the census window nor the alignment runs. -/
theorem TransactionFits.census {s : State} (h : TransactionFits s) (hp : s.agreement.phase ≠ .census) :
    s.presence.censusWindow = none ∧ s.presence.alignment = none :=
  h.2.2.2.1 hp

/-- A quiet station in SETTLED. -/
theorem Quiet.fits_settled {s : State} (h : Quiet s) (hp : s.agreement.phase = .settled)
    (hc : s.presence.censusWindow = none ∧ s.presence.alignment = none) : TransactionFits s :=
  h.fits (by simp [hp]) (fun _ => hc) (.inl hc.2)

/-! ### Closes -/

theorem recordOpen_of_closed {s t : State} {o : TxnOutcome} {c : Cause} {now : Time} (ho : o.inProgress = false)
    (hr : t.agreement.record = s.agreement.record.map fun r => r.closed o c now) : t.recordOpen = false := by
  unfold State.recordOpen
  rw [hr]
  cases s.agreement.record <;> simp [Record.closed, ho]

theorem closeTransaction_quiet {o : TxnOutcome} (ho : o.inProgress = false) (c : Cause) (send : Bool) (s : State) :
    Quiet (closeTransaction o c send s) :=
  ⟨recordOpen_of_closed ho (closeTransaction_record o c send s), closeTransaction_executor .., closeTransaction_timers ..⟩

theorem closeSuperseded_quiet (who : Issuer → Bool) (c : Cause) (s : State) : Quiet (closeSuperseded who c s) :=
  ⟨recordOpen_of_closed rfl (closeSuperseded_record who c s), closeSuperseded_executor .., closeSuperseded_timers ..⟩

/-- The settle signal leaves a quiet station quiet, in SETTLED. -/
theorem becomeSettled_fits {s : State} (h : Quiet s) (closed : Option (Kind × TxnOutcome))
    (hc : s.presence.censusWindow = none ∧ s.presence.alignment = none) : TransactionFits (becomeSettled closed s) :=
  (h.of_eq (t := becomeSettled closed s) (by simp) (by simp) (by simp)).fits_settled
    (by simp [becomeSettled]) (by simpa using hc)

theorem closeSettled_fits {o : TxnOutcome} (ho : o.inProgress = false) (c : Cause) {s : State}
    (hc : s.presence.censusWindow = none ∧ s.presence.alignment = none) : TransactionFits (closeSettled o c s) :=
  becomeSettled_fits (closeTransaction_quiet ho c true s) _ (by simpa using hc)

theorem leaveMute_fits {s : State} (h : Quiet s) (hc : s.presence.alignment = none) : TransactionFits (leaveMute s) :=
  (h.of_eq (t := leaveMute s) (by simp) (by simp) (by simp)).fits (by simp [leaveMute]) (by simp [leaveMute])
    (.inl (by simpa using hc))

theorem checkLeaveMute_fits {s : State} (h : TransactionFits s) : TransactionFits (checkLeaveMute s) := by
  unfold checkLeaveMute
  split
  · rename_i q
    simp only [Bool.and_eq_true, beq_iff_eq, Bool.not_eq_true'] at q
    exact leaveMute_fits (h.quiet q.2 (by simp [q])) (h.census (by simp [q])).2
  · exact h

theorem forcedCloseCore_quiet (s : State) : Quiet (forcedCloseCore s) :=
  (closeTransaction_quiet (o := .forcedDone) rfl s.openingCause false (gatherMissing s)).of_eq
    (by simp [forcedCloseCore]) (by simp [forcedCloseCore]) (by simp [forcedCloseCore])

theorem forcedClose_fits {s : State} (hc : s.presence.censusWindow = none ∧ s.presence.alignment = none) :
    TransactionFits (forcedClose s) := by
  unfold forcedClose
  split
  · rename_i q
    have hp : (forcedCloseCore s).agreement.phase = .mute := by simpa using q
    exact checkLeaveMute_fits ((forcedCloseCore_quiet s).fits (by rw [hp]; simp) (fun _ => by simpa using hc)
      (.inl (by simpa using hc.2)))
  · exact becomeSettled_fits (forcedCloseCore_quiet s) _ (by simpa using hc)

end Sys2Proof.Machine
end

section
/-! SUPPORT. The transaction invariant in the work of the stage executor and at an entry to MUTE. -/

namespace Sys2Proof.Machine

open Sys2Proof

/-! ### The stage executor within a transaction -/

theorem Continues.of_work {s t : State} (ha : t.agreement = s.agreement)
    (hp : t.presence.censusWindow = s.presence.censusWindow ∧ t.presence.alignment = s.presence.alignment)
    (he : s.executor ≠ Executor.idle) : Continues s t :=
  .of_agreement ha hp fun q => absurd q he

theorem execComplete_continues (c : Completion) (s : State) : Continues s (execComplete c s) := by
  by_cases h : s.executor.running.isSome = true
  · exact .of_work (by simp) (by simp) fun q => by simp [q, Executor.idle] at h
  · simp only [execComplete, h]
    exact .refl s

theorem testWaiting_continues (s : State) : Continues s (testWaiting s) := by
  by_cases h : s.executor.sub = .waiting
  · exact .of_work (by simp) (by simp) fun q => by simp [q, Executor.idle] at h
  · simp only [testWaiting, State.waitsForStage, h]
    exact .refl s

theorem ownForward_continues (stage : Nat) (s : State) : Continues s (ownForward stage s) := by
  by_cases h : s.executor.sub = .reporting
  · exact .of_work (by simp) (by simp) fun q => by simp [q, Executor.idle] at h
  · simp only [ownForward, h]
    exact .refl s

theorem testLevel_continues (s : State) : Continues s (testLevel s) := by
  by_cases h : s.executor.sub = .waiting
  · exact .of_work (by simp) (by simp) fun q => by simp [q, Executor.idle] at h
  · simp only [testLevel, State.waitsForLevel, h]
    exact .refl s

theorem ownUnwind_continues (level : Nat) (s : State) : Continues s (ownUnwind level s) := by
  by_cases h : s.executor.sub = .reporting
  · exact .of_work (by simp) (by simp) fun q => by simp [q, Executor.idle] at h
  · simp only [ownUnwind, h]
    exact .refl s

/-- While a barrier runs the executor is not in IDLE. -/
theorem executor_ne_idle_of_barrier {s : State} {use : BarrierUse} (h : s.barrierIn use = true) :
    s.executor ≠ Executor.idle := by
  intro q
  simp [State.barrierIn, q, Executor.idle] at h

/-- A commit in STAGING (R56). -/
theorem commit_continues {s : State} (h : s.agreement.phase = .staging) : Continues s (commit s) := by
  unfold commit
  dsimp only
  refine (Continues.onRecord (fun r => { r with committed := true, committedAt := some s.time }) s (fun _ => rfl)
    fun q => absurd h q).trans (.of_agreement (by simp) (by simp) fun q => ?_)
  simp only [State.onRecord_keeps] at q
  simp [q, Executor.idle]

theorem enterForwardStage_continues (sender : StationId) (stage : Nat) (own : Bool) (s : State) :
    Continues s (enterForwardStage sender stage own s) := by
  have hr : Continues s (State.onRecord (forwardRecord sender stage own s.time) s) :=
    .onRecord _ s (fun _ => rfl) fun _ _ _ => rfl
  unfold enterForwardStage
  dsimp only
  split
  · rename_i h
    simp only [State.commits, Bool.and_eq_true, beq_iff_eq] at h
    exact hr.trans (commit_continues h.1.1)
  · exact hr

theorem endWork_continues (s : State) : Continues s (endWork s) := by
  by_cases h : s.executor.running.isSome = true
  · exact .of_work (by simp) (by simp) fun q => by simp [q, Executor.idle] at h
  · simp only [endWork, h]
    exact .refl s

/-! ### Entry to MUTE -/

theorem muteTransaction_quiet {s : State} (h : s.agreement.phase.defers = true) : Quiet (muteTransaction s) := by
  unfold muteTransaction
  rw [if_pos h]
  exact closeSuperseded_quiet ..

/-- The agreement engine at an entry to MUTE: what `muteTransaction` left, in MUTE. -/
theorem enterMute_agreement (c : MuteCause) (s : State) :
    (enterMute c s).agreement = { (muteTransaction (muteMonitoring s)).agreement with phase := .mute } := by
  simp [enterMute, State.withPhase]

/-- With no forced descent open the executor stands as `muteTransaction` left it. -/
theorem enterMute_executor (c : MuteCause) {s : State} (h : (muteTransaction (muteMonitoring s)).recordOpen = false) :
    (enterMute c s).executor = (muteTransaction (muteMonitoring s)).executor := by
  simp only [State.recordOpen] at h
  simp [enterMute, muteReport, State.silentDescent, State.recordOpen, h]

theorem enterMute_census (c : MuteCause) (s : State) :
    (enterMute c s).presence.censusWindow = none ∧ (enterMute c s).presence.alignment = none := by
  simp [enterMute, mutePresence]

theorem enterMute_fits_of_quiet (c : MuteCause) {s : State} (h : Quiet (muteTransaction (muteMonitoring s))) :
    TransactionFits (enterMute c s) :=
  (h.of_eq (t := enterMute c s) (by rw [enterMute_agreement]) (enterMute_executor c h.record)
    (by rw [enterMute_agreement]; exact ⟨rfl, rfl⟩)).fits (by simp [enterMute_agreement])
    (fun _ => enterMute_census c s) (.inl (enterMute_census c s).2)

/-- A forced descent goes on as a silent one (R9). -/
theorem enterMute_fits_of_descent (c : MuteCause) {s : State} (hd : s.agreement.phase.defers = false)
    (hr : s.runsDescent) (hv : s.agreement.voteWindow = none ∧ s.agreement.voteGuard = none) :
    TransactionFits (enterMute c s) := by
  have ha : (enterMute c s).agreement = { s.agreement with phase := .mute } := by
    rw [enterMute_agreement]
    simp [muteTransaction, hd]
  have hc : (enterMute c s).agreement.record.map Record.core = s.agreement.record.map Record.core := by rw [ha]
  have hr' : (enterMute c s).runsDescent := by
    unfold State.runsDescent at *
    rw [runs_congr hc (by rw [ha]), kind_congr hc]
    exact hr
  have ho : (enterMute c s).recordOpen = true := by
    obtain ⟨⟨r, hr, ho, _⟩, _⟩ := hr'
    simp [State.recordOpen, hr, ho, TxnOutcome.inProgress]
  refine ⟨?_, .inl ?_, fun _ => by rw [ha]; exact hv, fun _ => enterMute_census c s, .inl (enterMute_census c s).2⟩
  · simp only [RecordFitsPhase, ha]
    exact fun _ => hr'
  · simp only [State.forwardWork, State.silentDescent, ho, ha]
    rfl

/-- Where a record is open in a phase that closes nothing at an entry to MUTE, it is a forced descent's. -/
theorem TransactionFits.descent {s : State} (h : TransactionFits s) (hd : s.agreement.phase.defers = false)
    (ho : s.recordOpen = true) : s.runsDescent := by
  have hr := h.1
  unfold RecordFitsPhase at hr
  cases hp : s.agreement.phase <;> simp_all [Phase.defers]

theorem enterMute_fits (c : MuteCause) {s : State} (h : TransactionFits s) : TransactionFits (enterMute c s) := by
  by_cases hd : s.agreement.phase.defers = true
  · exact enterMute_fits_of_quiet c (muteTransaction_quiet (by simpa using hd))
  · rw [Bool.not_eq_true] at hd
    by_cases ho : s.recordOpen = true
    · exact enterMute_fits_of_descent c hd (h.descent hd ho) (h.2.2.1 fun q => by simp [q, Phase.defers] at hd)
    · have hp : s.agreement.phase ≠ .descending := fun q => ho <| by
        have hr := h.1
        simp only [RecordFitsPhase, q] at hr
        obtain ⟨⟨r, hr, hr', _⟩, _⟩ := hr
        simp [State.recordOpen, hr, hr', TxnOutcome.inProgress]
      have hq : Quiet s := h.quiet (by simpa using ho) (by cases hs : s.agreement.phase <;> simp_all [Phase.defers])
      exact enterMute_fits_of_quiet c (hq.of_eq (by simp [muteTransaction, hd]) (by simp [muteTransaction, hd])
        (by simp [muteTransaction, hd]))

end Sys2Proof.Machine
end

section
/-! SUPPORT. The transaction invariant at an opening and at ACCEPTED, each cut into the opening and the start of the
executor. -/

namespace Sys2Proof.Machine

open Sys2Proof

/-! ### Openings -/

/-- While a transaction is worked at, the executor may stand anywhere. -/
theorem TransactionFits.of_work {s t : State} (h : TransactionFits s)
    (hw : s.forwardWork = true ∨ s.agreement.phase = .unwinding) (ha : t.agreement = s.agreement)
    (hp : t.presence.censusWindow = s.presence.censusWindow ∧ t.presence.alignment = s.presence.alignment) :
    TransactionFits t := by
  obtain ⟨hr, _, ht⟩ := h
  refine ⟨?_, ?_, ?_⟩
  · simpa only [RecordFitsPhase, State.runs, State.runsDescent, State.committed, State.kind, State.recordOpen, ha] using hr
  · unfold ExecutorFitsPhase
    have : t.forwardWork = s.forwardWork := forwardWork_congr (by rw [ha]) (by simp only [State.recordOpen, ha])
    rw [this, ha]
    exact hw.imp_right .inl
  · simpa only [TimersFitPhase, ha, hp.1, hp.2] using ht

/-- What a forced opening frame gives the new transaction (R13). -/
def forcedOpening (cause : OpeningCause) (i : StationId) (fl : List (FaultCode × StationId)) : Opening :=
  { kind := .enterOff, forced := true, imageBacked := false, originator := i, cause := cause, wakeSource := none,
    outcome := .accepted, faults := fl }

theorem openForced_eq (cause : OpeningCause) (i : StationId) (fl : List (FaultCode × StationId)) (s : State) :
    openForced cause i fl s = execStart (openTransaction (forcedOpening cause i fl)
      (forcedPhase (supersede cause s).agreement.phase) (supersede cause s)) := rfl

/-- What a WAKE gives the new transaction (R12). -/
def wakeOpening (i : StationId) (w : WakeTarget) (x : Fin 8) : Opening :=
  { kind := w.kind, forced := false, imageBacked := false, originator := i, cause := .wake, wakeSource := some (i, x),
    outcome := .accepted, faults := [] }

theorem openWake_eq (i : StationId) (w : WakeTarget) (x : Fin 8) (s : State) :
    openWake i w x s = execStart (commitAtStart (openTransaction (wakeOpening i w x) .staging s)) := rfl

/-- What a non-forced PROPOSE gives the new transaction (R11). -/
def proposeOpening (i : StationId) (k : Kind) (img : Bool) : Opening :=
  { kind := k, forced := false, imageBacked := img && k == .enterRest, originator := i, cause := .propose,
    wakeSource := none, outcome := .opened, faults := [] }

theorem openVoting_eq (i : StationId) (k : Kind) (img : Bool) (inh : Inhibits) (s : State) :
    openVoting i k img inh s = tallyAtOpening (castVote i k inh (startVoteTimer i
      (openTransaction (proposeOpening i k img) .voting s))) := rfl

/-- The record and the request at ACCEPTED, before the purges (R11, R23, R35). -/
def acceptedVote (s : State) : State :=
  answerUnderVote .high ((stopVoteTimers (writeStreak 0 s)).onRecord fun r =>
    { r with outcome := .accepted, acceptedAt := some (stopVoteTimers (writeStreak 0 s)).time })

/-- The station at ACCEPTED, in STAGING with the VOTEs and ABORTs of the number purged (R11, R81). -/
def acceptedStaging (s : State) : State :=
  (purgeNumber .abort (acceptedVote s).openNumber (purgeNumber .vote (acceptedVote s).openNumber
    (acceptedVote s))).withPhase .staging

theorem accept_eq (s : State) : accept s = execStart (renewWakeAbort
    ((acceptedVote s).queuedWakeAbort (acceptedVote s).openNumber) (commitAtStart (acceptedStaging s))) := rfl

theorem acceptedVote_record (s : State) : (acceptedVote s).agreement.record =
    s.agreement.record.map fun r => { r with outcome := .accepted, acceptedAt := some s.time } := by
  simp [acceptedVote, onRecord_record]

/-- The agreement engine at ACCEPTED, before the commit. -/
theorem acceptedStaging_agreement (s : State) : (acceptedStaging s).agreement = { s.agreement with
    phase := .staging
    record := s.agreement.record.map fun r => { r with outcome := .accepted, acceptedAt := some s.time }
    streaks := setStreak s.agreement.streaks s.kind 0, voteWindow := none, voteGuard := none } := by
  have h : (acceptedVote s).agreement = { s.agreement with
      record := (acceptedVote s).agreement.record, streaks := setStreak s.agreement.streaks s.kind 0
      voteWindow := none, voteGuard := none } := by
    unfold acceptedVote State.onRecord
    split <;> simp [State.withRecord, stopVoteTimers, writeStreak, State.withAgreement]
  rw [acceptedVote_record] at h
  simp [acceptedStaging, State.withPhase, h]

/-- An opening into STAGING of a non-forced transaction, or into a descent of a forced ENTER_OFF. -/
theorem openTransaction_work (o : Opening) (p : Phase) {s : State} (ho : o.outcome = .accepted)
    (hp : (p = .staging ∧ o.forced = false) ∨ ((p = .descending ∨ p = .mute) ∧ o.forced = true ∧ o.kind = .enterOff)) :
    RecordFitsPhase (openTransaction o p s) ∧ (openTransaction o p s).forwardWork = true := by
  have ha := openTransaction_agreement o p s
  rcases hp with ⟨rfl, hf⟩ | ⟨rfl | rfl, hf, hk⟩ <;>
    simp_all [RecordFitsPhase, State.forwardWork, State.silentDescent, State.recordOpen, State.runsDescent, State.runs,
      State.kind, newRecord, TxnOutcome.inProgress]

/-- An opening that goes to work at once, with the executor started (R12, R13). -/
theorem openTransaction_fits (o : Opening) (p : Phase) {s : State} (ho : o.outcome = .accepted)
    (hp : (p = .staging ∧ o.forced = false) ∨ ((p = .descending ∨ p = .mute) ∧ o.forced = true ∧ o.kind = .enterOff))
    (hv : s.agreement.voteWindow = none ∧ s.agreement.voteGuard = none)
    (hc : s.presence.censusWindow = none ∧ s.presence.alignment = none) :
    TransactionFits (openTransaction o p s) ∧ (openTransaction o p s).forwardWork = true := by
  obtain ⟨hr, hw⟩ := openTransaction_work o p (s := s) ho hp
  exact ⟨⟨hr, .inl hw, fun _ => by simpa using hv, fun _ => by simpa using hc, .inl (by simpa using hc.2)⟩, hw⟩

theorem execStart_fits {s : State} (h : TransactionFits s) (hw : s.forwardWork = true) : TransactionFits (execStart s) :=
  h.of_work (.inl hw) (by simp) (by simp)

/-- A forced opening, once nothing non-forced is open any more (R13, R149). -/
theorem openForced_fits {s : State} (h : TransactionFits s) (cause : OpeningCause) (i : StationId)
    (fl : List (FaultCode × StationId)) (hp : s.agreement.phase ≠ .census) : TransactionFits (openForced cause i fl s) := by
  have hv : (supersede cause s).agreement.voteWindow = none ∧ (supersede cause s).agreement.voteGuard = none := by
    unfold supersede
    split
    · exact closeSuperseded_timers ..
    · rename_i hd
      exact h.2.2.1 fun q => hd (by simp [q, Phase.defers])
  have hf : forcedPhase (supersede cause s).agreement.phase = .descending ∨
      forcedPhase (supersede cause s).agreement.phase = .mute := by
    cases hq : (supersede cause s).agreement.phase <;> simp [forcedPhase]
  obtain ⟨ho, hw⟩ := openTransaction_fits (forcedOpening cause i fl) (forcedPhase (supersede cause s).agreement.phase) rfl
    (.inr ⟨hf, rfl, rfl⟩) hv (by simpa using h.census hp)
  rw [openForced_eq]
  exact execStart_fits ho hw

theorem commitAtStart_continues {s : State} (h : s.agreement.phase = .staging) : Continues s (commitAtStart s) := by
  unfold commitAtStart
  split
  · exact commit_continues h
  · exact .refl s

/-- What continues a transaction at work is at work. -/
theorem Continues.forwardWork {s t : State} (h : Continues s t) (hw : s.forwardWork = true) : t.forwardWork = true := by
  rw [forwardWork_congr h.phase (recordOpen_congr h.core), hw]

theorem openWake_fits (i : StationId) (w : WakeTarget) (x : Fin 8) {s : State}
    (hv : s.agreement.voteWindow = none ∧ s.agreement.voteGuard = none)
    (hc : s.presence.censusWindow = none ∧ s.presence.alignment = none) : TransactionFits (openWake i w x s) := by
  obtain ⟨ho, hw⟩ := openTransaction_fits (wakeOpening i w x) .staging rfl (.inl ⟨rfl, rfl⟩) hv hc
  have hk : Continues (openTransaction (wakeOpening i w x) .staging s) _ :=
    commitAtStart_continues (by rw [openTransaction_agreement])
  rw [openWake_eq]
  exact execStart_fits (hk.fits ho) (hk.forwardWork hw)

/-- ACCEPTED goes to work (R11). -/
theorem accept_fits {s : State} (h : TransactionFits s) (hp : s.agreement.phase = .voting) : TransactionFits (accept s) := by
  obtain ⟨hr, _, _, hc, _⟩ := h
  simp only [RecordFitsPhase, hp] at hr
  obtain ⟨⟨r, hr, ho, hf, hn⟩, -⟩ := hr
  have ha := acceptedStaging_agreement s
  have hc : (acceptedStaging s).presence.censusWindow = none ∧ (acceptedStaging s).presence.alignment = none := by
    simpa [acceptedStaging, acceptedVote] using hc (by simp [hp])
  have hw : (acceptedStaging s).forwardWork = true := by simp [State.forwardWork, ha]
  have hfit : TransactionFits (acceptedStaging s) := by
    refine ⟨?_, .inl hw, fun _ => by simp [ha], fun _ => hc, .inl hc.2⟩
    simp [RecordFitsPhase, State.runs, ha, hr, hn, hf]
  have hk : Continues (acceptedStaging s) (renewWakeAbort
      ((acceptedVote s).queuedWakeAbort (acceptedVote s).openNumber) (commitAtStart (acceptedStaging s))) :=
    (commitAtStart_continues (by rw [ha])).trans (.of_keeps (by simp))
  rw [accept_eq]
  exact execStart_fits (hk.fits hfit) (hk.forwardWork hw)

theorem tallyAtOpening_fits {s : State} (h : TransactionFits s) (hp : s.agreement.phase = .voting) :
    TransactionFits (tallyAtOpening s) := by
  unfold tallyAtOpening
  split
  · split
    · exact accept_fits h hp
    · exact h
  · exact h

theorem openVoting_fits (i : StationId) (k : Kind) (img : Bool) (inh : Inhibits) {s : State} (h : Quiet s)
    (hc : s.presence.censusWindow = none ∧ s.presence.alignment = none) : TransactionFits (openVoting i k img inh s) := by
  have ha := openTransaction_agreement (proposeOpening i k img) .voting s
  rw [openVoting_eq]
  refine tallyAtOpening_fits ⟨?_, .inr (.inr (by simpa using h.executor)), ?_, fun _ => by simpa using hc,
    .inl (by simpa using hc.2)⟩ (by simp [ha])
  · have ho : (proposeOpening i k img).outcome = .opened ∧ (proposeOpening i k img).forced = false := ⟨rfl, rfl⟩
    simp [RecordFitsPhase, State.runs, State.committed, ha, newRecord, ho]
  · simp [ha]

end Sys2Proof.Machine
end

section
/-! SUPPORT. The transaction invariant at the end of census and in what each delivered frame does. -/

namespace Sys2Proof.Machine

open Sys2Proof

/-! ### The end of census -/

theorem endCensus_fits {s : State} (h : Quiet s) (hw : s.presence.censusWindow = none) : TransactionFits (endCensus s) := by
  have hq : Quiet (s.withPresence { s.presence with alignment := none }) := h.of_eq rfl rfl ⟨rfl, rfl⟩
  exact becomeSettled_fits hq none ⟨hw, rfl⟩

/-- Alignment in CENSUS, with the census window stopped (R152). -/
theorem runAlignment_fits (steps : List Change) {s : State} (h : Quiet s) (hp : s.agreement.phase = .census)
    (hw : s.presence.censusWindow = none) : TransactionFits (runAlignment steps s) := by
  induction steps generalizing s with
  | nil => exact endCensus_fits h hw
  | cons c rest ih =>
    have hk := issueChange_keeps c .alignment s
    have hq : Quiet (issueChange c .alignment s).1 := h.of_eq (by simp) (by simp) (by simp)
    unfold runAlignment
    split
    · rename_i s1 x hs
      simp only [hs] at hk hq
      exact ih hq (by simp [hk, hp]) (by simp [hk, hw])
    · rename_i s1 hs
      simp only [hs] at hk hq
      have hq' : Quiet (s1.withPresence { s1.presence with alignment := some rest }) :=
      hq.of_eq (by simp) (by simp) (by simp)
      exact hq'.fits (by simp [hk, hp]) (by simp [hk, hp]) (.inr (by simp [hk, hw]))

theorem adopt_fits (st : SystemState) (n : TxnNumber) {s : State} (h : Quiet s) (hp : s.agreement.phase = .census) :
    TransactionFits (adopt st n s) := by
  have hq : Quiet (writeAdoption st n s) := h.of_eq rfl rfl ⟨rfl, rfl⟩
  unfold adopt profileCheck
  dsimp only
  split
  · refine endCensus_fits (hq.of_eq ?_ ?_ ?_) ?_ <;> split <;> simp [writeAdoption]
  · exact runAlignment_fits _ hq hp rfl

/-- A withdrawn adoption leaves CENSUS with its window running (R152). -/
theorem withdrawInCensus_fits {s : State} (h : TransactionFits s) : TransactionFits (withdrawInCensus s) := by
  by_cases hp : s.agreement.phase = .census
  · have hq : Quiet (withdrawInCensus s) :=
      (h.quiet_of_phase (by simp [hp])).of_eq (by simp) (by simp) (by simp)
    by_cases ha : s.presence.alignment.isSome = true
    · exact hq.fits (by simp [hp]) (by simp [hp]) (.inl (by simp [withdrawInCensus, withdrawAdoption, State.aligning, hp, ha]))
    · have : withdrawInCensus s = s := by simp [withdrawInCensus, withdrawAdoption, State.aligning, ha]
      rw [this]
      exact h
  · have : withdrawInCensus s = s := by simp [withdrawInCensus, hp]
    rw [this]
    exact h

/-! ### What the agreement engine does with a delivered frame -/

theorem handOff_fits (f : Frame) {engine : Option Ready → State → State} {s : State} (h : TransactionFits s)
    (he : ∀ own t, TransactionFits t → TransactionFits (engine own t)) : TransactionFits (handOff f engine s) := by
  obtain q | ⟨t, q, ht⟩ | ⟨own, t, q, ht⟩ := handOff_cases f engine s
  · rw [q]
    exact h
  · rw [q]
    exact (Continues.of_keeps (s := s) (t := t) (by simp [ht])).fits h
  · rw [q]
    exact he own t ((Continues.of_keeps (s := s) (t := t) (by simp [ht])).fits h)

theorem countLate_fits {s : State} (h : TransactionFits s) : TransactionFits (countLate s) :=
  Continues.fits ⟨rfl, rfl, rfl, fun _ => rfl, id, id, id, id, id⟩ h

theorem proposeLate_fits (own : Option Ready) {s : State} (h : TransactionFits s) : TransactionFits (proposeLate own s) := by
  have hc := countLate_fits h
  unfold proposeLate
  split
  · exact (Continues.of_keeps (s := countLate s) (by simp)).fits hc
  · exact hc

theorem takePropose_fits (i : StationId) (k : Kind) (img : Bool) (inh : Inhibits) (own : Option Ready) {s : State}
    (h : TransactionFits s) : TransactionFits (takePropose i k img inh own s) := by
  have hl := proposeLate_fits own h
  unfold takePropose
  split <;> rename_i hp
  · split
    · have hq : Quiet (ownProposeOpens own s) := (h.quiet_of_phase (by simp [hp])).of_eq (by simp) (by simp) (by simp)
      exact openVoting_fits i k img inh hq (by simpa using h.census (by simp [hp]))
    · exact hl
  · exact hl
  · exact hl
  · exact hl
  · exact hl
  · exact withdrawInCensus_fits h
  · exact h

/-- Where a forced opening frame opens the station is not in CENSUS. -/
theorem phase_of_opensForced {s : State} (h : s.opensForced = true) : s.agreement.phase ≠ .census := by
  intro q
  simp [State.opensForced, State.opensSilent, q, Phase.defers] at h

theorem takeForcedPropose_fits (i : StationId) (k : Kind) {s : State} (h : TransactionFits s) :
    TransactionFits (takeForcedPropose i k s) := by
  unfold takeForcedPropose
  split
  · rename_i ho
    split
    · exact openForced_fits h _ _ _ (phase_of_opensForced ho)
    · exact countLate_fits h
  · split
    · exact countLate_fits h
    · exact withdrawInCensus_fits h

theorem ownWakeIdle_fits (own : Option Ready) {s : State} (h : TransactionFits s) : TransactionFits (ownWakeIdle own s) :=
  (Continues.of_keeps (s := s) (by simp)).fits h

theorem wakeOpens_fits (i : StationId) (w : WakeTarget) (x : Fin 8) (own : Option Ready) {s : State}
    (hv : s.agreement.voteWindow = none ∧ s.agreement.voteGuard = none)
    (hc : s.presence.censusWindow = none ∧ s.presence.alignment = none) : TransactionFits (wakeOpens i w x own s) := by
  unfold wakeOpens
  split
  · split
    · exact openWake_fits i w x hv hc
    · exact openWake_fits i w x hv hc
  · exact openWake_fits i w x hv hc

theorem wakeInDescent_fits (i : StationId) (w : WakeTarget) (x : Fin 8) (own : Option Ready) {s : State}
    (hc : s.presence.censusWindow = none ∧ s.presence.alignment = none) : TransactionFits (wakeInDescent i w x own s) := by
  have hq := forcedCloseCore_quiet (abandonWork isExecutor s)
  unfold wakeInDescent
  dsimp only
  split
  · exact wakeOpens_fits i _ x own hq.timers (by simpa using hc)
  · have hl : Quiet (countLate (forcedCloseCore (abandonWork isExecutor s))) :=
      hq.of_eq (by simp) (by simp) (by simp)
    exact ownWakeIdle_fits own (becomeSettled_fits hl _ (by simpa using hc))

theorem takeWake_fits (i : StationId) (w : WakeTarget) (x : Fin 8) (own : Option Ready) {s : State}
    (h : TransactionFits s) : TransactionFits (takeWake i w x own s) := by
  unfold takeWake
  split <;> rename_i hp
  · split
    · exact wakeOpens_fits i w x own (h.quiet_of_phase (by simp [hp])).timers (h.census (by simp [hp]))
    · exact ownWakeIdle_fits own (countLate_fits h)
  · exact wakeInDescent_fits i w x own (h.census (by simp [hp]))
  · exact ownWakeIdle_fits own (withdrawInCensus_fits h)
  · exact ownWakeIdle_fits own h

/-- The tally, from VOTING with nothing of the census running (R34). -/
theorem tally_fits (i : StationId) (a : Answer) {s : State} (h : TransactionFits s) (hp : s.agreement.phase = .voting) :
    TransactionFits (tally i a s) := by
  have hc := h.census (by simp [hp])
  unfold tally
  split
  · split
    · exact h
    · split
      · exact closeSettled_fits rfl _ (by simpa using hc)
      · split
        · unfold fullTally
          split
          · exact closeSettled_fits rfl _ (by simpa using hc)
          · exact accept_fits h hp
        · exact h
  · exact h

theorem takeVote_fits (i : StationId) (n : TxnNumber) (a : Answer) {s : State} (h : TransactionFits s) :
    TransactionFits (takeVote i n a s) := by
  unfold takeVote
  split
  · rename_i r hp hr
    split
    · have hk : Continues s (if i = s.me then s else clearMisses i s) := by
        split
        · exact .refl s
        · exact .of_keeps (by simp)
      dsimp only
      split
      · generalize hu : (if i = s.me then s else clearMisses i s) = u at hk
        have hu' : u.agreement.record = some r := by rw [← hu, ← hr]; split <;> simp
        have hw : u.withRecord (writeVote i a r) = State.onRecord (writeVote i a) u := by simp [State.onRecord, hu']
        rw [hw]
        have hv := hk.trans (.onRecord (writeVote i a) u (fun _ => rfl) fun _ _ _ => rfl)
        exact tally_fits i a (hv.fits h) (hv.phase.trans hp)
      · exact hk.fits h
    · exact h
  · exact h

theorem afterForward_fits (k : Nat) (own : Bool) {s : State} (h : TransactionFits s) :
    TransactionFits (afterForward k own s) := by
  unfold afterForward
  split
  · rename_i hw
    have hc : (endWork s).presence.censusWindow = none ∧ (endWork s).presence.alignment = none := by
      simpa using h.census fun q => by simp [State.forwardWork, State.silentDescent, q] at hw
    split
    · split
      · exact forcedClose_fits hc
      · exact closeSettled_fits rfl _ hc
    · split
      · exact (ownForward_continues k s).fits h
      · exact (testWaiting_continues s).fits h
  · exact h

theorem takeForward_fits (i : StationId) (n : TxnNumber) (k : Nat) (own : Option Ready) {s : State}
    (h : TransactionFits s) : TransactionFits (takeForward i n k own s) := by
  unfold takeForward
  split
  · exact afterForward_fits k _ ((enterForwardStage_continues ..).fits h)
  · exact h

theorem afterUnwind_fits (k : Nat) (own : Bool) {s : State} (h : TransactionFits s) :
    TransactionFits (afterUnwind k own s) := by
  unfold afterUnwind
  split
  · rename_i hp
    split
    · exact closeSettled_fits rfl _ (by simpa using h.census (by simp [hp]))
    · split
      · exact (ownUnwind_continues k s).fits h
      · exact (testLevel_continues s).fits h
  · exact h

theorem takeUnwind_fits (i : StationId) (n : TxnNumber) (k : Nat) (own : Option Ready) {s : State}
    (h : TransactionFits s) : TransactionFits (takeUnwind i n k own s) := by
  unfold takeUnwind
  split
  · exact afterUnwind_fits k _ ((Continues.onRecord (unwindRecordAt i k _) s (fun _ => rfl) fun _ _ _ => rfl).fits h)
  · exact h

/-- An ABORT before commit turns STAGING to UNWINDING (R82). -/
theorem takeUnwinding_fits (reason : AbortReason) {r : Record} {s : State} (h : TransactionFits s)
    (hp : s.agreement.phase = .staging) (hr : s.agreement.record = some r) (hc : r.committed = false) :
    TransactionFits (takeUnwinding reason r s) := by
  obtain ⟨hf, -, hv, hw, hx⟩ := h
  simp only [RecordFitsPhase, hp] at hf
  obtain ⟨r', hr', ho, hf, hn⟩ := hf
  obtain rfl : r' = r := by simpa [hr] using hr'.symm
  unfold takeUnwinding execUnwind
  dsimp only
  generalize hs' : (State.onRecord _ s).withPhase Phase.unwinding = u
  have hu : TransactionFits u ∧ u.agreement.phase = .unwinding := by
    subst hs'
    refine ⟨⟨?_, .inr (.inl rfl), fun _ => by simpa using hv (by simp [hp]), fun _ => by simpa using hw (by simp [hp]),
      by simpa using hx⟩, rfl⟩
    simp [RecordFitsPhase, State.runs, State.committed, onRecord_record, hr, ho, hf, hn, hc]
  exact hu.1.of_work (.inr hu.2) (by simp) (by simp)

theorem takeAbort_fits (i : StationId) (n : TxnNumber) (reason : AbortReason) {s : State} (h : TransactionFits s) :
    TransactionFits (takeAbort i n reason s) := by
  unfold takeAbort
  split
  · rename_i r hr
    split
    · split <;> rename_i hp
      · unfold abortVote
        dsimp only
        have ho : (abortOutcome reason).inProgress = false := by cases reason <;> rfl
        refine closeSettled_fits ho _ ?_
        have hc := h.census (by simp [hp])
        split <;> simpa using hc
      · split
        · exact h
        · rename_i hc
          exact takeUnwinding_fits reason h hp hr (by simpa using hc)
      · exact h
    · exact h
  · exact h

theorem takeFault_fits (i : StationId) (code : FaultCode) {s : State} (h : TransactionFits s) :
    TransactionFits (takeFault i code s) := by
  unfold takeFault
  split
  · rename_i ho
    exact openForced_fits h _ _ _ (phase_of_opensForced ho)
  · split
    · refine (Continues.onRecord (listFault code i) s (fun r => ?_) fun _ r _ => ?_).fits h <;>
      · unfold listFault
        split <;> rfl
    · exact withdrawInCensus_fits h

/-! ### BEAT and CENSUS -/

theorem refreshSeen_fits (i : StationId) {s : State} (h : TransactionFits s) : TransactionFits (refreshSeen i s) :=
  (Continues.of_keeps (s := s) (t := refreshSeen i s) (by simp)).fits h

theorem touchPeer_fits (f : Frame) {s : State} (h : TransactionFits s) : TransactionFits (touchPeer f s) :=
  (Continues.of_keeps (s := s) (t := touchPeer f s) (by simp)).fits h

theorem takeBeat_fits (i : StationId) (n : TxnNumber) (b : BeatBody) {s : State} (h : TransactionFits s) :
    TransactionFits (takeBeat i n b s) := by
  have hr := refreshSeen_fits i h
  have hh : ∀ {t}, TransactionFits t → TransactionFits (retryHeldCensus t) := fun {t} ht =>
    (Continues.of_keeps (s := t) (by simp)).fits ht
  have hp : (refreshSeen i s).agreement.phase = s.agreement.phase := by simp
  unfold takeBeat
  dsimp only
  split
  · refine hh ?_
    have hb : TransactionFits ((refreshSeen i s).withPresence
        { (refreshSeen i s).presence with barring := setAdd (refreshSeen i s).presence.barring i }) :=
      (Continues.of_keeps (s := refreshSeen i s) ⟨rfl, rfl, rfl, rfl⟩).fits hr
    unfold bar
    dsimp only
    split
    · exact enterMute_fits _ hb
    · exact hb
  · split
    · rename_i hc
      unfold judgeBeat
      split
      · split
        · simpa [withdrawInCensus, hp, hc] using withdrawInCensus_fits hr
        · exact hr
      · split
        · have hc : (refreshSeen i s).agreement.phase = .census := by simpa using hc
          exact adopt_fits _ _ (hr.quiet_of_phase (.inr (.inr (.inl hc)))) hc
        · exact hr
    · refine hh ?_
      unfold unbar
      split
      · exact checkLeaveMute_fits ((Continues.of_keeps (s := refreshSeen i s) (by simp)).fits hr)
      · exact hr

theorem deliverBeat_fits (i : StationId) (n : TxnNumber) (b : BeatBody) {s : State} (h : TransactionFits s) :
    TransactionFits (deliverBeat i n b s) := by
  have ho : ∀ f own, TransactionFits (ownDelivered f own s) := fun f own =>
    (Continues.of_keeps (s := s) (by simp)).fits h
  unfold deliverBeat
  split
  · exact h
  · dsimp only
    split
    · split
      · exact refreshSeen_fits i (ho _ _)
      · exact ho _ _
    · split
      · exact ho _ _
      · exact takeBeat_fits i n b (touchPeer_fits _ (ho _ _))

theorem takeCensus_fits (i : StationId) (sig : Signature) (rc : ResetCause) {s : State} (h : TransactionFits s) :
    TransactionFits (takeCensus i sig rc s) := by
  have hc : TransactionFits (checkLeaveMute (censusPeer i sig rc s)) :=
    checkLeaveMute_fits ((Continues.of_keeps (s := s) (by simp)).fits h)
  unfold takeCensus
  dsimp only
  split
  · exact (Continues.of_keeps (s := checkLeaveMute (censusPeer i sig rc s)) (by simp)).fits hc
  · exact hc

theorem deliverCensus_fits (i : StationId) (sig : Signature) (rc : ResetCause) {s : State} (h : TransactionFits s) :
    TransactionFits (deliverCensus i sig rc s) := by
  have ho : ∀ f own, TransactionFits (ownDelivered f own s) := fun f own =>
    (Continues.of_keeps (s := s) (by simp)).fits h
  have hx : ∀ {t}, TransactionFits t → TransactionFits (restartSupersedes i t) := fun {t} ht => by
    unfold restartSupersedes
    split
    · rename_i hd
      exact openForced_fits ht _ _ _ fun q => by simp [q, Phase.defers] at hd
    · exact ht
  unfold deliverCensus
  split
  · exact h
  · dsimp only
    refine hx ?_
    split
    · exact ho _ _
    · exact takeCensus_fits i sig rc (ho _ _)

end Sys2Proof.Machine
end

section
/-! SUPPORT. The transaction invariant at the commands that may change the phase. -/

namespace Sys2Proof.Machine

open Sys2Proof

/-! ### Commands that may change the phase -/

theorem powerOn_fits (s : State) : TransactionFits (powerOn s) :=
  Quiet.fits ⟨rfl, rfl, rfl, rfl⟩ (by simp [powerOn, State.reset, Agreement.blank]) (fun _ => ⟨rfl, rfl⟩) (.inl rfl)

theorem warmReset_fits (cause : ResetCause) (s : State) : TransactionFits (warmReset cause s) :=
  Quiet.fits ⟨rfl, rfl, rfl, rfl⟩ (by simp [warmReset, Agreement.blank]) (fun _ => ⟨rfl, rfl⟩) (.inl rfl)

theorem execRestart_fits (w : PortWrite) {s : State} (h : TransactionFits s) :
    TransactionFits (onPort w.addr (fun s => noteAcks (takenAcks 1 w.extra) (warmReset .restart s)) s) := by
  unfold onPort
  split
  · exact (Continues.of_keeps (s := warmReset .restart s) (by simp)).fits (warmReset_fits _ s)
  · exact (Continues.of_keeps (s := s) (by simp)).fits h

theorem configFault_fits {s : State} (h : Quiet s)
    (hc : s.presence.censusWindow = none ∧ s.presence.alignment = none) : TransactionFits (configFault s) := by
  have hq : Quiet (configFault s) := h.of_eq rfl rfl ⟨rfl, rfl⟩
  exact hq.fits (by simp [configFault]) (fun _ => hc) (.inl hc.2)

theorem loadDone_fits (i : Image) {s : State} (h : Quiet s) (hc : s.presence.alignment = none) :
    TransactionFits (loadDone i s) := by
  have hq : Quiet (loadDone i s) := h.of_eq (by simp) (by simp) (by simp)
  have hp : (loadDone i s).agreement.phase = .census := by simp [loadDone]
  exact hq.fits (by simp [hp]) (by simp [hp]) (.inl (by simpa using hc))

/-- The end of the image read, in LOADING (R154, R159). -/
theorem endsLoad_fits {c : Instr} {s t : State} (hc : c.endsLoad = true) (h : TransactionFits s)
    (e : exec c s = .next t) : TransactionFits t := by
  by_cases hp : s.agreement.phase = .loading
  · have hq := h.quiet_of_phase (.inl hp)
    have hw := h.census (by simp [hp])
    cases c with
    | loadDone i =>
      have hr : Quiet (endRead i.header s) := hq.of_eq rfl rfl ⟨rfl, rfl⟩
      simp only [exec, execLoadDone, hp, if_true, Host.Outcome.next.injEq] at e
      subst e
      split
      · exact loadDone_fits i hr hw.2
      · exact configFault_fits hr hw
    | loadFailure =>
      simp only [exec, execLoadFailure, hp, if_true, Host.Outcome.next.injEq] at e
      subst e
      exact configFault_fits hq hw
    | _ => simp [Instr.endsLoad] at hc
  · cases c with
    | loadDone i =>
      simp only [exec, execLoadDone, hp, if_false, Host.Outcome.next.injEq] at e
      exact e ▸ h
    | loadFailure =>
      simp only [exec, execLoadFailure, hp, if_false, Host.Outcome.next.injEq] at e
      exact e ▸ h
    | _ => simp [Instr.endsLoad] at hc

theorem rejectFrame_fits (rx : Reception) {s : State} (h : TransactionFits s) : TransactionFits (rejectFrame rx s) := by
  have hj : TransactionFits (judgeReception rx s) := (Continues.of_keeps (s := s) (by simp)).fits h
  unfold rejectFrame
  split
  · exact h
  · dsimp only
    split
    · unfold rejectSending
      dsimp only
      split
      · have hl : TransactionFits (latchFault .linkFault noTarget .severe (judgeReception rx s)) :=
          (Continues.of_keeps (s := judgeReception rx s) (by simp)).fits hj
        unfold linkFault
        dsimp only
        split
        · exact (Continues.of_keeps (s := latchFault _ _ _ _) (by simp)).fits hl
        · exact enterMute_fits _ hl
      · exact (Continues.of_keeps (s := judgeReception rx s) (by simp)).fits hj
    · exact hj

theorem censusWindowExpiry_fits {s t : State} (h : TransactionFits s) (e : execCensusWindowExpiry s = .next t) :
    TransactionFits t := by
  simp only [execCensusWindowExpiry, Host.Outcome.next.injEq] at e
  subst e
  split
  · rename_i hw
    have hp : s.agreement.phase = .census := by
      by_contra hp
      simp [(h.census hp).1] at hw
    have hq := h.quiet_of_phase (.inr (.inr (.inl hp)))
    split
    · have hx : s.presence.alignment = none := h.2.2.2.2.resolve_right fun q => by simp [q] at hw
      have hq' : Quiet (s.withPresence { s.presence with censusWindow := some s.system.censusWindow }) :=
        hq.of_eq rfl rfl ⟨rfl, rfl⟩
      exact hq'.fits (by simp [hp]) (by simp [hp]) (.inl hx)
    · exact adopt_fits _ _ hq hp
  · exact h

/-- A completed rail action reaches its issuer (R50, R152). -/
theorem deliverNotice_fits (n : Notice) {s : State} (h : TransactionFits s) : TransactionFits (deliverNotice s n) := by
  unfold deliverNotice
  split
  · exact (execComplete_continues _ s).fits h
  · split
    · rename_i ha
      have hp : s.agreement.phase = .census := by
        by_contra hp
        simp [(h.census hp).2] at ha
      exact runAlignment_fits _ (h.quiet_of_phase (.inr (.inr (.inl hp)))) hp
        (h.2.2.2.2.resolve_left fun q => by simp [q] at ha)
    · exact h
  · exact h
  · exact h

theorem deliverNotices_fits {x : State × List Notice} (h : TransactionFits x.1) : TransactionFits (deliverNotices x) := by
  obtain ⟨s, ns⟩ := x
  unfold deliverNotices
  induction ns generalizing s with
  | nil => exact h
  | cons n ns ih => exact ih _ (deliverNotice_fits n h)

/-- The channel's part of a rail event leaves the transaction alone. -/
theorem deliverNotices_of_continues {s : State} {x : State × List Notice} (h : TransactionFits s)
    (hx : Continues s x.1) : TransactionFits (deliverNotices x) :=
  deliverNotices_fits (hx.fits h)

theorem judgeRise_fits (ch : Fin 6) {s : State} (h : TransactionFits s) : TransactionFits (judgeRise ch s) := by
  unfold judgeRise
  split
  · exact deliverNotices_of_continues h (.of_keeps (by simp))
  · exact deliverNotices_of_continues h (.of_keeps (by simp))
  · exact (Continues.of_keeps (s := s) (by simp)).fits h
  · exact h

theorem judgeFall_fits (ch : Fin 6) {s : State} (h : TransactionFits s) : TransactionFits (judgeFall ch s) := by
  unfold judgeFall
  split
  · exact deliverNotices_of_continues h (.of_keeps (by simp))
  · exact deliverNotices_of_continues h (.of_keeps (by simp))
  · exact (Continues.of_keeps (s := s) (by simp)).fits h
  · exact (Continues.of_keeps (s := s) (by simp)).fits h
  · exact h

theorem powerGoodRises_fits (ch : Fin 6) {s : State} (h : TransactionFits s) : TransactionFits (powerGoodRises ch s) := by
  unfold powerGoodRises
  split
  · exact h
  · exact judgeRise_fits ch ((Continues.of_keeps (s := s) (by simp)).fits h)

theorem powerGoodFalls_fits (ch : Fin 6) {s : State} (h : TransactionFits s) : TransactionFits (powerGoodFalls ch s) := by
  unfold powerGoodFalls
  split
  · exact h
  · exact judgeFall_fits ch ((Continues.of_keeps (s := s) (by simp)).fits h)

end Sys2Proof.Machine
end

section
/-! PROOF. The transaction invariant is kept by every command (O56). -/

namespace Sys2Proof.Machine

open Sys2Proof

/-! ### Commands within a transaction -/

theorem barrierTimerExpiry_fits {s t : State} (h : TransactionFits s) (e : execBarrierTimerExpiry s = .next t) :
    TransactionFits t := by
  simp only [execBarrierTimerExpiry, Host.Outcome.next.injEq] at e
  subst e
  split
  · rename_i hb
    have he := executor_ne_idle_of_barrier hb
    split
    · rename_i k hk
      refine Continues.fits ?_ h
      unfold expireStage
      dsimp only
      split
      · have hm : Continues s (recordMissing ((barrierStopped s).shortOf k) s) :=
          .onRecord _ s (fun _ => rfl) fun _ _ _ => rfl
        refine hm.trans (.of_work ?_ (by simp) (by simpa using he))
        unfold recordMissing State.onRecord
        cases hr : s.agreement.record <;> simp [hr, barrierStopped, State.withRecord]
      · exact .of_work (by simp) (by simp) he
    · exact h
  · exact h

/-- A barrier command of the executor that leaves the agreement engine alone. -/
theorem barrierExpiry_fits {s t u : State} {use : BarrierUse} (h : TransactionFits s)
    (e : (if s.barrierIn use then u else s) = t) (ha : u.agreement = s.agreement)
    (hp : u.presence.censusWindow = s.presence.censusWindow ∧ u.presence.alignment = s.presence.alignment) :
    TransactionFits t := by
  subst e
  split
  · rename_i hb
    exact (Continues.of_work ha hp (executor_ne_idle_of_barrier hb)).fits h
  · exact h

theorem voteRunsOut_continues (s : State) : Continues s (voteRunsOut s) := by
  unfold voteRunsOut
  split
  · exact .of_keeps (by simp)
  · exact .refl s

/-- A signal event whose completion, if there is one, goes to the executor. -/
theorem completion_fits {s t u : State} {b : Bool} {c : Completion} (h : TransactionFits s)
    (e : (if b then execComplete c u else u) = t) (hu : Continues s u) : TransactionFits t := by
  subst e
  split
  · exact (hu.trans (execComplete_continues c u)).fits h
  · exact hu.fits h

theorem signal_fits {c : Instr} {s t : State} (hc : c.group = .signal) (h : TransactionFits s) (e : exec c s = .next t) :
    TransactionFits t := by
  cases c with
  | pulseEnd i =>
    simp only [exec, execPulseEnd, Host.Outcome.next.injEq] at e
    subst e
    split
    · exact completion_fits h rfl (.of_keeps (by simp))
    · exact h
  | senseChange i l =>
    simp only [exec, execSenseChange, Host.Outcome.next.injEq] at e
    subst e
    split
    · exact ((Continues.of_keeps (s := s) (t := (setSense i l s).withAwait i none) (by simp)).trans
        (execComplete_continues _ _)).fits h
    · exact (Continues.of_keeps (s := s) (by simp)).fits h
  | awaitTimeout i =>
    simp only [exec, execAwaitTimeout, Host.Outcome.next.injEq] at e
    subst e
    split
    · exact completion_fits h rfl (.of_keeps (by simp))
    · exact h
  | waitEnd =>
    simp only [exec, execWaitEnd, Host.Outcome.next.injEq] at e
    subst e
    split
    · exact completion_fits h rfl (.of_keeps (by simp))
    · exact h
  | _ => simp [Instr.group] at hc

/-- The transfers of the port, but for RESTART: nothing of the transaction is touched. -/
theorem transfer_fits {c : Instr} {s t : State} (hc : c.group = .transfer) (h : TransactionFits s)
    (e : exec c s = .next t) : TransactionFits t := by
  cases c with
  | status w => exact fits_of_next h e (execStatus_keeps w s) fun u k => ⟨by simp [k], by simp [k], by simp [k],
      fun _ => by simp [State.committed, k], by simp [k], by simp [k], by simp [k], by simp [k], by simp [k]⟩
  | peer a w => exact fits_of_next h e (execPeer_keeps a w s) fun u k => .of_keeps (by simp [k])
  | txn w => exact fits_of_next h e (execTxn_keeps w s) fun u k => .of_keeps (by simp [k])
  | history a w => exact fits_of_next h e (execHistory_keeps a w s) fun u k => .of_keeps (by simp [k])
  | wakeq w => exact fits_of_next h e (execWakeq_keeps w s) fun u k => .of_keeps (by simp [k])
  | faults w => exact fits_of_next h e (execFaults_keeps w s) fun u k => .of_keeps (by simp [k])
  | stack w => exact fits_of_next h e (execStack_keeps w s) fun u k => .of_keeps (by simp [k])
  | ackFaults w => exact fits_of_next h e (execAckFaults_keeps w s) fun u k => .of_keeps (by simp [k])
  | unknownCommand w => exact fits_of_next h e (execUnknownCommand_keeps w s) fun u k => .of_keeps (by simp [k])
  | snapshotRead r => exact fits_of_next h e (execSnapshotRead_keeps r s) fun u k => .of_keeps (by simp [k])
  | _ => simp [Instr.group] at hc

/-- The events of the request and wake units: nothing of the transaction is touched. -/
theorem unit_fits {c : Instr} {s t : State} (hc : c.group = .request ∨ c.group = .wake) (h : TransactionFits s)
    (e : exec c s = .next t) : TransactionFits t := by
  cases c with
  | deferHoldExpiry => exact fits_of_next h e (execDeferHoldExpiry_keeps s) fun u k => .of_keeps (by simp [k])
  | reEntryLockoutExpiry => exact fits_of_next h e (execReEntryLockoutExpiry_keeps s) fun u k => .of_keeps (by simp [k])
  | slpreqEdge a b i => exact fits_of_next h e (execSlpreqEdge_keeps a b i s) fun u k => .of_keeps (by simp [k])
  | reqackPulseEnd => exact fits_of_next h e (execReqackPulseEnd_keeps s) fun u k => .of_keeps (by simp [k])
  | demoteTimerExpiry => exact fits_of_next h e (execDemoteTimerExpiry_keeps s) fun u k => .of_keeps (by simp [k])
  | minimumDwellExpiry => exact fits_of_next h e (execMinimumDwellExpiry_keeps s) fun u k => .of_keeps (by simp [k])
  | faultHoldExpiry => exact fits_of_next h e (execFaultHoldExpiry_keeps s) fun u k => .of_keeps (by simp [k])
  | levelInputChange i l => exact fits_of_next h e (execLevelInputChange_keeps i l s) fun u k => .of_keeps (by simp [k])
  | levelHoldEnd i => exact fits_of_next h e (execLevelHoldEnd_keeps i s) fun u k => .of_keeps (by simp [k])
  | countEdge i => exact fits_of_next h e (execCountEdge_keeps i s) fun u k => .of_keeps (by simp [k])
  | ownWindowExpiry i => exact fits_of_next h e (execOwnWindowExpiry_keeps i s) fun u k => .of_keeps (by simp [k])
  | commonWindowExpiry => exact fits_of_next h e (execCommonWindowExpiry_keeps s) fun u k => .of_keeps (by simp [k])
  | buttonInputChange i l =>
    exact fits_of_next h e (execButtonInputChange_keeps i l s) fun u k => .of_keeps (by simp [k])
  | debounceEnd => exact fits_of_next h e (execDebounceEnd_keeps s) fun u k => .of_keeps (by simp [k])
  | longPressEnd => exact fits_of_next h e (execLongPressEnd_keeps s) fun u k => .of_keeps (by simp [k])
  | _ => simp [Instr.group] at hc

/-- The rail channels' counters and edges (R65 to R69). -/
theorem rail_fits {c : Instr} {s t : State} (hc : c.group = .rail) (h : TransactionFits s) (e : exec c s = .next t) :
    TransactionFits t := by
  cases c with
  | settleWindowExpiry ch =>
    simp only [exec, execSettleWindowExpiry, Host.Outcome.next.injEq] at e
    subst e
    split
    · exact deliverNotices_of_continues h (.of_keeps (by simp))
    · exact h
  | holdUpEnd ch =>
    simp only [exec, execHoldUpEnd, Host.Outcome.next.injEq] at e
    subst e
    split
    · exact deliverNotices_of_continues h (.of_keeps (by simp))
    · exact h
  | dischargeWindowExpiry ch =>
    simp only [exec, execDischargeWindowExpiry, Host.Outcome.next.injEq] at e
    subst e
    split
    · exact deliverNotices_of_continues h (.of_keeps (by simp))
    · exact h
  | holdDownEnd ch =>
    simp only [exec, execHoldDownEnd, Host.Outcome.next.injEq] at e
    subst e
    split
    · exact deliverNotices_of_continues h (.of_keeps (by simp))
    · exact h
  | powerGoodRiseRising ch => cases e; exact powerGoodRises_fits ch h
  | powerGoodFallHoldingUp ch => cases e; exact powerGoodFalls_fits ch h
  | powerGoodFallFalling ch => cases e; exact powerGoodFalls_fits ch h
  | powerGoodRiseHoldingDown ch => cases e; exact powerGoodRises_fits ch h
  | powerGoodFallFailedDown ch => cases e; exact powerGoodFalls_fits ch h
  | powerGoodFallOn ch => cases e; exact powerGoodFalls_fits ch h
  | powerGoodRiseOn ch => cases e; exact powerGoodRises_fits ch h
  | _ => simp [Instr.group] at hc

/-- The delivery of a frame that the hand-off takes to the agreement engine. -/
theorem delivery_fits {c : Instr} {s t : State} (hc : c.group = .delivery) (h : TransactionFits s)
    (e : exec c s = .next t) : TransactionFits t := by
  cases c with
  | proposeDelivered i n k img inh => cases e; exact handOff_fits _ h fun own _ => takePropose_fits i k img inh own
  | forcedProposeDelivered i n k img => cases e; exact handOff_fits _ h fun _ _ => takeForcedPropose_fits i k
  | wakeDelivered i n w x => cases e; exact handOff_fits _ h fun own _ => takeWake_fits i w x own
  | voteDelivered i n a => cases e; exact handOff_fits _ h fun _ _ => takeVote_fits i n a
  | stageForwardDelivered i n k => cases e; exact handOff_fits _ h fun own _ => takeForward_fits i n k own
  | stageUnwindDelivered i n k => cases e; exact handOff_fits _ h fun own _ => takeUnwind_fits i n k own
  | abortDelivered i n r => cases e; exact handOff_fits _ h fun _ _ => takeAbort_fits i n r
  | faultDelivered i n code tgt => cases e; exact handOff_fits _ h fun _ _ => takeFault_fits i code
  | beatDelivered i n b => cases e; exact deliverBeat_fits i n b h
  | censusDelivered i sig rc => cases e; exact deliverCensus_fits i sig rc h
  | _ => simp [Instr.group] at hc

/-- Every command keeps the transaction invariant. -/
theorem exec_fits {c : Instr} {s t : State} (h : TransactionFits s) (e : exec c s = .next t) : TransactionFits t := by
  cases hg : c.group with
  | reset =>
    cases c with
    | por => cases e; exact powerOn_fits s
    | pinReset => cases e; exact warmReset_fits _ s
    | restart w => cases e; exact execRestart_fits w h
    | _ => simp [Instr.group] at hg
  | load => exact endsLoad_fits (by cases c <;> simp_all [Instr.group, Instr.endsLoad]) h e
  | link =>
    cases c with
    | integration => exact fits_of_next h e (execIntegration_keeps s) fun u k => .of_keeps (by simp [k])
    | frameStart => exact fits_of_next h e (execFrameStart_keeps s) fun u k => .of_keeps (by simp [k])
    | lostArbitration w => exact fits_of_next h e (execLostArbitration_keeps w s) fun u k => .of_keeps (by simp [k])
    | discardedAtThisStationAlone rx =>
      exact fits_of_next h e (execDiscardedAtThisStationAlone_keeps rx s) fun u k => .of_keeps (by simp [k])
    | _ => simp [Instr.group] at hg
  | rejection =>
    cases c with
    | frameRejected rx => cases e; exact rejectFrame_fits rx h
    | _ => simp [Instr.group] at hg
  | delivery => exact delivery_fits hg h e
  | voteTimer =>
    cases c with
    | voteWindowExpiry =>
      cases e
      split
      · have hk : Continues s (s.withAgreement { s.agreement with voteWindow := none }) :=
          ⟨rfl, rfl, rfl, fun _ => rfl, fun _ => rfl, id, id, id, id⟩
        exact (hk.trans (voteRunsOut_continues _)).fits h
      · exact h
    | voteGuardExpiry =>
      cases e
      split
      · have hk : Continues s (s.withAgreement { s.agreement with voteGuard := none }) :=
          ⟨rfl, rfl, rfl, fun _ => rfl, id, fun _ => rfl, id, id, id⟩
        exact (hk.trans (voteRunsOut_continues _)).fits h
      · exact h
    | _ => simp [Instr.group] at hg
  | barrier =>
    cases c with
    | barrierTimerExpiry => exact barrierTimerExpiry_fits h e
    | completionWaitExpiry => cases e; exact barrierExpiry_fits h rfl (by simp) (by simp)
    | reverseBarrierExpiry => cases e; exact barrierExpiry_fits h rfl (by simp) (by simp)
    | _ => simp [Instr.group] at hg
  | closing =>
    cases c with
    | closingWaitExpiry =>
      cases e
      split
      · rename_i hb
        have hp : s.agreement.phase ≠ .census := fun q =>
          executor_ne_idle_of_barrier hb (h.quiet_of_phase (.inr (.inr (.inl q)))).executor
        exact forcedClose_fits (h.census hp)
      · exact h
    | _ => simp [Instr.group] at hg
  | beat =>
    cases c with
    | beatTick => exact fits_of_next h e (execBeatTick_keeps s) fun u k => .of_keeps (by simp [k])
    | barredRetryExpiry => exact fits_of_next h e (execBarredRetryExpiry_keeps s) fun u k => .of_keeps (by simp [k])
    | _ => simp [Instr.group] at hg
  | census =>
    cases c with
    | censusWindowExpiry => exact censusWindowExpiry_fits h e
    | _ => simp [Instr.group] at hg
  | silence =>
    cases c with
    | silenceTimerExpiry i =>
      cases e
      split
      · exact checkLeaveMute_fits ((Continues.of_keeps (s := s) (by simp)).fits h)
      · exact h
    | _ => simp [Instr.group] at hg
  | request => exact unit_fits (.inl hg) h e
  | wake => exact unit_fits (.inr hg) h e
  | rail => exact rail_fits hg h e
  | dropout =>
    cases c with
    | dropoutFilterExpiry ch => exact fits_of_next h e (execDropoutFilterExpiry_keeps ch s) fun u k => .of_keeps (by simp [k])
    | dropoutWindowExpiry ch => exact fits_of_next h e (execDropoutWindowExpiry_keeps ch s) fun u k => .of_keeps (by simp [k])
    | _ => simp [Instr.group] at hg
  | signal => exact signal_fits hg h e
  | transfer => exact transfer_fits hg h e

/-- An invariant that time and every command keep is kept by every step. -/
theorem kept_of_exec {inv : State → Prop} (ht : ∀ s, inv s → inv (tick s))
    (hq : ∀ s p, inv s → inv { s with pending := p }) (he : ∀ c s t, inv s → exec c s = .next t → inv t) : Kept inv := by
  intro s t h e
  unfold step at e
  split at e
  · cases e
    exact ht s h
  · exact he _ _ t (hq s _ h) e

/-- Settles O56, from `exec_fits`: every command keeps the transaction invariant, as does the time base. -/
theorem transactionFitsIsKept : Obligations.TransactionFitsIsKept :=
  kept_of_exec (fun _ h => h) (fun _ _ h => h) fun _ _ _ => exec_fits

end Sys2Proof.Machine
end

section
/-! SUPPORT. The bounds of the lists and counts: the primitive operations that write one of them, and those that write
none. -/

namespace Sys2Proof.Machine

open Sys2Proof

/-- An operation that writes none of the bounded lists and counts. -/
theorem ListsFit.of_eq {s t : State} (h : ListsFit s) (k : t.faults = s.faults ∧ t.wake.queue = s.wake.queue ∧
    t.wake.mark = s.wake.mark ∧ t.wake.inputs = s.wake.inputs ∧ t.agreement.history = s.agreement.history ∧
    t.agreement.lateProposals = s.agreement.lateProposals ∧ t.agreement.streaks = s.agreement.streaks ∧
    t.agreement.record = s.agreement.record ∧ t.link = s.link ∧ t.channel.corrections = s.channel.corrections) :
    ListsFit t := by
  obtain ⟨hf, hq, hm, hi, hh, hl, hs, hr, hx, hc⟩ := k
  simpa only [ListsFit, WakeQueueFits, State.slot, hf, hq, hm, hi, hh, hl, hs, hr, hx, hc] using h

/-! ### Slots -/

/-- A slot written with a rejection count in bounds. -/
theorem withSlot_lists {s : State} (h : ListsFit s) {k : FrameKind} {x : Slot} (hx : x.rejections ≤ 7) :
    ListsFit (s.withSlot k x) := by
  obtain ⟨hl, hu, hd, hw, hh, hp, ht, he, hc, hs, hr⟩ := h
  refine ⟨hl, hu, hd, hw, hh, hp, ht, he, hc, fun j => ?_, hr⟩
  by_cases hj : j = k
  · subst hj
    simpa using hx
  · rw [slot_withSlot_ne _ hj]
    exact hs j

theorem ListsFit.rejections {s : State} (h : ListsFit s) (k : FrameKind) : (s.slot k).rejections ≤ 7 :=
  h.2.2.2.2.2.2.2.2.2.1 k

@[simp] theorem clearMark_lists {s : State} (h : ListsFit s) : ListsFit (clearMark s) := by
  obtain ⟨hl, hu, hd, ⟨hn, ha, -, hi⟩, hrest⟩ := h
  exact ⟨hl, hu, hd, ⟨hn, ha, fun i q => by simp [clearMark] at q, hi⟩, hrest⟩

@[simp] theorem latchWaits_lists {s : State} (h : ListsFit s) : ListsFit (latchWaits s) := h.of_eq (by simp)

@[simp] theorem reportPurged_lists (r : Ready) {s : State} (h : ListsFit s) : ListsFit (reportPurged r s) := by
  unfold reportPurged
  split
  · exact clearMark_lists h
  · split
    · exact h
    · exact latchWaits_lists h
  · exact h

@[simp] theorem reportQueued_lists (q : Option Queued) {s : State} (h : ListsFit s) : ListsFit (reportQueued q s) := by
  unfold reportQueued
  split
  · exact reportPurged_lists _ h
  · exact h

@[simp] theorem fillSlot_lists (k : FrameKind) (q : Queued) {s : State} (h : ListsFit s) : ListsFit (fillSlot k q s) := by
  have hr := reportQueued_lists (s.slot k).queued h
  unfold fillSlot
  split
  · refine withSlot_lists hr ?_
    dsimp only
    split
    · exact Nat.zero_le _
    · exact hr.rejections k
  · exact reportQueued_lists _ h

@[simp] theorem fillFrame_lists (n : TxnNumber) (b : Body) {s : State} (h : ListsFit s) : ListsFit (fillFrame n b s) :=
  fillSlot_lists _ _ h

@[simp] theorem fillCensus_lists {s : State} (h : ListsFit s) : ListsFit (fillCensus s) := fillFrame_lists _ _ h

@[simp] theorem fillForcedPropose_lists {s : State} (h : ListsFit s) : ListsFit (fillForcedPropose s) :=
  fillFrame_lists _ _ h

@[simp] theorem fillBeat_lists {s : State} (h : ListsFit s) : ListsFit (fillBeat s) := by
  unfold fillBeat
  split
  · exact h
  · exact fillSlot_lists _ _ h

@[simp] theorem purgeKind_lists (k : FrameKind) (test : Frame → Bool) {s : State} (h : ListsFit s) :
    ListsFit (purgeKind k test s) := by
  unfold purgeKind
  dsimp only
  split
  · exact reportQueued_lists _ (withSlot_lists h (Nat.zero_le _))
  · exact withSlot_lists h (h.rejections k)

@[simp] theorem purgeNumber_lists (k : FrameKind) (n : TxnNumber) {s : State} (h : ListsFit s) :
    ListsFit (purgeNumber k n s) :=
  purgeKind_lists _ _ h

@[simp] theorem purgeTransaction_lists (n : TxnNumber) {s : State} (h : ListsFit s) :
    ListsFit (purgeTransaction n s) :=
  purgeNumber_lists _ _ (purgeNumber_lists _ _ (purgeNumber_lists _ _ h))

/-- A fold keeps the bounds where each of its steps does. -/
theorem foldl_lists {α : Type} {f : State → α → State} (hf : ∀ s a, ListsFit s → ListsFit (f s a)) (l : List α)
    {s : State} (h : ListsFit s) : ListsFit (l.foldl f s) := by
  induction l generalizing s with
  | nil => exact h
  | cons a l ih => exact ih (hf s a h)

@[simp] theorem emptySlots_lists {s : State} (h : ListsFit s) : ListsFit (emptySlots s) := by
  have hf : ListsFit (frameKinds.foldl (fun s k => reportQueued (s.slot k).queued s) s) :=
    foldl_lists (fun _ _ => reportQueued_lists _) _ h
  unfold emptySlots
  dsimp only
  generalize frameKinds.foldl _ s = u at hf
  obtain ⟨hl, hu, hd, hw, hh, hp, ht, he, hc, -, hr⟩ := hf
  refine ⟨hl, hu, hd, hw, hh, hp, ht, he, hc, fun k => ?_, hr⟩
  simp [State.slot, tabGet, Slot.blank]

@[simp] theorem startSlot_lists (k : FrameKind) {s : State} (h : ListsFit s) : ListsFit (startSlot k s) := by
  unfold startSlot
  dsimp only
  split
  · exact withSlot_lists h (h.rejections k)
  · exact h

@[simp] theorem clearSending_lists (k : FrameKind) {s : State} (h : ListsFit s) : ListsFit (clearSending k s) :=
  withSlot_lists h (Nat.zero_le _)

@[simp] theorem requeueForced_lists (took : Bool) {s : State} (h : ListsFit s) : ListsFit (requeueForced took s) := by
  unfold requeueForced
  split
  · exact fillForcedPropose_lists h
  · exact h

theorem returnFrame_lists (k : FrameKind) {n : Nat} (hn : n ≤ 7) {s : State} (h : ListsFit s) :
    ListsFit (returnFrame k n s) := by
  unfold returnFrame
  dsimp only
  split
  · exact h
  · split
    · exact requeueForced_lists _ (reportPurged_lists _ (withSlot_lists h (Nat.zero_le _)))
    · exact withSlot_lists h hn

@[simp] theorem judgeReception_lists (rx : Reception) {s : State} (h : ListsFit s) : ListsFit (judgeReception rx s) := by
  unfold judgeReception
  split
  · obtain ⟨hl, hu, hd, hw, hh, hp, ht, -, hrest⟩ := h
    exact ⟨hl, hu, hd, hw, hh, hp, ht, Nat.min_le_right _ _, hrest⟩
  · exact h

/-! ### Faults -/

/-- The pair of an entry stands, and its count stays in bounds, at a further occurrence (R99). -/
theorem again_fits {e : FaultEntry} (h : 1 ≤ e.count ∧ e.count ≤ 255) (sev : Severity) (now : Time) :
    ((e.again sev now).code, (e.again sev now).target) = (e.code, e.target) ∧
    1 ≤ (e.again sev now).count ∧ (e.again sev now).count ≤ 255 := by
  refine ⟨rfl, ?_⟩
  simp only [FaultEntry.again, satInc]
  omega

@[simp] theorem latchFault_lists (code : FaultCode) (target : Target) (sev : Severity) {s : State} (h : ListsFit s) :
    ListsFit (latchFault code target sev s) := by
  obtain ⟨⟨hlen, hnd, hcount⟩, hu, hrest⟩ := h
  unfold latchFault
  split
  · refine ⟨⟨by simpa using hlen, ?_, ?_⟩, hu, hrest⟩
    · have : (s.faults.latched.map fun e => if e.isPair code target then e.again sev s.time else e).map
          (fun e => (e.code, e.target)) = s.faults.latched.map fun e => (e.code, e.target) := by
        rw [List.map_map]
        refine List.map_congr_left fun e he => ?_
        dsimp only [Function.comp]
        split <;> rfl
      rw [this]
      exact hnd
    · intro e he
      obtain ⟨x, hx, rfl⟩ := List.mem_map.1 he
      split
      · exact (again_fits (hcount x hx) sev s.time).2
      · exact hcount x hx
  · rename_i hn
    split
    · rename_i hl
      refine ⟨⟨by simp; omega, ?_, ?_⟩, hu, hrest⟩
      · rw [List.map_append, List.nodup_append]
        refine ⟨hnd, by simp, ?_⟩
        intro a ha b hb hab
        obtain ⟨x, hx, rfl⟩ := List.mem_map.1 ha
        simp only [List.map_cons, List.map_nil, List.mem_singleton] at hb
        rw [hb, Prod.mk.injEq] at hab
        exact hn (List.any_eq_true.2 ⟨x, hx, (x.isPair_iff _ _).2 hab⟩)
      · intro e he
        rcases List.mem_append.1 he with h' | h'
        · exact hcount e h'
        · rw [List.mem_singleton.1 h']
          exact ⟨Nat.le_refl _, Nat.le_add_left 1 254⟩
    · exact ⟨⟨hlen, hnd, hcount⟩, Nat.min_le_right _ _, hrest⟩

@[simp] theorem requestFault_lists (code : FaultCode) (target : Target) {s : State} (h : ListsFit s) :
    ListsFit (requestFault code target s) := by
  unfold requestFault
  split
  · exact fillFrame_lists _ _ h
  · exact h

@[simp] theorem disposeFault_lists (code : FaultCode) (target : Target) (sev : Severity) (send : Bool) {s : State}
    (h : ListsFit s) : ListsFit (disposeFault code target sev send s) := by
  have hl := latchFault_lists code target sev h
  unfold disposeFault
  dsimp only
  split
  · exact requestFault_lists _ _ hl
  · exact hl

@[simp] theorem raiseFault_lists (code : FaultCode) (target : Target) (sev : Severity) {s : State}
    (h : ListsFit s) : ListsFit (raiseFault code target sev s) :=
  disposeFault_lists _ _ _ _ h

@[simp] theorem deferFault_lists (ch : Fin 6) (loss : Bool) {s : State} (h : ListsFit s) :
    ListsFit (deferFault ch loss s) := by
  obtain ⟨hl, hu, ⟨hnd, hcount⟩, hrest⟩ := h
  unfold deferFault
  split
  · refine ⟨hl, hu, ⟨?_, ?_⟩, hrest⟩
    · have : (s.faults.deferred.map fun e => if e.rail == ch then e.again loss else e).map (fun e => e.rail) =
          s.faults.deferred.map fun e => e.rail := by
        rw [List.map_map]
        refine List.map_congr_left fun e he => ?_
        dsimp only [Function.comp]
        split <;> rfl
      rw [this]
      exact hnd
    · intro e he
      obtain ⟨x, hx, rfl⟩ := List.mem_map.1 he
      have := hcount x hx
      split
      · simp only [DeferredEntry.again, satInc]
        omega
      · exact this
  · rename_i hn
    refine ⟨hl, hu, ⟨?_, ?_⟩, hrest⟩
    · rw [List.map_append, List.nodup_append]
      refine ⟨hnd, by simp, ?_⟩
      intro a ha b hb hab
      obtain ⟨x, hx, rfl⟩ := List.mem_map.1 ha
      simp only [List.map_cons, List.map_nil, List.mem_singleton] at hb
      exact hn (List.any_eq_true.2 ⟨x, hx, by simpa using hab.trans hb⟩)
    · intro e he
      rcases List.mem_append.1 he with h' | h'
      · exact hcount e h'
      · rw [List.mem_singleton.1 h']
        exact ⟨Nat.le_refl _, Nat.le_add_left 1 254⟩

@[simp] theorem raiseRailCondition_lists (ch : Fin 6) (loss : Bool) {s : State} (h : ListsFit s) :
    ListsFit (raiseRailCondition ch loss s) := by
  unfold raiseRailCondition
  split
  · exact deferFault_lists _ _ h
  · exact raiseFault_lists _ _ _ h

@[simp] theorem judgeDeferred_lists (send : Bool) {s : State} (h : ListsFit s) : ListsFit (judgeDeferred send s) := by
  have hf : ListsFit (s.faults.deferred.foldl (judgeEntry send) s) :=
    foldl_lists (fun _ _ => disposeFault_lists _ _ _ _) _ h
  obtain ⟨hl, hu, -, hrest⟩ := hf
  exact ⟨hl, hu, ⟨List.nodup_nil, fun e he => by cases he⟩, hrest⟩

@[simp] theorem requestAbort_lists (n : TxnNumber) (r : AbortReason) {s : State} (h : ListsFit s) :
    ListsFit (requestAbort n r s) := by
  unfold requestAbort
  split
  · exact fillFrame_lists _ _ h
  · exact h

/-! ### The record, the history and the counts of the agreement engine -/

/-- A change of the record that leaves its fault list in bounds. -/
theorem onRecord_lists {f : Record → Record} (hf : ∀ r, FaultListFits r → FaultListFits (f r)) {s : State}
    (h : ListsFit s) : ListsFit (State.onRecord f s) := by
  unfold State.onRecord
  split
  · rename_i r hr
    obtain ⟨hl, hu, hd, hw, hh, hp, ht, he, hc, hs, hx⟩ := h
    refine ⟨hl, hu, hd, hw, hh, hp, ht, he, hc, hs, fun r' q => ?_⟩
    obtain rfl : f r = r' := by simpa using q
    exact hf r (hx r hr)
  · exact h

@[simp] theorem countLate_lists {s : State} (h : ListsFit s) : ListsFit (countLate s) := by
  obtain ⟨hl, hu, hd, hw, hh, -, hrest⟩ := h
  exact ⟨hl, hu, hd, hw, hh, Nat.min_le_right _ _, hrest⟩

theorem writeStreak_lists {n : Nat} (hn : n ≤ 3) {s : State} (h : ListsFit s) : ListsFit (writeStreak n s) := by
  obtain ⟨hl, hu, hd, hw, hh, hp, ⟨h1, h2, h3, h4⟩, hrest⟩ := h
  refine ⟨hl, hu, hd, hw, hh, hp, ?_, hrest⟩
  change StreaksFit (setStreak s.agreement.streaks s.kind n)
  cases s.kind <;> exact ⟨by simp_all [setStreak], by simp_all [setStreak], by simp_all [setStreak], by simp_all [setStreak]⟩

@[simp] theorem insertHistory_lists (e : HistoryEntry) {s : State} (h : ListsFit s) : ListsFit (insertHistory e s) := by
  obtain ⟨hl, hu, hd, hw, -, hrest⟩ := h
  exact ⟨hl, hu, hd, hw, by simp [insertHistory], hrest⟩

@[simp] theorem archive_lists (n : Nat) {s : State} (h : ListsFit s) : ListsFit (archive n s) := by
  unfold archive
  split
  · exact insertHistory_lists _ h
  · exact h

@[simp] theorem countCorrection_lists {s : State} (h : ListsFit s) : ListsFit (countCorrection s) := by
  obtain ⟨hl, hu, hd, hw, hh, hp, ht, he, -, hrest⟩ := h
  exact ⟨hl, hu, hd, hw, hh, hp, ht, he, Nat.min_le_right _ _, hrest⟩

end Sys2Proof.Machine
end

section
/-! SUPPORT. The bounds of the lists and counts in the channel block, the stage executor and the wake unit. -/

namespace Sys2Proof.Machine

open Sys2Proof

/-! ### The channel block -/

@[simp] theorem failRail_lists (ch : Fin 6) (st : RailState) (code : FaultCode) {s : State} (h : ListsFit s) :
    ListsFit (failRail ch st code s).1 := by
  have hl : ListsFit (enterLow ch st s) := h.of_eq (by simp)
  exact (raiseFault_lists code (railTarget ch) .severe hl).of_eq (by simp [failRail])

@[simp] theorem bounceRail_lists (ch : Fin 6) (back : RailState) (n : Nat) (failed : RailState) (code : FaultCode)
    {s : State} (h : ListsFit s) : ListsFit (bounceRail ch back n failed code s).1 := by
  unfold bounceRail
  dsimp only
  split
  · exact h.of_eq (by simp)
  · exact failRail_lists _ _ _ (h.of_eq (by simp))

@[simp] theorem settleCorrection_lists (row : ProfileRow) {s : State} (h : ListsFit s) :
    ListsFit (settleCorrection row s) := by
  have hr : ∀ s ch, ListsFit s → ListsFit (correctRail row s ch) := fun s ch h => by
    unfold correctRail
    split
    · exact countCorrection_lists (h.of_eq (by simp))
    · exact h
  have hs : ∀ s i, ListsFit s → ListsFit (correctSignal row s i) := fun s i h => by
    unfold correctSignal
    split
    · exact countCorrection_lists (h.of_eq (by simp))
    · exact h
  exact foldl_lists hs _ (foldl_lists hr _ h)

/-! ### The stage executor -/

@[simp] theorem withExecutor_lists (e : Executor) {s : State} (h : ListsFit s) : ListsFit (s.withExecutor e) := h

@[simp] theorem beginStage_lists (k : Nat) {s : State} (h : ListsFit s) : ListsFit (beginStage k s) := h

@[simp] theorem execStep_lists {s : State} (h : ListsFit s) : ListsFit (execStep s).1 := by
  have hi : ∀ r (x : State × Option Completion), ListsFit x.1 → ListsFit (afterIssue r x).1 := by
    rintro r ⟨u, c⟩ hu
    cases c <;> exact hu.of_eq (by simp [afterIssue])
  unfold execStep
  split
  · exact h
  · split
    · split
      · exact hi _ _ (h.of_eq (by simp))
      · unfold reportStage
        split
        · exact h.of_eq (by simp)
        · exact fillFrame_lists _ _ h
    · split
      · split
        · exact hi _ _ (h.of_eq (by simp))
        · exact fillFrame_lists _ _ h
      · exact fillFrame_lists _ _ h
    · exact h

@[simp] theorem execRun_lists {s : State} (h : ListsFit s) : ListsFit (execRun s) := by
  have hl : ∀ n s, ListsFit s → ListsFit (execLoop n s) := fun n => by
    induction n with
    | zero => exact fun s h => h
    | succ n ih =>
      intro s h
      have hs := execStep_lists h
      unfold execLoop
      split <;> rename_i hx <;> rw [hx] at hs
      · exact ih _ hs
      · exact hs
  exact hl 128 s h

@[simp] theorem execComplete_lists (c : Completion) {s : State} (h : ListsFit s) : ListsFit (execComplete c s) := by
  unfold execComplete
  split
  · exact execRun_lists (h.of_eq (by simp))
  · exact h

@[simp] theorem execStart_lists {s : State} (h : ListsFit s) : ListsFit (execStart s) :=
  execRun_lists (h.of_eq (by simp))

@[simp] theorem execUnwind_lists (n : Nat) {s : State} (h : ListsFit s) : ListsFit (execUnwind n s) :=
  execRun_lists (h.of_eq (by simp))

@[simp] theorem testWaiting_lists {s : State} (h : ListsFit s) : ListsFit (testWaiting s) := by
  unfold testWaiting
  split
  · rename_i k _
    split
    · exact h
    · dsimp only
      split
      · exact execRun_lists (beginStage_lists k (purgeKind_lists _ _ h))
      · exact execRun_lists (h.of_eq (by simp))
  · exact h

@[simp] theorem ownForward_lists (k : Nat) {s : State} (h : ListsFit s) : ListsFit (ownForward k s) := by
  unfold ownForward
  split
  · exact execRun_lists (h.of_eq (by simp))
  · exact h

@[simp] theorem testLevel_lists {s : State} (h : ListsFit s) : ListsFit (testLevel s) := by
  unfold testLevel
  split
  · split
    · exact execRun_lists (h.of_eq (by simp))
    · exact h
  · exact h

@[simp] theorem ownUnwind_lists (k : Nat) {s : State} (h : ListsFit s) : ListsFit (ownUnwind k s) := by
  unfold ownUnwind
  split
  · exact testLevel_lists (h.of_eq (by simp))
  · exact h

@[simp] theorem stall_lists {s : State} (h : ListsFit s) : ListsFit (stall s) := raiseFault_lists _ _ _ h

@[simp] theorem expireNonForced_lists {s : State} (h : ListsFit s) : ListsFit (expireNonForced s) := by
  unfold expireNonForced
  split
  · exact stall_lists h
  · exact requestAbort_lists _ _ h

@[simp] theorem recordMissing_lists (m : StationSet) {s : State} (h : ListsFit s) : ListsFit (recordMissing m s) :=
  onRecord_lists (f := fun r => { r with missing := r.missing ||| m }) (fun _ hr => hr) h

@[simp] theorem expireStage_lists (k : Nat) {s : State} (h : ListsFit s) : ListsFit (expireStage k s) := by
  have hb : ListsFit (barrierStopped s) := h
  unfold expireStage
  dsimp only
  split
  · exact execRun_lists (beginStage_lists k (recordMissing_lists _ hb))
  · exact expireNonForced_lists hb

/-! ### The wake unit -/

/-- The wake unit replaced by one in bounds. -/
theorem withWake_lists {w : WakeUnit} {s : State} (h : ListsFit s) (hw : WakeQueueFits w) : ListsFit (s.withWake w) := by
  obtain ⟨hl, hu, hd, -, hrest⟩ := h
  exact ⟨hl, hu, hd, hw, hrest⟩

theorem ListsFit.wake {s : State} (h : ListsFit s) : WakeQueueFits s.wake := h.2.2.2.1

/-- The inputs rewritten, each with its edge count in bounds. -/
theorem WakeQueueFits.inputs {w : WakeUnit} (h : WakeQueueFits w) {f : Fin 8 → WakeInput → WakeInput}
    (hf : ∀ i x, x.edges ≤ 65535 → (f i x).edges ≤ 65535) : WakeQueueFits { w with inputs := tabMap f w.inputs } := by
  obtain ⟨hn, ha, hm, hi⟩ := h
  exact ⟨hn, ha, hm, fun i => by simpa using hf i _ (hi i)⟩

theorem withWakeInput_lists {s : State} (h : ListsFit s) (i : Fin 8) {x : WakeInput} (hx : x.edges ≤ 65535) :
    ListsFit (s.withWakeInput i x) := by
  obtain ⟨hn, ha, hm, hi⟩ := h.wake
  refine withWake_lists h ⟨hn, ha, hm, fun j => ?_⟩
  by_cases hj : j = i
  · subst hj
    simpa using hx
  · simpa [tabGet_tabSet_ne _ hj] using hi j

theorem ListsFit.edges {s : State} (h : ListsFit s) (i : Fin 8) : (s.wakeInput i).edges ≤ 65535 := h.wake.2.2.2 i

@[simp] theorem refreshQualification_lists {s : State} (h : ListsFit s) : ListsFit (refreshQualification s) := by
  refine withWake_lists h (h.wake.inputs fun i x hx => ?_)
  split
  · unfold startedInput
    split <;> exact hx
  · exact Nat.zero_le _

@[simp] theorem testAnnounce_lists {s : State} (h : ListsFit s) : ListsFit (testAnnounce s) := by
  unfold testAnnounce
  split
  · split
    · rename_i e he
      have hf := fillFrame_lists s.nextNumber (.wake s.wakeTarget e.input) h
      obtain ⟨hn, ha, hm, hi⟩ := hf.wake
      refine withWake_lists hf ⟨hn, ha, fun i q => ?_, hi⟩
      simp only [Option.some.injEq] at q
      exact ⟨e, by simpa using List.mem_of_find?_eq_some he, q⟩
    · exact h
  · exact h

/-- A qualification keeps one entry for each input (R119). -/
theorem queueAfter_fits {w : WakeUnit} (h : WakeQueueFits w) (i : Fin 8) (now : Time) :
    WakeQueueFits { w with queue := queueAfter i now w.queue } := by
  obtain ⟨hn, ha, hm, hi⟩ := h
  unfold queueAfter
  split
  · have hk : (w.queue.map fun e => if e.input == i then { e with repeats := satInc 255 e.repeats } else e).map
        (fun e => e.input) = w.queue.map fun e => e.input := by
      rw [List.map_map]
      refine List.map_congr_left fun e he => ?_
      dsimp only [Function.comp]
      split <;> rfl
    refine ⟨by rw [hk]; exact hn, fun e he => ?_, fun j q => ?_, hi⟩
    · obtain ⟨x, hx, rfl⟩ := List.mem_map.1 he
      have := ha x hx
      split
      · exact ⟨this.1, Nat.min_le_right _ _⟩
      · exact this
    · obtain ⟨e, he, hj⟩ := hm j q
      refine ⟨_, List.mem_map.2 ⟨e, he, rfl⟩, ?_⟩
      split <;> exact hj
  · rename_i hx
    refine ⟨?_, fun e he => ?_, fun j q => ?_, hi⟩
    · rw [List.map_append, List.nodup_append]
      refine ⟨hn, by simp, ?_⟩
      intro a ha' b hb hab
      obtain ⟨x, hx', rfl⟩ := List.mem_map.1 ha'
      simp only [List.map_cons, List.map_nil, List.mem_singleton] at hb
      exact hx (List.any_eq_true.2 ⟨x, hx', by simpa using hab.trans hb⟩)
    · rcases List.mem_append.1 he with h' | h'
      · exact ha e h'
      · rw [List.mem_singleton.1 h']
        exact ⟨Nat.zero_le _, Nat.zero_le _⟩
    · obtain ⟨e, he, hj⟩ := hm j q
      exact ⟨e, List.mem_append_left _ he, hj⟩

@[simp] theorem qualify_lists (i : Fin 8) {s : State} (h : ListsFit s) : ListsFit (qualify i s) := by
  have hq := withWake_lists h (queueAfter_fits h.wake i s.time)
  unfold qualify
  dsimp only
  split
  · exact testAnnounce_lists hq
  · split
    · exact requestAbort_lists _ _ hq
    · exact hq

@[simp] theorem judgeWindow_lists (i : Fin 8) {s : State} (h : ListsFit s) : ListsFit (judgeWindow s i) := by
  have hw : ListsFit (s.withWakeInput i { s.wakeInput i with edges := 0, overflow := false }) :=
    withWakeInput_lists h i (Nat.zero_le _)
  unfold judgeWindow
  dsimp only
  split
  · exact qualify_lists i hw
  · exact hw

/-- What stays of an entry at the settle evaluation names the same input, with its counts in bounds (R121). -/
theorem evaluatedEntry_fits {b : Bool} {e e' : WakeEntry} (h : e.attempts ≤ 2 ∧ e.repeats ≤ 255)
    (he : evaluatedEntry b e = some e') : e'.input = e.input ∧ e'.attempts ≤ 2 ∧ e'.repeats ≤ 255 := by
  unfold evaluatedEntry at he
  split at he
  · cases he
  · split at he
    · cases he
      exact ⟨rfl, h⟩
    · split at he
      · cases he
        exact ⟨rfl, by dsimp only; omega, h.2⟩
      · cases he

/-- The inputs of what a filter over the entries leaves are a sublist of all inputs. -/
theorem evaluated_sublist (q : List WakeEntry) {f : WakeEntry → Option WakeEntry}
    (hf : ∀ e ∈ q, ∀ e', f e = some e' → e'.input = e.input) :
    ((q.filterMap f).map fun e => e.input).Sublist (q.map fun e => e.input) := by
  induction q with
  | nil => exact List.Sublist.refl _
  | cons a q ih =>
    have hq := ih fun e he => hf e (List.mem_cons_of_mem _ he)
    cases ha : f a with
    | none =>
      rw [List.filterMap_cons_none ha]
      exact hq.cons _
    | some a' =>
      rw [List.filterMap_cons_some ha, List.map_cons, List.map_cons, hf a List.mem_cons_self a' ha]
      exact hq.cons_cons _

@[simp] theorem settleEvaluation_lists (st : SystemState) {s : State} (h : ListsFit s) :
    ListsFit (settleEvaluation st s) := by
  obtain ⟨hn, ha, -, hi⟩ := h.wake
  unfold settleEvaluation
  split
  · exact withWake_lists h ⟨List.nodup_nil, fun e he => (by cases he), fun i q => (by cases q), hi⟩
  · refine foldl_lists (fun _ _ => raiseFault_lists _ _ _) _ (withWake_lists h ⟨?_, fun e he => ?_, fun i q => (by cases q), hi⟩)
    · exact (evaluated_sublist _ fun e he e' q => (evaluatedEntry_fits (ha e he) q).1).nodup hn
    · obtain ⟨x, hx, q⟩ := List.mem_filterMap.1 he
      exact (evaluatedEntry_fits (ha x hx) q).2

@[simp] theorem settleWake_lists (closed : Option (Kind × TxnOutcome)) {s : State} (h : ListsFit s) :
    ListsFit (settleWake closed s) := by
  have he := settleEvaluation_lists (s.agreement.believed.getD .off) h
  have hw : ListsFit (if closed.isNone then startWindows (settleEvaluation (s.agreement.believed.getD .off) s)
      else settleEvaluation (s.agreement.believed.getD .off) s) := by
    split
    · obtain ⟨hn, ha, hm, hi⟩ := he.wake.inputs
        (f := fun i w => censusWindowInput ((settleEvaluation (s.agreement.believed.getD .off) s).isOwnInput i)
          ((settleEvaluation (s.agreement.believed.getD .off) s).wakeDef i) w)
        fun i x hx => by unfold censusWindowInput; split <;> exact hx
      exact withWake_lists he ⟨hn, ha, hm, hi⟩
    · exact he
  have hc : ∀ {t}, ListsFit t → ListsFit (restartCommon t) := fun ht => ht.of_eq (by simp)
  exact testAnnounce_lists ((refreshQualification_lists (hc hw)).of_eq (by simp))

@[simp] theorem announceEntry_lists (i : Fin 8) {s : State} (h : ListsFit s) : ListsFit (announceEntry i s) := by
  obtain ⟨hn, ha, hm, hi⟩ := h.wake
  have hk : (s.wake.queue.map fun e => if e.input == i then { e with state := .announced } else e).map
      (fun e => e.input) = s.wake.queue.map fun e => e.input := by
    rw [List.map_map]
    refine List.map_congr_left fun e he => ?_
    dsimp only [Function.comp]
    split <;> rfl
  refine withWake_lists h ⟨by rw [hk]; exact hn, fun e he => ?_, fun j q => ?_, hi⟩
  · obtain ⟨x, hx, rfl⟩ := List.mem_map.1 he
    split <;> exact ha x hx
  · obtain ⟨e, he, hj⟩ := hm j q
    refine ⟨_, List.mem_map.2 ⟨e, he, rfl⟩, ?_⟩
    split <;> exact hj

@[simp] theorem stopWindows_lists {s : State} (h : ListsFit s) : ListsFit (stopWindows s) := by
  obtain ⟨hn, ha, hm, hi⟩ := h.wake.inputs (f := fun _ w => { w with ownWindow := none }) fun _ _ hx => hx
  exact withWake_lists h ⟨hn, ha, hm, hi⟩

@[simp] theorem countActiveEdge_lists (i : Fin 8) {s : State} (h : ListsFit s) : ListsFit (countActiveEdge i s) := by
  unfold countActiveEdge
  dsimp only
  split
  · rename_i hl
    exact withWakeInput_lists h i hl
  · split
    · exact h
    · exact withWakeInput_lists (raiseFault_lists _ _ _ h) i (h.edges i)

end Sys2Proof.Machine
end

section
/-! SUPPORT. The bounds of the lists and counts in the request and presence units and the agreement engine. -/

namespace Sys2Proof.Machine

open Sys2Proof

/-! ### The request unit -/

@[simp] theorem withRequest_lists (r : RequestUnit) {s : State} (h : ListsFit s) : ListsFit (s.withRequest r) := h

@[simp] theorem markReplaced_lists {s : State} (h : ListsFit s) : ListsFit (markReplaced s) :=
  withSlot_lists h (h.rejections _)

@[simp] theorem replaceLatched_lists {s : State} (h : ListsFit s) : ListsFit (replaceLatched s) := by
  unfold replaceLatched
  split
  · have ha : ∀ r, ListsFit (answerRequest r .low s) := fun r => h.of_eq (by simp)
    dsimp only
    split
    · exact markReplaced_lists (ha _)
    · exact ha _
  · exact h

@[simp] theorem testPropose_lists {s : State} (h : ListsFit s) : ListsFit (testPropose s) := by
  unfold testPropose
  split
  · split
    · exact fillFrame_lists _ _ h
    · exact h
  · exact h

@[simp] theorem takeRequest_lists (r : Request) {s : State} (h : ListsFit s) : ListsFit (takeRequest r s) :=
  testPropose_lists (replaceLatched_lists h)

@[simp] theorem refreshSeen_lists (i : StationId) {s : State} (h : ListsFit s) : ListsFit (refreshSeen i s) := by
  have hd : ListsFit (dropRefresh i s) := h
  unfold refreshSeen
  dsimp only
  split
  · exact testPropose_lists hd
  · exact hd

@[simp] theorem settleRequest_lists (closed : Option (Kind × TxnOutcome)) {s : State} (h : ListsFit s) :
    ListsFit (settleRequest closed s) := by
  unfold settleRequest
  split
  · exact testPropose_lists (h.of_eq (by simp))
  · exact h.of_eq (by simp)

/-! ### The presence unit -/

@[simp] theorem beatTickEffect_lists {s : State} (h : ListsFit s) : ListsFit (beatTickEffect s) := by
  have hp : ∀ p, ListsFit (s.withPresence p) := fun _ => h
  unfold beatTickEffect
  dsimp only
  split <;> split <;> simp [hp]

@[simp] theorem reportPresent_lists (i : StationId) (v : PresenceValue) {s : State} (h : ListsFit s) :
    ListsFit (reportPresent i v s) := by
  unfold reportPresent
  split
  · exact testAnnounce_lists h
  · exact h

@[simp] theorem withPeer_lists (i : StationId) (p : Peer) {s : State} (h : ListsFit s) : ListsFit (s.withPeer i p) := h

@[simp] theorem dropBarring_lists (i : StationId) {s : State} (h : ListsFit s) : ListsFit (dropBarring i s) := h

@[simp] theorem touchPeer_lists (f : Frame) {s : State} (h : ListsFit s) : ListsFit (touchPeer f s) :=
  reportPresent_lists _ _ h

@[simp] theorem censusPeer_lists (i : StationId) (sig : Signature) (rc : ResetCause) {s : State} (h : ListsFit s) :
    ListsFit (censusPeer i sig rc s) := by
  unfold censusPeer
  dsimp only
  split
  · exact reportPresent_lists _ _ h
  · exact dropBarring_lists i (refreshSeen_lists i h)

@[simp] theorem missVote_lists (i : StationId) {s : State} (h : ListsFit s) : ListsFit (missVote i s) := by
  unfold missVote
  dsimp only
  split
  · exact dropBarring_lists i (refreshSeen_lists i h)
  · exact h

@[simp] theorem silencePeer_lists (i : StationId) {s : State} (h : ListsFit s) : ListsFit (silencePeer i s) := by
  have hd : ∀ p, ListsFit (dropBarring i (refreshSeen i (s.withPeer i p))) := fun p =>
    dropBarring_lists i (refreshSeen_lists i h)
  unfold silencePeer
  dsimp only
  split
  · exact raiseFault_lists _ _ _ (hd _)
  · exact hd _

@[simp] theorem settlePeers_lists {s : State} (h : ListsFit s) : ListsFit (settlePeers s) := by
  unfold settlePeers
  split
  · refine foldl_lists (fun s i hs => ?_) _ h
    split
    · exact raiseFault_lists _ _ _ hs
    · exact hs
  · exact h

@[simp] theorem startCensus_lists {s : State} (h : ListsFit s) : ListsFit (startCensus s) := fillCensus_lists h

/-! ### The settle signal and the closes -/

@[simp] theorem settleSignal_lists (closed : Option (Kind × TxnOutcome)) {s : State} (h : ListsFit s) :
    ListsFit (settleSignal closed s) := by
  have hc : ∀ b {t}, ListsFit t → ListsFit (settleChannel b t) := fun b t ht => by
    have hm : ListsFit (if b then startAllMonitoring t else t) := by
      split
      · exact ht.of_eq (by simp)
      · exact ht
    unfold settleChannel
    dsimp only
    split
    · exact settleCorrection_lists _ hm
    · exact hm
  have hb : ∀ {t}, ListsFit t → ListsFit (recomputeBeat t) := fun {t} ht => ht.of_eq (by simp)
  exact hc _ (settlePeers_lists (hb (settleRequest_lists closed (settleWake_lists closed h))))

@[simp] theorem becomeSettled_lists (closed : Option (Kind × TxnOutcome)) {s : State} (h : ListsFit s) :
    ListsFit (becomeSettled closed s) :=
  settleSignal_lists closed (s := s.withPhase .settled) h

@[simp] theorem closeTransaction_lists (o : TxnOutcome) (c : Cause) (send : Bool) {s : State} (h : ListsFit s) :
    ListsFit (closeTransaction o c send s) := by
  have hr : ListsFit (State.onRecord (fun r => r.closed o c s.time) s) :=
    onRecord_lists (fun _ hr => by exact hr) h
  have hb : ListsFit (settleBelief o (execIdle (stopVoteTimers (State.onRecord (fun r => r.closed o c s.time) s)))) :=
    hr.of_eq (by simp)
  exact purgeTransaction_lists _ (archive_lists _ (judgeDeferred_lists send hb))

@[simp] theorem closeSettled_lists (o : TxnOutcome) (c : Cause) {s : State} (h : ListsFit s) :
    ListsFit (closeSettled o c s) :=
  becomeSettled_lists _ (closeTransaction_lists o c true h)

@[simp] theorem abandonWork_lists (who : Issuer → Bool) {s : State} (h : ListsFit s) : ListsFit (abandonWork who s) :=
  h.of_eq (by simp)

@[simp] theorem endWork_lists {s : State} (h : ListsFit s) : ListsFit (endWork s) := h.of_eq (by simp)

@[simp] theorem answerUnderVote_lists (l : Level) {s : State} (h : ListsFit s) : ListsFit (answerUnderVote l s) :=
  h.of_eq (by simp)

@[simp] theorem stopVoteTimers_lists {s : State} (h : ListsFit s) : ListsFit (stopVoteTimers s) := h

@[simp] theorem execIdle_lists {s : State} (h : ListsFit s) : ListsFit (execIdle s) := h

@[simp] theorem closeSuperseded_lists (who : Issuer → Bool) (c : Cause) {s : State} (h : ListsFit s) :
    ListsFit (closeSuperseded who c s) := by
  unfold closeSuperseded
  exact archive_lists _ (judgeDeferred_lists false (purgeTransaction_lists _ (answerUnderVote_lists .low
    (stopVoteTimers_lists (onRecord_lists (fun _ hr => by exact hr) (execIdle_lists (abandonWork_lists who h)))))))

@[simp] theorem startFaultHold_lists {s : State} (h : ListsFit s) : ListsFit (startFaultHold s) := h.of_eq (by simp)

@[simp] theorem forcedCloseCore_lists {s : State} (h : ListsFit s) : ListsFit (forcedCloseCore s) := by
  unfold forcedCloseCore gatherMissing
  exact startFaultHold_lists (closeTransaction_lists .forcedDone _ false (recordMissing_lists _ h))

@[simp] theorem checkLeaveMute_lists {s : State} (h : ListsFit s) : ListsFit (checkLeaveMute s) := by
  unfold checkLeaveMute
  split
  · unfold leaveMute
    dsimp only
    generalize hu : stopAllMonitoring _ = u
    have hu : ListsFit u := by
      rw [← hu]
      exact h.of_eq (by simp)
    exact startCensus_lists (refreshQualification_lists (stopWindows_lists hu))
  · exact h

@[simp] theorem forcedClose_lists {s : State} (h : ListsFit s) : ListsFit (forcedClose s) := by
  unfold forcedClose
  split
  · exact checkLeaveMute_lists (forcedCloseCore_lists h)
  · exact becomeSettled_lists _ (forcedCloseCore_lists h)

/-! ### Commit, acceptance and the tally -/

@[simp] theorem commit_lists {s : State} (h : ListsFit s) : ListsFit (commit s) :=
  purgeNumber_lists _ _ (onRecord_lists (f := fun r => { r with committed := true, committedAt := some s.time })
    (fun _ hr => hr) h)

@[simp] theorem commitAtStart_lists {s : State} (h : ListsFit s) : ListsFit (commitAtStart s) := by
  unfold commitAtStart
  split
  · exact commit_lists h
  · exact h

@[simp] theorem renewWakeAbort_lists (i : Option (Fin 8)) {s : State} (h : ListsFit s) :
    ListsFit (renewWakeAbort i s) := by
  unfold renewWakeAbort
  split
  · split
    · exact h
    · exact requestAbort_lists _ _ h
  · exact h

@[simp] theorem accept_lists {s : State} (h : ListsFit s) : ListsFit (accept s) := by
  have hw : ListsFit (stopVoteTimers (writeStreak 0 s)) := writeStreak_lists (Nat.zero_le _) h
  have hv : ListsFit (acceptedVote s) := answerUnderVote_lists .high (onRecord_lists (fun _ hr => by exact hr) hw)
  have hp : ListsFit (acceptedStaging s) := purgeNumber_lists .abort _ (purgeNumber_lists .vote _ hv)
  rw [accept_eq]
  exact execStart_lists (renewWakeAbort_lists _ (commitAtStart_lists hp))

@[simp] theorem declineTally_lists (reason : DeclineReason) {s : State} (h : ListsFit s) :
    ListsFit (declineTally reason s) :=
  closeSettled_lists _ _ (answerUnderVote_lists .low (writeStreak_lists (Nat.zero_le _) h))

theorem deferTally_lists {s : State} (h : ListsFit s) (hn : streakOf s.agreement.streaks s.kind < 3) :
    ListsFit (deferTally s) := by
  have hd : ListsFit (deferUnderVote (writeStreak (streakOf s.agreement.streaks s.kind + 1) s)) :=
    (writeStreak_lists hn h).of_eq (by simp)
  exact closeSettled_lists _ _ hd

@[simp] theorem tally_lists (i : StationId) (a : Answer) {s : State} (h : ListsFit s) : ListsFit (tally i a s) := by
  unfold tally
  split
  · rename_i r hr
    split
    · exact h
    · split
      · exact declineTally_lists _ h
      · split
        · unfold fullTally
          split
          · rename_i hd
            simp only [Bool.and_eq_true, decide_eq_true_eq] at hd
            exact deferTally_lists h (by simpa [State.kind, hr] using hd.2)
          · exact accept_lists h
        · exact h
  · exact h

/-! ### Openings -/

theorem openTransaction_lists {o : Opening} (ho : o.faults.length ≤ 4) (p : Phase) {s : State} (h : ListsFit s) :
    ListsFit (openTransaction o p s) := by
  have hr : ListsFit (s.withAgreement { s.agreement with
      number := some s.nextNumber
      record := some (newRecord o s.nextNumber s.participantsNow s.system.required s.time) }) := by
    obtain ⟨hl, hu, hd, hw, hh, hp, ht, he, hc, hs, -⟩ := h
    refine ⟨hl, hu, hd, hw, hh, hp, ht, he, hc, hs, fun r q => ?_⟩
    obtain rfl := Option.some.inj q
    exact ⟨ho, Nat.zero_le _⟩
  have hpurge : ∀ b {t}, ListsFit t → ListsFit (purgeAtOpening b t) := fun b t ht => by
    unfold purgeAtOpening
    dsimp only
    split
    · exact purgeKind_lists _ _ (purgeKind_lists _ _ (purgeKind_lists _ _ ht))
    · exact purgeKind_lists _ _ (purgeKind_lists _ _ ht)
  have hq := refreshQualification_lists (s := stopDemote ((purgeAtOpening o.forced _).withPhase p)) (hpurge o.forced hr)
  exact requeueForced_lists _ (hq.of_eq (t := recomputeBeat _) (by simp))

@[simp] theorem supersede_lists (c : OpeningCause) {s : State} (h : ListsFit s) : ListsFit (supersede c s) := by
  unfold supersede
  split
  · exact closeSuperseded_lists _ _ h
  · exact h

theorem openForced_lists (c : OpeningCause) (i : StationId) {fl : List (FaultCode × StationId)} (hf : fl.length ≤ 4)
    {s : State} (h : ListsFit s) : ListsFit (openForced c i fl s) := by
  rw [openForced_eq]
  exact execStart_lists (openTransaction_lists hf _ (supersede_lists c h))

@[simp] theorem openWake_lists (i : StationId) (w : WakeTarget) (x : Fin 8) {s : State} (h : ListsFit s) :
    ListsFit (openWake i w x s) := by
  rw [openWake_eq]
  exact execStart_lists (commitAtStart_lists (openTransaction_lists (Nat.zero_le _) _ h))

@[simp] theorem openVoting_lists (i : StationId) (k : Kind) (img : Bool) (inh : Inhibits) {s : State} (h : ListsFit s) :
    ListsFit (openVoting i k img inh s) := by
  have ho := openTransaction_lists (o := proposeOpening i k img) (Nat.zero_le _) .voting h
  have hv : ListsFit (startVoteTimer i (openTransaction (proposeOpening i k img) .voting s)) := ho.of_eq (by simp)
  have hc : ListsFit (castVote i k inh (startVoteTimer i (openTransaction (proposeOpening i k img) .voting s))) := by
    unfold castVote
    split
    · exact hv
    · exact fillFrame_lists _ _ hv
  rw [openVoting_eq]
  unfold tallyAtOpening
  split
  · split
    · exact accept_lists hc
    · exact hc
  · exact hc

/-! ### MUTE and the end of census -/

@[simp] theorem muteTransaction_lists {s : State} (h : ListsFit s) : ListsFit (muteTransaction s) := by
  unfold muteTransaction
  split
  · exact closeSuperseded_lists _ _ h
  · exact h

@[simp] theorem muteReport_lists {s : State} (h : ListsFit s) : ListsFit (muteReport s) := by
  unfold muteReport
  split
  · split
    · exact execRun_lists (h.of_eq (by simp))
    · exact h
  · exact h

@[simp] theorem mutePresence_lists (c : MuteCause) {s : State} (h : ListsFit s) : ListsFit (mutePresence c s) :=
  h.of_eq (by simp)

@[simp] theorem clearLatch_lists {s : State} (h : ListsFit s) : ListsFit (clearLatch s) := h.of_eq (by simp)

@[simp] theorem stopDemote_lists {s : State} (h : ListsFit s) : ListsFit (stopDemote s) := h.of_eq (by simp)

@[simp] theorem withPhase_lists (p : Phase) {s : State} (h : ListsFit s) : ListsFit (s.withPhase p) := h

@[simp] theorem enterMute_lists (c : MuteCause) {s : State} (h : ListsFit s) : ListsFit (enterMute c s) := by
  have hm : ListsFit (muteMonitoring s) := h.of_eq (by simp)
  have ht := withPhase_lists .mute (muteTransaction_lists hm)
  unfold enterMute
  exact muteReport_lists (refreshQualification_lists (clearMark_lists (stopDemote_lists (clearLatch_lists
    (emptySlots_lists (mutePresence_lists c ht))))))

@[simp] theorem endCensus_lists {s : State} (h : ListsFit s) : ListsFit (endCensus s) :=
  becomeSettled_lists none (s := s.withPresence _) h

@[simp] theorem runAlignment_lists (steps : List Change) {s : State} (h : ListsFit s) :
    ListsFit (runAlignment steps s) := by
  induction steps generalizing s with
  | nil => exact endCensus_lists h
  | cons c rest ih =>
    have hc : ListsFit (issueChange c .alignment s).1 := h.of_eq (by simp)
    unfold runAlignment
    split <;> rename_i hs <;> rw [hs] at hc
    · exact ih hc
    · exact hc

@[simp] theorem adopt_lists (st : SystemState) (n : TxnNumber) {s : State} (h : ListsFit s) : ListsFit (adopt st n s) := by
  have ha : ListsFit (writeAdoption st n s) := h
  unfold adopt profileCheck
  dsimp only
  split
  · split
    · exact endCensus_lists ha
    · exact endCensus_lists (raiseFault_lists _ _ _ ha)
  · exact runAlignment_lists _ ha

@[simp] theorem withdrawInCensus_lists {s : State} (h : ListsFit s) : ListsFit (withdrawInCensus s) :=
  h.of_eq (by simp)

end Sys2Proof.Machine
end

section
/-! PROOF. The bounds of the lists and counts are kept by every command (O59). -/

namespace Sys2Proof.Machine

open Sys2Proof

/-! ### Deliveries -/

@[simp] theorem ownDelivered_lists (f : Frame) (own : Option Ready) {s : State} (h : ListsFit s) :
    ListsFit (ownDelivered f own s) := by
  unfold ownDelivered
  split
  · exact clearSending_lists _ h
  · exact h

theorem handOff_lists (f : Frame) {engine : Option Ready → State → State} {s : State} (h : ListsFit s)
    (he : ∀ own t, ListsFit t → ListsFit (engine own t)) : ListsFit (handOff f engine s) := by
  have ho := ownDelivered_lists f (s.ownSending f) h
  unfold handOff
  split
  · exact h
  · dsimp only
    split
    · exact he _ _ ho
    · split
      · exact ho
      · exact he _ _ (touchPeer_lists f ho)

@[simp] theorem proposeLate_lists (own : Option Ready) {s : State} (h : ListsFit s) : ListsFit (proposeLate own s) := by
  unfold proposeLate
  split
  · exact testPropose_lists (reportPurged_lists _ (countLate_lists h))
  · exact countLate_lists h

theorem takePropose_lists (i : StationId) (k : Kind) (img : Bool) (inh : Inhibits) (own : Option Ready) {s : State}
    (h : ListsFit s) : ListsFit (takePropose i k img inh own s) := by
  have hl := proposeLate_lists own h
  have ho : ListsFit (ownProposeOpens own s) := h.of_eq (by simp)
  unfold takePropose
  split
  · split
    · exact openVoting_lists i k img inh ho
    · exact hl
  · exact hl
  · exact hl
  · exact hl
  · exact hl
  · exact withdrawInCensus_lists h
  · exact h

theorem takeForcedPropose_lists (i : StationId) (k : Kind) {s : State} (h : ListsFit s) :
    ListsFit (takeForcedPropose i k s) := by
  unfold takeForcedPropose
  split
  · split
    · exact openForced_lists _ i (Nat.zero_le _) h
    · exact countLate_lists h
  · split
    · exact countLate_lists h
    · exact withdrawInCensus_lists h

@[simp] theorem ownWakeIdle_lists (own : Option Ready) {s : State} (h : ListsFit s) : ListsFit (ownWakeIdle own s) := by
  have hc := clearMark_lists h
  unfold ownWakeIdle
  dsimp only
  split
  · split
    · exact testAnnounce_lists hc
    · exact hc
  · exact h

@[simp] theorem wakeOpens_lists (i : StationId) (w : WakeTarget) (x : Fin 8) (own : Option Ready) {s : State}
    (h : ListsFit s) : ListsFit (wakeOpens i w x own s) := by
  unfold wakeOpens
  split
  · split
    · exact openWake_lists i w x (clearMark_lists (announceEntry_lists _ h))
    · exact openWake_lists i w x h
  · exact openWake_lists i w x h

theorem takeWake_lists (i : StationId) (w : WakeTarget) (x : Fin 8) (own : Option Ready) {s : State}
    (h : ListsFit s) : ListsFit (takeWake i w x own s) := by
  have hc := forcedCloseCore_lists (abandonWork_lists isExecutor h)
  unfold takeWake
  split
  · split
    · exact wakeOpens_lists i w x own h
    · exact ownWakeIdle_lists own (countLate_lists h)
  · unfold wakeInDescent
    dsimp only
    split
    · exact wakeOpens_lists i _ x own hc
    · exact ownWakeIdle_lists own (becomeSettled_lists _ (countLate_lists hc))
  · exact ownWakeIdle_lists own (withdrawInCensus_lists h)
  · exact ownWakeIdle_lists own h

theorem takeVote_lists (i : StationId) (n : TxnNumber) (a : Answer) {s : State} (h : ListsFit s) :
    ListsFit (takeVote i n a s) := by
  unfold takeVote
  split
  · rename_i r hp hr
    split
    · dsimp only
      have hc : ListsFit (if i = s.me then s else clearMisses i s) ∧
          (if i = s.me then s else clearMisses i s).agreement.record = some r := by
        split
        · exact ⟨h, hr⟩
        · exact ⟨h, hr⟩
      generalize (if i = s.me then s else clearMisses i s) = u at hc
      split
      · have hw : u.withRecord (writeVote i a r) = State.onRecord (writeVote i a) u := by simp [State.onRecord, hc.2]
        rw [hw]
        exact tally_lists i a (onRecord_lists (fun _ q => by exact q) hc.1)
      · exact hc.1
    · exact h
  · exact h

theorem takeForward_lists (i : StationId) (n : TxnNumber) (k : Nat) (own : Option Ready) {s : State}
    (h : ListsFit s) : ListsFit (takeForward i n k own s) := by
  unfold takeForward
  split
  · have hr : ListsFit (State.onRecord (forwardRecord i k own.isSome s.time) s) :=
      onRecord_lists (fun _ q => by exact q) h
    have he : ListsFit (enterForwardStage i k own.isSome s) := by
      unfold enterForwardStage
      dsimp only
      split
      · exact commit_lists hr
      · exact hr
    unfold afterForward
    split
    · split
      · split
        · exact forcedClose_lists (endWork_lists he)
        · exact closeSettled_lists _ _ (endWork_lists he)
      · split
        · exact ownForward_lists k he
        · exact testWaiting_lists he
    · exact he
  · exact h

theorem takeUnwind_lists (i : StationId) (n : TxnNumber) (k : Nat) (own : Option Ready) {s : State}
    (h : ListsFit s) : ListsFit (takeUnwind i n k own s) := by
  unfold takeUnwind
  split
  · have hr : ListsFit (State.onRecord (unwindRecordAt i k (s.lastStage s.kind)) s) :=
      onRecord_lists (fun _ q => by exact q) h
    unfold afterUnwind
    split
    · split
      · exact closeSettled_lists _ _ (endWork_lists hr)
      · split
        · exact ownUnwind_lists k hr
        · exact testLevel_lists hr
    · exact hr
  · exact h

theorem countMisses_lists (r : Record) {s : State} (h : ListsFit s) : ListsFit (countMisses r s) := by
  refine foldl_lists (fun s i hs => ?_) _ h
  split
  · exact missVote_lists i hs
  · exact hs

theorem takeAbort_lists (i : StationId) (n : TxnNumber) (reason : AbortReason) {s : State} (h : ListsFit s) :
    ListsFit (takeAbort i n reason s) := by
  unfold takeAbort
  split
  · rename_i r hr
    split
    · split
      · have ha : ListsFit (State.onRecord (fun r => { r with abortCause := some reason }) s) :=
          onRecord_lists (fun _ q => by exact q) h
        unfold abortVote
        dsimp only
        split
        · exact closeSettled_lists _ _ (answerUnderVote_lists _ (countMisses_lists r ha))
        · exact closeSettled_lists _ _ (answerUnderVote_lists _ ha)
      · split
        · exact h
        · unfold takeUnwinding
          exact execUnwind_lists _ (withPhase_lists _ (onRecord_lists (fun _ q => by exact q) h))
      · exact h
    · exact h
  · exact h

/-- A FAULT enters the record's list or its overflow count, both in bounds (R4). -/
theorem listFault_fits (code : FaultCode) (i : StationId) (r : Record) (h : FaultListFits r) :
    FaultListFits (listFault code i r) := by
  unfold listFault
  split
  · rename_i hl
    exact ⟨by simp; omega, h.2⟩
  · exact ⟨h.1, Nat.min_le_right _ _⟩

theorem takeFault_lists (i : StationId) (code : FaultCode) {s : State} (h : ListsFit s) :
    ListsFit (takeFault i code s) := by
  unfold takeFault
  split
  · exact openForced_lists (fl := [(code, i)]) _ i (by simp) h
  · split
    · exact onRecord_lists (listFault_fits code i) h
    · exact withdrawInCensus_lists h

theorem deliverBeat_lists (i : StationId) (n : TxnNumber) (b : BeatBody) {s : State} (h : ListsFit s) :
    ListsFit (deliverBeat i n b s) := by
  have hh : ∀ {t}, ListsFit t → ListsFit (retryHeldCensus t) := fun {t} ht => by
    unfold retryHeldCensus
    split
    · exact fillCensus_lists ht
    · exact ht
  have hb : ∀ {t}, ListsFit t → ListsFit (bar i t) := fun {t} ht => by
    unfold bar
    dsimp only
    split
    · exact enterMute_lists _ ht
    · exact ht
  have hj : ∀ {t}, ListsFit t → ListsFit (judgeBeat b n t) := fun {t} ht => by
    unfold judgeBeat
    split
    · split
      · exact ht.of_eq (by simp)
      · exact ht
    · split
      · exact adopt_lists _ _ ht
      · exact ht
  have hu : ∀ {t}, ListsFit t → ListsFit (unbar i t) := fun {t} ht => by
    unfold unbar
    split
    · exact checkLeaveMute_lists ht
    · exact ht
  have ho : ∀ f own, ListsFit (ownDelivered f own s) := fun f own => ownDelivered_lists f own h
  unfold deliverBeat
  split
  · exact h
  · dsimp only
    split
    · split
      · exact refreshSeen_lists i (ho _ _)
      · exact ho _ _
    · split
      · exact ho _ _
      · have ht := refreshSeen_lists i (touchPeer_lists ⟨i, n, .beat b⟩ (ho ⟨i, n, .beat b⟩ (s.ownSending ⟨i, n, .beat b⟩)))
        unfold takeBeat
        dsimp only
        split
        · exact hh (hb ht)
        · split
          · exact hj ht
          · exact hh (hu ht)

theorem deliverCensus_lists (i : StationId) (sig : Signature) (rc : ResetCause) {s : State} (h : ListsFit s) :
    ListsFit (deliverCensus i sig rc s) := by
  have ht : ∀ {t}, ListsFit t → ListsFit (takeCensus i sig rc t) := fun {t} ht => by
    have hc := checkLeaveMute_lists (censusPeer_lists i sig rc ht)
    unfold takeCensus
    dsimp only
    split
    · exact fillBeat_lists hc
    · exact hc
  have hx : ∀ {t}, ListsFit t → ListsFit (restartSupersedes i t) := fun {t} ht => by
    unfold restartSupersedes
    split
    · exact openForced_lists _ i (Nat.zero_le _) ht
    · exact ht
  unfold deliverCensus
  split
  · exact h
  · dsimp only
    split
    · exact hx (ownDelivered_lists _ _ h)
    · exact hx (ht (ownDelivered_lists _ _ h))

/-! ### Rails -/

theorem deliverNotices_lists {x : State × List Notice} (h : ListsFit x.1) : ListsFit (deliverNotices x) := by
  refine foldl_lists (fun s n hs => ?_) _ h
  unfold deliverNotice
  split
  · exact execComplete_lists _ hs
  · split
    · exact runAlignment_lists _ hs
    · exact hs
  · exact hs
  · exact hs

theorem dropout_lists (ch : Fin 6) {s : State} (h : ListsFit s) : ListsFit (dropout ch s) := by
  have hr : ∀ r, ListsFit (s.withRail ch r) := fun _ => h
  unfold dropout
  dsimp only
  split
  · exact hr _
  · exact raiseRailCondition_lists ch false (hr _)

theorem judgeRise_lists (ch : Fin 6) {s : State} (h : ListsFit s) : ListsFit (judgeRise ch s) := by
  unfold judgeRise
  split
  · exact deliverNotices_lists (h.of_eq (by simp))
  · exact deliverNotices_lists (bounceRail_lists _ _ _ _ _ h)
  · have hr : ∀ r, ListsFit (s.withRail ch r) := fun _ => h
    unfold riseOn
    split
    · exact dropout_lists ch (hr _)
    · exact hr _
  · exact h

theorem judgeFall_lists (ch : Fin 6) {s : State} (h : ListsFit s) : ListsFit (judgeFall ch s) := by
  unfold judgeFall
  split
  · exact deliverNotices_lists (bounceRail_lists _ _ _ _ _ h)
  · exact deliverNotices_lists (h.of_eq (by simp))
  · exact h.of_eq (by simp)
  · exact h.of_eq (by simp)
  · exact h

theorem powerGoodRises_lists (ch : Fin 6) {s : State} (h : ListsFit s) : ListsFit (powerGoodRises ch s) := by
  unfold powerGoodRises
  split
  · exact h
  · exact judgeRise_lists ch (s := setPowerGood ch .high s) h

theorem powerGoodFalls_lists (ch : Fin 6) {s : State} (h : ListsFit s) : ListsFit (powerGoodFalls ch s) := by
  unfold powerGoodFalls
  split
  · exact h
  · exact judgeFall_lists ch (s := setPowerGood ch .low s) h

end Sys2Proof.Machine
end

section
/-! PROOF. The bounds of the lists and counts at each command (O59), and the invariants at reset (O60). -/

namespace Sys2Proof.Machine

open Sys2Proof

theorem reset_lists : ListsFit State.reset := by
  refine ⟨⟨Nat.zero_le _, List.nodup_nil, fun e he => (by cases he)⟩, Nat.zero_le _,
    ⟨List.nodup_nil, fun e he => (by cases he)⟩,
    ⟨List.nodup_nil, fun e he => (by cases he), fun i q => (by cases q), fun i => ?_⟩, Nat.zero_le _, Nat.zero_le _,
    ⟨Nat.zero_le _, Nat.zero_le _, Nat.zero_le _, Nat.zero_le _⟩, Nat.zero_le _, Nat.zero_le _, fun k => ?_,
    fun r q => (by cases q)⟩
  · simp [State.reset, WakeUnit.blank, tabGet, WakeInput.blank]
  · simp [State.slot, State.reset, Link.blank, tabGet, Slot.blank]

theorem warmReset_lists (cause : ResetCause) {s : State} (h : ListsFit s) : ListsFit (warmReset cause s) := by
  obtain ⟨hl, hu, -, -, hh, -⟩ := h
  obtain ⟨-, -, hd, hw, -, hp, ht, he, hc, hs, -⟩ := reset_lists
  exact ⟨hl, hu, hd, hw, hh, hp, ht, he, hc, hs, fun r q => by cases q⟩

/-- A transfer that the port answers in bounds keeps them (R162). -/
theorem onPort_lists (a : I2cAddress) {f : State → State} {s : State} (h : ListsFit s) (hf : ListsFit (f s)) :
    ListsFit (onPort a f s) := by
  unfold onPort
  split
  · exact hf
  · exact h

theorem reset_group_lists {c : Instr} {s t : State} (hc : c.group = .reset) (h : ListsFit s) (e : exec c s = .next t) :
    ListsFit t := by
  cases c with
  | por => cases e; exact reset_lists.of_eq (by simp [powerOn])
  | pinReset => cases e; exact warmReset_lists _ h
  | restart w => cases e; exact onPort_lists _ h (warmReset_lists .restart h)
  | _ => simp [Instr.group] at hc

theorem load_group_lists {c : Instr} {s t : State} (hc : c.group = .load) (h : ListsFit s) (e : exec c s = .next t) :
    ListsFit t := by
  have hf : ∀ {t}, ListsFit t → ListsFit (configFault t) := fun {t} ht => by
    obtain ⟨hl, hu, hd, hw, hh, hp, hx, he, -, hrest⟩ := ht
    exact ⟨hl, hu, hd, hw, hh, hp, hx, he, Nat.zero_le _, hrest⟩
  cases c with
  | loadDone i =>
    cases e
    split
    · dsimp only
      split
      · exact startCensus_lists (s := (loadChannel _).withPhase .census) h
      · exact hf h
    · exact h
  | loadFailure =>
    cases e
    split
    · exact hf h
    · exact h
  | _ => simp [Instr.group] at hc

theorem afterReturn_lists (k : FrameKind) {s : State} (h : ListsFit s) : ListsFit (afterReturn k s) := by
  unfold afterReturn
  split
  · exact testPropose_lists h
  · exact testAnnounce_lists h
  · exact h

theorem link_group_lists {c : Instr} {s t : State} (hc : c.group = .link) (h : ListsFit s) (e : exec c s = .next t) :
    ListsFit t := by
  cases c with
  | integration =>
    cases e
    split
    · exact h
    · exact h
  | frameStart =>
    cases e
    unfold startNext
    split
    · split
      · exact startSlot_lists _ h
      · exact h
    · exact h
  | lostArbitration w =>
    cases e
    unfold loseArbitration
    split
    · split
      · exact afterReturn_lists _ (returnFrame_lists _ (h.rejections _) h)
      · exact h
    · exact h
  | discardedAtThisStationAlone rx =>
    cases e
    unfold discardAlone
    split
    · dsimp only
      split
      · exact clearSending_lists _ (judgeReception_lists rx h)
      · exact judgeReception_lists rx h
    · exact h
  | _ => simp [Instr.group] at hc

theorem rejectFrame_lists (rx : Reception) {s : State} (h : ListsFit s) : ListsFit (rejectFrame rx s) := by
  have hj := judgeReception_lists rx h
  unfold rejectFrame
  split
  · exact h
  · dsimp only
    split
    · unfold rejectSending
      dsimp only
      split
      · have hl := latchFault_lists .linkFault noTarget .severe hj
        unfold linkFault
        dsimp only
        split
        · exact emptySlots_lists hl
        · exact enterMute_lists _ hl
      · exact afterReturn_lists _ (returnFrame_lists _ (by omega) hj)
    · exact hj

theorem delivery_group_lists {c : Instr} {s t : State} (hc : c.group = .delivery) (h : ListsFit s)
    (e : exec c s = .next t) : ListsFit t := by
  cases c with
  | proposeDelivered i n k img inh => cases e; exact handOff_lists _ h fun own _ => takePropose_lists i k img inh own
  | forcedProposeDelivered i n k img => cases e; exact handOff_lists _ h fun _ _ => takeForcedPropose_lists i k
  | wakeDelivered i n w x => cases e; exact handOff_lists _ h fun own _ => takeWake_lists i w x own
  | voteDelivered i n a => cases e; exact handOff_lists _ h fun _ _ => takeVote_lists i n a
  | stageForwardDelivered i n k => cases e; exact handOff_lists _ h fun own _ => takeForward_lists i n k own
  | stageUnwindDelivered i n k => cases e; exact handOff_lists _ h fun own _ => takeUnwind_lists i n k own
  | abortDelivered i n r => cases e; exact handOff_lists _ h fun _ _ => takeAbort_lists i n r
  | faultDelivered i n code tgt => cases e; exact handOff_lists _ h fun _ _ => takeFault_lists i code
  | beatDelivered i n b => cases e; exact deliverBeat_lists i n b h
  | censusDelivered i sig rc => cases e; exact deliverCensus_lists i sig rc h
  | _ => simp [Instr.group] at hc

theorem voteRunsOut_lists {s : State} (h : ListsFit s) : ListsFit (voteRunsOut s) := by
  unfold voteRunsOut
  split
  · exact requestAbort_lists _ _ h
  · exact h

theorem txnTimer_group_lists {c : Instr} {s t : State} (hc : c.group = .voteTimer ∨ c.group = .barrier ∨ c.group = .closing)
    (h : ListsFit s) (e : exec c s = .next t) : ListsFit t := by
  cases c with
  | voteWindowExpiry =>
    cases e
    split
    · exact voteRunsOut_lists (s := s.withAgreement _) h
    · exact h
  | voteGuardExpiry =>
    cases e
    split
    · exact voteRunsOut_lists (s := s.withAgreement _) h
    · exact h
  | barrierTimerExpiry =>
    cases e
    split
    · split
      · exact expireStage_lists _ h
      · exact h
    · exact h
  | completionWaitExpiry =>
    cases e
    split
    · exact expireNonForced_lists (s := barrierStopped s) h
    · exact h
  | reverseBarrierExpiry =>
    cases e
    split
    · exact stall_lists (s := barrierStopped s) h
    · exact h
  | closingWaitExpiry =>
    cases e
    split
    · exact forcedClose_lists h
    · exact h
  | _ => simp [Instr.group] at hc

theorem presence_group_lists {c : Instr} {s t : State} (hc : c.group = .beat ∨ c.group = .census ∨ c.group = .silence)
    (h : ListsFit s) (e : exec c s = .next t) : ListsFit t := by
  cases c with
  | beatTick =>
    cases e
    split
    · exact beatTickEffect_lists h
    · exact h
  | barredRetryExpiry =>
    cases e
    split
    · dsimp only
      split
      · exact h
      · exact fillCensus_lists (s := s.withPresence _) h
    · exact h
  | censusWindowExpiry =>
    cases e
    split
    · split
      · exact h
      · exact adopt_lists _ _ h
    · exact h
  | silenceTimerExpiry i =>
    cases e
    split
    · exact checkLeaveMute_lists (silencePeer_lists i h)
    · exact h
  | _ => simp [Instr.group] at hc

theorem request_group_lists {c : Instr} {s t : State} (hc : c.group = .request) (h : ListsFit s)
    (e : exec c s = .next t) : ListsFit t := by
  cases c with
  | deferHoldExpiry =>
    cases e
    split
    · exact testPropose_lists (s := s.withRequest _) h
    · exact h
  | reEntryLockoutExpiry =>
    cases e
    split
    · exact testPropose_lists (s := s.withRequest _) h
    · exact h
  | slpreqEdge a b i =>
    cases e
    split
    · unfold requestEdge
      split
      · exact h
      · exact takeRequest_lists _ h
      · split
        · exact takeRequest_lists _ h
        · exact h
      · exact takeRequest_lists _ h
    · exact h
  | reqackPulseEnd => cases e; exact h
  | _ => simp [Instr.group] at hc

theorem setWakePin_lists (i : Fin 8) (l : Level) {s : State} (h : ListsFit s) : ListsFit (setWakePin i l s) := h

theorem buttonPressed_lists (i : Fin 8) {s : State} (h : ListsFit s) : ListsFit (buttonPressed i s) := by
  have hp : ListsFit (s.withWake { s.wake with pressed := true }) := h
  unfold buttonPressed
  dsimp only
  split
  · exact (qualify_lists i hp).of_eq (by simp)
  · exact h

theorem buttonReleased_lists {s : State} (h : ListsFit s) : ListsFit (buttonReleased s) := by
  have hr : ListsFit (s.withWake { s.wake with pressed := false, longPress := none }) := h
  unfold buttonReleased shortPress
  dsimp only
  split
  · split
    · split
      · exact hr
      · exact takeRequest_lists _ hr
      · exact takeRequest_lists _ hr
    · exact hr
  · exact hr

theorem wake_group_lists {c : Instr} {s t : State} (hc : c.group = .wake) (h : ListsFit s) (e : exec c s = .next t) :
    ListsFit t := by
  cases c with
  | demoteTimerExpiry =>
    cases e
    split
    · dsimp only
      split
      · exact fillFrame_lists _ _ (stopDemote_lists h)
      · exact stopDemote_lists h
    · exact h
  | minimumDwellExpiry =>
    cases e
    split
    · exact testAnnounce_lists (s := s.withWake _) h
    · exact h
  | faultHoldExpiry =>
    cases e
    split
    · exact testAnnounce_lists (s := s.withWake _) h
    · exact h
  | levelInputChange i l =>
    cases e
    dsimp only
    split
    · refine withWakeInput_lists (setWakePin_lists i l h) i ?_
      unfold levelAfter
      split
      · exact h.edges i
      · split
        · unfold startedInput
          split <;> exact h.edges i
        · exact h.edges i
    · exact h
  | levelHoldEnd i =>
    cases e
    split
    · exact qualify_lists i (withWakeInput_lists h i (h.edges i))
    · exact h
  | countEdge i =>
    cases e
    split
    · exact countActiveEdge_lists i h
    · exact h
  | ownWindowExpiry i =>
    cases e
    split
    · exact judgeWindow_lists i (withWakeInput_lists h i (h.edges i))
    · exact h
  | commonWindowExpiry =>
    cases e
    split
    · exact foldl_lists (fun _ i => judgeWindow_lists i) _ (s := restartCommon s) h
    · exact h
  | buttonInputChange i l =>
    cases e
    dsimp only
    split
    · exact h
    · exact h
  | debounceEnd =>
    cases e
    split
    · dsimp only
      split
      · split
        · exact buttonPressed_lists _ (s := s.withWake _) h
        · exact buttonReleased_lists (s := s.withWake _) h
      · exact h
    · exact h
  | longPressEnd =>
    cases e
    split
    · dsimp only
      split
      · exact fillForcedPropose_lists (s := s.withWake _) h
      · exact h
    · exact h
  | _ => simp [Instr.group] at hc

theorem rail_group_lists {c : Instr} {s t : State} (hc : c.group = .rail ∨ c.group = .dropout) (h : ListsFit s)
    (e : exec c s = .next t) : ListsFit t := by
  cases c with
  | settleWindowExpiry ch =>
    cases e
    split
    · exact deliverNotices_lists (failRail_lists ch _ _ h)
    · exact h
  | holdUpEnd ch =>
    cases e
    split
    · exact deliverNotices_lists (h.of_eq (by simp))
    · exact h
  | dischargeWindowExpiry ch =>
    cases e
    split
    · exact deliverNotices_lists (failRail_lists ch _ _ h)
    · exact h
  | holdDownEnd ch =>
    cases e
    split
    · exact deliverNotices_lists (h.of_eq (by simp))
    · exact h
  | powerGoodRiseRising ch => cases e; exact powerGoodRises_lists ch h
  | powerGoodFallHoldingUp ch => cases e; exact powerGoodFalls_lists ch h
  | powerGoodFallFalling ch => cases e; exact powerGoodFalls_lists ch h
  | powerGoodRiseHoldingDown ch => cases e; exact powerGoodRises_lists ch h
  | powerGoodFallFailedDown ch => cases e; exact powerGoodFalls_lists ch h
  | powerGoodFallOn ch => cases e; exact powerGoodFalls_lists ch h
  | powerGoodRiseOn ch => cases e; exact powerGoodRises_lists ch h
  | dropoutFilterExpiry ch =>
    cases e
    split
    · exact raiseRailCondition_lists ch true (s := s.withRail ch _) h
    · exact h
  | dropoutWindowExpiry ch =>
    cases e
    split
    · exact h
    · exact h
  | _ => simp [Instr.group] at hc

theorem signal_group_lists {c : Instr} {s t : State} (hc : c.group = .signal) (h : ListsFit s) (e : exec c s = .next t) :
    ListsFit t := by
  have hx : ∀ (b : Bool) (c : Completion) {u}, ListsFit u → ListsFit (if b then execComplete c u else u) :=
    fun b c u hu => by
      split
      · exact execComplete_lists c hu
      · exact hu
  cases c with
  | pulseEnd i =>
    cases e
    split
    · exact hx _ _ (h.of_eq (by simp))
    · exact h
  | senseChange i l =>
    cases e
    dsimp only
    split
    · exact execComplete_lists _ (s := (setSense i l s).withAwait i none) h
    · exact h
  | awaitTimeout i =>
    cases e
    split
    · exact hx _ _ (raiseFault_lists _ _ _ (s := s.withAwait i none) h)
    · exact h
  | waitEnd =>
    cases e
    split
    · exact hx _ _ (u := s.withWait none) h
    · exact h
  | _ => simp [Instr.group] at hc

theorem transfer_group_lists {c : Instr} {s t : State} (hc : c.group = .transfer) (h : ListsFit s)
    (e : exec c s = .next t) : ListsFit t := by
  cases c with
  | status w =>
    cases e
    refine onPort_lists _ h ?_
    obtain ⟨hl, hu, hd, hw, hh, hrest⟩ := h
    exact ⟨hl, hu, hd, hw, by simpa [clearNewFlags] using hh, hrest⟩
  | peer a w =>
    cases e
    refine onPort_lists _ h ?_
    split
    · exact h
    · split
      · exact h
      · exact h
  | txn w => cases e; exact onPort_lists _ h h
  | history a w =>
    cases e
    refine onPort_lists _ h ?_
    split
    · exact h
    · split
      · exact h
      · exact h
  | wakeq w => cases e; exact onPort_lists _ h h
  | faults w => cases e; exact onPort_lists _ h h
  | stack w => cases e; exact onPort_lists _ h h
  | ackFaults w =>
    cases e
    refine onPort_lists _ h ?_
    obtain ⟨-, -, hd, hrest⟩ := h
    exact ⟨⟨Nat.zero_le _, List.nodup_nil, fun e he => (by cases he)⟩, Nat.zero_le _, hd, hrest⟩
  | unknownCommand w => cases e; exact onPort_lists _ h h
  | snapshotRead r => cases e; exact onPort_lists _ h h
  | _ => simp [Instr.group] at hc

/-- Every command keeps the lists and counts in bounds. -/
theorem exec_lists {c : Instr} {s t : State} (h : ListsFit s) (e : exec c s = .next t) : ListsFit t := by
  cases hg : c.group with
  | reset => exact reset_group_lists hg h e
  | load => exact load_group_lists hg h e
  | link => exact link_group_lists hg h e
  | rejection =>
    cases c with
    | frameRejected rx => cases e; exact rejectFrame_lists rx h
    | _ => simp [Instr.group] at hg
  | delivery => exact delivery_group_lists hg h e
  | voteTimer => exact txnTimer_group_lists (.inl hg) h e
  | barrier => exact txnTimer_group_lists (.inr (.inl hg)) h e
  | closing => exact txnTimer_group_lists (.inr (.inr hg)) h e
  | beat => exact presence_group_lists (.inl hg) h e
  | census => exact presence_group_lists (.inr (.inl hg)) h e
  | silence => exact presence_group_lists (.inr (.inr hg)) h e
  | request => exact request_group_lists hg h e
  | wake => exact wake_group_lists hg h e
  | rail => exact rail_group_lists (.inl hg) h e
  | dropout => exact rail_group_lists (.inr hg) h e
  | signal => exact signal_group_lists hg h e
  | transfer => exact transfer_group_lists hg h e

/-- Settles O59, from `exec_lists`: every command keeps the lists and counts in bounds, as does the time base. -/
theorem listsFitIsKept : Obligations.ListsFitIsKept :=
  kept_of_exec (fun _ h => h) (fun _ _ h => h) fun _ _ _ => exec_lists

/-! ### At reset -/

theorem slot_reset (k : FrameKind) : State.reset.slot k = Slot.blank := by
  simp [State.slot, State.reset, Link.blank, tabGet]

theorem peerAt_reset (i : StationId) : State.reset.peerAt i = Peer.blank := by
  simp [State.peerAt, State.reset, Presence.blank, tabGet]

/-- Settles O60, from the values that a reset leaves: no transaction, empty slots and lists, and every peer ABSENT. -/
theorem invariantsHoldAtReset : Obligations.InvariantsHoldAtReset := by
  refine ⟨powerOn_fits State.reset, ⟨fun k => ?_, fun j k hj => ?_, fun hp => ?_⟩, ⟨fun i => ?_, Nat.zero_le _⟩, reset_lists⟩
  · rw [slot_reset]
    exact ⟨fun r q => (by cases q), fun n q => (by cases q), fun r q => (by cases q)⟩
  · rw [slot_reset] at hj
    exact absurd rfl hj
  · cases hp
  · rw [peerAt_reset]
    exact ⟨by simp [Peer.blank], Nat.zero_le _, fun q => (by cases q), Nat.zero_le _⟩

end Sys2Proof.Machine
end

section
/-! PROOF. Completion of every command, resets, the end of the load, and the start of a frame (O2, O4, O5, O7, O8). -/

namespace Sys2Proof.Machine

open Sys2Proof

/-! ### Every command completes (O2) -/

/-- What a command of this name must leave alone: the queue, and the blocks that only a reset, a pin edge, the end of the load
or a transfer touches. -/
def LeavesFrame (c : Instr) (s t : State) : Prop :=
  t.pending = s.pending ∧ (c.isReset = false → t.time = s.time ∧ t.loader.resetCause = s.loader.resetCause) ∧
  (c.movesPin = false → t.pins = s.pins) ∧ (c.isReset = false → c.endsLoad = false → t.loader = s.loader) ∧
  (c.isReset = false → c.isTransfer = false → t.port = s.port)

/-- A command that is no reset, no pin edge, no end of the load and no transfer leaves all of it alone. -/
theorem leavesFrame_of_keeps {c : Instr} {s : State} {p : State → Prop} (k : ∃ t, exec c s = .next t ∧ p t)
    (f : ∀ t, p t → t.time = s.time ∧ t.pins = s.pins ∧ t.loader = s.loader ∧ t.port = s.port ∧ t.pending = s.pending) :
    ∃ t, exec c s = .next t ∧ LeavesFrame c s t := by
  obtain ⟨t, e, h⟩ := k
  obtain ⟨ht, hp, hl, hx, hq⟩ := f t h
  exact ⟨t, e, hq, fun _ => ⟨ht, by rw [hl]⟩, fun _ => hp, fun _ _ => hl, fun _ _ => hx⟩

/-- The same for a pin edge. -/
theorem leavesFrame_of_edge {c : Instr} {s : State} {p : State → Prop} (hc : c.movesPin = true)
    (k : ∃ t, exec c s = .next t ∧ p t)
    (f : ∀ t, p t → t.time = s.time ∧ t.loader = s.loader ∧ t.port = s.port ∧ t.pending = s.pending) :
    ∃ t, exec c s = .next t ∧ LeavesFrame c s t := by
  obtain ⟨t, e, h⟩ := k
  obtain ⟨ht, hl, hx, hq⟩ := f t h
  exact ⟨t, e, hq, fun _ => ⟨ht, by rw [hl]⟩, fun q => by simp [hc] at q, fun _ _ => hl, fun _ _ => hx⟩

/-- The same for a transfer of the port. -/
theorem leavesFrame_of_transfer {c : Instr} {s : State} {p : State → Prop} (hc : c.isTransfer = true)
    (k : ∃ t, exec c s = .next t ∧ p t)
    (f : ∀ t, p t → t.time = s.time ∧ t.pins = s.pins ∧ t.loader = s.loader ∧ t.pending = s.pending) :
    ∃ t, exec c s = .next t ∧ LeavesFrame c s t := by
  obtain ⟨t, e, h⟩ := k
  obtain ⟨ht, hp, hl, hq⟩ := f t h
  exact ⟨t, e, hq, fun _ => ⟨ht, by rw [hl]⟩, fun _ => hp, fun _ _ => hl, fun _ q => by simp [hc] at q⟩

/-- The same for a reset, which keeps the pins and the queue alone. -/
theorem leavesFrame_of_reset {c : Instr} {s : State} {p : State → Prop} (hc : c.isReset = true)
    (k : ∃ t, exec c s = .next t ∧ p t) (f : ∀ t, p t → t.pins = s.pins ∧ t.pending = s.pending) :
    ∃ t, exec c s = .next t ∧ LeavesFrame c s t := by
  obtain ⟨t, e, h⟩ := k
  obtain ⟨hp, hq⟩ := f t h
  exact ⟨t, e, hq, fun q => by simp [hc] at q, fun _ => hp, fun q => by simp [hc] at q, fun q => by simp [hc] at q⟩

/-- The same for the end of the load, which writes the loader but not the reset cause. -/
theorem leavesFrame_of_load {c : Instr} {s : State} {p : State → Prop} (hc : c.endsLoad = true)
    (k : ∃ t, exec c s = .next t ∧ p t)
    (f : ∀ t, p t → t.time = s.time ∧ t.pins = s.pins ∧ t.loader.resetCause = s.loader.resetCause ∧ t.port = s.port ∧
      t.pending = s.pending) :
    ∃ t, exec c s = .next t ∧ LeavesFrame c s t := by
  obtain ⟨t, e, h⟩ := k
  obtain ⟨ht, hp, hl, hx, hq⟩ := f t h
  exact ⟨t, e, hq, fun _ => ⟨ht, hl⟩, fun _ => hp, fun _ q => by simp [hc] at q, fun _ _ => hx⟩

theorem exec_leavesFrame (c : Instr) (s : State) : ∃ t, exec c s = .next t ∧ LeavesFrame c s t := by
  cases c with
  | por => exact leavesFrame_of_reset rfl (execPor_keeps s) fun t k => by simp [k]
  | pinReset => exact leavesFrame_of_reset rfl (execPinReset_keeps s) fun t k => by simp [k]
  | loadDone image => exact leavesFrame_of_load rfl (execLoadDone_keeps image s) fun t k => by simp [k]
  | loadFailure => exact leavesFrame_of_load rfl (execLoadFailure_keeps s) fun t k => by simp [k]
  | integration => exact leavesFrame_of_keeps (execIntegration_keeps s) fun t k => by simp [k]
  | frameStart => exact leavesFrame_of_keeps (execFrameStart_keeps s) fun t k => by simp [k]
  | lostArbitration winner => exact leavesFrame_of_keeps (execLostArbitration_keeps winner s) fun t k => by simp [k]
  | frameRejected rx => exact leavesFrame_of_keeps (execFrameRejected_keeps rx s) fun t k => by simp [k]
  | proposeDelivered sender number kind imageBacked inh => exact leavesFrame_of_keeps (execProposeDelivered_keeps sender number kind imageBacked inh s) fun t k => by simp [k]
  | forcedProposeDelivered sender number kind imageBacked => exact leavesFrame_of_keeps (execForcedProposeDelivered_keeps sender number kind imageBacked s) fun t k => by simp [k]
  | wakeDelivered sender number target input => exact leavesFrame_of_keeps (execWakeDelivered_keeps sender number target input s) fun t k => by simp [k]
  | voteDelivered sender number answer => exact leavesFrame_of_keeps (execVoteDelivered_keeps sender number answer s) fun t k => by simp [k]
  | stageForwardDelivered sender number stage => exact leavesFrame_of_keeps (execStageForwardDelivered_keeps sender number stage s) fun t k => by simp [k]
  | stageUnwindDelivered sender number stage => exact leavesFrame_of_keeps (execStageUnwindDelivered_keeps sender number stage s) fun t k => by simp [k]
  | abortDelivered sender number reason => exact leavesFrame_of_keeps (execAbortDelivered_keeps sender number reason s) fun t k => by simp [k]
  | faultDelivered sender number code target => exact leavesFrame_of_keeps (execFaultDelivered_keeps sender number code target s) fun t k => by simp [k]
  | beatDelivered sender number body => exact leavesFrame_of_keeps (execBeatDelivered_keeps sender number body s) fun t k => by simp [k]
  | censusDelivered sender signature cause => exact leavesFrame_of_keeps (execCensusDelivered_keeps sender signature cause s) fun t k => by simp [k]
  | voteWindowExpiry => exact leavesFrame_of_keeps (execVoteWindowExpiry_keeps s) fun t k => by simp [k]
  | voteGuardExpiry => exact leavesFrame_of_keeps (execVoteGuardExpiry_keeps s) fun t k => by simp [k]
  | barrierTimerExpiry => exact leavesFrame_of_keeps (execBarrierTimerExpiry_keeps s) fun t k => by simp [k]
  | completionWaitExpiry => exact leavesFrame_of_keeps (execCompletionWaitExpiry_keeps s) fun t k => by simp [k]
  | closingWaitExpiry => exact leavesFrame_of_keeps (execClosingWaitExpiry_keeps s) fun t k => by simp [k]
  | reverseBarrierExpiry => exact leavesFrame_of_keeps (execReverseBarrierExpiry_keeps s) fun t k => by simp [k]
  | deferHoldExpiry => exact leavesFrame_of_keeps (execDeferHoldExpiry_keeps s) fun t k => by simp [k]
  | reEntryLockoutExpiry => exact leavesFrame_of_keeps (execReEntryLockoutExpiry_keeps s) fun t k => by simp [k]
  | demoteTimerExpiry => exact leavesFrame_of_keeps (execDemoteTimerExpiry_keeps s) fun t k => by simp [k]
  | minimumDwellExpiry => exact leavesFrame_of_keeps (execMinimumDwellExpiry_keeps s) fun t k => by simp [k]
  | faultHoldExpiry => exact leavesFrame_of_keeps (execFaultHoldExpiry_keeps s) fun t k => by simp [k]
  | silenceTimerExpiry peer => exact leavesFrame_of_keeps (execSilenceTimerExpiry_keeps peer s) fun t k => by simp [k]
  | beatTick => exact leavesFrame_of_keeps (execBeatTick_keeps s) fun t k => by simp [k]
  | censusWindowExpiry => exact leavesFrame_of_keeps (execCensusWindowExpiry_keeps s) fun t k => by simp [k]
  | barredRetryExpiry => exact leavesFrame_of_keeps (execBarredRetryExpiry_keeps s) fun t k => by simp [k]
  | settleWindowExpiry rail => exact leavesFrame_of_keeps (execSettleWindowExpiry_keeps rail s) fun t k => by simp [k]
  | holdUpEnd rail => exact leavesFrame_of_keeps (execHoldUpEnd_keeps rail s) fun t k => by simp [k]
  | dischargeWindowExpiry rail => exact leavesFrame_of_keeps (execDischargeWindowExpiry_keeps rail s) fun t k => by simp [k]
  | holdDownEnd rail => exact leavesFrame_of_keeps (execHoldDownEnd_keeps rail s) fun t k => by simp [k]
  | powerGoodRiseRising rail => exact leavesFrame_of_edge rfl (execPowerGoodRiseRising_keeps rail s) fun t k => by simp [k]
  | powerGoodFallHoldingUp rail => exact leavesFrame_of_edge rfl (execPowerGoodFallHoldingUp_keeps rail s) fun t k => by simp [k]
  | powerGoodFallFalling rail => exact leavesFrame_of_edge rfl (execPowerGoodFallFalling_keeps rail s) fun t k => by simp [k]
  | powerGoodRiseHoldingDown rail => exact leavesFrame_of_edge rfl (execPowerGoodRiseHoldingDown_keeps rail s) fun t k => by simp [k]
  | powerGoodFallFailedDown rail => exact leavesFrame_of_edge rfl (execPowerGoodFallFailedDown_keeps rail s) fun t k => by simp [k]
  | powerGoodFallOn rail => exact leavesFrame_of_edge rfl (execPowerGoodFallOn_keeps rail s) fun t k => by simp [k]
  | powerGoodRiseOn rail => exact leavesFrame_of_edge rfl (execPowerGoodRiseOn_keeps rail s) fun t k => by simp [k]
  | dropoutFilterExpiry rail => exact leavesFrame_of_keeps (execDropoutFilterExpiry_keeps rail s) fun t k => by simp [k]
  | dropoutWindowExpiry rail => exact leavesFrame_of_keeps (execDropoutWindowExpiry_keeps rail s) fun t k => by simp [k]
  | pulseEnd signal => exact leavesFrame_of_keeps (execPulseEnd_keeps signal s) fun t k => by simp [k]
  | senseChange sense level => exact leavesFrame_of_edge rfl (execSenseChange_keeps sense level s) fun t k => by simp [k]
  | awaitTimeout sense => exact leavesFrame_of_keeps (execAwaitTimeout_keeps sense s) fun t k => by simp [k]
  | waitEnd => exact leavesFrame_of_keeps (execWaitEnd_keeps s) fun t k => by simp [k]
  | slpreqEdge type1 type0 imgrdy => exact leavesFrame_of_keeps (execSlpreqEdge_keeps type1 type0 imgrdy s) fun t k => by simp [k]
  | reqackPulseEnd => exact leavesFrame_of_keeps (execReqackPulseEnd_keeps s) fun t k => by simp [k]
  | levelInputChange input level => exact leavesFrame_of_edge rfl (execLevelInputChange_keeps input level s) fun t k => by simp [k]
  | levelHoldEnd input => exact leavesFrame_of_keeps (execLevelHoldEnd_keeps input s) fun t k => by simp [k]
  | countEdge input => exact leavesFrame_of_keeps (execCountEdge_keeps input s) fun t k => by simp [k]
  | ownWindowExpiry input => exact leavesFrame_of_keeps (execOwnWindowExpiry_keeps input s) fun t k => by simp [k]
  | commonWindowExpiry => exact leavesFrame_of_keeps (execCommonWindowExpiry_keeps s) fun t k => by simp [k]
  | buttonInputChange input level => exact leavesFrame_of_edge rfl (execButtonInputChange_keeps input level s) fun t k => by simp [k]
  | debounceEnd => exact leavesFrame_of_keeps (execDebounceEnd_keeps s) fun t k => by simp [k]
  | longPressEnd => exact leavesFrame_of_keeps (execLongPressEnd_keeps s) fun t k => by simp [k]
  | status w => exact leavesFrame_of_transfer rfl (execStatus_keeps w s) fun t k => by simp [k]
  | peer argument w => exact leavesFrame_of_transfer rfl (execPeer_keeps argument w s) fun t k => by simp [k]
  | txn w => exact leavesFrame_of_transfer rfl (execTxn_keeps w s) fun t k => by simp [k]
  | history argument w => exact leavesFrame_of_transfer rfl (execHistory_keeps argument w s) fun t k => by simp [k]
  | wakeq w => exact leavesFrame_of_transfer rfl (execWakeq_keeps w s) fun t k => by simp [k]
  | faults w => exact leavesFrame_of_transfer rfl (execFaults_keeps w s) fun t k => by simp [k]
  | stack w => exact leavesFrame_of_transfer rfl (execStack_keeps w s) fun t k => by simp [k]
  | ackFaults w => exact leavesFrame_of_transfer rfl (execAckFaults_keeps w s) fun t k => by simp [k]
  | restart w => exact leavesFrame_of_reset rfl (execRestart_keeps w s) fun t k => by simp [k]
  | unknownCommand w => exact leavesFrame_of_transfer rfl (execUnknownCommand_keeps w s) fun t k => by simp [k]
  | snapshotRead r => exact leavesFrame_of_transfer rfl (execSnapshotRead_keeps r s) fun t k => by simp [k]
  | discardedAtThisStationAlone rx => exact leavesFrame_of_keeps (execDiscardedAtThisStationAlone_keeps rx s) fun t k => by simp [k]

/-- Settles O2, from the `keeps` lemma of each command. -/
theorem everyCommandCompletes : Obligations.EveryCommandCompletes := exec_leavesFrame

end Sys2Proof.Machine
end

section
/-! PROOF. Resets, the end of the load, and the start of a frame (O4, O5, O7, O8). -/

namespace Sys2Proof.Machine

open Sys2Proof

/-! ### Sets of stations -/

@[simp] theorem setHas_setOne (i j : StationId) : setHas (setOne i) j = (j == i) := by
  revert i j
  decide

@[simp] theorem setHas_setAdd (s : StationSet) (i j : StationId) : setHas (setAdd s i) j = (setHas s j || j == i) := by
  rw [← setHas_setOne]
  simp [setHas, setAdd]

@[simp] theorem setHas_setDrop (s : StationSet) (i j : StationId) : setHas (setDrop s i) j = (setHas s j && j != i) := by
  have h : (j != i) = !setHas (setOne i) j := by rw [setHas_setOne]; rfl
  rw [h]
  simp [setHas, setDrop]

/-- The members of the set of a test are the stations that pass it. -/
@[simp] theorem setHas_setOf (p : StationId → Bool) (i : StationId) : setHas (setOf p) i = p i := by
  have hf : ∀ (l : List StationId) (acc : StationSet),
      setHas (l.foldl (fun acc i => if p i then setAdd acc i else acc) acc) i = (setHas acc i || (decide (i ∈ l) && p i)) := by
    intro l
    induction l with
    | nil => simp
    | cons a l ih =>
      intro acc
      rw [List.foldl_cons, ih]
      by_cases hi : i = a
      · subst hi
        by_cases hp : p i = true <;> simp [hp]
      · have hb : (i == a) = false := by simp [hi]
        by_cases hp : p a = true <;> simp [hp, hi, hb]
  unfold setOf allStations
  rw [hf]
  simp [setHas]

/-! ### Resets (O4, O5) -/

/-- Settles O4, by evaluation of the reset state. -/
theorem powerOnReset : Obligations.PowerOnReset := by
  refine ⟨fun _ => rfl, rfl, rfl, rfl, rfl, rfl, rfl, rfl, rfl, rfl, rfl, rfl, rfl, slot_reset, peerAt_reset, rfl, rfl, rfl,
    rfl, rfl, rfl, rfl, rfl, rfl, rfl, fun ch => ?_, fun i => ?_, rfl, rfl, rfl, rfl, rfl, rfl, rfl, rfl, rfl, rfl, rfl, rfl,
    rfl, rfl, rfl, rfl, rfl, rfl, rfl, rfl⟩
  · have hr : State.reset.rail ch = Rail.still .off := by simp [State.rail, State.reset, Channel.blank, tabGet]
    exact ⟨hr, by rw [State.enable, hr]; rfl⟩
  · simp [State.signal, State.reset, Channel.blank, tabGet, SignalState.level]

/-- A rail held through a warm reset stands at the level of its enable (R79). -/
theorem heldRail_eq (r : Rail) :
    heldRail r = Rail.still (if r.state.enable = .high then .on else .off) ∧ (heldRail r).state.enable = r.state.enable := by
  cases h : r.state <;> simp [heldRail, Rail.still, RailState.enable, h]

theorem heldSignal_level (x : Signal) : (heldSignal x).state.level = x.state.level ∧ (heldSignal x).pulse = none := by
  refine ⟨?_, rfl⟩
  unfold heldSignal signalAt
  cases x.state.level <;> rfl

/-- What a pin reset and a RESTART hold, keep and return to its reset value (R79, R160). -/
theorem warmReset_holds (cause : ResetCause) (s t : State) (ht : t = { warmReset cause s with port := t.port }) :
    (∀ ch, t.enable ch = s.enable ch ∧ t.rail ch = Rail.still (if s.enable ch = .high then .on else .off)) ∧
    (∀ i, t.signal i = s.signal i ∧ (t.signalAt i).pulse = none) ∧ t.channel.corrections = 0 ∧
    (∀ i, tabGet t.channel.awaits i = none) ∧ t.channel.waitCounter = none ∧
    t.faults = { s.faults with deferred := [] } ∧ t.agreement = { Agreement.blank with history := s.agreement.history } ∧
    t.loader = { image := none, signature := 0, resetCause := cause, bytesRead := none } ∧ t.time = 0 ∧
    t.link = Link.blank ∧ t.presence = Presence.blank ∧ t.executor = Executor.idle ∧ t.wake = WakeUnit.blank ∧
    t.request = RequestUnit.blank ∧ t.pins = s.pins ∧ t.slk = none ∧ t.chipSelect = true ∧ t.spiAddress = some 0 := by
  rw [ht]
  refine ⟨fun ch => ?_, fun i => ?_, rfl, fun i => ?_, rfl, rfl, rfl, rfl, rfl, rfl, rfl, rfl, rfl, rfl, rfl, rfl, rfl, rfl⟩
  · have := heldRail_eq (s.rail ch)
    simp only [State.enable, State.rail, warmReset, heldChannel, tabGet_tabMap] at this ⊢
    exact ⟨this.2, this.1⟩
  · simpa only [State.signal, State.signalAt, warmReset, heldChannel, tabGet_tabMap] using
      heldSignal_level (tabGet s.channel.signals i)
  · simp [warmReset, heldChannel, Channel.blank, tabGet]

/-- Settles O5: the held outputs by `warmReset_holds`, and a RESTART by whether the port answers it. -/
theorem warmResetKeepsOutputsAndRecords : Obligations.WarmResetKeepsOutputsAndRecords := by
  constructor
  · rintro c cause s (⟨rfl, rfl⟩ | ⟨w, rfl, rfl, ha⟩)
    · obtain ⟨hr, hi, hc, hw, hx, hf, hg, hl, ht, hk, hp, he, hu, hq, hrest⟩ := warmReset_holds .pinReset s (warmReset .pinReset s) rfl
      exact ⟨_, rfl, hr, hi, hc, hw, hx, hf, hg, hl, ht, hk, hp, he, hu, hq, rfl, hrest⟩
    · have e : exec (.restart w) s = .next (noteAcks (takenAcks 1 w.extra) (warmReset .restart s)) := by
        simp [exec, execRestart, onPort, ha]
      obtain ⟨hr, hi, hc, hw, hx, hf, hg, hl, ht, hk, hp, he, hu, hq, hrest⟩ :=
        warmReset_holds .restart s (noteAcks (takenAcks 1 w.extra) (warmReset .restart s)) rfl
      exact ⟨_, e, hr, hi, hc, hw, hx, hf, hg, hl, ht, hk, hp, he, hu, hq, rfl, hrest⟩
  · intro w s ha
    simp [exec, execRestart, onPort, ha, noteAcks, State.withPort]

/-! ### The end of the load (O7) -/

/-- How many bytes the loader takes from a memory that fails a header check, and from one that fails none (R154, R155). -/
theorem readLength_cases (header : List Byte) :
    (header.take 2 ≠ [0x5A, 0x53] → readLength header = 2) ∧
    (header.take 2 = [0x5A, 0x53] → word16 header 2 < 13 ∨ 2048 < word16 header 2 → readLength header = 4) ∧
    (header.take 2 = [0x5A, 0x53] → 13 ≤ word16 header 2 → word16 header 2 ≤ 2048 →
      readLength header = (if 7 < (header.getD 4 0).toNat then 5
        else if 13 + word16 header 5 + word16 header 7 + word16 header 9 = word16 header 2 then word16 header 2
        else 11)) := by
  refine ⟨fun h => ?_, fun h hr => ?_, fun h hl hu => ?_⟩
  · have hb : (header.take 2 != [0x5A, 0x53]) = true := by simpa using h
    rw [readLength, if_pos hb]
  · have : inRange 13 2048 (word16 header 2) = false := by
      rcases hr with q | q <;> simp [inRange] <;> omega
    simp [readLength, h, this]
  · have hin : inRange 13 2048 (word16 header 2) = true := by simp [inRange, hl, hu]
    have hb : (header.take 2 != [0x5A, 0x53]) = false := by simp [h]
    simp only [readLength, hb, hin, Bool.not_true, Bool.false_eq_true, if_false]
    by_cases hx : 13 + word16 header 5 + word16 header 7 + word16 header 9 = word16 header 2 <;> simp [hx]

/-- Settles O7, from the two commands that end the load, in LOADING and elsewhere. -/
theorem failedLoadIsConfigFault : Obligations.FailedLoadIsConfigFault := by
  refine ⟨fun s hp => ?_, fun i s hv hp => ?_, readLength_cases, fun s hp => ?_, fun c s hc hp => ?_⟩
  · simp only [exec, execLoadFailure, hp, if_true]
    rfl
  · simp only [exec, execLoadDone, hp, if_true, hv]
    rfl
  · simp [State.slk, State.onLink, State.chipSelect, State.spiAddress, State.attn, State.stateOk, State.answers,
      Phase.loaded, hp]
  · cases c with
    | loadDone i => simp [exec, execLoadDone, hp]
    | loadFailure => simp [exec, execLoadFailure, hp]
    | _ => simp [Instr.endsLoad] at hc

/-! ### The start of a frame (O8) -/

/-- The kinds before a kind in the list are those of a lower class. -/
theorem frameKinds_split (k : FrameKind) : ∃ lower higher, frameKinds = lower ++ k :: higher ∧
    ∀ j ∈ lower, j.class < k.class := by
  refine ⟨frameKinds.take k.class.val, frameKinds.drop (k.class.val + 1), ?_, ?_⟩
  · cases k <;> rfl
  · cases k <;> decide

/-- The first kind that passes a test is the one of lowest class that does. -/
theorem find_frameKinds {p : FrameKind → Bool} {k : FrameKind} (hk : p k = true)
    (hl : ∀ j, j.class < k.class → p j = false) : frameKinds.find? p = some k := by
  obtain ⟨lower, higher, he, hc⟩ := frameKinds_split k
  exact List.find?_eq_some_iff_append.2 ⟨hk, lower, higher, he, fun j hj => by simp [hl j (hc j hj)]⟩

theorem mem_frameKinds (k : FrameKind) : k ∈ frameKinds := by
  obtain ⟨lower, higher, he, -⟩ := frameKinds_split k
  simp [he]

/-- No slot is sending. -/
theorem sendingKind_none_iff (s : State) : s.sendingKind = none ↔ ∀ j, (s.slot j).sending = none := by
  unfold State.sendingKind
  rw [List.find?_eq_none]
  exact ⟨fun h j => by simpa using h j (mem_frameKinds j), fun h j _ => by simp [h j]⟩

/-- The queued frame of lowest class starts at an idle point (R136). -/
theorem startNext_eq {s : State} {k : FrameKind} {q : Queued} (ho : s.onLink = true)
    (hs : ∀ j, (s.slot j).sending = none) (hq : (s.slot k).queued = some q)
    (hl : ∀ j, j.class < k.class → (s.slot j).queued = none) :
    startNext s = s.withSlot k { s.slot k with queued := none, sending := some (s.startedFrame q) } := by
  have hn : s.nextKind = some k := find_frameKinds (by simp [hq]) fun j hj => by simp [hl j hj]
  simp [startNext, ho, (sendingKind_none_iff s).2 hs, hn, startSlot, hq]

/-- On SLK stand the bits of the one frame being sent. -/
theorem slk_of_sending {s : State} {k : FrameKind} {r : Ready} (ho : s.onLink = true) (hk : (s.slot k).sending = some r)
    (hn : ∀ j, j ≠ k → (s.slot j).sending = none) : s.slk = some r.frame.line := by
  have hf : s.sendingKind = some k := find_frameKinds (by simp [hk]) fun j hj => by
    simp [hn j (fun q => absurd hj (by simp [q]))]
  simp [State.slk, ho, hf, hk]

theorem txnOpen_iff (s : State) : s.txnOpen = true ↔ s.agreement.phase = .voting ∨ s.agreement.phase = .staging ∨
    s.agreement.phase = .unwinding ∨ s.agreement.phase = .descending ∨ (s.agreement.phase = .mute ∧ s.recordOpen = true) := by
  unfold State.txnOpen
  cases s.agreement.phase <;> simp

/-- Settles O8, from what an idle point does (`startNext_eq`) and what a started BEAT is composed of. -/
theorem lowestClassStarts : Obligations.LowestClassStarts := by
  refine ⟨fun s k q ho hs hq hl => ?_, fun _ _ => rfl, fun n s => ?_, fun s h => ?_, fun s h => ?_⟩
  · have hn : ∀ j, j ≠ k → (startNext s).slot j = s.slot j := fun j hj => by
      rw [startNext_eq ho hs hq hl, slot_withSlot_ne _ hj]
    have hk : (startNext s).slot k = { s.slot k with queued := none, sending := some (s.startedFrame q) } := by
      rw [startNext_eq ho hs hq hl, slot_withSlot_same]
    have hlink : (startNext s).onLink = true := by simpa [State.onLink] using ho
    refine ⟨_, rfl, hk, hn, ?_, slk_of_sending hlink (by rw [hk]) fun j hj => by rw [hn j hj, hs j]⟩
    rw [startNext_eq ho hs hq hl]
    rfl
  · refine ⟨_, rfl, fun h => ?_, fun h st hst => ?_, txnOpen_iff s, rfl, rfl, fun i => ?_⟩
    · simp [h, SystemState.code]
    · simp [h, hst]
    · simp [State.exclusionMap]
  · rcases h with h | h
    · simp [State.slk, h]
    · simp [State.slk, (sendingKind_none_iff s).2 h]
  · change Host.Outcome.next (startNext s) = _
    unfold startNext
    rcases h with h | ⟨j, h⟩ | h
    · simp [h]
    · have : s.sendingKind ≠ none := fun q => h ((sendingKind_none_iff s).1 q j)
      obtain ⟨k, hk⟩ := Option.ne_none_iff_exists'.1 this
      simp [hk]
    · have : s.nextKind = none := by
        unfold State.nextKind
        rw [List.find?_eq_none]
        exact fun j _ => by simp [h j]
      simp [this]

end Sys2Proof.Machine
end

section
/-! PROOF. Deliveries that change nothing of the agreement engine (O14). -/

namespace Sys2Proof.Machine

open Sys2Proof

/-! ### Off the link, and from an EXCLUDED peer -/

theorem handOff_offLink (f : Frame) (engine : Option Ready → State → State) {s : State} (h : s.onLink = false) :
    handOff f engine s = s := by
  simp [handOff, h]

/-- A frame of another station is not the station's own (R134). -/
theorem ownSending_of_ne {f : Frame} {s : State} (h : f.sender ≠ s.me) : s.ownSending f = none := by
  unfold State.ownSending
  split
  · simp [h]
  · rfl

theorem handOff_excluded {f : Frame} (engine : Option Ready → State → State) {s : State} (h : f.sender ≠ s.me)
    (hx : (s.peerAt f.sender).presence = .excluded) : handOff f engine s = s := by
  unfold handOff
  split
  · rfl
  · simp [ownSending_of_ne h, ownDelivered, h, hx]

theorem deliverBeat_offLink (i : StationId) (n : TxnNumber) (b : BeatBody) {s : State} (h : s.onLink = false) :
    deliverBeat i n b s = s := by
  simp [deliverBeat, h]

theorem deliverCensus_offLink (i : StationId) (sig : Signature) (rc : ResetCause) {s : State} (h : s.onLink = false) :
    deliverCensus i sig rc s = s := by
  simp [deliverCensus, h]

theorem deliverBeat_excluded {i : StationId} (n : TxnNumber) (b : BeatBody) {s : State} (h : i ≠ s.me)
    (hx : (s.peerAt i).presence = .excluded) : deliverBeat i n b s = s := by
  unfold deliverBeat
  split
  · rfl
  · simp [ownSending_of_ne (f := ⟨i, n, .beat b⟩) h, ownDelivered, h, hx]

/-! ### Discarded frames -/

/-- What a discard is judged by stands through the hand-off. -/
theorem State.discards_of_delivered {i : StationId} {s t : State} (h : DeliveredOnly i s t) {c : Instr}
    (hd : s.discards c) : t.discards c := by
  obtain ⟨ha, -, -, -, hl, -, -, hx⟩ := h.keeps
  have hs : ∀ j n k, s.discardsStage j n k → t.discardsStage j n k := fun j n k q => by
    simpa only [State.discardsStage, State.silentDescent, State.recordOpen, State.lastStage, State.system, ha, hl] using q
  cases c with
  | stageForwardDelivered j n k => exact hs j n k hd
  | stageUnwindDelivered j n k => exact hs j n k hd
  | proposeDelivered | forcedProposeDelivered | wakeDelivered | voteDelivered | abortDelivered | faultDelivered =>
    simpa only [State.discards, State.recordOpen, ha, hx] using hd
  | _ => exact hd

theorem ownWakeIdle_delivered (i : StationId) (own : Option Ready) (s : State) : DeliveredOnly i s (ownWakeIdle own s) := by
  have hc : DeliveredOnly i s (clearMark s) := .of_peers rfl rfl
  unfold ownWakeIdle
  dsimp only
  split
  · split
    · exact hc.trans (.of_peers (testAnnounce_delivery _) (by simp))
    · exact hc
  · exact .refl i s

/-- With no alignment running an opening frame withdraws nothing in CENSUS (R152). -/
theorem withdrawInCensus_still {s : State} (h : s.presence.alignment = none) : withdrawInCensus s = s := by
  simp [withdrawInCensus, withdrawAdoption, State.aligning, h]

theorem takePropose_discarded {i : StationId} {n : TxnNumber} {k : Kind} {img : Bool} {inh : Inhibits} (own : Option Ready)
    {s : State} (h : s.discards (.proposeDelivered i n k img inh)) : takePropose i k img inh own s = s := by
  rcases h with hp | ⟨hp, ha⟩
  · simp [takePropose, hp]
  · simp [takePropose, hp, withdrawInCensus_still ha]

theorem takeForcedPropose_discarded {i : StationId} {n : TxnNumber} {k : Kind} {img : Bool} {s : State}
    (h : s.discards (.forcedProposeDelivered i n k img)) : takeForcedPropose i k s = s := by
  rcases h with ⟨hp, hr⟩ | ⟨hp, ha⟩
  · have ho : s.opensForced = false := by
      rcases hr with q | q <;> simp [State.opensForced, State.opensSilent, hp, q, Phase.defers]
    simp [takeForcedPropose, ho, hp, withdrawInCensus]
  · simp [takeForcedPropose, State.opensForced, State.opensSilent, hp, Phase.defers, withdrawInCensus_still ha]

theorem takeFault_discarded {i : StationId} {n : TxnNumber} {code : FaultCode} {tgt : Target} {s : State}
    (h : s.discards (.faultDelivered i n code tgt)) : takeFault i code s = s := by
  rcases h with ⟨hp, hr, hb⟩ | ⟨hp, ha⟩
  · simp [takeFault, State.opensForced, State.opensSilent, State.descending, State.silentDescent, hp, hr, hb,
      Phase.defers, withdrawInCensus]
  · simp [takeFault, State.opensForced, State.opensSilent, State.descending, State.silentDescent, hp, Phase.defers,
      withdrawInCensus_still ha]

theorem takeWake_discarded {i : StationId} {n : TxnNumber} {w : WakeTarget} {x : Fin 8} (own : Option Ready) {s : State}
    (h : s.discards (.wakeDelivered i n w x)) : takeWake i w x own s = ownWakeIdle own s := by
  rcases h with hp | hp | hp | hp | ⟨hp, ha⟩
  · simp [takeWake, hp]
  · simp [takeWake, hp]
  · simp [takeWake, hp]
  · simp [takeWake, hp]
  · simp [takeWake, hp, withdrawInCensus_still ha]

theorem takeVote_discarded {i : StationId} {n : TxnNumber} {a : Answer} {s : State}
    (h : s.discards (.voteDelivered i n a)) : DeliveredOnly i s (takeVote i n a s) := by
  unfold takeVote
  split
  · rename_i r hp hr
    have hr' := h.resolve_left (not_not_intro hp) r hr
    split
    · rename_i hm
      simp only [Record.matches, Bool.and_eq_true, beq_iff_eq, bne_iff_ne, ne_eq] at hm
      obtain ⟨⟨hn, hh⟩, ho⟩ := hm
      have hv : (tabGet r.votes i).isNone = false := by simpa [hn, hh, ho, Option.isSome_iff_ne_none] using hr'
      dsimp only
      rw [if_neg (by simp [hv])]
      split
      · exact .refl i s
      · exact ⟨rfl, fun j hj => tabGet_tabSet_ne _ hj _⟩
    · exact .refl i s
  · exact .refl i s

theorem stageMatches_of_discards {i : StationId} {n : TxnNumber} {k : Nat} {s : State} (h : s.discardsStage i n k) :
    s.stageMatches i n k = false := by
  unfold State.stageMatches
  rcases h with ⟨h1, h2, h3, h4⟩ | h
  · simp [State.forwardWork, h1, h2, h3, h4]
  · cases hr : s.agreement.record with
    | none => simp [State.participants, hr, setHas]
    | some r =>
      rcases h r hr with q | q | q | q
      · simp [State.openNumber, hr, q]
      · simp [State.participants, hr, q]
      · simp [q]
      · simp [State.kind, hr, Nat.not_le.2 q]

theorem takeForward_discarded {i : StationId} {n : TxnNumber} {k : Nat} (own : Option Ready) {s : State}
    (h : s.discards (.stageForwardDelivered i n k)) : takeForward i n k own s = s := by
  simp [takeForward, stageMatches_of_discards h]

theorem takeUnwind_discarded {i : StationId} {n : TxnNumber} {k : Nat} (own : Option Ready) {s : State}
    (h : s.discards (.stageUnwindDelivered i n k)) : takeUnwind i n k own s = s := by
  simp [takeUnwind, stageMatches_of_discards h]

theorem takeAbort_discarded {i : StationId} {n : TxnNumber} {reason : AbortReason} {s : State}
    (h : s.discards (.abortDelivered i n reason)) : takeAbort i n reason s = s := by
  unfold takeAbort
  split
  · rename_i r hr
    split
    · rename_i hm
      simp only [Record.matches, Bool.and_eq_true, beq_iff_eq] at hm
      have hc : (s.agreement.phase ≠ .voting ∧ s.agreement.phase ≠ .staging) ∨
          s.agreement.phase = .staging ∧ r.committed = true := by
        refine h.imp_right fun q => ?_
        simpa [hm] using q r hr
      split <;> rename_i hp
      · simp [hp] at hc
      · have : r.committed = true := by simpa [hp] using hc
        simp [this]
      · rfl
    · rfl
  · rfl

/-- What an engine that discards makes of the delivery. -/
theorem delivery_discarded {f : Frame} {engine : Option Ready → State → State} {s : State} (ht : s.takes f.sender)
    (he : ∀ own t, DeliveredOnly f.sender s t → DeliveredOnly f.sender t (engine own t)) :
    DeliveredOnly f.sender s (handOff f engine s) := by
  obtain ⟨s', q, hd⟩ := handOff_takes (engine := engine) ht
  rw [q]
  exact hd.trans (he _ s' hd)

/-- Settles O14, from the hand-off (`delivery_discarded`) and what each engine does with a frame that R8 discards. -/
theorem unheardDeliveriesChangeNothing : Obligations.UnheardDeliveriesChangeNothing := by
  intro c i s hi
  have hfinish : ∀ {t}, DeliveredOnly i s t → ∃ u, Host.Outcome.next t = (.next u : Result) ∧
      u.agreement = s.agreement ∧ u.executor = s.executor ∧ u.channel = s.channel ∧ u.faults = s.faults ∧
      u = s.withDeliveryOf u ∧ ∀ j, j ≠ i → u.peerAt j = s.peerAt j := fun {t} hd =>
    ⟨t, rfl, hd.keeps.1, hd.keeps.2.1, hd.keeps.2.2.1, hd.keeps.2.2.2.1, hd.1, hd.2⟩
  have hstill : ∀ (engine : State → State) t, (s.discards c → ∀ u, u.discards c → engine u = u) → s.discards c →
      DeliveredOnly i s t → DeliveredOnly i t (engine t) := fun engine t he hd ht => by
    rw [he hd t (State.discards_of_delivered ht hd)]
    exact .refl i t
  cases c with
  | proposeDelivered j n k img inh =>
    obtain rfl : j = i := by simpa [Instr.deliveredFrom] using hi
    exact ⟨fun h => congrArg _ (handOff_offLink _ _ h), fun _ hm hx => congrArg _ (handOff_excluded _ hm hx),
      fun ht hd => hfinish (delivery_discarded (f := ⟨j, n, _⟩) ht fun own t q =>
        hstill _ t (fun _ _ => takePropose_discarded own) hd q)⟩
  | forcedProposeDelivered j n k img =>
    obtain rfl : j = i := by simpa [Instr.deliveredFrom] using hi
    exact ⟨fun h => congrArg _ (handOff_offLink _ _ h), fun _ hm hx => congrArg _ (handOff_excluded _ hm hx),
      fun ht hd => hfinish (delivery_discarded (f := ⟨j, n, _⟩) ht fun own t q =>
        hstill _ t (fun _ _ => takeForcedPropose_discarded) hd q)⟩
  | wakeDelivered j n w x =>
    obtain rfl : j = i := by simpa [Instr.deliveredFrom] using hi
    exact ⟨fun h => congrArg _ (handOff_offLink _ _ h), fun _ hm hx => congrArg _ (handOff_excluded _ hm hx),
      fun ht hd => hfinish (delivery_discarded (f := ⟨j, n, _⟩) ht fun own t q => by
        rw [takeWake_discarded own (State.discards_of_delivered q hd)]
        exact ownWakeIdle_delivered ..)⟩
  | voteDelivered j n a =>
    obtain rfl : j = i := by simpa [Instr.deliveredFrom] using hi
    exact ⟨fun h => congrArg _ (handOff_offLink _ _ h), fun _ hm hx => congrArg _ (handOff_excluded _ hm hx),
      fun ht hd => hfinish (delivery_discarded (f := ⟨j, n, _⟩) ht fun own t q =>
        takeVote_discarded (State.discards_of_delivered q hd))⟩
  | stageForwardDelivered j n k =>
    obtain rfl : j = i := by simpa [Instr.deliveredFrom] using hi
    exact ⟨fun h => congrArg _ (handOff_offLink _ _ h), fun _ hm hx => congrArg _ (handOff_excluded _ hm hx),
      fun ht hd => hfinish (delivery_discarded (f := ⟨j, n, _⟩) ht fun own t q =>
        hstill _ t (fun _ _ => takeForward_discarded own) hd q)⟩
  | stageUnwindDelivered j n k =>
    obtain rfl : j = i := by simpa [Instr.deliveredFrom] using hi
    exact ⟨fun h => congrArg _ (handOff_offLink _ _ h), fun _ hm hx => congrArg _ (handOff_excluded _ hm hx),
      fun ht hd => hfinish (delivery_discarded (f := ⟨j, n, _⟩) ht fun own t q =>
        hstill _ t (fun _ _ => takeUnwind_discarded own) hd q)⟩
  | abortDelivered j n r =>
    obtain rfl : j = i := by simpa [Instr.deliveredFrom] using hi
    exact ⟨fun h => congrArg _ (handOff_offLink _ _ h), fun _ hm hx => congrArg _ (handOff_excluded _ hm hx),
      fun ht hd => hfinish (delivery_discarded (f := ⟨j, n, _⟩) ht fun own t q =>
        hstill _ t (fun _ _ => takeAbort_discarded) hd q)⟩
  | faultDelivered j n code tgt =>
    obtain rfl : j = i := by simpa [Instr.deliveredFrom] using hi
    exact ⟨fun h => congrArg _ (handOff_offLink _ _ h), fun _ hm hx => congrArg _ (handOff_excluded _ hm hx),
      fun ht hd => hfinish (delivery_discarded (f := ⟨j, n, _⟩) ht fun own t q =>
        hstill _ t (fun _ _ => takeFault_discarded) hd q)⟩
  | beatDelivered j n b =>
    obtain rfl : j = i := by simpa [Instr.deliveredFrom] using hi
    exact ⟨fun h => congrArg _ (deliverBeat_offLink j n b h), fun _ hm hx => congrArg _ (deliverBeat_excluded n b hm hx),
      fun _ hd => hd.elim⟩
  | censusDelivered j sig rc =>
    exact ⟨fun h => congrArg _ (deliverCensus_offLink j sig rc h), fun hc => by simp [Instr.isCensus] at hc, fun _ hd => hd.elim⟩
  | _ => simp [Instr.deliveredFrom] at hi

end Sys2Proof.Machine
end


section
/-! SUPPORT. The stage executor's loop: what each of its steps keeps, the run keeps. -/

namespace Sys2Proof.Machine

open Sys2Proof

theorem onRecord_agreement (f : Record → Record) {s : State} {r : Record} (hr : s.agreement.record = some r) :
    (s.onRecord f).agreement = { s.agreement with record := some (f r) } := by
  unfold State.onRecord
  rw [hr]
  rfl

/-- What every step of the executor keeps, its run keeps. -/
theorem execRun_induct {p : State → Prop} (h : ∀ s, p s → p (execStep s).1) {s : State} (hs : p s) : p (execRun s) := by
  have hl : ∀ n s, p s → p (execLoop n s) := by
    intro n
    induction n with
    | zero => exact fun _ hs => hs
    | succ n ih =>
      intro s hs
      have := h s hs
      rw [execLoop]
      split
      · rename_i q
        rw [q] at this
        exact ih _ this
      · rename_i q
        rwa [q] at this
  exact hl _ s hs

/-- The executor is at work on a stage, acting or reporting, with no barrier (R46, R53). -/
structure AtStage (k : Nat) (s : State) : Prop where
  audible : s.silentDescent = false
  sub : s.executor.sub = .acting ∨ s.executor.sub = .reporting
  cursor : s.executor.cursor = some k
  barrier : s.executor.barrier = none

theorem AtStage.of_eq {k : Nat} {s t : State} (h : AtStage k s) (ha : t.agreement = s.agreement)
    (hs : t.executor.sub = s.executor.sub) (hc : t.executor.cursor = s.executor.cursor)
    (hb : t.executor.barrier = s.executor.barrier) : AtStage k t :=
  ⟨by simpa [State.silentDescent, State.recordOpen, ha] using h.audible, hs ▸ h.sub, hc ▸ h.cursor, hb ▸ h.barrier⟩

/-- Where it stands on the line, one step leaves the executor at its stage. -/
theorem execStep_atStage {k : Nat} (s : State) (h : AtStage k s) : AtStage k (execStep s).1 := by
  unfold execStep
  split
  · exact h
  · split
    · rename_i stage _ _
      split
      · exact h.of_eq (by simp) (by simp) (by simp) (by simp)
      · rw [reportStage, if_neg (by simp [h.audible])]
        exact ⟨by simpa [State.silentDescent, State.recordOpen] using h.audible, .inr (by simp), by simpa using h.cursor,
          by simpa using h.barrier⟩
    · rename_i hsub _
      rcases h.sub with q | q <;> simp [q] at hsub
    · exact h

theorem execRun_atStage {k : Nat} {s : State} (h : AtStage k s) : AtStage k (execRun s) :=
  execRun_induct execStep_atStage h

end Sys2Proof.Machine
end

section
/-! PROOF. What a descent records (O36). -/

namespace Sys2Proof.Machine

open Sys2Proof

theorem waitsForStage_eq {k : Nat} {s : State} (hw : s.forwardWork = true) (hs : s.executor.sub = .waiting)
    (hc : s.executor.cursor = some k) (hk : k ≤ s.lastStage s.kind) : s.waitsForStage = some k := by
  simp [State.waitsForStage, hw, hs, hc, hk]

/-- A stage barrier that runs out in a descent enters the missing stations and starts the stage (R48, R107). -/
theorem expireStage_descending (k : Nat) {r : Record} {s : State} (hp : s.agreement.phase = .descending)
    (hr : s.agreement.record = some r) (hf : r.forced = true) :
    (expireStage k s).agreement = { s.agreement with record := some { r with missing := r.missing ||| s.shortOf k } } ∧
      (expireStage k s).faults = s.faults ∧ AtStage k (expireStage k s) := by
  have hforced : (barrierStopped s).forced = true := by simp [State.forced, hr, hf]
  have hshort : (barrierStopped s).shortOf k = s.shortOf k := rfl
  have hb : AtStage k (beginStage k (recordMissing (s.shortOf k) (barrierStopped s))) :=
    ⟨by simp [State.silentDescent, hp], .inl rfl, rfl, rfl⟩
  have he : expireStage k s = execRun (beginStage k (recordMissing (s.shortOf k) (barrierStopped s))) := by
    unfold expireStage
    dsimp only
    rw [if_pos hforced, hshort]
  rw [he]
  refine ⟨?_, by simp, execRun_atStage hb⟩
  have hr' : (barrierStopped s).agreement.record = some r := by simpa using hr
  simpa [recordMissing] using onRecord_agreement (fun r => { r with missing := r.missing ||| s.shortOf k }) hr'

/-- A FAULT in a descent enters the fault list of its record, and nothing more (R4, R8). -/
theorem takeFault_descending (i : StationId) (code : FaultCode) {s : State} (hp : s.agreement.phase = .descending) :
    takeFault i code s = s.onRecord (listFault code i) := by
  rw [takeFault, if_neg (by simp [State.opensForced, State.opensSilent, hp, Phase.defers]), if_pos (by simp [State.descending, hp])]

/-- Settles O36, by the two rules above. -/
theorem descentRecordsMissingAndFaults : Obligations.DescentRecordsMissingAndFaults := by
  refine ⟨fun k r s hp hr hf hb hs hc hk hl => ?_, fun i num code tgt r s ht hp hr => ?_⟩
  · have hkind : s.kind = r.kind := by simp [State.kind, hr]
    have hw := waitsForStage_eq (by simp [State.forwardWork, hp]) hs hc (by rwa [hkind])
    obtain ⟨ha, hfa, h⟩ := expireStage_descending k hp hr hf
    refine ⟨expireStage k s, ?_, ?_, h.cursor, fun q => ?_, h.barrier, hfa⟩
    · simp [exec, execBarrierTimerExpiry, hb, hw]
    · rw [ha]
      simp [State.shortOf, show ¬ k ≤ 1 by omega, hkind, State.participants, State.forwardAt, hr]
    · rcases h.sub with q' | q' <;> simp [q] at q'
  · obtain ⟨s', he, hd⟩ := handOff_takes (f := ⟨i, num, .fault code tgt⟩) (engine := fun _ => takeFault i code) ht
    obtain ⟨ha, hx, hch, hfa, -⟩ := hd.keeps
    rw [takeFault_descending i code (by rw [ha]; exact hp)] at he
    refine ⟨_, congrArg Host.Outcome.next he, ?_, ?_, by simp [hx], by simp [hch], by simp [hfa]⟩
    · rw [onRecord_record, ha, hr]
      simp [listFault, satInc]
    · rw [onRecord_agreement _ (by rw [ha]; exact hr), ha]

end Sys2Proof.Machine
end


section
/-! SUPPORT. What the settle signal does to the wake queue: `settleSignal_evaluated` (R121). -/

namespace Sys2Proof.Machine

open Sys2Proof

/-! ### The announcing mark -/

/-- The announcing mark names a PENDING entry of the queue, where it names one. -/
def WakeUnit.MarkFits (w : WakeUnit) : Prop := ∀ i, w.mark = some i → ∃ e ∈ w.queue, e.input = i ∧ e.state = .pending

theorem WakeUnit.MarkFits.of_none {w : WakeUnit} (h : w.mark = none) : w.MarkFits := fun i hi => by simp [h] at hi

/-- What a report to the owners of a purged frame does to the mark: it stands, or it is cleared (R124). -/
theorem reportPurged_mark (r : Ready) (s : State) :
    (reportPurged r s).wake.mark = s.wake.mark ∨ (reportPurged r s).wake.mark = none := by
  unfold reportPurged latchWaits
  (repeat' split) <;> simp [clearMark]

theorem reportQueued_mark (q : Option Queued) (s : State) :
    (reportQueued q s).wake.mark = s.wake.mark ∨ (reportQueued q s).wake.mark = none := by
  unfold reportQueued
  split
  · exact reportPurged_mark _ s
  · exact .inl rfl

theorem fillFrame_mark (n : TxnNumber) (body : Body) (s : State) :
    (fillFrame n body s).wake.mark = s.wake.mark ∨ (fillFrame n body s).wake.mark = none := by
  unfold fillFrame fillSlot
  split
  · exact reportQueued_mark _ s
  · exact reportQueued_mark _ s

theorem testPropose_markStands (s : State) :
    (testPropose s).wake.mark = s.wake.mark ∨ (testPropose s).wake.mark = none := by
  unfold testPropose
  split
  · split
    · exact fillFrame_mark _ _ s
    · exact .inl rfl
  · exact .inl rfl

theorem WakeUnit.MarkFits.of_stands {w w' : WakeUnit} (h : w.MarkFits) (hq : w'.queue = w.queue)
    (hm : w'.mark = w.mark ∨ w'.mark = none) : w'.MarkFits := by
  intro i hi
  rcases hm with q | q
  · rw [hq]
    exact h i (q ▸ hi)
  · simp [q] at hi

/-- The announcement test names the oldest PENDING entry (R122). -/
theorem testAnnounce_markFits {s : State} (h : s.wake.MarkFits) : (testAnnounce s).wake.MarkFits := by
  unfold testAnnounce
  split
  · split
    · rename_i e he
      obtain ⟨older, newer, hq, hp, -⟩ := (oldestPending_iff _ _).1 he
      intro i hi
      refine ⟨e, ?_, Option.some.inj hi, hp⟩
      simp [State.withWake, hq]
    · exact h
  · exact h

/-! ### The evaluation -/

/-- A fold that latches one condition for each member of a list latches each (R99). -/
theorem foldl_latched {α : Type} {f : State → α → State} {code : FaultCode} {target : α → Target} {sev : Severity}
    (hf : ∀ s a, Latched s (f s a) code (target a) sev) {l : List α} {a : α} (ha : a ∈ l) (s : State) :
    LatchedAmong s (l.foldl f s) code (target a) sev := by
  have hg : ∀ (l : List α) s, FaultsGrow s (l.foldl f s) := fun l s =>
    foldl_rel .refl (fun h k => h.trans k) (fun s a => (hf s a).grow) l s
  obtain ⟨l₁, l₂, rfl⟩ := List.append_of_mem ha
  rw [List.foldl_append, List.foldl_cons]
  exact (hf _ a).among (hg l₁ s) (hg l₂ _)

theorem settleEvaluation_run (s : State) : (settleEvaluation .run s).wake.queue = [] := rfl

/-- The queue that the evaluation leaves outside RUN (R121). -/
theorem settleEvaluation_queue {st : SystemState} (h : st ≠ .run) (s : State) :
    (settleEvaluation st s).wake.queue = s.wake.queue.filterMap fun e => evaluatedEntry (s.allowedAt st e) e := by
  unfold settleEvaluation
  rw [if_neg (by simpa using h)]
  exact foldl_keep (fun s => s.wake.queue) (fun s a => by simp) _ _

/-- What stays of an entry (R121). -/
theorem evaluatedEntry_iff (allowed : Bool) (e₀ e : WakeEntry) : evaluatedEntry allowed e₀ = some e ↔
    allowed = true ∧ ((e₀.state = .pending ∧ e = e₀) ∨
      (e₀.state = .announced ∧ e₀.attempts < 2 ∧ e = { e₀ with attempts := e₀.attempts + 1, state := .pending })) := by
  unfold evaluatedEntry
  cases allowed
  · simp
  · cases hs : e₀.state
    · simp [eq_comm]
    · by_cases hl : e₀.attempts < 2
      · have : e₀.attempts + 1 < 3 := by omega
        simp [hl, this, eq_comm]
      · have : ¬ e₀.attempts + 1 < 3 := by omega
        simp [hl, this]

/-- The third failed announcement of an allowed entry is latched (R121). -/
theorem settleEvaluation_failed {st : SystemState} (h : st ≠ .run) {s : State} {e : WakeEntry} (he : e ∈ s.wake.queue)
    (ha : (s.wakeDef e.input).allowedIn st = true) (hs : e.state = .announced) (hn : 2 ≤ e.attempts) :
    LatchedAmong s (settleEvaluation st s) .wakeFailed (eightTarget e.input) .notice := by
  unfold settleEvaluation
  rw [if_neg (by simpa using h)]
  refine LatchedAmong.of_grow (.of_eq rfl rfl) (foldl_latched (target := fun e : WakeEntry => eightTarget e.input)
    (fun s a => raiseFault_latched ..) (List.mem_filter.2 ⟨he, ?_⟩) _)
  have : 3 ≤ e.attempts + 1 := by omega
  simp [failedEntry, State.allowedAt, ha, hs, this]

/-- The evaluation but for the mark, from the queue that stands and the faults that grew since. -/
theorem evaluated_of_evaluation {st : SystemState} {s t : State} (hq : t.wake.queue = (settleEvaluation st s).wake.queue)
    (hf : FaultsGrow (settleEvaluation st s) t) (hm : t.wake.MarkFits) : Evaluated s t st := by
  refine ⟨fun h => by rw [hq, h, settleEvaluation_run], fun h => ⟨?_, fun e => ?_, fun e he ha hs hn => ?_⟩, hm⟩
  · rw [hq, settleEvaluation_queue h]
    exact evaluated_sublist _ fun e _ e' q => by
      rcases ((evaluatedEntry_iff ..).1 q).2 with ⟨-, rfl⟩ | ⟨-, -, rfl⟩ <;> rfl
  · rw [hq, settleEvaluation_queue h]
    simp only [List.mem_filterMap, evaluatedEntry_iff, State.allowedAt]
  · exact (settleEvaluation_failed h he ha hs hn).imp hf.holds fun ⟨a, b⟩ =>
      ⟨a.trans hf.length, by have := hf.unrecorded; omega⟩

/-- The settle signal evaluates the wake queue (R17, R121). -/
theorem settleSignal_evaluated (closed : Option (Kind × TxnOutcome)) {s : State} {st : SystemState}
    (hp : s.agreement.phase = .settled) (hb : s.agreement.believed = some st) :
    Evaluated s (settleSignal closed s) st := by
  have hE : s.agreement.believed.getD .off = st := by rw [hb]; rfl
  have hm₀ := (settleEvaluation_owners st s).1
  have hA := settleWake_eq closed s
  rw [hE] at hA
  have hk := settleTimers_keeps closed (settleEvaluation st s)
  obtain ⟨-, -, -, -, -, -, -, kq, km, -, -, kf, -⟩ := hk
  have mA : (settleWake closed s).wake.MarkFits := by
    rw [hA]
    exact testAnnounce_markFits (.of_none (km.trans hm₀))
  have qA : (settleWake closed s).wake.queue = (settleEvaluation st s).wake.queue := by rw [hA]; simp [kq]
  have fA : (settleWake closed s).faults = (settleEvaluation st s).faults := by rw [hA]; simp [kf]
  have pA : (settleWake closed s).agreement.phase = .settled := by simpa using hp
  unfold settleSignal
  generalize settleWake closed s = a at *
  have mB : (settleRequest closed a).wake.MarkFits := by
    refine mA.of_stands (by simp) ?_
    unfold settleRequest
    split
    · simpa using testPropose_markStands (settleDeferHold closed (settleAwake closed a))
    · simp
  have kB : (settleRequest closed a).wake.queue = a.wake.queue ∧ (settleRequest closed a).faults = a.faults ∧
      (settleRequest closed a).agreement = a.agreement := by simp
  generalize settleRequest closed a = b at *
  obtain ⟨qB, fB, agB⟩ := kB
  have kC : (recomputeBeat b).wake = b.wake ∧ (recomputeBeat b).faults = b.faults ∧
      (recomputeBeat b).agreement = b.agreement := by simp
  generalize recomputeBeat b = c at *
  obtain ⟨wC, fC, agC⟩ := kC
  obtain ⟨⟨wD, -, -, gD⟩, -⟩ := settlePeers_settled (s := c) (by rw [agC, agB]; exact pA)
  generalize settlePeers c = d at *
  have kE : (settleChannel closed.isNone d).wake = d.wake ∧ (settleChannel closed.isNone d).faults = d.faults := by simp
  generalize settleChannel closed.isNone d = t at *
  obtain ⟨wE, fE⟩ := kE
  have hw : t.wake = b.wake := by rw [wE, wD, wC]
  refine evaluated_of_evaluation (by rw [hw, qB, qA]) ?_ (by rw [hw]; exact mB)
  have hf : (settleEvaluation st s).faults = c.faults := by rw [fC, fB, fA]
  exact (FaultsGrow.of_eq (by rw [hf]) (by rw [hf])).trans (gD.trans (.of_eq (by rw [fE]) (by rw [fE])))

/-- What is evaluated depends on the queue, the tables and the faults latched before. -/
theorem Evaluated.of_before {s s' t : State} {st : SystemState} (h : Evaluated s' t st)
    (hq : s'.wake.queue = s.wake.queue) (hl : s'.loader = s.loader) (hf : FaultsGrow s s') : Evaluated s t st := by
  have hd : ∀ i, s'.wakeDef i = s.wakeDef i := fun i => by simp [State.wakeDef, State.station, hl]
  obtain ⟨h1, h2, h3⟩ := h
  simp only [hq, hd] at h2
  refine ⟨h1, fun hn => ?_, h3⟩
  obtain ⟨a, b, c⟩ := h2 hn
  exact ⟨a, b, fun e he x y z => (c e he x y z).of_grow hf⟩

end Sys2Proof.Machine
end


section
/-! SUPPORT. What the settle correction and the end of census do to the channel block: `settleSignal_corrected`,
`settleSignal_monitoring` (R43, R71). -/

namespace Sys2Proof.Machine

open Sys2Proof

/-! ### One rail action -/

/-- From one state to another no more was written than this rail. -/
def OnRail (ch : Fin 6) (s t : State) : Prop := t = s.withRail ch (t.rail ch)

theorem withRail_self (s : State) (ch : Fin 6) : s.withRail ch (s.rail ch) = s := by
  simp [State.withRail, State.rail, tabSet, tabGet]

theorem OnRail.refl (ch : Fin 6) (s : State) : OnRail ch s s := (withRail_self s ch).symm

theorem OnRail.withRail (s : State) (ch : Fin 6) (r : Rail) : OnRail ch s (s.withRail ch r) := by simp [OnRail]

theorem OnRail.trans {ch : Fin 6} {s t u : State} (h : OnRail ch s t) (k : OnRail ch t u) : OnRail ch s u := by
  rw [OnRail, k, h]
  simp

theorem OnRail.rail_ne {ch j : Fin 6} {s t : State} (h : OnRail ch s t) (hj : j ≠ ch) : t.rail j = s.rail j := by
  rw [h, rail_withRail_ne _ hj]

theorem enterOn_onRail (ch : Fin 6) (s : State) : OnRail ch s (enterOn ch s) := by
  unfold enterOn startMonitoring
  dsimp only
  split
  · exact (OnRail.withRail s ch _).trans (.withRail _ ch _)
  · exact .withRail s ch _

theorem enterHoldingUp_onRail (ch : Fin 6) (s : State) : OnRail ch s (enterHoldingUp ch s).1 := by
  unfold enterHoldingUp
  split
  · exact enterOn_onRail ch s
  · exact .withRail s ch _

theorem enterHoldingDown_onRail (ch : Fin 6) (s : State) : OnRail ch s (enterHoldingDown ch s).1 := by
  unfold enterHoldingDown
  split
  · exact .withRail s ch _
  · exact .withRail s ch _

theorem startRaise_onRail (ch : Fin 6) (iss : Issuer) (s : State) : OnRail ch s (startRaise ch iss s).1 := by
  unfold startRaise
  split
  · exact .refl ch s
  · refine OnRail.trans (.withRail s ch _ : OnRail ch s (takeAction ch iss s)) ?_
    dsimp only
    split
    · exact enterHoldingUp_onRail ch _
    · exact .withRail _ ch _

theorem startDrop_onRail (ch : Fin 6) (iss : Issuer) (s : State) : OnRail ch s (startDrop ch iss s).1 := by
  unfold startDrop
  split
  · refine OnRail.trans ((OnRail.withRail s ch (stoppedMonitoring (s.rail ch))).trans (.withRail _ ch _)) (?_ : OnRail ch
      (takeAction ch iss (s.withRail ch (stoppedMonitoring (s.rail ch)))) _)
    dsimp only
    split
    · exact enterHoldingDown_onRail ch _
    · exact .withRail _ ch _
  · exact .refl ch s

theorem startStanding_onRail (ch : Fin 6) (q : RailRequest) (s : State) : OnRail ch s (startStanding ch q s).1 := by
  unfold startStanding
  split
  · exact startRaise_onRail ch _ s
  · exact startDrop_onRail ch _ s

theorem issueRail_onRail (ch : Fin 6) (q : RailRequest) (s : State) : OnRail ch s (issueRail ch q s).1 := by
  unfold issueRail
  split
  · exact .refl ch s
  · split
    · exact startStanding_onRail ch q s
    · exact .withRail s ch _

/-- What a rail action reads is the same in both states: its rail, its settings, its pin and the phase. -/
structure SameAt (ch : Fin 6) (s s' : State) : Prop where
  rail : s'.rail ch = s.rail ch
  loader : s'.loader = s.loader
  pins : s'.pins = s.pins
  phase : s'.agreement.phase = s.agreement.phase

theorem SameAt.params {ch : Fin 6} {s s' : State} (h : SameAt ch s s') : s'.railParams ch = s.railParams ch := by
  simp [State.railParams, State.station, h.loader]

theorem SameAt.powerGood {ch : Fin 6} {s s' : State} (h : SameAt ch s s') : s'.powerGood ch = s.powerGood ch := by
  simp [State.powerGood, h.pins]

theorem SameAt.withRail {ch : Fin 6} {s s' : State} (h : SameAt ch s s') (r : Rail) :
    SameAt ch (s.withRail ch r) (s'.withRail ch r) :=
  ⟨by simp, h.loader, h.pins, h.phase⟩

theorem SameAt.takeAction {ch : Fin 6} {s s' : State} (h : SameAt ch s s') (iss : Issuer) :
    SameAt ch (takeAction ch iss s) (takeAction ch iss s') := by
  unfold Machine.takeAction
  rw [h.rail]
  exact h.withRail _

theorem SameAt.enterTimed {ch : Fin 6} {s s' : State} (h : SameAt ch s s') (x : RailState) (n : Nat) :
    SameAt ch (enterTimed ch x n s) (enterTimed ch x n s') := by
  unfold Machine.enterTimed
  rw [h.rail]
  exact h.withRail _

theorem SameAt.enterLow {ch : Fin 6} {s s' : State} (h : SameAt ch s s') (x : RailState) :
    SameAt ch (enterLow ch x s) (enterLow ch x s') := by
  unfold Machine.enterLow
  rw [h.rail]
  exact h.withRail _

theorem SameAt.startMonitoring {ch : Fin 6} {s s' : State} (h : SameAt ch s s') :
    SameAt ch (startMonitoring ch s) (startMonitoring ch s') := by
  unfold Machine.startMonitoring
  rw [h.rail, h.params, h.powerGood]
  exact h.withRail _

theorem SameAt.enterOn {ch : Fin 6} {s s' : State} (h : SameAt ch s s') : SameAt ch (enterOn ch s) (enterOn ch s') := by
  unfold Machine.enterOn
  rw [h.rail]
  have hw := h.withRail { s.rail ch with state := .on, counter := none, issuer := none }
  dsimp only
  rw [hw.phase]
  split
  · exact hw.startMonitoring
  · exact hw

theorem SameAt.enterHoldingUp {ch : Fin 6} {s s' : State} (h : SameAt ch s s') :
    SameAt ch (enterHoldingUp ch s).1 (enterHoldingUp ch s').1 := by
  unfold Machine.enterHoldingUp
  rw [h.params]
  split
  · exact h.enterOn
  · exact h.enterTimed _ _

theorem SameAt.enterHoldingDown {ch : Fin 6} {s s' : State} (h : SameAt ch s s') :
    SameAt ch (enterHoldingDown ch s).1 (enterHoldingDown ch s').1 := by
  unfold Machine.enterHoldingDown
  rw [h.params]
  split
  · exact h.enterLow _
  · exact h.enterTimed _ _

theorem SameAt.startRaise {ch : Fin 6} {s s' : State} (h : SameAt ch s s') (iss : Issuer) :
    SameAt ch (startRaise ch iss s).1 (startRaise ch iss s').1 := by
  unfold Machine.startRaise
  rw [h.rail]
  split
  · exact h
  · dsimp only
    rw [(h.takeAction iss).powerGood, (h.takeAction iss).params]
    split
    · exact (h.takeAction iss).enterHoldingUp
    · exact (h.takeAction iss).enterTimed _ _

theorem SameAt.startDrop {ch : Fin 6} {s s' : State} (h : SameAt ch s s') (iss : Issuer) :
    SameAt ch (startDrop ch iss s).1 (startDrop ch iss s').1 := by
  unfold Machine.startDrop
  rw [h.rail]
  split
  · have hw := (h.withRail (stoppedMonitoring (s.rail ch))).takeAction iss
    dsimp only
    rw [hw.powerGood, hw.params]
    split
    · exact hw.enterHoldingDown
    · exact hw.enterTimed _ _
  · exact h

/-- What a rail action makes of its rail is read off that rail, its settings, its pin and the phase. -/
theorem SameAt.issueRail {ch : Fin 6} {s s' : State} (h : SameAt ch s s') (q : RailRequest) :
    SameAt ch (issueRail ch q s).1 (issueRail ch q s').1 := by
  unfold Machine.issueRail startStanding
  rw [h.params, h.rail]
  split
  · exact h
  · split
    · split
      · exact h.startRaise _
      · exact h.startDrop _
    · exact h.withRail _

/-- Behind an action in progress a rail action is held (R44). -/
theorem issueRail_held {ch : Fin 6} {s : State} (q : RailRequest) (he : (s.railParams ch).enabled = true)
    (hs : (s.rail ch).state.standing = false) :
    (issueRail ch q s).1.rail ch = { s.rail ch with held := (s.rail ch).held ++ [q] } := by
  simp [issueRail, he, hs]

/-- A RAISE that takes the rail leaves its enable high (R64). -/
theorem startRaise_enable {ch : Fin 6} (iss : Issuer) {s : State} (h : (s.rail ch).state ≠ .on) :
    (startRaise ch iss s).1.enable ch = .high := by
  unfold startRaise
  rw [if_neg (by simpa using h)]
  unfold enterHoldingUp enterOn enterTimed startMonitoring startedMonitoring State.enable
  dsimp only
  (repeat' split) <;> simp only [rail_withRail_same, RailState.enable]

/-- A DROP on a rail in ON leaves its enable low (R67). -/
theorem startDrop_enable {ch : Fin 6} (iss : Issuer) {s : State} (h : (s.rail ch).state = .on) :
    (startDrop ch iss s).1.enable ch = .low := by
  unfold startDrop
  rw [if_pos (by simpa using h)]
  unfold enterHoldingDown enterLow enterTimed State.enable
  dsimp only
  (repeat' split) <;> simp only [rail_withRail_same, RailState.enable]

/-- On a standing rail at the other level a rail action sets the enable (R64, R67). -/
theorem issueRail_enable {ch : Fin 6} {s : State} (q : RailRequest) (he : (s.railParams ch).enabled = true)
    (hs : (s.rail ch).state.standing = true) (hl : s.enable ch = if q.up then .low else .high) :
    (issueRail ch q s).1.enable ch = if q.up then .high else .low := by
  simp only [issueRail, he, hs, Bool.not_true, Bool.false_eq_true, if_false, if_true, startStanding]
  unfold State.enable at hl
  cases hu : q.up
  · refine startDrop_enable _ ?_
    cases h1 : (s.rail ch).state <;> simp_all [RailState.standing, RailState.enable]
  · refine startRaise_enable _ fun h1 => ?_
    simp [h1, hu, RailState.enable] at hl

/-! ### The correction of the rails -/

/-- A correction of one rail writes that rail and the count. -/
theorem correctRail_eq (row : ProfileRow) (s : State) (ch : Fin 6) : correctRail row s ch = { s with channel := { s.channel with
    rails := (correctRail row s ch).channel.rails
    corrections := if s.railDiffers row ch then satInc 255 s.channel.corrections else s.channel.corrections } } := by
  unfold correctRail
  split
  · rename_i h
    rw [show (issueRail ch ⟨.correction, tabGet row.rails ch == .high⟩ s).1 = _ from issueRail_onRail ch _ s]
    simp [countCorrection, State.withRail]
  · simp

theorem correctRail_rail_ne (row : ProfileRow) (s : State) {ch j : Fin 6} (h : j ≠ ch) :
    (correctRail row s ch).rail j = s.rail j := by
  unfold correctRail
  split
  · exact (issueRail_onRail ch _ s).rail_ne h
  · rfl

theorem correctRail_congr (row : ProfileRow) {s s' : State} {ch : Fin 6} (hr : s'.rail ch = s.rail ch)
    (hl : s'.loader = s.loader) (hp : s'.pins = s.pins) (ha : s'.agreement.phase = s.agreement.phase) :
    (correctRail row s' ch).rail ch = (correctRail row s ch).rail ch := by
  have hd : s'.railDiffers row ch = s.railDiffers row ch := by
    simp [State.railDiffers, State.enable, State.railParams, State.station, hr, hl]
  unfold correctRail
  rw [hd]
  split
  · exact (SameAt.issueRail ⟨hr, hl, hp, ha⟩ _).rail
  · exact hr

/-- The rails of a list corrected: each as if alone, and the count raised once for each that differs (R43). -/
theorem foldl_correctRail (row : ProfileRow) {l : List (Fin 6)} (hn : l.Nodup) (s : State) :
    let t := l.foldl (correctRail row) s
    t = { s with channel := { s.channel with rails := t.channel.rails, corrections := t.channel.corrections } } ∧
    (∀ ch ∈ l, t.rail ch = (correctRail row s ch).rail ch) ∧ (∀ ch, ch ∉ l → t.rail ch = s.rail ch) ∧
    t.channel.corrections = (satInc 255)^[(l.filter fun ch => s.railDiffers row ch).length] s.channel.corrections := by
  induction l generalizing s with
  | nil => exact ⟨rfl, fun _ h => by simp at h, fun _ _ => rfl, rfl⟩
  | cons d l ih =>
    obtain ⟨hd, hn⟩ := List.nodup_cons.1 hn
    obtain ⟨h1, h2, h3, h4⟩ := ih hn (correctRail row s d)
    have hc := correctRail_eq row s d
    have hne : ∀ {ch}, ch ∈ l → ch ≠ d := fun h q => hd (q ▸ h)
    have hsame : ∀ ch ∈ l, (correctRail row s d).railDiffers row ch = s.railDiffers row ch := fun ch h => by
      simp [State.railDiffers, State.enable, State.railParams, State.station, correctRail_rail_ne row s (hne h)]
    rw [List.foldl_cons]
    refine ⟨by rw [h1, hc], fun ch h => ?_, fun ch h => ?_, ?_⟩
    · rcases List.mem_cons.1 h with rfl | h
      · exact h3 _ hd
      · exact (h2 ch h).trans (correctRail_congr row (correctRail_rail_ne row s (hne h)) (by simp) (by simp) (by simp))
    · rw [List.mem_cons, not_or] at h
      exact (h3 ch h.2).trans (correctRail_rail_ne row s h.1)
    · rw [h4, List.filter_congr hsame, hc, List.filter_cons]
      cases s.railDiffers row d <;> simp [Function.iterate_succ_apply]

/-! ### The correction of the signals -/

theorem correctSignal_eq (row : ProfileRow) (s : State) (i : Fin 4) : correctSignal row s i = { s with channel := { s.channel with
    signals := (correctSignal row s i).channel.signals
    corrections := if s.signalDiffers row i then satInc 255 s.channel.corrections else s.channel.corrections } } := by
  unfold correctSignal
  split
  · simp [countCorrection, setSignal, State.withSignal]
  · simp

theorem correctSignal_same (row : ProfileRow) (s : State) (i : Fin 4) : (correctSignal row s i).signalAt i =
    if s.signalDiffers row i then { state := signalAt (tabGet row.signals i), pulse := none } else s.signalAt i := by
  unfold correctSignal
  split
  · exact signalAt_withSignal_same s i _
  · rfl

theorem correctSignal_ne (row : ProfileRow) (s : State) {i j : Fin 4} (h : j ≠ i) :
    (correctSignal row s i).signalAt j = s.signalAt j := by
  unfold correctSignal
  split
  · exact signalAt_withSignal_ne s h _
  · rfl

/-- The signals of a list corrected (R43, R74). -/
theorem foldl_correctSignal (row : ProfileRow) {l : List (Fin 4)} (hn : l.Nodup) (s : State) :
    let t := l.foldl (correctSignal row) s
    t = { s with channel := { s.channel with signals := t.channel.signals, corrections := t.channel.corrections } } ∧
    (∀ i ∈ l, t.signalAt i =
      if s.signalDiffers row i then { state := signalAt (tabGet row.signals i), pulse := none } else s.signalAt i) ∧
    (∀ i, i ∉ l → t.signalAt i = s.signalAt i) ∧
    t.channel.corrections = (satInc 255)^[(l.filter fun i => s.signalDiffers row i).length] s.channel.corrections := by
  induction l generalizing s with
  | nil => exact ⟨rfl, fun _ h => by simp at h, fun _ _ => rfl, rfl⟩
  | cons d l ih =>
    obtain ⟨hd, hn⟩ := List.nodup_cons.1 hn
    obtain ⟨h1, h2, h3, h4⟩ := ih hn (correctSignal row s d)
    have hc := correctSignal_eq row s d
    have hne : ∀ {i}, i ∈ l → i ≠ d := fun h q => hd (q ▸ h)
    have hsig : ∀ i ∈ l, (correctSignal row s d).signalAt i = s.signalAt i := fun i h => correctSignal_ne row s (hne h)
    have hsame : ∀ i ∈ l, (correctSignal row s d).signalDiffers row i = s.signalDiffers row i := fun i h => by
      have := hsig i h
      unfold State.signalAt at this
      simp [State.signalDiffers, State.signal, this]
    rw [List.foldl_cons]
    refine ⟨by rw [h1, hc], fun i h => ?_, fun i h => ?_, ?_⟩
    · rcases List.mem_cons.1 h with rfl | h
      · exact (h3 _ hd).trans (correctSignal_same row s _)
      · rw [h2 i h, hsig i h, hsame i h]
    · rw [List.mem_cons, not_or] at h
      exact (h3 i h.2).trans (correctSignal_ne row s h.1)
    · rw [h4, List.filter_congr hsame, hc, List.filter_cons]
      cases s.signalDiffers row d <;> simp [Function.iterate_succ_apply]

end Sys2Proof.Machine
end


section
/-! SUPPORT. The settle correction as a whole, and the channel block at the settle signal (R17, R43, R71). -/

namespace Sys2Proof.Machine

open Sys2Proof

/-! ### The count -/

/-- So many outputs counted, at most to 255 (R43). -/
theorem iterate_satInc (n c : Nat) : (satInc 255)^[n] c = if n = 0 then c else min (c + n) 255 := by
  induction n generalizing c with
  | zero => rfl
  | succ n ih =>
    rw [Function.iterate_succ_apply, ih]
    unfold satInc
    split <;> simp <;> omega

/-- There are as many steps for a row as outputs that differ from it. -/
theorem alignmentSteps_length (s : State) (row : ProfileRow) : (s.alignmentSteps row).length =
    (allRails.filter fun ch => s.railDiffers row ch).length + (allSignals.filter fun i => s.signalDiffers row i).length := by
  have hsplit : ∀ l : List (Fin 6),
      (l.filter fun ch => s.railDiffers row ch && tabGet row.rails ch == .low).length +
        (l.filter fun ch => s.railDiffers row ch && tabGet row.rails ch == .high).length =
      (l.filter fun ch => s.railDiffers row ch).length := by
    intro l
    induction l with
    | nil => rfl
    | cons a l ih =>
      rw [List.filter_cons, List.filter_cons, List.filter_cons]
      cases s.railDiffers row a <;> cases tabGet row.rails a <;> simp <;> omega
  simp only [State.alignmentSteps, List.length_append, List.length_map, List.filter_reverse, List.length_reverse, hsplit]

theorem outputsDiffer_iff (s : State) (row : ProfileRow) : s.outputsDiffer row = true ↔ (s.alignmentSteps row).length ≠ 0 := by
  simp [State.outputsDiffer]

/-- No output differs: no rail and no signal does. -/
theorem outputsDiffer_false {s : State} {row : ProfileRow} (h : s.outputsDiffer row = false) :
    (∀ ch, s.railDiffers row ch = false) ∧ ∀ i, s.signalDiffers row i = false := by
  have hz : (s.alignmentSteps row).length = 0 := by simpa [State.outputsDiffer] using h
  rw [alignmentSteps_length, Nat.add_eq_zero_iff, List.length_eq_zero_iff, List.length_eq_zero_iff, List.filter_eq_nil_iff,
    List.filter_eq_nil_iff] at hz
  exact ⟨fun ch => by simpa using hz.1 ch (List.mem_finRange ch), fun i => by simpa using hz.2 i (List.mem_finRange i)⟩

/-! ### The settle correction -/

/-- A rail that differs is at the other level than its cell. -/
theorem enable_of_differs {s : State} {row : ProfileRow} {ch : Fin 6} (h : s.railDiffers row ch = true) :
    (s.railParams ch).enabled = true ∧
      s.enable ch = if (tabGet row.rails ch == .high) = true then .low else .high := by
  simp only [State.railDiffers, Bool.and_eq_true] at h
  obtain ⟨he, hd⟩ := h
  refine ⟨he, ?_⟩
  cases h1 : s.enable ch <;> cases h2 : tabGet row.rails ch <;> simp_all

/-- The settle correction, output by output: each is corrected as if alone, and the count raised for each that differs. -/
theorem settleCorrection_outputs (row : ProfileRow) (s : State) :
    (∀ ch, (settleCorrection row s).rail ch = (correctRail row s ch).rail ch) ∧
    (∀ i, (settleCorrection row s).signalAt i =
      if s.signalDiffers row i then { state := signalAt (tabGet row.signals i), pulse := none } else s.signalAt i) ∧
    (settleCorrection row s).channel.corrections = (satInc 255)^[(s.alignmentSteps row).length] s.channel.corrections := by
  rw [alignmentSteps_length]
  have hr : allRails.Nodup := List.nodup_finRange 6
  have hi : allSignals.Nodup := List.nodup_finRange 4
  have mr : ∀ ch, ch ∈ allRails := List.mem_finRange
  have mi : ∀ i, i ∈ allSignals := List.mem_finRange
  unfold settleCorrection
  generalize allRails = l at *
  generalize allSignals = m at *
  obtain ⟨a1, a2, -, a4⟩ := foldl_correctRail row hr s
  generalize l.foldl (correctRail row) s = u at *
  have hs : ∀ i, u.signalDiffers row i = s.signalDiffers row i := fun i => by rw [a1]; rfl
  have hsig : ∀ i, u.signalAt i = s.signalAt i := fun i => by rw [a1]; rfl
  obtain ⟨b1, b2, -, b4⟩ := foldl_correctSignal row hi u
  refine ⟨fun ch => ?_, fun i => ?_, ?_⟩
  · rw [← a2 ch (mr ch), b1]
    rfl
  · rw [b2 i (mi i), hs, hsig]
  · rw [b4, a4, Nat.add_comm, Function.iterate_add_apply, List.filter_congr fun i _ => hs i]

/-- The settle correction brings the outputs toward the row (R43). -/
theorem settleCorrection_corrected (row : ProfileRow) (s : State) : Corrected s (settleCorrection row s) row := by
  obtain ⟨hrail, hat, hc⟩ := settleCorrection_outputs row s
  refine ⟨⟨fun i => ?_, fun ch he hst => ?_, fun ch hd hst => ?_, fun i hd => ?_, ?_⟩, fun ch hd => ?_⟩
  · have : (settleCorrection row s).signal i = ((settleCorrection row s).signalAt i).state.level := rfl
    rw [this, hat]
    split
    · cases tabGet row.signals i <;> rfl
    · rename_i h
      have : s.signal i = tabGet row.signals i := by simpa [State.signalDiffers] using h
      exact this
  · unfold State.enable
    rw [hrail, correctRail]
    split
    · rename_i hd
      have := issueRail_enable ⟨.correction, tabGet row.rails ch == .high⟩ he hst (enable_of_differs hd).2
      refine this.trans ?_
      cases tabGet row.rails ch <;> rfl
    · rename_i hd
      have : s.enable ch = tabGet row.rails ch := by simpa [State.railDiffers, he] using hd
      exact this
  · rw [hrail, correctRail, if_pos hd]
    exact issueRail_held _ (enable_of_differs hd).1 hst
  · rw [hat, hd]
    rfl
  · rw [hc, iterate_satInc]
    by_cases hz : s.outputsDiffer row = true
    · rw [if_pos hz, if_neg ((outputsDiffer_iff ..).1 hz)]
    · rw [if_neg hz, if_pos (by simpa using mt (outputsDiffer_iff ..).2 hz)]
  · rw [hrail, correctRail, hd]
    rfl

/-! ### At the settle signal -/

theorem OutputsCorrected.of_before {s s' t : State} {row : ProfileRow} (h : OutputsCorrected s' t row)
    (hc : s'.channel = s.channel) (hl : s'.loader = s.loader) : OutputsCorrected s t row := by
  have h1 : ∀ ch, s'.railParams ch = s.railParams ch := fun ch => by simp [State.railParams, State.station, hl]
  have h2 : ∀ ch, s'.rail ch = s.rail ch := fun ch => by simp [State.rail, hc]
  have h3 : ∀ i, s'.signalAt i = s.signalAt i := fun i => by simp [State.signalAt, hc]
  have h4 : ∀ ch, s'.railDiffers row ch = s.railDiffers row ch := fun ch => by simp [State.railDiffers, State.enable, h1, h2]
  have h5 : ∀ i, s'.signalDiffers row i = s.signalDiffers row i := fun i => by
    simp [State.signalDiffers, State.signal, hc]
  have h6 : s'.alignmentSteps row = s.alignmentSteps row := by simp [State.alignmentSteps, h4, h5]
  have h7 : s'.outputsDiffer row = s.outputsDiffer row := by unfold State.outputsDiffer; rw [h6]
  simpa only [OutputsCorrected, h1, h2, h3, h4, h5, h6, h7, hc] using h

theorem Corrected.of_before {s s' t : State} {row : ProfileRow} (h : Corrected s' t row)
    (hc : s'.channel = s.channel) (hl : s'.loader = s.loader) : Corrected s t row := by
  refine ⟨h.1.of_before hc hl, fun ch hd => ?_⟩
  have h1 : s'.railParams ch = s.railParams ch := by simp [State.railParams, State.station, hl]
  have h2 : s'.rail ch = s.rail ch := by simp [State.rail, hc]
  have := h.2 ch
  rw [h2] at this
  refine this ?_
  rw [← hd]
  simp [State.railDiffers, State.enable, h1, h2]

/-- What the correction leaves of the channel depends on the channel after it alone. -/
theorem Corrected.of_after {s t t' : State} {row : ProfileRow} (h : Corrected s t row) (hc : t'.channel = t.channel) :
    Corrected s t' row := by
  have h2 : ∀ ch, t'.rail ch = t.rail ch := fun ch => by simp [State.rail, hc]
  have h3 : ∀ i, t'.signalAt i = t.signalAt i := fun i => by simp [State.signalAt, hc]
  have h4 : ∀ i, t'.signal i = t.signal i := fun i => by simp [State.signal, hc]
  simpa only [Corrected, OutputsCorrected, State.enable, h2, h3, h4, hc] using h

theorem profileRow_congr {s t : State} (h : t.loader = s.loader) (st : SystemState) : t.profileRow st = s.profileRow st := by
  have h1 : t.plan = s.plan := by simp [State.plan, h]
  have h2 : t.station = s.station := by simp [State.station, h]
  simp [State.profileRow, h1, h2]

/-- The state of the settle signal in which the channel block acts. -/
def beforeChannel (closed : Option (Kind × TxnOutcome)) (s : State) : State :=
  settlePeers (recomputeBeat (settleRequest closed (settleWake closed s)))

theorem settleSignal_eq (closed : Option (Kind × TxnOutcome)) (s : State) :
    settleSignal closed s = settleChannel closed.isNone (beforeChannel closed s) := rfl

theorem beforeChannel_keeps (closed : Option (Kind × TxnOutcome)) (s : State) :
    (beforeChannel closed s).channel = s.channel ∧ (beforeChannel closed s).loader = s.loader ∧
    (beforeChannel closed s).pins = s.pins ∧ (beforeChannel closed s).agreement = s.agreement := by
  simp [beforeChannel]

/-- The settle signal after a close brings the outputs toward the row of the believed state (R17, R43). -/
theorem settleSignal_corrected (x : Kind × TxnOutcome) {s : State} {st : SystemState}
    (hb : s.agreement.believed = some st) : Corrected s (settleSignal (some x) s) (s.profileRow st) := by
  obtain ⟨hc, hl, -, ha⟩ := beforeChannel_keeps (some x) s
  have he : settleSignal (some x) s = settleCorrection (s.profileRow st) (beforeChannel (some x) s) := by
    rw [settleSignal_eq, settleChannel]
    simp only [Option.isNone_some, Bool.false_eq_true, if_false, ha, hb, profileRow_congr hl]
  rw [he]
  exact (settleCorrection_corrected ..).of_before hc hl

/-- With no belief the settle signal leaves the outputs. -/
theorem settleSignal_channel_of_unknown (x : Kind × TxnOutcome) {s : State} (hb : s.agreement.believed = none) :
    (settleSignal (some x) s).channel = s.channel := by
  obtain ⟨hc, -, -, ha⟩ := beforeChannel_keeps (some x) s
  rw [settleSignal_eq, settleChannel]
  simp only [Option.isNone_some, Bool.false_eq_true, if_false, ha, hb, hc]

/-- Monitoring begun leaves the state of a rail, its issuer and what is held behind it (R71). -/
theorem startAllMonitoring_state (s : State) (ch : Fin 6) :
    ((startAllMonitoring s).rail ch).state = (s.rail ch).state := by
  rw [startAllMonitoring_rail]
  split <;> simp [startedMonitoring]

/-- The settle signal at the end of census brings the outputs toward the row, and starts monitoring on every rail in ON that
the correction leaves alone (R43, R71). -/
theorem settleSignal_endsCensus {s : State} {st : SystemState} (hb : s.agreement.believed = some st) :
    OutputsCorrected s (settleSignal none s) (s.profileRow st) ∧
      MonitoringStarts s (settleSignal none s) (s.profileRow st) := by
  obtain ⟨hc, hl, hp, ha⟩ := beforeChannel_keeps none s
  have hm : ∀ ch, (startAllMonitoring (beforeChannel none s)).rail ch = if (s.rail ch).state = .on then
      startedMonitoring (s.railParams ch) (s.powerGood ch) (s.rail ch) else s.rail ch := fun ch => by
    have h1 : (beforeChannel none s).railParams ch = s.railParams ch := by simp [State.railParams, State.station, hl]
    have h2 : (beforeChannel none s).rail ch = s.rail ch := by simp [State.rail, hc]
    have h3 : (beforeChannel none s).powerGood ch = s.powerGood ch := by simp [State.powerGood, hp]
    rw [startAllMonitoring_rail, h1, h2, h3]
  have hk : (startAllMonitoring (beforeChannel none s)).channel.signals = s.channel.signals ∧
      (startAllMonitoring (beforeChannel none s)).channel.corrections = s.channel.corrections ∧
      (startAllMonitoring (beforeChannel none s)).loader = s.loader ∧
      (startAllMonitoring (beforeChannel none s)).agreement = s.agreement := by simp [hc, hl, ha]
  have he : settleSignal none s = settleCorrection (s.profileRow st) (startAllMonitoring (beforeChannel none s)) := by
    rw [settleSignal_eq, settleChannel]
    simp only [Option.isNone_none, if_true]
    rw [hk.2.2.2, hb]
    simp only [profileRow_congr hk.2.2.1]
  rw [he]
  generalize startAllMonitoring (beforeChannel none s) = u at *
  obtain ⟨ksig, kcor, kl, -⟩ := hk
  have h0 : ∀ ch, (u.rail ch).state = (s.rail ch).state := fun ch => by
    rw [hm]
    split <;> simp [startedMonitoring]
  have h1 : ∀ ch, u.railParams ch = s.railParams ch := fun ch => by simp [State.railParams, State.station, kl]
  have h3 : ∀ i, u.signalAt i = s.signalAt i := fun i => by simp [State.signalAt, ksig]
  have h4 : ∀ row ch, u.railDiffers row ch = s.railDiffers row ch := fun row ch => by
    simp [State.railDiffers, State.enable, h1, h0]
  have h5 : ∀ row i, u.signalDiffers row i = s.signalDiffers row i := fun row i => by
    simp [State.signalDiffers, State.signal, ksig]
  have h6 : ∀ row, u.alignmentSteps row = s.alignmentSteps row := fun row => by simp [State.alignmentSteps, h4, h5]
  have h7 : ∀ row, u.outputsDiffer row = s.outputsDiffer row := fun row => by unfold State.outputsDiffer; rw [h6]
  obtain ⟨⟨c1, c2, c3, c4, c5⟩, c6⟩ := settleCorrection_corrected (s.profileRow st) u
  refine ⟨⟨c1, fun ch he hs => c2 ch (by rwa [h1]) (by rwa [h0]), fun ch hd hs => ?_, fun i hd => ?_, ?_⟩, fun ch ho hd => ?_⟩
  · have hne : (s.rail ch).state ≠ .on := fun q => by simp [q, RailState.standing] at hs
    have := c3 ch (by rwa [h4]) (by rwa [h0])
    rwa [hm, if_neg hne] at this
  · rw [c4 i (by rwa [h5]), h3]
  · simpa only [h6, h7, kcor] using c5
  · rw [c6 ch (by rwa [h4]), hm, if_pos ho]
    simp [startedMonitoring]

end Sys2Proof.Machine
end


section
/-! SUPPORT. The latched request and its answers: what keeps the request in the latch, and how many answers an operation gives
(R17, R22, R23). -/

namespace Sys2Proof.Machine

open Sys2Proof

/-! ### The request in the latch -/

/-- The request in the latch, whether it waits or is queued. -/
def State.latched (s : State) : Option Request := s.request.latch.map Latch.request

theorem latched_of_request {s t : State} (h : t.request = s.request) : t.latched = s.latched := by
  unfold State.latched
  rw [h]

@[simp] theorem latchWaits_latched (s : State) : (latchWaits s).latched = s.latched := by
  unfold latchWaits
  split
  · rename_i l h
    simp [State.latched, h]
  · rfl

@[simp] theorem reportPurged_latched (r : Ready) (s : State) : (reportPurged r s).latched = s.latched := by
  unfold reportPurged
  split
  · rfl
  · split
    · rfl
    · exact latchWaits_latched s
  · rfl

@[simp] theorem reportQueued_latched (q : Option Queued) (s : State) : (reportQueued q s).latched = s.latched := by
  unfold reportQueued
  split
  · exact reportPurged_latched _ s
  · rfl

@[simp] theorem fillSlot_latched (k : FrameKind) (q : Queued) (s : State) : (fillSlot k q s).latched = s.latched := by
  unfold fillSlot
  split
  · exact reportQueued_latched (s.slot k).queued s
  · exact reportQueued_latched _ s

@[simp] theorem fillFrame_latched (n : TxnNumber) (body : Body) (s : State) : (fillFrame n body s).latched = s.latched :=
  fillSlot_latched ..

@[simp] theorem purgeKind_latched (k : FrameKind) (test : Frame → Bool) (s : State) :
    (purgeKind k test s).latched = s.latched := by
  simp only [purgeKind]
  split
  · exact reportQueued_latched _ (s.withSlot k _)
  · rfl

@[simp] theorem purgeTransaction_latched (n : TxnNumber) (s : State) : (purgeTransaction n s).latched = s.latched := by
  simp only [purgeTransaction, purgeNumber, purgeKind_latched]

@[simp] theorem requestAbort_latched (n : TxnNumber) (reason : AbortReason) (s : State) :
    (requestAbort n reason s).latched = s.latched := by
  unfold requestAbort
  split
  · exact fillFrame_latched ..
  · rfl

@[simp] theorem judgeDeferred_latched (send : Bool) (s : State) : (judgeDeferred send s).latched = s.latched :=
  latched_of_request (judgeDeferred_owners send s).2.1

@[simp] theorem testAnnounce_latched (s : State) : (testAnnounce s).latched = s.latched := by
  unfold testAnnounce
  split
  · split
    · exact fillFrame_latched ..
    · rfl
  · rfl

@[simp] theorem testPropose_latched (s : State) : (testPropose s).latched = s.latched := by
  unfold testPropose
  split
  · rename_i l hl
    split
    · simp [State.latched, State.withRequest, hl]
    · rfl
  · rfl

@[simp] theorem settleWake_latched (closed : Option (Kind × TxnOutcome)) (s : State) :
    (settleWake closed s).latched = s.latched := by
  rw [settleWake_eq, testAnnounce_latched]
  obtain ⟨-, -, -, -, -, -, -, -, -, -, hr, -⟩ := settleTimers_keeps closed (settleEvaluation (s.agreement.believed.getD .off) s)
  obtain ⟨-, -, he, -⟩ := settleEvaluation_owners (s.agreement.believed.getD .off) s
  exact latched_of_request (hr.trans he)

@[simp] theorem archive_latched (n : Nat) (s : State) : (archive n s).latched = s.latched := latched_of_request (by simp)

/-- A close keeps the request in the latch (R15). -/
@[simp] theorem closeTransaction_latched (o : TxnOutcome) (c : Cause) (send : Bool) (s : State) :
    (closeTransaction o c send s).latched = s.latched := by
  unfold closeTransaction
  dsimp only
  rw [purgeTransaction_latched, archive_latched, judgeDeferred_latched]
  exact latched_of_request (by simp)

/-! ### Answers -/

theorem Answered.refl (s : State) (l : Level) : Answered s s l 0 := ⟨rfl, rfl⟩

theorem Answered.of_eq {s t : State} (l : Level) (hp : t.request.pulses = s.request.pulses)
    (hr : t.request.result = s.request.result) : Answered s t l 0 := ⟨hp, hr⟩

theorem Answered.trans {s t u : State} {l : Level} {n m : Nat} (h : Answered s t l n) (k : Answered t u l m) :
    Answered s u l (n + m) := by
  obtain ⟨h1, h2⟩ := h
  obtain ⟨k1, k2⟩ := k
  refine ⟨by omega, ?_⟩
  rw [k2, h2]
  by_cases hm : m = 0 <;> by_cases hn : n = 0 <;> simp [hm, hn]

theorem Answered.after {s t u : State} {l : Level} {n : Nat} (h : Answered s t l n)
    (hp : u.request.pulses = t.request.pulses) (hr : u.request.result = t.request.result) : Answered s u l n :=
  h.trans (.of_eq l hp hr)

theorem Answered.before {s s' t : State} {l : Level} {n : Nat} (h : Answered s' t l n)
    (hp : s'.request.pulses = s.request.pulses) (hr : s'.request.result = s.request.result) : Answered s t l n := by
  have := (Answered.of_eq l hp hr).trans h
  rwa [Nat.zero_add] at this

/-- An answer to a request: one where its source is LINES (R23, R24). -/
theorem answerRequest_answered (r : Request) (l : Level) (s : State) :
    Answered s (answerRequest r l s) l (answersFor (some r)) := by
  unfold answerRequest answersFor
  by_cases h : r.source = .lines
  · simp [h, answer, Answered, State.withRequest]
  · simp [h, Answered]

/-- The request under vote answered (R23). -/
theorem answerUnderVote_answered (l : Level) (s : State) :
    Answered s (answerUnderVote l s) l (answersFor s.request.underVote) := by
  unfold answerUnderVote
  split
  · rename_i r h
    rw [h]
    exact (answerRequest_answered r l _).before rfl rfl
  · rename_i h
    rw [h]
    exact .refl s l

theorem answerRequest_latch (r : Request) (l : Level) (s : State) :
    (answerRequest r l s).request.latch = s.request.latch ∧ (answerRequest r l s).request.underVote = s.request.underVote := by
  simp

theorem answerUnderVote_absent (l : Level) (s : State) : (answerUnderVote l s).request.underVote = none := by
  unfold answerUnderVote
  split
  · exact (answerRequest_latch ..).2
  · assumption

/-- The latch cleared, its request answered low (R17, R23). -/
theorem clearLatch_answered (s : State) :
    Answered s (clearLatch s) .low (answersFor (s.request.latch.map Latch.request)) := by
  unfold clearLatch
  split
  · rename_i l h
    rw [h]
    exact (answerRequest_answered l.request .low _).before rfl rfl
  · rename_i h
    rw [h]
    exact .refl s .low

theorem clearLatch_absent (s : State) : (clearLatch s).request.latch = none := by
  unfold clearLatch
  split
  · exact (answerRequest_latch ..).1
  · assumption

/-- The answers at the settle signal: outside RUN the latch is cleared (R17). -/
theorem settleRequest_answered (closed : Option (Kind × TxnOutcome)) (s : State) :
    Answered s (settleRequest closed s) .low (latchAnswers s.agreement.believed s.request.latch) := by
  unfold settleRequest latchAnswers
  by_cases h : s.agreement.believed = some .run
  · simp only [h, beq_self_eq_true, if_true]
    exact .of_eq _ (by simp) (by simp)
  · rw [if_neg (by simpa using h), if_neg h]
    exact (clearLatch_answered _).before rfl rfl

theorem latchAnswers_congr {b : Option SystemState} {s t : State} (h : t.latched = s.latched) :
    latchAnswers b t.request.latch = latchAnswers b s.request.latch := by
  unfold latchAnswers
  rw [show t.request.latch.map Latch.request = s.request.latch.map Latch.request from h]

/-- The answers at the settle signal (R17, R23). -/
theorem settleSignal_answered (closed : Option (Kind × TxnOutcome)) (s : State) :
    Answered s (settleSignal closed s) .low (latchAnswers s.agreement.believed s.request.latch) := by
  have h := settleRequest_answered closed (settleWake closed s)
  have ha : (settleWake closed s).agreement = s.agreement := by simp
  rw [latchAnswers_congr (settleWake_latched closed s), ha] at h
  exact (h.before (by simp) (by simp)).after (by simp [settleSignal]) (by simp [settleSignal])

/-- In RUN the request in the latch outlives the settle signal (R17). -/
theorem settleSignal_latched (closed : Option (Kind × TxnOutcome)) {s : State} (hp : s.agreement.phase = .settled)
    (hb : s.agreement.believed = some .run) : (settleSignal closed s).latched = s.latched := by
  have hr : (settleSignal closed s).request = (settleRequest closed (settleWake closed s)).request := by
    have := (settlePeers_settled (s := recomputeBeat (settleRequest closed (settleWake closed s))) (by simpa using hp)).1.2.1
    rw [settleSignal_eq, (show ∀ b u, (settleChannel b u).request = u.request by simp)]
    exact this.trans (by simp)
  have he : settleRequest closed (settleWake closed s) =
      testPropose (settleDeferHold closed (settleAwake closed (settleWake closed s))) := by simp [settleRequest, hb]
  rw [latched_of_request hr, he, testPropose_latched]
  exact (by simp [State.latched] : _ = (settleWake closed s).latched).trans (settleWake_latched closed s)

end Sys2Proof.Machine
end


section
/-! SUPPORT. What a close does, said once: `closeSettled_closes`, `forcedCloseCore_closes` (R15 to R18). -/

namespace Sys2Proof.Machine

open Sys2Proof

/-! ### The history -/

theorem Archived.of_before {s s' t : State} {r : Record} {o : TxnOutcome} {c : Cause} (h : Archived s' t r o c)
    (hh : s'.agreement.history = s.agreement.history) (ht : s'.time = s.time) : Archived s t r o c := by
  simpa only [Archived, hh, ht] using h

theorem Archived.of_after {s t t' : State} {r : Record} {o : TxnOutcome} {c : Cause} (h : Archived s t r o c)
    (hh : t'.agreement.history = t.agreement.history) : Archived s t' r o c := by
  simpa only [Archived, hh] using h

/-- The history entry tells of a record its number, kind, originator and opening time. -/
theorem Archived.of_record {s t : State} {r r' : Record} {o : TxnOutcome} {c : Cause} (h : Archived s t r' o c)
    (hn : r'.number = r.number) (hk : r'.kind = r.kind) (ho : r'.originator = r.originator)
    (ht : r'.openedAt = r.openedAt) : Archived s t r o c := by
  simpa only [Archived, hn, hk, ho, ht] using h

/-- A record archived as it was closed now (R18). -/
theorem archived_of_closed {s t : State} {r : Record} {o : TxnOutcome} {c : Cause} {n : Nat}
    (h : t.agreement.history = (entryOf (r.closed o c s.time) n :: s.agreement.history).take 4) : Archived s t r o c :=
  ⟨_, h, rfl, rfl, rfl, rfl, rfl, rfl, rfl⟩

theorem archive_history (n : Nat) {s : State} {r : Record} (hr : s.agreement.record = some r) :
    (archive n s).agreement.history = (entryOf r n :: s.agreement.history).take 4 := by
  unfold archive
  rw [hr]
  rfl

/-! ### The steps of a close before SETTLED -/

/-- A close writes the history entry of its record (R15, R18). -/
theorem closeTransaction_archived (o : TxnOutcome) (c : Cause) (send : Bool) {s : State} {r : Record}
    (hr : s.agreement.record = some r) : Archived s (closeTransaction o c send s) r o c := by
  obtain ⟨u, hu⟩ : ∃ u, u = judgeDeferred send (settleBelief o (execIdle (stopVoteTimers
      (s.onRecord fun r => r.closed o c s.time)))) := ⟨_, rfl⟩
  have hur : u.agreement.record = some (r.closed o c s.time) := by simp [hu, onRecord_record, hr]
  have huh : u.agreement.history = s.agreement.history := by simp [hu]
  refine archived_of_closed (n := (settleBelief o (execIdle (stopVoteTimers
      (s.onRecord fun r => r.closed o c s.time)))).faults.deferred.length) ?_
  rw [← huh, ← archive_history _ hur, hu]
  simp only [closeTransaction, purgeTransaction_keeps]

/-- What a close leaves believed (R1, R14). -/
theorem closeTransaction_belief (o : TxnOutcome) (c : Cause) (send : Bool) {s : State} {r : Record}
    (hr : s.agreement.record = some r) :
    (closeTransaction o c send s).agreement.believed = believedAfter o r.kind s.agreement.believed ∧
    (closeTransaction o c send s).agreement.restImage =
      restImageAfter o r (believedAfter o r.kind s.agreement.believed) s.agreement.restImage := by
  have hq : (execIdle (stopVoteTimers (s.onRecord fun r => r.closed o c s.time))).agreement.record =
      some (r.closed o c s.time) := by simp [onRecord_record, hr]
  have hb : (execIdle (stopVoteTimers (s.onRecord fun r => r.closed o c s.time))).agreement.believed =
      s.agreement.believed := by simp
  have hi : (execIdle (stopVoteTimers (s.onRecord fun r => r.closed o c s.time))).agreement.restImage =
      s.agreement.restImage := by simp
  have he : (settleBelief o (execIdle (stopVoteTimers (s.onRecord fun r => r.closed o c s.time)))).agreement.believed =
        believedAfter o r.kind s.agreement.believed ∧
      (settleBelief o (execIdle (stopVoteTimers (s.onRecord fun r => r.closed o c s.time)))).agreement.restImage =
        restImageAfter o r (believedAfter o r.kind s.agreement.believed) s.agreement.restImage := by
    unfold settleBelief
    rw [hq]
    simp only [State.withAgreement, hb, hi]
    exact ⟨rfl, rfl⟩
  simpa [closeTransaction] using he

/-- The deferred list is judged and emptied at a close (R103). -/
theorem closeTransaction_deferred (o : TxnOutcome) (c : Cause) (send : Bool) (s : State) :
    (closeTransaction o c send s).faults.deferred = [] := by
  simp [closeTransaction, judgeDeferred]

/-! ### A close to SETTLED -/

/-- What a command may have done before a close without a change of what is said of the close: what the settle signal reads
(`SettlesAlike`), and the wake queue, the time and the history. -/
structure ClosesAlike (s u : State) : Prop extends SettlesAlike s u where
  queue : u.wake.queue = s.wake.queue
  time : u.time = s.time
  history : u.agreement.history = s.agreement.history

theorem ClosesAlike.trans {s t u : State} (a : ClosesAlike s t) (b : ClosesAlike t u) : ClosesAlike s u :=
  { a.toSettlesAlike.trans b.toSettlesAlike with
    queue := b.queue.trans a.queue, time := b.time.trans a.time, history := b.history.trans a.history }

/-- A change that leaves these fields is such a one. -/
theorem ClosesAlike.of_fields {s u : State} (hpins : u.pins = s.pins) (hloader : u.loader = s.loader)
    (hpart : u.participants = s.participants) (hbeat : u.presence.beat = s.presence.beat)
    (hbt : u.presence.beatTimer = s.presence.beatTimer) (hwake : u.wake = s.wake)
    (hlatch : ∀ l, s.request.latch = some l → u.request.latch = some l) (hdh : u.request.deferHold = s.request.deferHold)
    (hlo : u.request.lockout = s.request.lockout) (hslot : u.slot .propose = s.slot .propose) (hf : u.faults = s.faults)
    (ht : u.time = s.time) (hh : u.agreement.history = s.agreement.history) : ClosesAlike s u where
  pins := hpins
  loader := hloader
  participants := hpart
  beat := hbeat
  beatTimer := hbt
  inputs := by rw [hwake]
  pressed := by rw [hwake]
  debounce := by rw [hwake]
  longPress := by rw [hwake]
  minDwell := by rw [hwake]
  demote := by rw [hwake]
  latch := fun l h _ => hlatch l h
  deferHold := hdh
  lockout := hlo
  propose := hslot
  faults := .of_eq (by rw [hf]) (by rw [hf])
  peerLost := fun e he _ => by rwa [hf] at he
  queue := by rw [hwake]
  time := ht
  history := hh

theorem Archived.of_alike {s u t : State} {r : Record} {o : TxnOutcome} {c : Cause} (h : Archived u t r o c)
    (a : ClosesAlike s u) : Archived s t r o c :=
  h.of_before a.history a.time

theorem Evaluated.of_alike {s u t : State} {st : SystemState} (h : Evaluated u t st) (a : ClosesAlike s u) :
    Evaluated s t st :=
  h.of_before a.queue a.loader a.faults

/-- SETTLED entered after a close: the settle signal, from the state in which it is entered (R15, R17). -/
theorem becomeSettled_acts (x : Kind × TxnOutcome) (u : State) :
    (becomeSettled (some x) u).agreement = { u.agreement with phase := .settled } ∧
    Answered u (becomeSettled (some x) u) .low (latchAnswers u.agreement.believed u.request.latch) ∧
    ((∀ k, some x = some (k, TxnOutcome.completed) → k.isWake = true → u.agreement.believed = some .run) →
      Settled (some x) u (becomeSettled (some x) u)) ∧
    ∀ st, u.agreement.believed = some st →
      Evaluated u (becomeSettled (some x) u) st ∧ Corrected u (becomeSettled (some x) u) (u.profileRow st) := by
  have hs : SettlesAlike u (u.withPhase .settled) := SettlesAlike.withPhase
    ⟨rfl, rfl, rfl, rfl, rfl, rfl, rfl, rfl, rfl, rfl, rfl, fun _ h _ => h, rfl, rfl, rfl, .refl u, fun _ h _ => h⟩ _
  unfold becomeSettled
  refine ⟨by simp [State.withPhase], ?_, fun hw => ?_, fun st hb => ⟨?_, ?_⟩⟩
  · exact (settleSignal_answered (some x) (u.withPhase .settled)).before rfl rfl
  · exact (settleSignal_settled (some x) (s := u.withPhase .settled) rfl hw).of_alike hs
  · exact (settleSignal_evaluated (some x) (s := u.withPhase .settled) rfl hb).of_before rfl rfl hs.faults
  · exact (settleSignal_corrected x (s := u.withPhase .settled) hb).of_before rfl rfl

/-- The steps of a close before SETTLED change nothing that is said of the close but its history entry and its belief. -/
theorem closeTransaction_stands (o : TxnOutcome) (c : Cause) (send : Bool) (s : State) :
    (closeTransaction o c send s).wake.queue = s.wake.queue ∧ (closeTransaction o c send s).channel = s.channel ∧
    (closeTransaction o c send s).loader = s.loader ∧
    (closeTransaction o c send s).request.pulses = s.request.pulses ∧
    (closeTransaction o c send s).request.result = s.request.result := by
  simp

/-- What the settle signal of a close leaves, from the state before the close (R15, R17). -/
theorem closeSettled_closes (o : TxnOutcome) (c : Cause) {s : State} {r : Record} (hr : s.agreement.record = some r) :
    let t := closeSettled o c s
    t.agreement.phase = .settled ∧ Archived s t r o c ∧
    t.agreement.believed = believedAfter o r.kind s.agreement.believed ∧
    t.agreement.restImage = restImageAfter o r (believedAfter o r.kind s.agreement.believed) s.agreement.restImage ∧
    t.executor = Executor.idle ∧ t.faults.deferred = [] ∧
    Answered s t .low (latchAnswers (believedAfter o r.kind s.agreement.believed) s.request.latch) ∧
    Settled (some (r.kind, o)) s t ∧
    ∀ st, believedAfter o r.kind s.agreement.believed = some st → Evaluated s t st ∧ Corrected s t (s.profileRow st) := by
  have hk : s.kind = r.kind := by simp [State.kind, hr]
  have hset := closeSettled_settled o c s
  obtain ⟨hb, hi⟩ := closeTransaction_belief o c true hr
  have halike := closeTransaction_alike o c true s
  have harch := closeTransaction_archived o c true hr
  have hlat := closeTransaction_latched o c true s
  obtain ⟨hq, hc, hl, hp, hres⟩ := closeTransaction_stands o c true s
  have hx := closeTransaction_executor o c true s
  have hd := closeTransaction_deferred o c true s
  rw [hk] at hset
  have he : closeSettled o c s = becomeSettled (some (r.kind, o)) (closeTransaction o c true s) := by rw [closeSettled, hk]
  rw [he] at hset ⊢
  clear he
  generalize closeTransaction o c true s = u at *
  obtain ⟨ha, hans, -, hst⟩ := becomeSettled_acts (r.kind, o) u
  rw [hb] at hans hst
  rw [latchAnswers_congr hlat] at hans
  refine ⟨by rw [ha], harch.of_after (by rw [ha]), by rw [ha]; exact hb, by rw [ha]; exact hi, by simp [hx], by simp [hd],
    hans.before hp hres, hset, fun st q => ?_⟩
  obtain ⟨h1, h2⟩ := hst st q
  rw [profileRow_congr (s := s) hl] at h2
  exact ⟨h1.of_before hq hl halike.faults, h2.of_before hc hl⟩

/-! ### The forced close -/

/-- The record with every participant absent from the last forward done-set in the missing set (R16). -/
def gathered (s : State) (r : Record) : Record :=
  { r with missing := r.missing ||| setMinus r.participants (doneAt r.forward (s.lastStage r.kind)) }

theorem gatherMissing_agreement {s : State} {r : Record} (hr : s.agreement.record = some r) :
    (gatherMissing s).agreement = { s.agreement with record := some (gathered s r) } := by
  have hm : setMinus s.participants (s.forwardAt (s.lastStage s.kind)) =
      setMinus r.participants (doneAt r.forward (s.lastStage r.kind)) := by
    simp [State.participants, State.forwardAt, State.kind, hr]
  unfold gatherMissing recordMissing
  rw [hm]
  exact onRecord_agreement _ hr

/-- The record that a forced close leaves (R5, R16). -/
def forcedClosed (s : State) (r : Record) : Record := (gathered s r).closed .forcedDone r.openingCause.cause s.time

theorem startFaultHold_alike (s : State) : SettlesAlike s (startFaultHold s) :=
  ⟨rfl, rfl, rfl, rfl, rfl, rfl, rfl, rfl, rfl, rfl, rfl, fun _ h _ => h, rfl, rfl, rfl, .of_eq rfl rfl, fun _ h _ => h⟩

/-- The forced close but for the phase that follows (R16, R109). -/
theorem forcedCloseCore_closes {s : State} {r : Record} (hr : s.agreement.record = some r) :
    let u := forcedCloseCore s
    u.agreement.phase = s.agreement.phase ∧ u.agreement.number = s.agreement.number ∧
    Archived s u r .forcedDone r.openingCause.cause ∧ u.agreement.believed = some .off ∧ u.agreement.restImage = false ∧
    u.executor = Executor.idle ∧ u.agreement.record = some (forcedClosed s r) ∧
    u.wake.faultHold = (if s.system.faultHold = 0 then none else some s.system.faultHold) ∧ u.latched = s.latched ∧
    SettlesAlike s u := by
  have hg := gatherMissing_agreement hr
  have hgr : (gatherMissing s).agreement.record = some (gathered s r) := by rw [hg]
  have hpart : (gatherMissing s).participants = s.participants := by simp [State.participants, hgr, hr, gathered]
  have hc : s.openingCause = r.openingCause.cause := by simp [State.openingCause, hr]
  have hgk : (gatherMissing s).time = s.time ∧ (gatherMissing s).wake = s.wake ∧ (gatherMissing s).link = s.link ∧
      (gatherMissing s).request = s.request ∧ (gatherMissing s).faults = s.faults ∧ (gatherMissing s).loader = s.loader ∧
      (gatherMissing s).pins = s.pins ∧ (gatherMissing s).presence = s.presence := by simp
  unfold forcedCloseCore
  rw [hc]
  generalize gatherMissing s = g at *
  obtain ⟨gt, gw, gl, gr, gf, gld, gp, gpr⟩ := hgk
  have ha : ClosesAlike s g := .of_fields gp gld hpart (by rw [gpr]) (by rw [gpr]) gw
    (fun l h => by rw [gr]; exact h) (by rw [gr]) (by rw [gr]) (slot_eq_of_link gl _) gf gt (by rw [hg])
  obtain ⟨hb, hi⟩ := closeTransaction_belief .forcedDone r.openingCause.cause false hgr
  have harch := (closeTransaction_archived .forcedDone r.openingCause.cause false hgr).of_alike ha
  have hal := (ha.toSettlesAlike.trans (closeTransaction_alike .forcedDone r.openingCause.cause false g)).trans
    (startFaultHold_alike _)
  have hx := closeTransaction_executor .forcedDone r.openingCause.cause false g
  have hrec := closeTransaction_record .forcedDone r.openingCause.cause false g
  have hlat := closeTransaction_latched .forcedDone r.openingCause.cause false g
  have hpn : (closeTransaction .forcedDone r.openingCause.cause false g).agreement.phase = s.agreement.phase ∧
      (closeTransaction .forcedDone r.openingCause.cause false g).agreement.number = s.agreement.number ∧
      (closeTransaction .forcedDone r.openingCause.cause false g).loader = s.loader := by simp [hg, gld]
  generalize closeTransaction .forcedDone r.openingCause.cause false g = v at *
  obtain ⟨vp, vn, vl⟩ := hpn
  refine ⟨by simp [vp], by simp [vn], (harch.of_record rfl rfl rfl rfl).of_after (by simp), by simp [hb, believedAfter],
    by simp [hi, restImageAfter, believedAfter], by simp [hx], ?_, ?_, ?_, hal⟩
  · rw [hgr, gt] at hrec
    simpa [forcedClosed] using hrec
  · have hsys : v.system = s.system := by simp [State.system, vl]
    simp [startFaultHold, State.withWake, startUnlessZero, hsys]
  · exact hlat.trans (latched_of_request gr)

/-- The forced close of a descent on the line: to SETTLED in OFF, with the settle signal (R16, R17). -/
theorem forcedClose_closes {s : State} {r : Record} (hp : s.agreement.phase ≠ .mute) (hr : s.agreement.record = some r) :
    let t := forcedClose s
    t.agreement.phase = .settled ∧ t.agreement.number = s.agreement.number ∧
    Archived s t r .forcedDone r.openingCause.cause ∧ t.agreement.believed = some .off ∧ t.agreement.restImage = false ∧
    t.executor = Executor.idle ∧ t.agreement.record = some (forcedClosed s r) ∧
    t.wake.faultHold = (if s.system.faultHold = 0 then none else some s.system.faultHold) ∧
    Answered s t .low (latchAnswers (some .off) s.request.latch) ∧ Settled (some (.enterOff, .forcedDone)) s t ∧
    Evaluated s t .off ∧ Corrected s t (s.profileRow .off) := by
  obtain ⟨-, hn, harch, hb, hi, hx, hrec, hf, hlat, hal⟩ := forcedCloseCore_closes hr
  have hk : (forcedCloseCore s).wake.queue = s.wake.queue ∧ (forcedCloseCore s).channel = s.channel ∧
      (forcedCloseCore s).loader = s.loader ∧ (forcedCloseCore s).request.pulses = s.request.pulses ∧
      (forcedCloseCore s).request.result = s.request.result := by simp
  have he : forcedClose s = becomeSettled (some (.enterOff, .forcedDone)) (forcedCloseCore s) := by
    rw [forcedClose, if_neg (by simpa using hp)]
  rw [he]
  clear he
  generalize forcedCloseCore s = u at *
  obtain ⟨kq, kc, kl, kp, kr⟩ := hk
  obtain ⟨ha, hans, hset, hst⟩ := becomeSettled_acts (.enterOff, .forcedDone) u
  obtain ⟨h1, h2⟩ := hst .off hb
  rw [hb, latchAnswers_congr hlat] at hans
  rw [profileRow_congr (s := s) kl] at h2
  exact ⟨by rw [ha], by rw [ha]; exact hn, harch.of_after (by rw [ha]), by rw [ha]; exact hb, by rw [ha]; exact hi,
    by simp [hx], by rw [ha]; exact hrec, by simp [hf], hans.before kp kr,
    (hset fun k h => by simp at h).of_alike hal, h1.of_before kq kl hal.faults, h2.of_before kc kl⟩

end Sys2Proof.Machine
end


section
/-! SUPPORT. The hand-off of a delivered frame outside SETTLED, where no announcement can follow: `handOff_unsettled`. -/

namespace Sys2Proof.Machine

open Sys2Proof

/-- From one state to another no more happened than this: the own slot of the frame's kind emptied and the debt paid, where the
frame is the station's own, and the sender's entry of the peer table heard (R134, R142). -/
structure HeardOnly (f : Frame) (s t : State) : Prop where
  eq : t = { s with link := { s.link with slots := t.link.slots }
                    presence := { s.presence with peers := t.presence.peers, debt := t.presence.debt } }
  peers : ∀ j, j ≠ f.sender → t.peerAt j = s.peerAt j
  misses : ∀ j, (t.peerAt j).misses = (s.peerAt j).misses
  slots : ∀ k, k ≠ f.body.kind → t.slot k = s.slot k
  queued : (t.slot f.body.kind).queued = (s.slot f.body.kind).queued

theorem HeardOnly.keeps {f : Frame} {s t : State} (h : HeardOnly f s t) :
    t.time = s.time ∧ t.pins = s.pins ∧ t.agreement = s.agreement ∧ t.executor = s.executor ∧ t.channel = s.channel ∧
    t.wake = s.wake ∧ t.request = s.request ∧ t.faults = s.faults ∧ t.loader = s.loader := by
  refine ⟨?_, ?_, ?_, ?_, ?_, ?_, ?_, ?_, ?_⟩ <;> rw [h.eq]

theorem HeardOnly.presence {f : Frame} {s t : State} (h : HeardOnly f s t) :
    t.presence = { s.presence with peers := t.presence.peers, debt := t.presence.debt } := by
  conv_lhs => rw [h.eq]

theorem testAnnounce_unsettled {s : State} (h : s.agreement.phase ≠ .settled) : testAnnounce s = s := by
  unfold testAnnounce
  rw [if_neg fun q => h ((mayAnnounce_iff s).1 q).1.1]

theorem testPropose_unsettled {s : State} (h : s.agreement.phase ≠ .settled) : testPropose s = s := by
  unfold testPropose
  split
  · rw [if_neg (by simp [State.mayPropose, h])]
  · rfl

/-- A peer heard outside SETTLED: its entry alone changes (R142). -/
theorem touchPeer_unsettled (f : Frame) {s : State} (h : s.agreement.phase ≠ .settled) :
    touchPeer f s = s.withPeer f.sender ((s.peerAt f.sender).heard s.silenceLength f) := by
  unfold touchPeer reportPresent
  dsimp only
  split
  · exact testAnnounce_unsettled h
  · rfl

theorem heard_misses (p : Peer) (n : Nat) (f : Frame) : (p.heard n f).misses = p.misses := by
  unfold Peer.heard Peer.setPresence
  dsimp only
  (repeat' split) <;> rfl

theorem heard_presence (p : Peer) (n : Nat) (f : Frame) : (p.heard n f).presence = .present := by
  unfold Peer.heard Peer.setPresence
  dsimp only
  (repeat' split) <;> simp_all [mirrorBeat]

/-- The peer table after an entry was written. -/
@[simp] theorem peerAt_withPeer_same (s : State) (i : StationId) (p : Peer) : (s.withPeer i p).peerAt i = p :=
  tabGet_tabSet_same ..

theorem peerAt_withPeer_ne (s : State) {i j : StationId} (h : j ≠ i) (p : Peer) : (s.withPeer i p).peerAt j = s.peerAt j :=
  tabGet_tabSet_ne _ h _

theorem ownDelivered_slot_ne {f : Frame} (own : Option Ready) (s : State) {k : FrameKind} (h : k ≠ f.body.kind) :
    (ownDelivered f own s).slot k = s.slot k := by
  unfold ownDelivered
  split
  · exact slot_withSlot_ne s h _
  · rfl

/-- The own frame leaves its slot at its delivery, and a frame queued behind it stands (R137). -/
theorem ownDelivered_slot (f : Frame) (own : Option Ready) (s : State) :
    ((ownDelivered f own s).slot f.body.kind).queued = (s.slot f.body.kind).queued ∧
    (own.isSome = true → ((ownDelivered f own s).slot f.body.kind).sending = none ∧
      (ownDelivered f own s).presence.debt = 0) := by
  unfold ownDelivered
  split
  · have hs : (payDebt (clearSending f.body.kind s)).slot f.body.kind =
        { s.slot f.body.kind with sending := none, rejections := 0, purgeMark := false } :=
      slot_withSlot_same s f.body.kind _
    rw [hs]
    exact ⟨rfl, fun _ => ⟨rfl, rfl⟩⟩
  · rename_i h
    exact ⟨rfl, fun q => absurd q h⟩

theorem ownDelivered_heard (f : Frame) (own : Option Ready) (s : State) : HeardOnly f s (ownDelivered f own s) where
  eq := by unfold ownDelivered; split <;> rfl
  peers := fun j _ => by simp [State.peerAt]
  misses := fun j => by simp [State.peerAt]
  slots := fun k h => ownDelivered_slot_ne own s h
  queued := (ownDelivered_slot f own s).1

theorem touchPeer_heard (f : Frame) {s : State} (h : s.agreement.phase ≠ .settled) : HeardOnly f s (touchPeer f s) := by
  rw [touchPeer_unsettled f h]
  refine ⟨rfl, fun j hj => peerAt_withPeer_ne s hj _, fun j => ?_, fun _ _ => rfl, rfl⟩
  by_cases hj : j = f.sender
  · subst hj
    rw [peerAt_withPeer_same, heard_misses]
  · rw [peerAt_withPeer_ne s hj]

theorem HeardOnly.trans {f : Frame} {s t u : State} (h : HeardOnly f s t) (k : HeardOnly f t u) : HeardOnly f s u where
  eq := by rw [k.eq, h.eq]
  peers := fun j hj => (k.peers j hj).trans (h.peers j hj)
  misses := fun j => (k.misses j).trans (h.misses j)
  slots := fun j hj => (k.slots j hj).trans (h.slots j hj)
  queued := k.queued.trans h.queued

/-- The hand-off outside SETTLED of a frame that the station takes (R134, R142). -/
theorem handOff_unsettled {f : Frame} {engine : Option Ready → State → State} {s : State} (h : s.takes f.sender)
    (hp : s.agreement.phase ≠ .settled) :
    ∃ s', handOff f engine s = engine (s.ownSending f) s' ∧ HeardOnly f s s' := by
  unfold handOff
  rw [if_neg (by simp [h.1])]
  dsimp only
  have ha := ownDelivered_heard f (s.ownSending f) s
  have hpr : ∀ j, (ownDelivered f (s.ownSending f) s).peerAt j = s.peerAt j := fun j => by simp [State.peerAt]
  have hme : (ownDelivered f (s.ownSending f) s).me = s.me := by simp [State.me]
  rw [hme, hpr]
  by_cases hi : f.sender = s.me
  · exact ⟨_, by rw [if_pos hi], ha⟩
  · refine ⟨_, by rw [if_neg hi, if_neg (by simpa using h.2.resolve_left hi)], ha.trans (touchPeer_heard f ?_)⟩
    rw [ha.keeps.2.2.1]
    exact hp

/-- What is said of a close is not touched by such a delivery of another frame than PROPOSE. -/
theorem HeardOnly.alike {f : Frame} {s t : State} (h : HeardOnly f s t) (hk : f.body.kind ≠ .propose) : ClosesAlike s t := by
  obtain ⟨ht, hp, ha, -, -, hw, hr, hf, hl⟩ := h.keeps
  have hpr := h.presence
  exact .of_fields hp hl (by simp [State.participants, ha]) (by rw [hpr]) (by rw [hpr]) hw (fun l q => by rwa [hr])
    (by rw [hr]) (by rw [hr]) (h.slots _ hk.symm) hf ht (by rw [ha])

end Sys2Proof.Machine
end


section
/-! PROOF. An ABORT that ends the vote (O29). -/

namespace Sys2Proof.Machine

open Sys2Proof

/-! ### Missed votes -/

theorem refreshSeen_unsettled (i : StationId) {s : State} (h : s.agreement.phase ≠ .settled) :
    refreshSeen i s = dropRefresh i s := by
  unfold refreshSeen
  dsimp only
  split
  · exact testPropose_unsettled h
  · rfl

/-- A missed vote outside SETTLED: the entry of that peer, and the refreshed-view and barring sets (R38, R147). -/
theorem missVote_unsettled (i : StationId) {s : State} (h : s.agreement.phase ≠ .settled) :
    ClosesAlike s (missVote i s) ∧ ((missVote i s).peerAt i).misses = min ((s.peerAt i).misses + 1) 3 ∧
    (2 ≤ (s.peerAt i).misses → ((missVote i s).peerAt i).presence = .excluded) ∧
    ∀ j, j ≠ i → (missVote i s).peerAt j = s.peerAt j := by
  unfold missVote
  dsimp only
  split
  · rename_i hn
    rw [refreshSeen_unsettled (s := s.withPeer i _) i h]
    have hq : ∀ j, (dropBarring i (dropRefresh i (s.withPeer i { Peer.setPresence { s.peerAt i with
        misses := satInc 3 (s.peerAt i).misses } .excluded with silence := none }))).peerAt j =
        (s.withPeer i { Peer.setPresence { s.peerAt i with misses := satInc 3 (s.peerAt i).misses } .excluded with
          silence := none }).peerAt j := fun _ => rfl
    refine ⟨.of_fields rfl rfl rfl rfl rfl rfl (fun _ h => h) rfl rfl rfl rfl rfl rfl, ?_, fun _ => ?_, fun j hj => ?_⟩
    · rw [hq, peerAt_withPeer_same]
      unfold Peer.setPresence
      split <;> rfl
    · rw [hq, peerAt_withPeer_same]
      unfold Peer.setPresence
      split
      · assumption
      · rfl
    · rw [hq, peerAt_withPeer_ne s hj]
  · rename_i hn
    refine ⟨.of_fields rfl rfl rfl rfl rfl rfl (fun _ h => h) rfl rfl rfl rfl rfl rfl, ?_, fun hm => ?_, fun j hj => ?_⟩
    · rw [peerAt_withPeer_same]
      rfl
    · exact absurd (by unfold satInc; omega) hn
    · rw [peerAt_withPeer_ne s hj]

theorem refreshSeen_latched (i : StationId) (s : State) : (refreshSeen i s).latched = s.latched := by
  unfold refreshSeen
  dsimp only
  split
  · exact testPropose_latched (dropRefresh i s)
  · rfl

theorem missVote_latched (i : StationId) (s : State) : (missVote i s).latched = s.latched := by
  unfold missVote
  dsimp only
  split
  · exact refreshSeen_latched i (s.withPeer i _)
  · rfl

theorem ClosesAlike.refl (s : State) : ClosesAlike s s :=
  .of_fields rfl rfl rfl rfl rfl rfl (fun _ h => h) rfl rfl rfl rfl rfl rfl

/-- The peer that a missed vote is counted for: awaited, without an answer, and another station (R37). -/
def Record.missedBy (r : Record) (me i : StationId) : Prop := setHas r.awaited i = true ∧ tabGet r.votes i = none ∧ i ≠ me

/-- The missed votes of the stations of a list (R37). -/
theorem countMisses_fold (r : Record) {l : List StationId} (hn : l.Nodup) {s : State} (h : s.agreement.phase ≠ .settled) :
    let t := l.foldl (fun s i => if setHas r.awaited i && (tabGet r.votes i).isNone && i != s.me then missVote i s else s) s
    ClosesAlike s t ∧
    (∀ j ∈ l, r.missedBy s.me j → (t.peerAt j).misses = min ((s.peerAt j).misses + 1) 3 ∧
      (2 ≤ (s.peerAt j).misses → (t.peerAt j).presence = .excluded)) ∧
    ∀ j, j ∉ l ∨ ¬ r.missedBy s.me j → t.peerAt j = s.peerAt j := by
  induction l generalizing s with
  | nil => exact ⟨.refl s, fun _ h => by simp at h, fun _ _ => rfl⟩
  | cons a l ih =>
    obtain ⟨ha, hn⟩ := List.nodup_cons.1 hn
    rw [List.foldl_cons]
    have hcond : (setHas r.awaited a && (tabGet r.votes a).isNone && a != s.me) = true ↔ r.missedBy s.me a := by
      simp [Record.missedBy, and_assoc]
    by_cases hm : r.missedBy s.me a
    · rw [if_pos (hcond.2 hm)]
      obtain ⟨c1, c2, c3, c4⟩ := missVote_unsettled a h
      have hme : (missVote a s).me = s.me := by simp [State.me]
      obtain ⟨d1, d2, d3⟩ := ih hn (s := missVote a s) (by simpa using h)
      rw [hme] at d2 d3
      refine ⟨c1.trans d1, fun j hj hmj => ?_, fun j hj => ?_⟩
      · rcases List.mem_cons.1 hj with rfl | hj
        · rw [d3 _ (.inl ha)]
          exact ⟨c2, c3⟩
        · rw [← c4 j (fun q => ha (q ▸ hj))]
          exact d2 j hj hmj
      · have hja : j ≠ a := fun q => hj.elim (fun x => x (q ▸ List.mem_cons_self)) fun x => x (q ▸ hm)
        rw [d3 j (hj.imp_left fun x y => x (List.mem_cons_of_mem _ y)), c4 j hja]
    · rw [if_neg (mt hcond.1 hm)]
      obtain ⟨d1, d2, d3⟩ := ih hn h
      refine ⟨d1, fun j hj hmj => ?_, fun j hj => ?_⟩
      · rcases List.mem_cons.1 hj with rfl | hj
        · exact absurd hmj hm
        · exact d2 j hj hmj
      · exact d3 j (hj.imp_left fun x y => x (List.mem_cons_of_mem _ y))

/-- The missed votes at an ABORT(NO_QUORUM) in VOTING (R37). -/
theorem countMisses_unsettled (r : Record) {s : State} (h : s.agreement.phase ≠ .settled) :
    ClosesAlike s (countMisses r s) ∧
    (∀ j, r.missedBy s.me j → ((countMisses r s).peerAt j).misses = min ((s.peerAt j).misses + 1) 3 ∧
      (2 ≤ (s.peerAt j).misses → ((countMisses r s).peerAt j).presence = .excluded)) ∧
    ∀ j, ¬ r.missedBy s.me j → (countMisses r s).peerAt j = s.peerAt j := by
  have hn : allStations.Nodup := List.nodup_finRange 8
  have hm : ∀ j, j ∈ allStations := List.mem_finRange
  unfold countMisses
  generalize allStations = l at *
  obtain ⟨a, b, c⟩ := countMisses_fold r hn h
  exact ⟨a, fun j => b j (hm j), fun j hj => c j (.inr hj)⟩

/-! ### The vote ended -/

/-- An ABORT's cause written, which is nothing that a close reads. -/
theorem onRecord_alike {f : Record → Record} (hf : ∀ r, (f r).participants = r.participants) (s : State) :
    ClosesAlike s (s.onRecord f) := by
  refine .of_fields (by simp) (by simp) ?_ (by simp) (by simp) (by simp) (fun l h => by simpa using h) (by simp) (by simp)
    (slot_eq_of_link (by simp) _) (by simp) (by simp) (by simp)
  unfold State.participants
  rw [onRecord_record]
  cases s.agreement.record <;> simp [hf]

theorem answerUnderVote_alike (l : Level) (s : State) : ClosesAlike s (answerUnderVote l s) :=
  .of_fields (by simp) (by simp) (by simp [State.participants]) (by simp) (by simp) (by simp) (fun l h => by simpa using h)
    (by simp) (by simp) (slot_eq_of_link (by simp) _) (by simp) (by simp) (by simp)

/-- The state in which an ABORT closes the vote (R37). -/
def abortedVote (reason : AbortReason) (r : Record) (s : State) : State :=
  let s := s.onRecord fun r => { r with abortCause := some reason }
  answerUnderVote .low (if reason = .noQuorum then countMisses r s else s)

theorem abortVote_eq (reason : AbortReason) (r : Record) (s : State) :
    abortVote reason r s = closeSettled (abortOutcome reason) (abortCauseOf reason) (abortedVote reason r s) := rfl

/-- What stands as an ABORT closes the vote. -/
theorem abortedVote_stands (reason : AbortReason) {r : Record} {s : State} (hr : s.agreement.record = some r)
    (hp : s.agreement.phase ≠ .settled) :
    let u := abortedVote reason r s
    ClosesAlike s u ∧ u.agreement = { s.agreement with record := some { r with abortCause := some reason } } ∧
    u.channel = s.channel ∧ u.latched = s.latched ∧ u.request.underVote = none ∧
    Answered s u .low (answersFor s.request.underVote) ∧
    (∀ j, reason = .noQuorum → r.missedBy s.me j → (u.peerAt j).misses = min ((s.peerAt j).misses + 1) 3 ∧
      (2 ≤ (s.peerAt j).misses → (u.peerAt j).presence = .excluded)) ∧
    ∀ j, reason ≠ .noQuorum ∨ ¬ r.missedBy s.me j → u.peerAt j = s.peerAt j := by
  have ha := onRecord_agreement (fun r => { r with abortCause := some reason }) hr
  have hal := onRecord_alike (f := fun r => { r with abortCause := some reason }) (fun _ => rfl) s
  have hk : (s.onRecord fun r => { r with abortCause := some reason }).channel = s.channel ∧
      (s.onRecord fun r => { r with abortCause := some reason }).request = s.request ∧
      (s.onRecord fun r => { r with abortCause := some reason }).presence = s.presence ∧
      (s.onRecord fun r => { r with abortCause := some reason }).loader = s.loader := by simp
  unfold abortedVote
  dsimp only
  generalize (s.onRecord fun r => { r with abortCause := some reason }) = u at *
  obtain ⟨kc, kr, kp, kl⟩ := hk
  have hme : u.me = s.me := by simp [State.me, kl]
  have hpe : ∀ j, u.peerAt j = s.peerAt j := fun j => by simp [State.peerAt, kp]
  have hpu : ∀ v : State, (∀ j, (answerUnderVote .low v).peerAt j = v.peerAt j) := fun v j => by simp [State.peerAt]
  have hlat : ∀ v : State, (answerUnderVote .low v).latched = v.latched := fun v => by simp [State.latched]
  by_cases hq : reason = .noQuorum
  · obtain ⟨c1, c2, c3⟩ := countMisses_unsettled r (s := u) (by rw [ha]; exact hp)
    have kk : (countMisses r u).agreement = u.agreement ∧ (countMisses r u).channel = u.channel ∧
        (countMisses r u).request.underVote = u.request.underVote ∧ (countMisses r u).request.pulses = u.request.pulses ∧
        (countMisses r u).request.result = u.request.result := by simp
    have hl2 : (countMisses r u).latched = u.latched := by
      unfold countMisses
      refine foldl_rel (R := fun s t => t.latched = s.latched) (fun _ => rfl) (fun h k => k.trans h) (fun v a => ?_) _ u
      split
      · exact missVote_latched a v
      · rfl
    simp only [if_pos hq, hme, hpe] at c2 c3 ⊢
    generalize countMisses r u = v at *
    obtain ⟨k1, k2, k3, k4, k5⟩ := kk
    have hans := answerUnderVote_answered .low v
    rw [k3, kr] at hans
    refine ⟨(hal.trans c1).trans (answerUnderVote_alike ..), by simp [k1, ha], by simp [k2, kc],
      by rw [hlat, hl2, latched_of_request kr], answerUnderVote_absent .low v,
      hans.before (by rw [k4, kr]) (by rw [k5, kr]), fun j _ hj => ?_, fun j hj => ?_⟩
    · rw [hpu]
      exact c2 j hj
    · rw [hpu]
      exact c3 j (hj.resolve_left (not_not_intro hq))
  · simp only [if_neg hq]
    have hans := answerUnderVote_answered .low u
    rw [kr] at hans
    exact ⟨hal.trans (answerUnderVote_alike ..), by simp [ha], by simp [kc], by rw [hlat, latched_of_request kr],
      answerUnderVote_absent .low u, hans.before (by rw [kr]) (by rw [kr]), fun j h => absurd h hq,
      fun j _ => by rw [hpu, hpe]⟩

theorem abortOutcome_eq (reason : AbortReason) :
    abortOutcome reason = if reason = .noQuorum then .noQuorum else .aborted := by
  cases reason <;> simp [abortOutcome]

theorem believedAfter_abort (reason : AbortReason) (k : Kind) (b : Option SystemState) :
    believedAfter (abortOutcome reason) k b = b := by
  cases reason <;> rfl

/-- Settles O29, from the close of the vote (`closeSettled_closes`) and what stands as it is closed. -/
theorem abortEndsVote : Obligations.AbortEndsVote := by
  intro i reason r s ht hp hr hm
  obtain ⟨s', he, hd⟩ := handOff_unsettled (f := ⟨i, r.number, .abort reason⟩)
    (engine := fun _ => takeAbort i r.number reason) ht (by simp [hp])
  obtain ⟨-, -, ha, -, hc, -, hrq, -, hl⟩ := hd.keeps
  have hr' : s'.agreement.record = some r := by rw [ha, hr]
  have htake : takeAbort i r.number reason s' = abortVote reason r s' := by
    unfold takeAbort
    rw [hr', ha]
    simp [Record.matches, hm, hp]
  obtain ⟨u1, u2, u3, u4, u5, u6, u7, u8⟩ := abortedVote_stands reason hr' (by rw [ha]; simp [hp])
  have hal : ClosesAlike s (abortedVote reason r s') := (hd.alike (by simp [Body.kind])).trans u1
  rw [htake, abortVote_eq] at he
  generalize abortedVote reason r s' = u at *
  have hur : u.agreement.record = some { r with abortCause := some reason } := by rw [u2]
  obtain ⟨c1, c2, c3, -, -, -, c4, c5, c6⟩ := closeSettled_closes (abortOutcome reason) (abortCauseOf reason) hur
  have hub : u.agreement.believed = s.agreement.believed := by rw [u2, ha]
  have hme : s'.me = s.me := by simp [State.me, hl]
  rw [believedAfter_abort, hub] at c3 c4 c6
  rw [abortOutcome_eq] at c2 c5 he c1 c3 c4 c6
  have hk : ∀ o, (closeSettled o (abortCauseOf reason) u).agreement.streaks = u.agreement.streaks ∧
      (closeSettled o (abortCauseOf reason) u).request.underVote = u.request.underVote ∧
      (closeSettled o (abortCauseOf reason) u).presence.peers = u.presence.peers := fun o => by simp
  obtain ⟨k1, k2, -⟩ := hk (if reason = .noQuorum then .noQuorum else .aborted)
  have hpeer : ∀ j, (closeSettled (if reason = .noQuorum then .noQuorum else .aborted) (abortCauseOf reason) u).peerAt j =
      u.peerAt j := fun j => by simp [State.peerAt]
  have hdec : ∀ j, r.missedBy s'.me j ↔ setHas r.awaited j = true ∧ tabGet r.votes j = none ∧ j ≠ s.me := fun j => by
    rw [hme]; rfl
  rw [latchAnswers_congr (u4.trans (latched_of_request hrq))] at c4
  refine ⟨_, congrArg Host.Outcome.next he, c1, (c2.of_alike hal).of_record rfl rfl rfl rfl, c3, by rw [k1, u2, ha],
    k2.trans u5, ?_, c5.of_alike hal.toSettlesAlike, fun st hst => ?_, fun j => ?_, fun hq j h1 h2 h3 h4 => ?_⟩
  · rw [hrq] at u6
    exact (u6.before (by rw [hrq]) (by rw [hrq])).trans c4
  · obtain ⟨e1, e2⟩ := c6 st hst
    rw [profileRow_congr hal.loader] at e2
    exact ⟨e1.of_alike hal, e2.of_before (u3.trans hc) hal.loader⟩
  · rw [hpeer]
    split
    · rename_i h
      rw [(u7 j h.1 ((hdec j).2 h.2)).1, hd.misses]
    · rename_i h
      rw [u8 j (by rw [hdec]; tauto), hd.misses]
  · rw [hpeer]
    exact (u7 j hq ((hdec j).2 ⟨h1, h2, h3⟩)).2 (by rw [hd.misses]; exact h4)

end Sys2Proof.Machine
end


section
/-! SUPPORT. The end of census: SETTLED from an adoption (R17, R151). PROOF. The census timers (O42). -/

namespace Sys2Proof.Machine

open Sys2Proof

/-- What an adoption writes changes nothing that the settle signal reads of the state before (R151). -/
theorem writeAdoption_alike (st : SystemState) (n : TxnNumber) (s : State) : ClosesAlike s (writeAdoption st n s) :=
  .of_fields rfl rfl rfl rfl rfl rfl (fun _ h => h) rfl rfl rfl rfl rfl rfl

theorem endCensus_alike (s : State) :
    ClosesAlike s ((s.withPresence { s.presence with alignment := none }).withPhase .settled) :=
  .of_fields rfl rfl rfl rfl rfl rfl (fun _ h => h) rfl rfl rfl rfl rfl rfl

/-- The end of census gives the settle signal (R17, R151). -/
theorem endCensus_settled (s : State) :
    (endCensus s).agreement = { s.agreement with phase := .settled } ∧ (endCensus s).presence.alignment = none ∧
    (endCensus s).presence.censusWindow = s.presence.censusWindow ∧ Settled none s (endCensus s) := by
  have hset := settleSignal_settled none (s := (s.withPresence { s.presence with alignment := none }).withPhase .settled) rfl
    (fun k h => by simp at h)
  unfold endCensus becomeSettled
  exact ⟨by simp [State.withPhase, State.withPresence], by simp [State.withPresence], by simp [State.withPresence],
    hset.of_alike (endCensus_alike s).toSettlesAlike⟩

/-- The end of census in a believed state: the queue is evaluated, the outputs corrected and monitoring started (R17). -/
theorem endCensus_ends {s : State} {st : SystemState} (hb : s.agreement.believed = some st) :
    Evaluated s (endCensus s) st ∧ OutputsCorrected s (endCensus s) (s.profileRow st) ∧
    MonitoringStarts s (endCensus s) (s.profileRow st) := by
  have hev := settleSignal_evaluated none (s := (s.withPresence { s.presence with alignment := none }).withPhase .settled)
    rfl hb
  obtain ⟨hc, hm⟩ := settleSignal_endsCensus
    (s := (s.withPresence { s.presence with alignment := none }).withPhase .settled) hb
  unfold endCensus becomeSettled
  exact ⟨hev.of_alike (endCensus_alike s), hc.of_before rfl rfl, hm⟩

/-- Outside RUN the settle signal leaves the refreshed-view set (R30). -/
theorem endCensus_refresh (s : State) : (endCensus s).request.refresh = s.request.refresh := by
  simp [endCensus, becomeSettled, settleSignal, settleRequest, settleAwake, settleDeferHold]
  split <;> simp

/-- Where no output differs an adoption ends census at once (R151). -/
theorem adopt_still {st : SystemState} {s : State} (h : s.outputsDiffer (s.profileRow st) = false) (n : TxnNumber) :
    adopt st n s = endCensus (writeAdoption st n s) := by
  have hs : (writeAdoption st n s).alignmentSteps ((writeAdoption st n s).profileRow st) = [] := by
    have : s.alignmentSteps (s.profileRow st) = [] := by simpa [State.outputsDiffer] using h
    exact this
  unfold adopt profileCheck
  rw [hs]
  dsimp only
  split
  · rfl
  · rfl

/-- The barred-retry timer ends: it restarts, and the CENSUS is filled unless an open flag is heard (R148). -/
theorem barredRetryExpiry_eq {s : State} (h : s.presence.barredRetry.isSome = true) :
    exec .barredRetryExpiry s = .next (if s.openHeard then
        s.withPresence { s.presence with barredRetry := some s.system.barredRetry, retryHeld := s.openHeard }
      else fillCensus (s.withPresence { s.presence with
        barredRetry := some s.system.barredRetry, retryHeld := s.openHeard })) := by
  have ho : (s.withPresence { s.presence with
      barredRetry := some s.system.barredRetry, retryHeld := s.openHeard }).openHeard = s.openHeard := rfl
  show execBarredRetryExpiry s = _
  unfold execBarredRetryExpiry
  rw [if_pos h]
  dsimp only
  rw [ho]

/-- Settles O42, from the end of census (`endCensus_ends`) and the fill of a CENSUS. -/
theorem censusTimers : Obligations.CensusTimers := by
  refine ⟨fun s hw => ⟨fun ho => ?_, fun ho hd => ?_⟩, fun s hb => ⟨fun ho => ?_, fun ho hp hm => ?_⟩⟩
  · simp [exec, execCensusWindowExpiry, hw, ho, State.withPresence]
  · have ha := writeAdoption_alike .off 0 s
    obtain ⟨e1, -, e3, e4⟩ := endCensus_settled (writeAdoption .off 0 s)
    obtain ⟨e5, -, e7⟩ := endCensus_ends (s := writeAdoption .off 0 s) (st := .off) rfl
    refine ⟨endCensus (writeAdoption .off 0 s), ?_, by rw [e1], by rw [e1]; rfl, by rw [e1]; rfl, by rw [e1]; rfl,
      e3, endCensus_refresh _, e4.of_alike ha.toSettlesAlike, e5.of_alike ha, e7⟩
    rw [← adopt_still hd]
    simp [exec, execCensusWindowExpiry, hw, ho]
  · rw [barredRetryExpiry_eq hb, ho, if_pos rfl]
    rfl
  · refine ⟨fillCensus (s.withPresence { s.presence with barredRetry := some s.system.barredRetry, retryHeld := false }), ?_,
      ?_, by simp [fillCensus, State.withPresence], by simp [fillCensus], by simp [fillCensus], by simp [fillCensus]⟩
    · rw [barredRetryExpiry_eq hb, ho, if_neg (by simp)]
    · have ht : (s.withPresence { s.presence with barredRetry := some s.system.barredRetry, retryHeld := false }).takesFill
          .census = true := by simp [State.takesFill, State.withPresence, hm]
      have := fillFrame_hasQueued (body := .census s.loader.signature s.loader.resetCause) ht 0
      exact this

end Sys2Proof.Machine
end


section
/-! PROOF. The end of a hold completes a rail action (O44). -/

namespace Sys2Proof.Machine

open Sys2Proof

/-! ### The completion of a rail action with nothing held -/

/-- The rail as its hold ends: ON or OFF, with no action in progress (R66, R68). -/
def railDone (ch : Fin 6) (up : Bool) (s : State) : State := if up then enterOn ch s else enterLow ch .off s

theorem railDone_onRail (ch : Fin 6) (up : Bool) (s : State) : OnRail ch s (railDone ch up s) := by
  unfold railDone
  split
  · exact enterOn_onRail ch s
  · exact .withRail s ch _

theorem enterOn_rail (ch : Fin 6) (s : State) : ((enterOn ch s).rail ch).state = .on ∧
    ((enterOn ch s).rail ch).counter = none ∧ ((enterOn ch s).rail ch).issuer = none ∧
    ((enterOn ch s).rail ch).held = (s.rail ch).held ∧
    (s.agreement.phase.monitors = true → ((enterOn ch s).rail ch).window = some (s.railParams ch).dropoutWindow ∧
      ((enterOn ch s).rail ch).dropouts = 0 ∧ ((enterOn ch s).rail ch).loss = false) := by
  unfold enterOn
  dsimp only
  split
  · simp [startMonitoring, startedMonitoring]
  · rename_i h
    refine ⟨by simp, by simp, by simp, by simp, fun q => absurd q h⟩

/-- The rail as its hold ends (R66, R68, R71). -/
theorem railDone_rail (ch : Fin 6) (up : Bool) (s : State) :
    ((railDone ch up s).rail ch).state = (if up then .on else .off) ∧ ((railDone ch up s).rail ch).counter = none ∧
    ((railDone ch up s).rail ch).issuer = none ∧ ((railDone ch up s).rail ch).held = (s.rail ch).held ∧
    (up = true → s.agreement.phase.monitors = true →
      ((railDone ch up s).rail ch).window = some (s.railParams ch).dropoutWindow ∧
      ((railDone ch up s).rail ch).dropouts = 0 ∧ ((railDone ch up s).rail ch).loss = false) := by
  cases up
  · refine ⟨?_, ?_, ?_, ?_, fun h => by simp at h⟩ <;> simp [railDone, enterLow]
  · obtain ⟨h1, h2, h3, h4, h5⟩ := enterOn_rail ch s
    exact ⟨h1, h2, h3, h4, fun _ => h5⟩

/-- With nothing held a completion reaches its issuer alone (R78). -/
theorem railNotices_alone {ch : Fin 6} {iss : Issuer} (c : Completion) {s : State} (h : (s.rail ch).held = []) :
    railNotices ch (some iss) c s = (s, [⟨iss, c⟩]) := by
  have hs : s.withRail ch { s.rail ch with held := [] } = s := by
    rw [show ({ s.rail ch with held := [] } : Rail) = s.rail ch by rw [← h]]
    exact withRail_self s ch
  simp only [railNotices, serveRail, h, serveHeld, hs]

/-- The end of a hold, with nothing held behind the action. -/
theorem holdEnd_delivers {c : Instr} {ch : Fin 6} {up : Bool} {iss : Issuer} {s : State}
    (hc : (c = .holdUpEnd ch ∧ up = true ∧ (s.rail ch).state = .holdingUp) ∨
      (c = .holdDownEnd ch ∧ up = false ∧ (s.rail ch).state = .holdingDown))
    (hh : (s.rail ch).held = []) (hi : (s.rail ch).issuer = some iss) :
    exec c s = .next (deliverNotice (railDone ch up s) ⟨iss, .changed⟩) := by
  have hd : ((railDone ch up s).rail ch).held = [] := by rw [(railDone_rail ch up s).2.2.2.1, hh]
  rcases hc with ⟨rfl, rfl, hst⟩ | ⟨rfl, rfl, hst⟩
  · show execHoldUpEnd ch s = _
    rw [execHoldUpEnd, if_pos hst, hi]
    exact congrArg _ (congrArg deliverNotices (railNotices_alone .changed hd))
  · show execHoldDownEnd ch s = _
    rw [execHoldDownEnd, if_pos hst, hi]
    exact congrArg _ (congrArg deliverNotices (railNotices_alone .changed hd))

/-! ### An action of the stage executor -/

/-- The executor works on a stage with these records on its stack, or has reported (R50, R87). -/
structure WorksOn (s₀ s : State) : Prop where
  agreement : s.agreement = s₀.agreement
  loader : s.loader = s₀.loader
  sub : s.executor.sub = .acting ∨ s.executor.sub = .reporting
  stack : s₀.executor.stack <:+ s.executor.stack
  committed : s₀.committed = true → s.executor.stack = s₀.executor.stack

theorem WorksOn.refl {s : State} (h : s.executor.sub = .acting ∨ s.executor.sub = .reporting) : WorksOn s s :=
  ⟨rfl, rfl, h, List.suffix_refl _, fun _ => rfl⟩

theorem pushRecord_stack (stage : Nat) (a : Action) (c : Completion) (s : State) :
    s.executor.stack <:+ (pushRecord stage a c s).executor.stack ∧
    (s.committed = true → (pushRecord stage a c s).executor.stack = s.executor.stack) := by
  unfold pushRecord
  split
  · rename_i r hr
    refine ⟨List.suffix_cons .., fun hc => ?_⟩
    unfold State.unwindRecord at hr
    split at hr
    · simp [hc] at hr
    · simp at hr
  · exact ⟨List.suffix_refl _, fun _ => rfl⟩

theorem completeForward_stack (stage : Nat) (a : Action) (c : Completion) (s : State) :
    (completeForward stage a c s).executor.sub = s.executor.sub ∧
    s.executor.stack <:+ (completeForward stage a c s).executor.stack ∧
    (s.committed = true → (completeForward stage a c s).executor.stack = s.executor.stack) := by
  have hp := pushRecord_stack stage a c (s.withExecutor { s.executor with running := none })
  refine ⟨by simp, ?_, fun hc => ?_⟩
  · unfold completeForward
    dsimp only
    split
    · (repeat' split) <;> exact List.suffix_refl _
    · split <;> exact hp.1
  · unfold completeForward
    dsimp only
    split
    · (repeat' split) <;> rfl
    · split <;> exact hp.2 hc

/-- What was just issued for a stage leaves the records below it (R50). -/
theorem afterIssue_stack (stage : Nat) (a : Action) (x : State × Option Completion) :
    (afterIssue (.forward stage a) x).1.executor.sub = x.1.executor.sub ∧
    x.1.executor.stack <:+ (afterIssue (.forward stage a) x).1.executor.stack ∧
    (x.1.committed = true → (afterIssue (.forward stage a) x).1.executor.stack = x.1.executor.stack) := by
  obtain ⟨s, c⟩ := x
  cases c with
  | none => exact ⟨rfl, List.suffix_refl _, fun _ => rfl⟩
  | some c => exact completeForward_stack stage a c (setRunning (.forward stage a) s)

theorem execStep_worksOn {s₀ : State} (hs : s₀.silentDescent = false) (s : State) (h : WorksOn s₀ s) :
    WorksOn s₀ (execStep s).1 := by
  have hag : (execStep s).1.agreement = s₀.agreement := by simpa using h.agreement
  have hld : (execStep s).1.loader = s₀.loader := by simpa using h.loader
  have hsil : s.silentDescent = false := by simpa [State.silentDescent, State.recordOpen, h.agreement] using hs
  have hcom : s.committed = s₀.committed := by simp [State.committed, h.agreement]
  suffices hx : ((execStep s).1.executor.sub = .acting ∨ (execStep s).1.executor.sub = .reporting) ∧
      s.executor.stack <:+ (execStep s).1.executor.stack ∧
      (s.committed = true → (execStep s).1.executor.stack = s.executor.stack) from
    ⟨hag, hld, hx.1, h.stack.trans hx.2.1, fun q => (hx.2.2 (hcom.trans q)).trans (h.committed q)⟩
  have hstay : (s.executor.sub = .acting ∨ s.executor.sub = .reporting) ∧ s.executor.stack <:+ s.executor.stack ∧
      (s.committed = true → s.executor.stack = s.executor.stack) := ⟨h.sub, List.suffix_refl _, fun _ => rfl⟩
  unfold execStep
  split
  · exact hstay
  · split
    · rename_i stage hsub hcur
      split
      · rename_i a ha
        have hk : (issueAction a s).1.executor = s.executor ∧ (issueAction a s).1.agreement = s.agreement := by simp
        obtain ⟨h1, h2, h3⟩ := afterIssue_stack stage a (issueAction a s)
        have hcm : (issueAction a s).1.committed = s.committed := by simp [State.committed]
        rw [hk.1] at h1 h2 h3
        rw [hcm] at h3
        exact ⟨.inl (h1.trans hsub), h2, h3⟩
      · rw [reportStage, if_neg (by simp [hsil])]
        refine ⟨.inr (by simp), ?_, fun _ => ?_⟩ <;> simp
    · rename_i hsub _
      rcases h.sub with q | q <;> simp [q] at hsub
    · exact hstay

theorem execRun_worksOn {s₀ s : State} (hs : s₀.silentDescent = false) (h : WorksOn s₀ s) : WorksOn s₀ (execRun s) :=
  execRun_induct (execStep_worksOn hs) h

/-- A recorded action at a stage of at most C completes *changed*: before commit its record stands on the stack (R50, R87). -/
theorem execComplete_records {stage : Nat} {x : Change} {s : State} (hr : s.executor.running = some (.forward stage (.change x true)))
    (hs : s.executor.sub = .acting) (hf : s.forced = false) (hk : stage ≤ s.commitStage s.kind)
    (hp : s.agreement.phase = .staging) :
    (execComplete .changed s).agreement = s.agreement ∧
    (s.committed = false →
      { number := s.openNumber, stage := stage, change := x, prior := priorOf x } ∈ (execComplete .changed s).executor.stack) ∧
    (s.committed = true → (execComplete .changed s).executor.stack = s.executor.stack) := by
  have he : execComplete .changed s = execRun (completeForward stage (.change x true) .changed s) := by
    simp [execComplete, completeRunning, hr]
  obtain ⟨h1, h2, h3⟩ := completeForward_stack stage (.change x true) .changed s
  have hca : (completeForward stage (.change x true) .changed s).agreement = s.agreement := by simp
  have hw := execRun_worksOn (s₀ := completeForward stage (.change x true) .changed s)
    (by simp [State.silentDescent, hp]) (.refl (.inl (h1.trans hs)))
  have hpush : s.committed = false →
      { number := s.openNumber, stage := stage, change := x, prior := priorOf x } ∈
        (completeForward stage (.change x true) .changed s).executor.stack := fun hc => by
    have hu : (s.withExecutor { s.executor with running := none }).unwindRecord stage (.change x true) .changed =
        some { number := s.openNumber, stage := stage, change := x, prior := priorOf x } := by
      have hcond : (decide (stage ≤ s.commitStage s.kind) && !s.forced && !s.committed) = true := by simp [hk, hf, hc]
      exact if_pos hcond
    have hst : (completeForward stage (.change x true) .changed s).executor.stack =
        { number := s.openNumber, stage := stage, change := x, prior := priorOf x } :: s.executor.stack := by
      unfold completeForward pushRecord
      dsimp only
      rw [hu]
      dsimp only
      rw [if_pos (by exact hs)]
      rfl
    rw [hst]
    exact List.mem_cons_self
  rw [he]
  refine ⟨by simp, fun hc => hw.stack.subset (hpush hc), fun hc => ?_⟩
  rw [hw.committed (by simpa [State.committed, hca] using hc), h3 hc]

/-! ### Steps of an alignment on signals -/

/-- A change that sets a signal. -/
def SetsSignal (c : Change) : Prop := ∃ i, c = .setHigh i ∨ c = .setLow i

/-- The change that sets a signal to a level. -/
def setTo (i : Fin 4) : Level → Change
  | .high => .setHigh i
  | .low => .setLow i

theorem SetsSignal.eq_setTo {c : Change} (h : SetsSignal c) : ∃ i l, c = setTo i l := by
  obtain ⟨i, rfl | rfl⟩ := h
  · exact ⟨i, .high, rfl⟩
  · exact ⟨i, .low, rfl⟩

theorem setTo_inj {i j : Fin 4} {l m : Level} (h : setTo i l = setTo j m) : i = j := by
  cases l <;> cases m <;> cases h <;> rfl

theorem issueChange_setTo (i : Fin 4) (l : Level) (iss : Issuer) (s : State) :
    issueChange (setTo i l) iss s = issueSet i l s := by
  cases l <;> rfl

/-- A SET for alignment: the signal is at the level at once, and nothing else of the channel moves (R74). -/
theorem issueSet_signal (i : Fin 4) (l : Level) (s : State) :
    (issueSet i l s).1.signal i = l ∧ (∀ j, j ≠ i → (issueSet i l s).1.signal j = s.signal j) ∧
    (issueSet i l s).2.isSome = true ∧
    (issueSet i l s).1 = { s with channel := { s.channel with signals := (issueSet i l s).1.channel.signals } } := by
  unfold issueSet
  split
  · rename_i h
    exact ⟨by simpa using h, fun _ _ => rfl, rfl, rfl⟩
  · refine ⟨?_, fun j hj => ?_, rfl, rfl⟩
    · have : (setSignal i l s).signal i = (signalAt l).level := by
        simp [State.signal, setSignal, State.withSignal]
      rw [this]
      cases l <;> rfl
    · simp [State.signal, setSignal, State.withSignal, tabGet_tabSet_ne _ hj]

/-- Alignment through signals alone completes at once, each signal at the level it was set to last (R152). -/
theorem runAlignment_sets {l : List Change} (h : ∀ c ∈ l, SetsSignal c) (s : State) :
    ∃ v, runAlignment l s = endCensus v ∧
      v = { s with channel := { s.channel with signals := v.channel.signals } } ∧
      ∀ row : ProfileRow, (∀ i m, setTo i m ∈ l → tabGet row.signals i = m) →
        ∀ i, s.signal i = tabGet row.signals i ∨ (∃ m, setTo i m ∈ l) → v.signal i = tabGet row.signals i := by
  induction l generalizing s with
  | nil => exact ⟨s, rfl, rfl, fun _ _ i hi => by simpa using hi⟩
  | cons c l ih =>
    obtain ⟨i, m, rfl⟩ := (h c List.mem_cons_self).eq_setTo
    obtain ⟨a1, a2, a3, a4⟩ := issueSet_signal i m s
    obtain ⟨v, e1, e2, e3⟩ := ih (fun d hd => h d (List.mem_cons_of_mem _ hd)) (issueSet i m s).1
    refine ⟨v, ?_, by rw [e2, a4], fun row hrow j hj => ?_⟩
    · rw [runAlignment, issueChange_setTo]
      rcases q : issueSet i m s with ⟨u, o⟩
      rw [q] at a3 e1
      obtain ⟨o', rfl⟩ := Option.isSome_iff_exists.1 a3
      exact e1
    · refine e3 row (fun k n q => hrow k n (List.mem_cons_of_mem _ q)) j ?_
      by_cases hji : j = i
      · subst hji
        exact .inl (a1.trans (hrow j m List.mem_cons_self).symm)
      · rw [a2 j hji]
        refine hj.imp_right fun ⟨n, q⟩ => ⟨n, ?_⟩
        rcases List.mem_cons.1 q with q | q
        · exact absurd (setTo_inj q) hji
        · exact q

/-! ### The statement -/

/-- After steps on signals that are those of the row, no output differs from it (R151). -/
theorem sets_leave_no_difference {s v : State} {row : ProfileRow} (hr : ∀ ch, v.railDiffers row ch = s.railDiffers row ch)
    (hsets : ∀ c ∈ s.alignmentSteps row, SetsSignal c) (hs : ∀ i, v.signal i = tabGet row.signals i) :
    v.outputsDiffer row = false := by
  have hnone : ∀ ch, v.railDiffers row ch = false := fun ch => by
    rw [hr]
    by_contra hd
    have hd : s.railDiffers row ch = true := by simpa using hd
    obtain ⟨m1, -⟩ := mem_alignmentSteps s row
    cases hl : tabGet row.rails ch with
    | high => obtain ⟨i, q | q⟩ := hsets _ ((m1 ch).1.2 ⟨hd, hl⟩) <;> cases q
    | low => obtain ⟨i, q | q⟩ := hsets _ ((m1 ch).2.2 ⟨hd, hl⟩) <;> cases q
  simp [State.outputsDiffer, State.alignmentSteps, hnone, State.signalDiffers, hs]

/-- Settles O44, part by part: what a completion does at each issuer. -/
theorem holdEndCompletesRailAction : Obligations.HoldEndCompletesRailAction := by
  intro c ch up s hc hh
  have hon := railDone_onRail ch up s
  obtain ⟨r1, r2, r3, r4, r5⟩ := railDone_rail ch up s
  have hkeep : railDone ch up s = { s with channel := { s.channel with rails := (railDone ch up s).channel.rails } } := by
    rw [hon]
    rfl
  have hne : ∀ j, j ≠ ch → (railDone ch up s).rail j = s.rail j := fun j hj => hon.rail_ne hj
  refine ⟨fun hi => ?_, fun stage x hx hi hrun hsub hf hk hp => ?_, fun j on x rest hx hj hi hal he hen htt => ?_,
    fun rest hi hal hsets => ?_⟩
  · refine ⟨railDone ch up s, ?_, r1, r2, r3, r5, hne, hkeep⟩
    rcases hi with hi | hi
    · exact holdEnd_delivers hc hh hi
    · exact holdEnd_delivers hc hh hi
  · have hp' : priorOf x = if up then .low else .high := by cases up <;> simp [hx, priorOf]
    have hd := holdEnd_delivers hc hh hi
    generalize railDone ch up s = u at *
    have hs : u.agreement = s.agreement ∧ u.executor = s.executor ∧ u.loader = s.loader := by rw [hkeep]; exact ⟨rfl, rfl, rfl⟩
    obtain ⟨ha, hex, hl⟩ := hs
    have hcs : u.commitStage u.kind = s.commitStage s.kind := by
      simp [State.commitStage, State.system, State.kind, ha, hl]
    obtain ⟨e1, e2, e3⟩ := execComplete_records (s := u) (stage := stage) (x := x) (by rw [hex]; exact hrun)
      (by rw [hex]; exact hsub) (by simpa [State.forced, ha] using hf) (by rw [hcs]; exact hk) (by rw [ha]; exact hp)
    refine ⟨execComplete .changed u, hd, by rw [e1, ha], fun q => ?_, fun q => ?_⟩
    · have := e2 (by simpa [State.committed, ha] using q)
      rw [hp'] at this
      simpa [State.openNumber, ha] using this
    · rw [e3 (by simpa [State.committed, ha] using q), hex]
  · have hd := holdEnd_delivers hc hh hi
    generalize railDone ch up s = u at *
    have hpr : u.presence = s.presence := by rw [hkeep]
    have hrj : u.rail j = s.rail j := hne j hj
    have hpar : u.railParams j = s.railParams j := by rw [hkeep]; rfl
    have hpg : u.powerGood j = s.powerGood j := by rw [hkeep]; rfl
    have hali : u.alignedRail j on = s.alignedRail j on := by simp [State.alignedRail, hrj, hpar, hpg]
    have htake : u.stepTakesTime x = true := by
      rw [← htt, hx]
      cases on <;> simp [State.stepTakesTime, hali]
    have hfit : u.stepFits x := by
      rw [hx]
      cases on <;> exact ⟨by rw [hpar, he], by simpa [State.enable, hrj] using hen⟩
    have hrun : runAlignment (x :: rest) u = (u.afterStep x).withPresence { s.presence with alignment := some rest } := by
      have hk := (afterStep_keeps u x).1
      have hpr' : (u.afterStep x).presence = s.presence := by rw [hk]; exact hpr
      rw [runAlignment, issueChange_alignment hfit (.inl htake), if_pos htake]
      dsimp only
      rw [hpr']
    have hstep : u.afterStep x = u.withRail j (s.alignedRail j on) := by
      rw [hx, ← hali]
      cases on <;> rfl
    have hdel : deliverNotice u ⟨.alignment, .changed⟩ = runAlignment (x :: rest) u := by simp [deliverNotice, hpr, hal]
    rw [hdel, hrun, hstep] at hd
    have hchj : ch ≠ j := fun q => hj q.symm
    refine ⟨_, hd, rfl, ?_, ?_, ?_, rail_withRail_same u j _, fun m h1 h2 => ?_, ?_⟩
    · exact (congrArg Rail.state (rail_withRail_ne u hchj _)).trans r1
    · exact (congrArg Rail.counter (rail_withRail_ne u hchj _)).trans r2
    · exact (congrArg Rail.issuer (rail_withRail_ne u hchj _)).trans r3
    · exact (rail_withRail_ne u h2 _).trans (hne m h1)
    · rw [hkeep]
      rfl
  · have hd := holdEnd_delivers hc hh hi
    have hen : (railDone ch up s).enable ch = s.enable ch := by
      unfold State.enable
      rw [r1]
      rcases hc with ⟨-, rfl, q⟩ | ⟨-, rfl, q⟩ <;> rw [q] <;> rfl
    generalize railDone ch up s = u at *
    have hdel : deliverNotice u ⟨.alignment, .changed⟩ = runAlignment rest u := by
      have hpr : u.presence = s.presence := by rw [hkeep]
      simp [deliverNotice, hpr, hal]
    obtain ⟨v, v1, v2, v3⟩ := runAlignment_sets hsets u
    rw [hdel, v1] at hd
    have hv : v = { s with channel := { s.channel with rails := v.channel.rails, signals := v.channel.signals } } := by
      rw [v2, hkeep]
    have hal : ClosesAlike s v := by
      rw [hv]
      exact .of_fields rfl rfl rfl rfl rfl rfl (fun _ h => h) rfl rfl rfl rfl rfl rfl
    have hva : v.agreement = s.agreement := by rw [hv]
    obtain ⟨e1, e2, e3, e4⟩ := endCensus_settled v
    refine ⟨_, hd, by rw [e1, hva], e2, e4.of_alike hal.toSettlesAlike, by rw [e3, hv], fun st hst => ?_⟩
    obtain ⟨f1, ⟨f2, -, -, -, f5⟩, -⟩ := endCensus_ends (s := v) (by rw [hva]; exact hst)
    rw [profileRow_congr hal.loader] at f2 f5
    refine ⟨f1.of_alike hal, f2, fun hrest => ?_⟩
    have hrd : ∀ m, v.railDiffers (s.profileRow st) m = s.railDiffers (s.profileRow st) m := fun m => by
      have h1 : v.railParams m = s.railParams m := by rw [hv]; rfl
      have h2 : v.enable m = s.enable m := by
        have : v.enable m = u.enable m := by rw [v2]; rfl
        rw [this]
        by_cases hm : m = ch
        · rw [hm, hen]
        · simp only [State.enable, hne m hm]
      simp [State.railDiffers, h1, h2]
    have hsig : ∀ i, v.signal i = tabGet (s.profileRow st).signals i := fun i => by
      obtain ⟨-, m2⟩ := mem_alignmentSteps s (s.profileRow st)
      have husig : u.signal i = s.signal i := by rw [hkeep]; rfl
      refine v3 (s.profileRow st) (fun j m q => ?_) i ?_
      · rw [hrest] at q
        cases m with
        | high => exact ((m2 j).1.1 q).2
        | low => exact ((m2 j).2.1 q).2
      · rw [husig, hrest]
        by_cases hdf : s.signalDiffers (s.profileRow st) i = true
        · cases hl : tabGet (s.profileRow st).signals i with
          | high => exact .inr ⟨.high, (m2 i).1.2 ⟨hdf, hl⟩⟩
          | low => exact .inr ⟨.low, (m2 i).2.2 ⟨hdf, hl⟩⟩
        · exact .inl (by simpa [State.signalDiffers] using hdf)
    rw [f5, sets_leave_no_difference hrd (by rw [← hrest]; exact hsets) hsig]
    rw [hv]
    rfl

end Sys2Proof.Machine
end


section
/-! SUPPORT. The abandonment of an action reads and writes the channel block alone: `abandonWork_congr`, `endWork_congr`
(R44, R52, R70). -/

namespace Sys2Proof.Machine

open Sys2Proof

/-! ### One channel -/

theorem SameAt.enterHoldingUp_snd {ch : Fin 6} {s s' : State} (h : SameAt ch s s') :
    (Machine.enterHoldingUp ch s').2 = (Machine.enterHoldingUp ch s).2 := by
  unfold Machine.enterHoldingUp
  rw [h.params]
  split <;> rfl

theorem SameAt.enterHoldingDown_snd {ch : Fin 6} {s s' : State} (h : SameAt ch s s') :
    (Machine.enterHoldingDown ch s').2 = (Machine.enterHoldingDown ch s).2 := by
  unfold Machine.enterHoldingDown
  rw [h.params]
  split <;> rfl

theorem SameAt.startRaise_snd {ch : Fin 6} {s s' : State} (h : SameAt ch s s') (iss : Issuer) :
    (Machine.startRaise ch iss s').2 = (Machine.startRaise ch iss s).2 := by
  unfold Machine.startRaise
  rw [h.rail]
  split
  · rfl
  · dsimp only
    rw [(h.takeAction iss).powerGood]
    split
    · exact (h.takeAction iss).enterHoldingUp_snd
    · rfl

theorem SameAt.startDrop_snd {ch : Fin 6} {s s' : State} (h : SameAt ch s s') (iss : Issuer) :
    (Machine.startDrop ch iss s').2 = (Machine.startDrop ch iss s).2 := by
  unfold Machine.startDrop
  rw [h.rail]
  split
  · have hw := (h.withRail (stoppedMonitoring (s.rail ch))).takeAction iss
    dsimp only
    rw [hw.powerGood]
    split
    · exact hw.enterHoldingDown_snd
    · rfl
  · rfl

theorem SameAt.startStanding {ch : Fin 6} {s s' : State} (h : SameAt ch s s') (q : RailRequest) :
    SameAt ch (startStanding ch q s).1 (startStanding ch q s').1 ∧ (startStanding ch q s').2 = (startStanding ch q s).2 := by
  unfold Machine.startStanding
  split
  · exact ⟨h.startRaise _, h.startRaise_snd _⟩
  · exact ⟨h.startDrop _, h.startDrop_snd _⟩

theorem SameAt.serveHeld {ch : Fin 6} (l : List RailRequest) {s s' : State} (h : SameAt ch s s') :
    SameAt ch (serveHeld ch l s).1 (serveHeld ch l s').1 := by
  induction l generalizing s s' with
  | nil =>
    unfold Machine.serveHeld
    rw [h.rail]
    exact h.withRail _
  | cons q l ih =>
    obtain ⟨h1, h2⟩ := h.startStanding q
    unfold Machine.serveHeld
    rcases e : Machine.startStanding ch q s with ⟨u, o⟩
    rcases e' : Machine.startStanding ch q s' with ⟨u', o'⟩
    rw [e, e'] at h1 h2
    cases (h2 : o' = o)
    cases o with
    | none =>
      dsimp only
      rw [(h1 : SameAt ch u u').rail]
      exact h1.withRail _
    | some c => exact ih h1

theorem serveHeld_onRail (ch : Fin 6) (l : List RailRequest) (s : State) : OnRail ch s (serveHeld ch l s).1 := by
  induction l generalizing s with
  | nil => exact .withRail s ch _
  | cons q l ih =>
    have h1 := startStanding_onRail ch q s
    unfold serveHeld
    rcases e : startStanding ch q s with ⟨u, o⟩
    rw [e] at h1
    cases o with
    | none => exact h1.trans (.withRail u ch _)
    | some c => exact h1.trans (ih u)

theorem SameAt.abandonedState {ch : Fin 6} {s s' : State} (h : SameAt ch s s') :
    SameAt ch (abandonedState ch s) (abandonedState ch s') := by
  unfold Machine.abandonedState
  rw [h.rail]
  split
  · exact (h.withRail _).startMonitoring
  · exact (h.withRail _).startMonitoring
  · exact h.enterLow _
  · exact h.enterLow _
  · exact h

theorem abandonedState_onRail (ch : Fin 6) (s : State) : OnRail ch s (abandonedState ch s) := by
  unfold abandonedState
  split
  · exact (OnRail.withRail s ch _).trans (.withRail _ ch _)
  · exact (OnRail.withRail s ch _).trans (.withRail _ ch _)
  · exact .withRail s ch _
  · exact .withRail s ch _
  · exact .refl ch s

theorem SameAt.abandonRail {ch : Fin 6} {s s' : State} (h : SameAt ch s s') (who : Issuer → Bool) :
    SameAt ch (abandonRail who ch s) (abandonRail who ch s') := by
  unfold Machine.abandonRail
  rw [h.rail]
  dsimp only
  have hw := h.withRail { s.rail ch with held := (s.rail ch).held.filter fun q => !who q.issuer }
  split
  · split
    · unfold serveRail
      rw [hw.abandonedState.rail]
      exact hw.abandonedState.serveHeld _
    · exact hw
  · exact hw

theorem abandonRail_onRail (who : Issuer → Bool) (ch : Fin 6) (s : State) : OnRail ch s (abandonRail who ch s) := by
  unfold abandonRail
  dsimp only
  have hw := OnRail.withRail s ch { s.rail ch with held := (s.rail ch).held.filter fun q => !who q.issuer }
  split
  · split
    · exact hw.trans ((abandonedState_onRail ch _).trans (serveHeld_onRail ch _ _))
    · exact hw
  · exact hw

/-! ### All channels -/

/-- What the channel block reads and holds is the same in both states. -/
structure ChannelAlike (s s' : State) : Prop where
  channel : s'.channel = s.channel
  loader : s'.loader = s.loader
  pins : s'.pins = s.pins
  phase : s'.agreement.phase = s.agreement.phase

theorem ChannelAlike.sameAt {s s' : State} (h : ChannelAlike s s') (ch : Fin 6) : SameAt ch s s' :=
  ⟨by unfold State.rail; rw [h.channel], h.loader, h.pins, h.phase⟩

/-- An operation on one rail that reads no more than `SameAt` says, in both states. -/
theorem ChannelAlike.of_onRail {ch : Fin 6} {s s' t t' : State} (h : ChannelAlike s s') (ht : OnRail ch s t)
    (ht' : OnRail ch s' t') (hr : t'.rail ch = t.rail ch) : ChannelAlike t t' := by
  rw [ht, ht', hr]
  exact ⟨by simp only [State.withRail, h.channel], h.loader, h.pins, h.phase⟩

theorem ChannelAlike.abandonRails {s s' : State} (h : ChannelAlike s s') (who : Issuer → Bool) :
    ChannelAlike (abandonRails who s) (abandonRails who s') := by
  unfold Machine.abandonRails
  generalize allRails = l
  induction l generalizing s s' with
  | nil => exact h
  | cons a l ih =>
    exact ih (h.of_onRail (abandonRail_onRail who a s) (abandonRail_onRail who a s') ((h.sameAt a).abandonRail who).rail)

theorem ChannelAlike.abandonOther {s s' : State} (h : ChannelAlike s s') (r : Running) :
    ChannelAlike (abandonOther r s) (abandonOther r s') := by
  have hs : ∀ i, s'.signal i = s.signal i := fun i => by unfold State.signal; rw [h.channel]
  unfold Machine.abandonOther
  split
  · unfold abandonPulse setSignal
    rw [hs]
    exact ⟨by simp only [State.withSignal, h.channel], h.loader, h.pins, h.phase⟩
  · exact ⟨by simp only [State.withWait, h.channel], h.loader, h.pins, h.phase⟩
  · exact ⟨by simp only [State.withAwait, h.channel], h.loader, h.pins, h.phase⟩
  · exact h

/-- Work abandoned leaves the same channel block where the channel block and the action in progress are the same (R52). -/
theorem ChannelAlike.abandonWork {s s' : State} (h : ChannelAlike s s') (he : s'.executor.running = s.executor.running)
    (who : Issuer → Bool) : (abandonWork who s').channel = (abandonWork who s).channel := by
  have ha := h.abandonRails who
  have hr : ∀ u : State, (Machine.abandonRails who u).executor = u.executor := fun u => by simp
  unfold Machine.abandonWork
  dsimp only
  rw [hr, hr, he]
  split
  · exact (ha.abandonOther _).channel
  · exact ha.channel

theorem ChannelAlike.endWork {s s' : State} (h : ChannelAlike s s') (he : s'.executor.running = s.executor.running) :
    (endWork s').channel = (endWork s).channel := by
  unfold Machine.endWork
  rw [he]
  split
  · exact h.abandonWork he isExecutor
  · exact h.channel

/-! ### Purges and commit -/

/-- A report to the owners of a purged frame that may touch the mark and the latch, which no close reads of them. -/
theorem reportQueued_alike (q : Option Queued) (s : State) : ClosesAlike s (reportQueued q s) := by
  have hl : ∀ l, s.request.latch = some l → l.queued = false → (reportQueued q s).request.latch = some l := by
    intro l hl hq
    unfold reportQueued
    split
    · unfold reportPurged latchWaits clearMark
      rw [hl]
      (repeat' split) <;> try exact hl
      rename_i l' heq
      obtain rfl : l' = l := (Option.some.inj heq).symm
      cases l'
      cases hq
      rfl
    · exact hl
  have hf : (reportQueued q s).faults = s.faults := by simp
  exact ⟨⟨by simp, by simp, by simp [State.participants], by simp, by simp, by simp, by simp, by simp, by simp, by simp,
    by simp, hl, by simp, by simp, by simp, .of_eq (by rw [hf]) (by rw [hf]), fun e he _ => by rwa [hf] at he⟩,
    by simp, by simp, by simp⟩

theorem withSlot_alike {k : FrameKind} (hk : k ≠ .propose) (x : Slot) (s : State) : ClosesAlike s (s.withSlot k x) :=
  .of_fields rfl rfl rfl rfl rfl rfl (fun _ h => h) rfl rfl (slot_withSlot_ne s (Ne.symm hk) x) rfl rfl rfl

/-- A purge of other frames than PROPOSE changes nothing that is said of a close (R138). -/
theorem purgeKind_alike {k : FrameKind} (hk : k ≠ .propose) (test : Frame → Bool) (s : State) :
    ClosesAlike s (purgeKind k test s) := by
  simp only [purgeKind]
  split
  · exact (withSlot_alike hk _ s).trans (reportQueued_alike _ _)
  · exact withSlot_alike hk _ s

theorem withExecutor_alike (e : Executor) (s : State) : ClosesAlike s (s.withExecutor e) :=
  .of_fields rfl rfl rfl rfl rfl rfl (fun _ h => h) rfl rfl rfl rfl rfl rfl

/-- Commit changes nothing that is said of a close (R56). -/
theorem commit_alike (s : State) : ClosesAlike s (commit s) :=
  ((onRecord_alike (f := fun r => { r with committed := true, committedAt := some s.time }) (fun _ => rfl) s).trans (withExecutor_alike _ _)).trans (purgeKind_alike (k := .abort) (by simp) _ _)

/-- Work ended changes nothing that is said of a close but the channel block. -/
theorem endWork_alike (s : State) : ClosesAlike s (endWork s) :=
  .of_fields (by simp) (by simp) (by simp [State.participants]) (by simp) (by simp) (by simp) (fun l h => by simpa using h)
    (by simp) (by simp) (slot_eq_of_link (by simp) _) (by simp) (by simp) (by simp)

theorem abandonWork_alike (who : Issuer → Bool) (s : State) : ClosesAlike s (abandonWork who s) :=
  .of_fields (by simp) (by simp) (by simp [State.participants]) (by simp) (by simp) (by simp) (fun l h => by simpa using h)
    (by simp) (by simp) (slot_eq_of_link (by simp) _) (by simp) (by simp) (by simp)

end Sys2Proof.Machine
end


section
/-! SUPPORT. The end of MUTE and the close of a silent descent: `leaveMute_leaves`, `forcedClose_mute` (R16, R148, R149). -/

namespace Sys2Proof.Machine

open Sys2Proof

/-! ### Leaving MUTE -/

/-- Of a frame that is neither WAKE nor PROPOSE nobody is told (R22, R124). -/
theorem reportQueued_own {k : FrameKind} {x : Slot} (h : SlotHolds k x) (hw : k ≠ .wake) (hp : k ≠ .propose) (s : State) :
    reportQueued x.queued s = s := by
  unfold reportQueued
  split
  · rename_i r hr
    have hk := h.1 r hr
    unfold reportPurged
    split
    · rename_i hb
      rw [hb] at hk
      exact absurd hk.symm hw
    · rename_i hb
      rw [hb] at hk
      exact absurd hk.symm hp
    · rfl
  · rfl

/-- The state in which the station fills its CENSUS as it leaves MUTE (R150). -/
def unmuted (s : State) : State :=
  let s := s.withPresence { s.presence with muteCause := .none, barredRetry := none, retryHeld := false }
  let s := s.withAgreement { s.agreement with believed := none, number := none, phase := .census }
  let s := refreshQualification (stopWindows (stopAllMonitoring s))
  s.withPresence { s.presence with
    censusWindow := some s.system.censusWindow, beat := some s.system.beatLow, beatTimer := some s.system.beatLow, debt := 0 }

theorem leaveMute_eq (s : State) : leaveMute s = fillCensus (unmuted s) := rfl

theorem unmuted_stands (s : State) :
    (unmuted s).link = s.link ∧ (unmuted s).request = s.request ∧ (unmuted s).wake.queue = s.wake.queue ∧
    (unmuted s).wake.mark = s.wake.mark ∧ (unmuted s).loader = s.loader ∧ (unmuted s).executor = s.executor ∧
    (unmuted s).agreement = { s.agreement with believed := none, number := none, phase := .census } ∧
    (unmuted s).presence = { s.presence with
      muteCause := .none, barredRetry := none, retryHeld := false, censusWindow := some s.system.censusWindow
      beat := some s.system.beatLow, beatTimer := some s.system.beatLow, debt := 0 } := by
  simp [unmuted, State.withPresence, State.withAgreement, State.system]

theorem unmuted_rail (s : State) (ch : Fin 6) : (unmuted s).rail ch =
    if (s.rail ch).state = .on then clearedMonitoring (s.rail ch) else s.rail ch := by
  have : (unmuted s).rail ch = (stopAllMonitoring s).rail ch := by
    simp [unmuted, State.withPresence, State.withAgreement, State.rail, stopAllMonitoring]
  rw [this]
  by_cases h : (s.rail ch).state = .on
  · simp only [State.rail] at h
    simp [stopAllMonitoring, State.rail, h]
  · simp only [State.rail] at h
    simp [stopAllMonitoring, State.rail, h]

/-- The return from MUTE to CENSUS (R148, R150). -/
theorem leaveMute_leaves (s : State) :
    (leaveMute s).agreement = { s.agreement with believed := none, number := none, phase := .census } ∧
    (leaveMute s).presence = { s.presence with
      muteCause := .none, barredRetry := none, retryHeld := false, censusWindow := some s.system.censusWindow
      beat := some s.system.beatLow, beatTimer := some s.system.beatLow, debt := 0 } ∧
    (leaveMute s).hasQueued .census 0 (.census s.loader.signature s.loader.resetCause) ∧
    (∀ ch, (leaveMute s).rail ch = if (s.rail ch).state = .on then clearedMonitoring (s.rail ch) else s.rail ch) ∧
    (leaveMute s).channel.signals = s.channel.signals ∧ (leaveMute s).channel.corrections = s.channel.corrections ∧
    (leaveMute s).executor = s.executor ∧
    (SlotHolds .census (s.slot .census) → (leaveMute s).wake.queue = s.wake.queue ∧ (leaveMute s).wake.mark = s.wake.mark ∧
      (leaveMute s).request = s.request) := by
  obtain ⟨hl, hr, hq, hm, hld, hx, ha, hp⟩ := unmuted_stands s
  have ht : (unmuted s).takesFill .census = true := by simp [State.takesFill, ha]
  have hf := fillFrame_hasQueued (body := .census s.loader.signature s.loader.resetCause) ht 0
  have hfe : leaveMute s = fillFrame 0 (.census s.loader.signature s.loader.resetCause) (unmuted s) := by
    rw [leaveMute_eq, fillCensus, hld]
  refine ⟨by rw [hfe]; simp [ha], by rw [hfe]; simp [hp], by rw [hfe]; exact hf, fun ch => ?_, by simp, by simp,
    by simp, fun h => ?_⟩
  · have : (leaveMute s).rail ch = (unmuted s).rail ch := by rw [hfe]; simp [State.rail]
    rw [this, unmuted_rail]
  · have hs : (unmuted s).slot .census = s.slot .census := slot_eq_of_link hl _
    have hi : reportQueued ((unmuted s).slot .census).queued (unmuted s) = unmuted s := by
      rw [hs]
      exact reportQueued_own h (by simp) (by simp) _
    have he : ∃ x, leaveMute s = (unmuted s).withSlot .census x := by
      rw [hfe, fillFrame, Body.kind, fillSlot, if_pos ht, hi]
      exact ⟨_, rfl⟩
    obtain ⟨x, he⟩ := he
    rw [he]
    exact ⟨hq, hm, hr⟩

theorem checkLeaveMute_stays {s : State} (h : s.presence.muteCause ≠ .barred ∨ s.presence.barring ≠ 0) :
    checkLeaveMute s = s := by
  unfold checkLeaveMute
  rw [if_neg]
  simp only [Bool.and_eq_true, beq_iff_eq]
  rintro ⟨⟨⟨-, hm⟩, hb⟩, -⟩
  rcases h with h | h
  · exact h hm
  · exact h hb

theorem checkLeaveMute_leaves {s : State} (hp : s.agreement.phase = .mute) (hm : s.presence.muteCause = .barred)
    (hb : s.presence.barring = 0) (hr : s.recordOpen = false) : checkLeaveMute s = leaveMute s := by
  unfold checkLeaveMute
  rw [if_pos (by simp [hp, hm, hb, hr])]

/-! ### The close of a silent descent -/

/-- With its slot empty a purge does nothing (R138). -/
theorem purgeKind_empty {k : FrameKind} (test : Frame → Bool) {s : State} (h : (s.slot k).isEmpty) :
    purgeKind k test s = s := by
  obtain ⟨hq, hs⟩ := h
  have hx : ({ queued := none, sending := none, rejections := (s.slot k).rejections, purgeMark := (s.slot k).purgeMark } : Slot)
      = s.slot k := by rw [← hq, ← hs]
  simp only [purgeKind, hq, hs, queuedMatches, sendingMatches, Bool.or_false, Bool.false_eq_true, if_false, hx]
  simp [State.withSlot, State.slot, tabSet, tabGet]

/-- The deferred list judged with no FAULT to be sent leaves the link (R98). -/
theorem judgeDeferred_link (s : State) : (judgeDeferred false s).link = s.link :=
  foldl_keep (fun s => s.link) (fun s e => by simp [judgeEntry, disposeFault]) s.faults.deferred s

/-- With the slots of VOTE, STAGE and ABORT empty, a close that sends nothing touches neither the link nor an owner. -/
theorem closeTransaction_silent (o : TxnOutcome) (c : Cause) {s : State} (hv : (s.slot .vote).isEmpty)
    (hs : (s.slot .stage).isEmpty) (ha : (s.slot .abort).isEmpty) :
    (closeTransaction o c false s).link = s.link ∧ (closeTransaction o c false s).wake = s.wake ∧
    (closeTransaction o c false s).request = s.request := by
  have hpurge : ∀ (n : TxnNumber) (u : State), u.link = s.link → purgeTransaction n u = u := fun n u hu => by
    simp only [purgeTransaction, purgeNumber]
    rw [purgeKind_empty (k := .vote) _ (by rw [slot_eq_of_link hu]; exact hv),
      purgeKind_empty (k := .stage) _ (by rw [slot_eq_of_link hu]; exact hs),
      purgeKind_empty (k := .abort) _ (by rw [slot_eq_of_link hu]; exact ha)]
  have hg : (settleBelief o (execIdle (stopVoteTimers (s.onRecord fun r => r.closed o c s.time)))).link = s.link ∧
      (settleBelief o (execIdle (stopVoteTimers (s.onRecord fun r => r.closed o c s.time)))).wake = s.wake ∧
      (settleBelief o (execIdle (stopVoteTimers (s.onRecord fun r => r.closed o c s.time)))).request = s.request := by simp
  unfold closeTransaction
  dsimp only
  generalize settleBelief o (execIdle (stopVoteTimers (s.onRecord fun r => r.closed o c s.time))) = g at *
  obtain ⟨g1, g2, g3⟩ := hg
  obtain ⟨j2, j3, -⟩ := judgeDeferred_owners false g
  have j1 := judgeDeferred_link g
  generalize judgeDeferred false g = v at *
  have hw : (archive g.faults.deferred.length v).link = v.link ∧ (archive g.faults.deferred.length v).wake = v.wake ∧
      (archive g.faults.deferred.length v).request = v.request := by simp
  obtain ⟨w1, w2, w3⟩ := hw
  rw [hpurge _ _ (w1.trans (j1.trans g1))]
  exact ⟨w1.trans (j1.trans g1), w2.trans (j2.trans g2), w3.trans (j3.trans g3)⟩

theorem forcedCloseCore_silent {s : State} (hp : s.agreement.phase = .mute) (h : LinkFits s) :
    (forcedCloseCore s).link = s.link ∧
    (forcedCloseCore s).wake = { s.wake with faultHold := (forcedCloseCore s).wake.faultHold } ∧
    (forcedCloseCore s).request = s.request := by
  obtain ⟨-, -, hm⟩ := h
  have hk : (gatherMissing s).link = s.link ∧ (gatherMissing s).wake = s.wake ∧ (gatherMissing s).request = s.request := by simp
  obtain ⟨k1, k2, k3⟩ := hk
  have he : ∀ k, k ≠ .census → ((gatherMissing s).slot k).isEmpty := fun k hk => by
    rw [slot_eq_of_link k1]
    exact hm hp k (.inl hk)
  obtain ⟨c1, c2, c3⟩ := closeTransaction_silent .forcedDone s.openingCause (he .vote (by simp)) (he .stage (by simp))
    (he .abort (by simp))
  unfold forcedCloseCore
  generalize closeTransaction .forcedDone s.openingCause false (gatherMissing s) = v at *
  refine ⟨by simp [c1], ?_, by simp [c3]⟩
  simp [startFaultHold, State.withWake, c2]

/-- The close of a silent descent gives no settle signal (R16, R149). -/
theorem forcedClose_mute {s : State} {r : Record} (hp : s.agreement.phase = .mute) (hr : s.agreement.record = some r) :
    let t := forcedClose s
    Archived s t r .forcedDone r.openingCause.cause ∧ t.agreement.record = some (forcedClosed s r) ∧
    t.executor = Executor.idle ∧
    t.wake.faultHold = (if s.system.faultHold = 0 then none else some s.system.faultHold) ∧
    t.channel.signals = s.channel.signals ∧ t.channel.corrections = s.channel.corrections ∧
    (∀ ch, (t.rail ch).state = (s.rail ch).state) ∧ t.presence.peers = s.presence.peers ∧
    (LinkFits s → t.wake.queue = s.wake.queue ∧ t.wake.mark = s.wake.mark ∧ t.request = s.request) ∧
    (s.presence.muteCause ≠ .barred ∨ s.presence.barring ≠ 0 →
      t.agreement.phase = .mute ∧ t.agreement.believed = some .off ∧ t.agreement.number = s.agreement.number ∧
      t.agreement.restImage = false ∧ t.channel = s.channel ∧ t.presence = s.presence ∧
      (LinkFits s → t.link = s.link ∧ t.wake = { s.wake with faultHold := t.wake.faultHold })) ∧
    (s.presence.muteCause = .barred → s.presence.barring = 0 →
      t.agreement.phase = .census ∧ t.agreement.believed = none ∧ t.agreement.number = none ∧
      t.presence.muteCause = .none ∧ t.presence.barredRetry = none ∧
      t.presence.censusWindow = some s.system.censusWindow ∧
      t.hasQueued .census 0 (.census s.loader.signature s.loader.resetCause)) := by
  obtain ⟨hph, hn, harch, hb, hi, hx, hrec, hf, -, -⟩ := forcedCloseCore_closes hr
  have hsil := forcedCloseCore_silent hp
  have hk : (forcedCloseCore s).channel = s.channel ∧ (forcedCloseCore s).presence = s.presence ∧
      (forcedCloseCore s).loader = s.loader := by simp
  have he : forcedClose s = checkLeaveMute (forcedCloseCore s) := by rw [forcedClose, if_pos (by simp [hp])]
  rw [he]
  clear he
  generalize forcedCloseCore s = u at *
  obtain ⟨kc, kp, kl⟩ := hk
  have hopen : u.recordOpen = false := by
    simp [State.recordOpen, hrec, forcedClosed, Record.closed, TxnOutcome.inProgress]
  by_cases hstay : s.presence.muteCause ≠ .barred ∨ s.presence.barring ≠ 0
  · rw [checkLeaveMute_stays (by rw [kp]; exact hstay)]
    refine ⟨harch, hrec, hx, hf, by rw [kc], by rw [kc], fun ch => by simp only [State.rail, kc], by rw [kp], fun h => ?_,
      fun _ => ⟨hph.trans hp, hb, hn, hi, kc, kp, fun h => ⟨(hsil h).1, (hsil h).2.1⟩⟩, fun h1 h2 => ?_⟩
    · obtain ⟨-, h2, h3⟩ := hsil h
      exact ⟨by rw [h2], by rw [h2], h3⟩
    · exact absurd hstay (by simp [h1, h2])
  · have hbar : s.presence.muteCause = .barred ∧ s.presence.barring = 0 := by
      refine ⟨?_, ?_⟩
      · by_contra h
        exact hstay (.inl h)
      · by_contra h
        exact hstay (.inr h)
    rw [checkLeaveMute_leaves (hph.trans hp) (by rw [kp]; exact hbar.1) (by rw [kp]; exact hbar.2) hopen]
    obtain ⟨l1, l2, l3, l4, l5, l6, l7, l8⟩ := leaveMute_leaves u
    have hsys : u.system = s.system := by simp [State.system, kl]
    rw [kl] at l3
    refine ⟨harch.of_after (by rw [l1]), by rw [l1]; exact hrec, by rw [l7, hx], by simp [hf], by rw [l5, kc], by rw [l6, kc],
      fun ch => ?_, by rw [l2, kp], fun h => ?_, fun h => absurd h hstay,
      fun _ _ => ⟨by rw [l1], by rw [l1], by rw [l1], by rw [l2], by rw [l2], by rw [l2, hsys], l3⟩⟩
    · rw [l4]
      have : u.rail ch = s.rail ch := by simp only [State.rail, kc]
      rw [this]
      split <;> rfl
    · obtain ⟨h1, h2, h3⟩ := hsil h
      obtain ⟨q1, q2, q3⟩ := l8 (by rw [slot_eq_of_link h1]; exact h.1 .census)
      exact ⟨q1.trans (by rw [h2]), q2.trans (by rw [h2]), q3.trans h3⟩

end Sys2Proof.Machine
end


section
/-! PROOF. Settles O37: `closingWaitClosesDescent` (R16, R109, R149). -/

namespace Sys2Proof.Machine

open Sys2Proof

/-- Settles O37: the closing wait runs out in a forced close, with a settle signal from DESCENDING and silent in MUTE. -/
theorem closingWaitClosesDescent : Obligations.ClosingWaitClosesDescent := by
  intro r s hb hr hp
  have he : exec .closingWaitExpiry s = .next (forcedClose s) := congrArg Host.Outcome.next (if_pos hb)
  refine ⟨forcedClose s, forcedClosed s r, he, ?_⟩
  rcases hp with hp | hp
  · obtain ⟨h1, -, harch, hbel, -, hx, hrec, hf, hans, hset, hev, hcor⟩ := forcedClose_closes (by simp [hp]) hr
    exact ⟨harch, hrec, rfl, rfl, hx, hf, fun _ => ⟨h1, hbel, hset, hev, hcor, hans⟩,
      fun h => by simp [hp] at h, fun h => by simp [hp] at h, fun h => by simp [hp] at h⟩
  · obtain ⟨harch, hrec, hx, hf, hs, hco, hst, hpe, how, hstay, hleave⟩ := forcedClose_mute hp hr
    refine ⟨harch, hrec, rfl, rfl, hx, hf, fun h => by simp [hp] at h, fun _ hl => ?_, fun _ hc => ?_,
      fun _ hm hz => hleave hm hz⟩
    · obtain ⟨hq, hm, hreq⟩ := how hl
      exact ⟨hs, hst, hco, hq, hm, hreq, hpe⟩
    · obtain ⟨h1, h2, -, -, h3, h4, h5⟩ := hstay hc
      exact ⟨h1, h2, h4, h3, h5⟩

end Sys2Proof.Machine
end


section
/-! SUPPORT. What a matching STAGE writes: the done-sets, the record and the commit (R55, R56, R93). -/

namespace Sys2Proof.Machine

open Sys2Proof

/-! ### Done-sets -/

/-- The forward done-sets after a station reported a stage (R55). -/
theorem setHas_enterForward (d : Table 12 StationSet) (k : Nat) (i : StationId) {m : Nat} (h1 : 1 ≤ m) (h2 : m ≤ 12)
    (j : StationId) :
    setHas (doneAt (enterForward d k i) m) j = (setHas (doneAt d m) j || (j == i && decide (m ≤ k))) := by
  have hm : m - 1 < 12 ∧ 1 ≤ m := ⟨by omega, h1⟩
  have hk : m - 1 < k ↔ m ≤ k := by omega
  simp only [doneAt, dif_pos hm, enterForward, tabGet_tabMap, hk]
  by_cases h : m ≤ k <;> simp [h]

/-- The unwind done-sets after a station reported a level (R93). -/
theorem setHas_enterUnwind (d : Table 12 StationSet) (k last : Nat) (i : StationId) {m : Nat} (h1 : 1 ≤ m) (h2 : m ≤ 12)
    (j : StationId) :
    setHas (doneAt (enterUnwind d k last i) m) j =
      (setHas (doneAt d m) j || (j == i && decide (k ≤ m) && decide (m ≤ last))) := by
  have hm : m - 1 < 12 ∧ 1 ≤ m := ⟨by omega, h1⟩
  have hk : m - 1 + 1 = m := by omega
  simp only [doneAt, dif_pos hm, enterUnwind, tabGet_tabMap, hk]
  by_cases h : k ≤ m <;> by_cases h' : m ≤ last <;> simp [h, h']

theorem setMinus_of_subset {a b : StationSet} (h : setSubset a b = true) : setMinus a b = 0 := by
  have h' : a &&& b = a := by simpa [setSubset] using h
  unfold setMinus
  rw [← h', BitVec.and_assoc]
  simp

/-! ### The match -/

theorem stageMatches_of_record {s : State} {r : Record} {i : StationId} {k : Nat} (hr : s.agreement.record = some r)
    (hi : setHas r.participants i = true) (h1 : 1 ≤ k) (hk : k ≤ s.lastStage r.kind)
    (hp : s.agreement.phase = .unwinding ∨ s.forwardWork = true) : s.stageMatches i r.number k = true := by
  have hp' : (s.agreement.phase == .unwinding || s.forwardWork) = true := by simpa using hp
  simp [State.stageMatches, State.openNumber, State.participants, State.kind, hr, hi, h1, hk, hp']

theorem forwardWork_iff (s : State) : s.forwardWork = true ↔
    s.agreement.phase = .staging ∨ s.agreement.phase = .descending ∨ s.silentDescent = true := by
  simp [State.forwardWork, or_assoc]

theorem silentDescent_iff (s : State) : s.silentDescent = true ↔ s.agreement.phase = .mute ∧ s.recordOpen = true := by
  simp [State.silentDescent]

/-! ### The forward report -/

/-- The record that a matching forward STAGE leaves, committed where it fills the done-set of stage C in STAGING (R55, R56). -/
def forwardReported (s : State) (i : StationId) (k : Nat) (own : Bool) (r : Record) : Record :=
  let r := forwardRecord i k own s.time r
  if s.agreement.phase = .staging ∧ r.committed = false ∧
      setSubset r.participants (doneAt r.forward (s.commitStage r.kind)) = true then
    { r with committed := true, committedAt := some s.time }
  else r

theorem forwardReported_stands (s : State) (i : StationId) (k : Nat) (own : Bool) (r : Record) :
    let r' := forwardReported s i k own r
    r'.forward = enterForward r.forward k i ∧ r'.unwind = r.unwind ∧ r'.unwindTop = r.unwindTop ∧ r'.number = r.number ∧
    r'.kind = r.kind ∧ r'.originator = r.originator ∧ r'.openedAt = r.openedAt ∧ r'.forced = r.forced ∧
    r'.participants = r.participants ∧ r'.missing = r.missing ∧ r'.openingCause = r.openingCause ∧
    r'.imageBacked = r.imageBacked ∧ r'.outcome = r.outcome ∧
    (r'.committed = true ↔ r.committed = true ∨ (s.agreement.phase = .staging ∧
      setSubset r.participants (doneAt (enterForward r.forward k i) (s.commitStage r.kind)) = true)) := by
  unfold forwardReported
  dsimp only
  split
  · rename_i h
    refine ⟨rfl, rfl, rfl, rfl, rfl, rfl, rfl, rfl, rfl, rfl, rfl, rfl, rfl, ?_⟩
    simpa using Or.inr ⟨h.1, h.2.2⟩
  · rename_i h
    refine ⟨rfl, rfl, rfl, rfl, rfl, rfl, rfl, rfl, rfl, rfl, rfl, rfl, rfl, ?_⟩
    simp only [forwardRecord] at h ⊢
    constructor
    · exact .inl
    · rintro (hc | ⟨h1, h2⟩)
      · exact hc
      · by_contra hc
        exact h ⟨h1, by simpa using hc, h2⟩

theorem commit_agreement {s : State} {r : Record} (hr : s.agreement.record = some r) :
    (commit s).agreement = { s.agreement with record := some { r with committed := true, committedAt := some s.time } } := by
  have := onRecord_agreement (fun r => { r with committed := true, committedAt := some s.time }) hr
  simp [commit, purgeNumber, this]

theorem commit_latched (s : State) : (commit s).latched = s.latched := by
  have hr : (s.onRecord fun r => { r with committed := true, committedAt := some s.time }).request = s.request := by simp
  exact (purgeKind_latched ..).trans (latched_of_request (t := (s.onRecord _).withExecutor _) hr)

/-- What stands after a matching forward STAGE was entered (R55, R56). -/
theorem enterForwardStage_stands (i : StationId) (k : Nat) (own : Bool) {s : State} {r : Record}
    (hr : s.agreement.record = some r) :
    let u := enterForwardStage i k own s
    u.agreement = { s.agreement with record := some (forwardReported s i k own r) } ∧ ClosesAlike s u ∧ u.latched = s.latched ∧
    (s.agreement.phase ≠ .staging → u = s.withAgreement u.agreement) := by
  have ha := onRecord_agreement (forwardRecord i k own s.time) hr
  have hal := onRecord_alike (f := forwardRecord i k own s.time) (fun _ => rfl) s
  have hl : (s.onRecord (forwardRecord i k own s.time)).latched = s.latched := latched_of_request (by simp)
  have hw : s.onRecord (forwardRecord i k own s.time) =
      s.withAgreement (s.onRecord (forwardRecord i k own s.time)).agreement := by
    simp only [State.onRecord, hr]
    rfl
  have hst : (s.onRecord (forwardRecord i k own s.time)).commitStage = s.commitStage := by
    funext x
    simp [State.commitStage, State.system]
  have htime : (s.onRecord (forwardRecord i k own s.time)).time = s.time := by simp
  unfold enterForwardStage
  dsimp only
  generalize s.onRecord (forwardRecord i k own s.time) = u at *
  have hur : u.agreement.record = some (forwardRecord i k own s.time r) := by rw [ha]
  have hc : u.commits = true ↔ s.agreement.phase = .staging ∧ (forwardRecord i k own s.time r).committed = false ∧
      setSubset (forwardRecord i k own s.time r).participants
        (doneAt (forwardRecord i k own s.time r).forward (s.commitStage (forwardRecord i k own s.time r).kind)) = true := by
    simp [State.commits, State.committed, State.forwardFull, State.participants, State.forwardAt, State.kind, hst,
      ha, and_assoc]
  by_cases h : u.commits = true
  · rw [if_pos h]
    refine ⟨?_, hal.trans (commit_alike u), (commit_latched u).trans hl, fun hn => absurd (hc.1 h).1 hn⟩
    rw [commit_agreement hur, ha, htime, forwardReported, if_pos (hc.1 h)]
  · rw [if_neg h]
    refine ⟨?_, hal, hl, fun _ => hw⟩
    rw [ha, forwardReported, if_neg (mt hc.2 h)]

end Sys2Proof.Machine
end


section
/-! PROOF. The forward and the unwind reports (O25, O27). -/

namespace Sys2Proof.Machine

open Sys2Proof

/-! ### What follows a report without a close -/

theorem testWaiting_agreement (s : State) : (testWaiting s).agreement = s.agreement ∧ (testWaiting s).faults = s.faults := by
  simp

/-- A forward report that does not fill stage S goes on with the stages at most, and in UNWINDING does nothing (R93). -/
theorem afterForward_goesOn (k : Nat) (own : Bool) {s : State}
    (h : s.forwardWork = false ∨ s.forwardFull (s.lastStage s.kind) = false) :
    (afterForward k own s).agreement = s.agreement ∧ (afterForward k own s).faults = s.faults ∧
    (s.forwardWork = false → afterForward k own s = s) := by
  unfold afterForward
  by_cases hw : s.forwardWork = true
  · rw [if_pos hw, if_neg (by simpa [hw] using h)]
    refine ⟨?_, ?_, fun q => by simp [hw] at q⟩
    · split <;> simp
    · split <;> simp
  · rw [if_neg hw]
    exact ⟨rfl, rfl, fun _ => rfl⟩

/-- An unwind report outside UNWINDING, or one that does not fill level 1, leaves the agreement engine (R93). -/
theorem afterUnwind_goesOn (k : Nat) (own : Bool) {s : State}
    (h : s.agreement.phase = .unwinding → s.unwindFull 1 = false) :
    (afterUnwind k own s).agreement = s.agreement ∧ (s.agreement.phase ≠ .unwinding → afterUnwind k own s = s) := by
  unfold afterUnwind
  by_cases hp : s.agreement.phase = .unwinding
  · rw [if_pos hp, if_neg (by simp [h hp])]
    refine ⟨?_, fun q => absurd hp q⟩
    split <;> simp
  · rw [if_neg hp]
    exact ⟨rfl, fun _ => rfl⟩

/-! ### O25 -/

/-- Settles O25, from what stands after the report was entered (`enterForwardStage_stands`) and what follows it
(`afterForward_goesOn`). -/
theorem forwardReportFillsDoneSets : Obligations.ForwardReportFillsDoneSets := by
  intro i k r s ht hr hi h1 hk hcase
  have hns : s.agreement.phase ≠ .settled := by
    rcases hcase with h | ⟨-, ⟨h, -⟩ | ⟨h | h, -⟩⟩
    · simp [h]
    · simp [h]
    · simp [h]
    · simp [((silentDescent_iff s).1 h).1]
  obtain ⟨s', he, hd⟩ := handOff_unsettled (f := ⟨i, r.number, .stage .forward k⟩) (engine := takeForward i r.number k) ht hns
  obtain ⟨htime, -, ha, hx, hc, -, -, hf, hl⟩ := hd.keeps
  have hr' : s'.agreement.record = some r := by rw [ha, hr]
  have hsys : s'.system = s.system := by simp [State.system, hl]
  have hlast : ∀ x, s'.lastStage x = s.lastStage x := fun x => by simp [State.lastStage, hsys]
  have hcom : ∀ x, s'.commitStage x = s.commitStage x := fun x => by simp [State.commitStage, hsys]
  have hfw : s'.forwardWork = s.forwardWork := by simp [State.forwardWork, State.silentDescent, State.recordOpen, ha]
  have hmatch : s'.stageMatches i r.number k = true := stageMatches_of_record hr' hi h1 (by rw [hlast]; exact hk) (by
    rw [ha, hfw, forwardWork_iff]
    tauto)
  generalize s.ownSending ⟨i, r.number, .stage .forward k⟩ = own at he
  rw [takeForward, if_pos hmatch] at he
  obtain ⟨e1, -, -, -⟩ := enterForwardStage_stands i k own.isSome hr'
  obtain ⟨r1, r2, r3, -, rk, -, -, -, rp, -, -, -, ro, rc⟩ := forwardReported_stands s' i k own.isSome r
  have ek : (enterForwardStage i k own.isSome s').faults = s'.faults ∧
      (enterForwardStage i k own.isSome s').channel = s'.channel ∧
      (enterForwardStage i k own.isSome s').loader = s'.loader := by simp
  have ex : s'.agreement.phase ≠ .staging → (enterForwardStage i k own.isSome s').executor = s'.executor := fun hn => by
    rw [(enterForwardStage_stands i k own.isSome hr').2.2.2 hn]
    rfl
  generalize enterForwardStage i k own.isSome s' = u at *
  obtain ⟨ef, ec, el⟩ := ek
  have hul : ∀ x, u.lastStage x = s.lastStage x := fun x => by rw [← hlast]; simp [State.lastStage, State.system, el]
  have hgo : u.forwardWork = false ∨ u.forwardFull (u.lastStage u.kind) = false := by
    rcases hcase with h | ⟨h, -⟩
    · exact .inl (by simp [State.forwardWork, State.silentDescent, e1, ha, h])
    · refine .inr ?_
      rw [hul]
      simpa [State.forwardFull, State.participants, State.forwardAt, State.kind, e1, r1, rk, rp] using h
  obtain ⟨g1, g2, g3⟩ := afterForward_goesOn k own.isSome hgo
  refine ⟨_, forwardReported s' i k own.isSome r, congrArg Host.Outcome.next he, by rw [g1, e1, ha], by rw [g1, e1], r1, r2, r3,
    fun h => ?_, fun m hm hm' j => ?_, ?_, by rw [g1, e1, ha], by rw [g1, e1, ha], by rw [g2, ef, hf]⟩
  · rw [g3 (by simp [State.forwardWork, State.silentDescent, e1, ha, h]), ec, hc, ex (by simp [ha, h]), hx]
    exact ⟨rfl, rfl⟩
  · rw [r1]
    exact setHas_enterForward r.forward k i hm hm' j
  · rw [rc, r1, ha, hcom]

/-! ### O27 -/

theorem unwindFull_of_record {s : State} {r : Record} (hr : s.agreement.record = some r) (m : Nat) :
    s.unwindFull m = setSubset r.participants (doneAt r.unwind m) := by
  simp [State.unwindFull, State.participants, State.unwindAt, hr]

/-- Settles O27: the done-sets by their places, the report by `afterUnwind_goesOn`, the close by `closeSettled_closes`. -/
theorem unwindReportFillsDoneSets : Obligations.UnwindReportFillsDoneSets := by
  intro i j r s ht hr hi h1 hj
  refine ⟨fun m hm hm' x => setHas_enterUnwind r.unwind j (s.lastStage r.kind) i hm hm' x, ?_⟩
  have hstart : s.agreement.phase = .unwinding ∨ s.forwardWork = true → ∃ u own,
      exec (.stageUnwindDelivered i r.number j) s = .next (afterUnwind j own u) ∧ ClosesAlike s u ∧
      u.agreement = { s.agreement with
        record := some { r with unwind := enterUnwind r.unwind j (s.lastStage r.kind) i } } ∧
      u.executor = s.executor ∧ u.channel = s.channel ∧ u.faults = s.faults ∧ u.request = s.request := fun hp => by
    have hns : s.agreement.phase ≠ .settled := by
      rw [forwardWork_iff, silentDescent_iff] at hp
      rcases hp with h | h | h | h <;> simp [h]
    obtain ⟨s', he, hd⟩ := handOff_unsettled (f := ⟨i, r.number, .stage .unwind j⟩) (engine := takeUnwind i r.number j) ht hns
    obtain ⟨-, -, ha, hx, hc, -, hq, hf, hl⟩ := hd.keeps
    have hr' : s'.agreement.record = some r := by rw [ha, hr]
    have hlast : s'.lastStage r.kind = s.lastStage r.kind := by simp [State.lastStage, State.system, hl]
    have hk : s'.kind = r.kind := by simp [State.kind, hr']
    have hmatch : s'.stageMatches i r.number j = true := stageMatches_of_record hr' hi h1 (by rw [hlast]; exact hj) (by
      rw [show s'.forwardWork = s.forwardWork by simp [State.forwardWork, State.silentDescent, State.recordOpen, ha], ha]
      exact hp)
    rw [takeUnwind, if_pos hmatch, hk, hlast] at he
    have hu := onRecord_agreement (unwindRecordAt i j (s.lastStage r.kind)) hr'
    refine ⟨_, _, congrArg Host.Outcome.next he, (hd.alike (by simp [Body.kind])).trans (onRecord_alike
      (f := unwindRecordAt i j (s.lastStage r.kind)) (fun _ => rfl) _), ?_, by simp [hx], by simp [hc], by simp [hf], by simp [hq]⟩
    rw [hu, ha]
    rfl
  refine ⟨fun hcase => ?_, fun hp hfull => ?_⟩
  · obtain ⟨u, own, he, -, ha, hx, hc, hf, -⟩ := hstart (by rw [forwardWork_iff]; tauto)
    obtain ⟨g1, g2⟩ := afterUnwind_goesOn j own (s := u) fun hp => by
      rw [unwindFull_of_record (by rw [ha])]
      rw [ha] at hp
      rcases hcase with h | h | h | h
      · simp [h] at hp
      · simp [h] at hp
      · simp [((silentDescent_iff s).1 h).1] at hp
      · exact h.2
    refine ⟨_, he, by rw [g1, ha], fun hp => ?_⟩
    rw [g2 (by rw [ha]; exact hp)]
    exact ⟨hx, hc, hf⟩
  · obtain ⟨u, own, he, hal, ha, hx, hc, -, hq⟩ := hstart (.inl hp)
    have hend : afterUnwind j own u = closeSettled .aborted u.abortCause (endWork u) := by
      rw [afterUnwind, if_pos (by rw [ha]; exact hp), if_pos (by rw [unwindFull_of_record (by rw [ha])]; exact hfull)]
    rw [hend] at he
    have hew := endWork_alike u
    have hchan : (endWork u).channel = (endWork s).channel :=
      ChannelAlike.endWork ⟨hc, hal.loader, hal.pins, by rw [ha]⟩ (by rw [hx])
    have hk : (endWork u).agreement = u.agreement ∧ (endWork u).request = u.request ∧
        (endWork s).loader = s.loader := by simp
    have hcause : ∀ a, r.abortCause = some a → u.abortCause = abortCauseOf a := fun a h => by
      simp [State.abortCause, ha, h]
    generalize endWork u = v at *
    generalize u.abortCause = c at *
    obtain ⟨kv, kq, kl⟩ := hk
    obtain ⟨c1, c2, c3, -, cx, -, c4, c5, c6⟩ := closeSettled_closes .aborted c (s := v)
      (r := { r with unwind := enterUnwind r.unwind j (s.lastStage r.kind) i }) (by rw [kv, ha])
    have hb : v.agreement.believed = s.agreement.believed := by rw [kv, ha]
    have hlat : v.latched = s.latched := (latched_of_request kq).trans (latched_of_request hq)
    simp only [believedAfter, hb] at c3 c4 c6
    rw [latchAnswers_congr hlat] at c4
    have hall := hal.trans hew
    generalize closeSettled .aborted c v = t at *
    refine ⟨_, he, c1, c3, fun a h => ?_, cx, c5.of_alike hall.toSettlesAlike, c4.before (by rw [kq, hq]) (by rw [kq, hq]),
      fun st hst => ?_⟩
    · rw [← hcause a h]
      exact (c2.of_alike hall).of_record rfl rfl rfl rfl
    · obtain ⟨e1, e2⟩ := c6 st hst
      rw [profileRow_congr hall.loader] at e2
      exact ⟨e1.of_alike hall, e2.of_before hchan (hall.loader.trans kl.symm)⟩

end Sys2Proof.Machine
end


section
/-! PROOF. The forward report that fills stage S (O26). -/

namespace Sys2Proof.Machine

open Sys2Proof

/-! ### The hand-off in MUTE -/

/-- The hand-off outside SETTLED, which leaves the link and the beat debt where the frame is not the station's own. -/
theorem handOff_unsettled_other {f : Frame} {engine : Option Ready → State → State} {s : State} (h : s.takes f.sender)
    (hp : s.agreement.phase ≠ .settled) :
    ∃ s', handOff f engine s = engine (s.ownSending f) s' ∧ HeardOnly f s s' ∧
      (s.ownSending f = none → s'.link = s.link ∧ s'.presence = { s.presence with peers := s'.presence.peers }) := by
  by_cases ho : s.ownSending f = none
  · have ht : HeardOnly f s (touchPeer f s) := touchPeer_heard f hp
    have hd : ownDelivered f none s = s := rfl
    unfold handOff
    rw [if_neg (by simp [h.1])]
    dsimp only
    rw [ho, hd]
    by_cases hi : f.sender = s.me
    · rw [if_pos hi]
      exact ⟨s, rfl, ⟨rfl, fun _ _ => rfl, fun _ => rfl, fun _ _ => rfl, rfl⟩, fun _ => ⟨rfl, rfl⟩⟩
    · rw [if_neg hi, if_neg (by simpa using h.2.resolve_left hi)]
      rw [touchPeer_unsettled f hp] at ht ⊢
      exact ⟨_, rfl, ht, fun _ => ⟨rfl, rfl⟩⟩
  · obtain ⟨s', he, hd⟩ := handOff_unsettled (engine := engine) h hp
    exact ⟨s', he, hd, fun q => absurd q ho⟩

/-- In MUTE no frame but a CENSUS of the station's own is on its way (R139). -/
theorem ownSending_of_mute {s : State} (h : LinkFits s) (hp : s.agreement.phase = .mute) {f : Frame}
    (hk : f.body.kind ≠ .census) : s.ownSending f = none := by
  obtain ⟨-, -, hm⟩ := h
  obtain ⟨-, hs⟩ := hm hp f.body.kind (.inl hk)
  simp [State.ownSending, hs]

theorem LinkFits.congr {s t : State} (h : LinkFits s) (hl : t.link = s.link) (hp : t.agreement.phase = s.agreement.phase)
    (hm : t.presence.muteCause = s.presence.muteCause) : LinkFits t := by
  simpa only [LinkFits, slot_eq_of_link hl, hp, hm] using h

/-! ### The report and the work ended -/

/-- The state in which a forward STAGE that fills stage S closes the transaction. -/
def reportedEnd (i : StationId) (k : Nat) (own : Bool) (s : State) : State := endWork (enterForwardStage i k own s)

theorem afterForward_closes {k : Nat} {own : Bool} {s : State} (hw : s.forwardWork = true)
    (hf : s.forwardFull (s.lastStage s.kind) = true) : afterForward k own s =
      if s.forced then forcedClose (endWork s) else closeSettled .completed s.openingCause (endWork s) := by
  rw [afterForward, if_pos hw, if_pos hf]

/-- What stands as a forward STAGE closes the transaction. -/
theorem reportedEnd_stands (i : StationId) (k : Nat) (own : Bool) {s : State} {r : Record}
    (hr : s.agreement.record = some r) :
    let u := reportedEnd i k own s
    u.agreement = { s.agreement with record := some (forwardReported s i k own r) } ∧ ClosesAlike s u ∧
    u.latched = s.latched ∧ u.request.pulses = s.request.pulses ∧ u.request.result = s.request.result ∧
    u.channel = (endWork s).channel ∧ u.presence = s.presence ∧
    (s.agreement.phase ≠ .staging → u.link = s.link ∧ u.wake = s.wake ∧ u.request = s.request) := by
  obtain ⟨h1, h2, h3, h4⟩ := enterForwardStage_stands i k own hr
  have hk : (enterForwardStage i k own s).channel = s.channel ∧
      (enterForwardStage i k own s).executor.running = s.executor.running ∧
      (enterForwardStage i k own s).request.pulses = s.request.pulses ∧
      (enterForwardStage i k own s).request.result = s.request.result ∧
      (enterForwardStage i k own s).presence = s.presence := by simp
  unfold reportedEnd
  generalize enterForwardStage i k own s = u at *
  obtain ⟨kc, kx, kp, kr, kpr⟩ := hk
  have hch : (endWork u).channel = (endWork s).channel :=
    ChannelAlike.endWork ⟨kc, h2.loader, h2.pins, by rw [h1]⟩ kx
  have he : (endWork u).agreement = u.agreement ∧ (endWork u).request = u.request ∧ (endWork u).presence = u.presence ∧
      (endWork u).link = u.link ∧ (endWork u).wake = u.wake := by simp
  have hal := h2.trans (endWork_alike u)
  generalize endWork u = v at *
  obtain ⟨ea, eq, ep, el, ew⟩ := he
  refine ⟨ea.trans h1, hal, (latched_of_request eq).trans h3, by rw [eq, kp], by rw [eq, kr], hch, ep.trans kpr, fun hn => ?_⟩
  have hu := h4 hn
  refine ⟨el.trans ?_, ew.trans ?_, eq.trans ?_⟩ <;> rw [hu] <;> rfl

theorem restImageAfter_completed (r : Record) (old : Bool) :
    restImageAfter .completed r (some r.kind.target) old = (r.kind == .enterRest && r.imageBacked) := by
  unfold restImageAfter
  cases r.kind <;> simp [Kind.target]

/-- What the hypotheses of O26 say of the delivered report. -/
structure FillsLastStage (i : StationId) (k : Nat) (r : Record) (s : State) : Prop where
  takes : s.takes i
  record : s.agreement.record = some r
  participant : setHas r.participants i = true
  first : 1 ≤ k
  last : k ≤ s.lastStage r.kind
  full : setSubset r.participants (doneAt (enterForward r.forward k i) (s.lastStage r.kind)) = true
  work : s.forwardWork = true

/-- The frame of a forward report. -/
def forwardFrame (i : StationId) (k : Nat) (r : Record) : Frame := ⟨i, r.number, .stage .forward k⟩

theorem system_congr {s t : State} (h : t.loader = s.loader) : t.system = s.system := by simp [State.system, h]

theorem takeForward_closes {i : StationId} {k : Nat} {r : Record} {s s' : State} (h : FillsLastStage i k r s)
    (hd : HeardOnly (forwardFrame i k r) s s') (own : Option Ready) :
    takeForward i r.number k own s' = if r.forced then forcedClose (reportedEnd i k own.isSome s')
      else closeSettled .completed r.openingCause.cause (reportedEnd i k own.isSome s') := by
  obtain ⟨-, -, ha, -, -, -, -, -, hl⟩ := hd.keeps
  have hr' : s'.agreement.record = some r := by rw [ha, h.record]
  have hw' : s'.forwardWork = true := by
    rw [← h.work]
    simp [State.forwardWork, State.silentDescent, State.recordOpen, ha]
  rw [takeForward, if_pos (stageMatches_of_record hr' h.participant h.first
    (by simpa [State.lastStage, system_congr hl] using h.last) (.inr hw'))]
  obtain ⟨e1, e2, -, -⟩ := enterForwardStage_stands i k own.isSome hr'
  obtain ⟨r1, -, -, -, rk, -, -, rf, rp, -, roc, -, ro, -⟩ := forwardReported_stands s' i k own.isSome r
  unfold reportedEnd
  generalize enterForwardStage i k own.isSome s' = u at *
  rw [afterForward_closes]
  · simp [State.forced, State.openingCause, e1, rf, roc]
  · rw [← hw']
    simp [State.forwardWork, State.silentDescent, State.recordOpen, e1, hr', ro]
  · rw [← h.full]
    simp [State.forwardFull, State.participants, State.forwardAt, State.kind, State.lastStage, e1, r1, rp, rk,
      system_congr (e2.loader.trans hl)]

/-- The state in which the delivered report closes the transaction, and what stands there; in MUTE the link does too. -/
theorem forwardReport_closes {i : StationId} {k : Nat} {r : Record} {s : State} (h : FillsLastStage i k r s) :
    ∃ u r', exec (.stageForwardDelivered i r.number k) s = .next (if r.forced then forcedClose u
        else closeSettled .completed r.openingCause.cause u) ∧ ClosesAlike s u ∧
      u.agreement = { s.agreement with record := some r' } ∧ u.latched = s.latched ∧
      u.request.pulses = s.request.pulses ∧ u.request.result = s.request.result ∧ u.channel = (endWork s).channel ∧
      (r'.number = r.number ∧ r'.kind = r.kind ∧ r'.originator = r.originator ∧ r'.openedAt = r.openedAt ∧
        r'.openingCause = r.openingCause ∧ r'.imageBacked = r.imageBacked ∧ r'.participants = r.participants ∧
        r'.missing = r.missing ∧ r'.forward = enterForward r.forward k i) ∧
      (∀ j, j ≠ i → u.peerAt j = s.peerAt j) ∧
      u.presence = { s.presence with peers := u.presence.peers, debt := u.presence.debt } ∧
      (s.agreement.phase = .mute → u.wake = s.wake ∧ u.request = s.request ∧
        (LinkFits s → u.link = s.link ∧ u.presence = { s.presence with peers := u.presence.peers })) := by
  have hns : s.agreement.phase ≠ .settled := by
    have := (forwardWork_iff s).1 h.work
    rw [silentDescent_iff] at this
    rcases this with q | q | q <;> simp [q]
  obtain ⟨s', he, hd, hown⟩ := handOff_unsettled_other (f := forwardFrame i k r) (engine := takeForward i r.number k) h.takes
    hns
  rw [takeForward_closes h hd] at he
  obtain ⟨-, hpi, ha, hx, hc, hw, hq, -, hl⟩ := hd.keeps
  obtain ⟨u1, u2, u3, u4, u5, u6, u7, u8⟩ := reportedEnd_stands i k (s.ownSending (forwardFrame i k r)).isSome (s := s')
    (by rw [ha, h.record])
  obtain ⟨rfw, -, -, rn, rk, ror, rop, -, rp, rm, roc, rim, -, -⟩ := forwardReported_stands s' i k
    (s.ownSending (forwardFrame i k r)).isSome r
  refine ⟨_, forwardReported s' i k (s.ownSending (forwardFrame i k r)).isSome r, congrArg Host.Outcome.next he,
    (hd.alike (by simp [forwardFrame, Body.kind])).trans u2, by rw [u1, ha], u3.trans (latched_of_request hq), by rw [u4, hq],
    by rw [u5, hq], u6.trans (ChannelAlike.endWork ⟨hc, hl, hpi, by rw [ha]⟩ (by rw [hx])),
    ⟨rn, rk, ror, rop, roc, rim, rp, rm, rfw⟩, fun j hj => ?_, u7 ▸ hd.presence, fun hm => ?_⟩
  · rw [← hd.peers j hj, State.peerAt, State.peerAt, u7]
  · obtain ⟨v1, v2, v3⟩ := u8 (by rw [ha]; simp [hm])
    refine ⟨v2.trans hw, v3.trans hq, fun hf => ?_⟩
    obtain ⟨o1, o2⟩ := hown (ownSending_of_mute hf hm (by simp [forwardFrame, Body.kind]))
    exact ⟨v1.trans o1, u7 ▸ o2⟩

/-- Settles O26, from what stands as the report closes (`forwardReport_closes`) and the three closes. -/
theorem lastForwardReportCloses : Obligations.LastForwardReportCloses := by
  intro i k r s ht hr hi h1 hk hfull
  have hew : (endWork s).loader = s.loader := by simp
  have hfills : s.forwardWork = true → FillsLastStage i k r s := fun hw => ⟨ht, hr, hi, h1, hk, hfull, hw⟩
  refine ⟨fun hp hnf => ?_, fun hp hfo => ?_, fun hsd hfo => ?_⟩
  · obtain ⟨u, r', he, hal, ha, hlat, hpu, hre, hch, ⟨rn, rk, ror, rop, -, rim, -⟩, -⟩ :=
      forwardReport_closes (hfills ((forwardWork_iff s).2 (.inl hp)))
    rw [hnf] at he
    obtain ⟨c1, c2, c3, c4, c5, c6, c7, c8, c9⟩ := closeSettled_closes .completed r.openingCause.cause (s := u) (r := r')
      (by rw [ha])
    simp only [believedAfter] at c3 c4 c7 c9
    rw [restImageAfter_completed] at c4
    rw [rk] at c3 c4 c7 c8 c9
    rw [rim] at c4
    rw [latchAnswers_congr hlat] at c7
    obtain ⟨e1, e2⟩ := c9 _ rfl
    rw [profileRow_congr hal.loader] at e2
    exact ⟨_, he, c1, c3, (c2.of_alike hal).of_record rn rk ror rop, c4, c5, c6,
      e2.of_before hch (hal.loader.trans hew.symm), e1.of_alike hal, c8.of_alike hal.toSettlesAlike, c7.before hpu hre⟩
  · obtain ⟨u, r', he, hal, ha, hlat, hpu, hre, hch, ⟨rn, rk, ror, rop, roc, -⟩, -⟩ :=
      forwardReport_closes (hfills ((forwardWork_iff s).2 (.inr (.inl hp))))
    rw [hfo] at he
    obtain ⟨c1, -, c2, c3, c4, c5, -, c6, c7, c8, c9, c10⟩ := forcedClose_closes (s := u) (r := r')
      (by rw [ha]; simp [hp]) (by rw [ha])
    rw [latchAnswers_congr hlat] at c7
    rw [roc] at c2
    rw [profileRow_congr hal.loader] at c10
    rw [system_congr hal.loader] at c6
    exact ⟨_, he, c1, c3, (c2.of_alike hal).of_record rn rk ror rop, c4, c5,
      c10.of_before hch (hal.loader.trans hew.symm), c9.of_alike hal, c8.of_alike hal.toSettlesAlike, c7.before hpu hre, c6⟩
  · obtain ⟨hp, -⟩ := (silentDescent_iff s).1 hsd
    obtain ⟨u, r', he, hal, ha, -, -, -, hch, ⟨rn, rk, ror, rop, roc, -, rp, rm, rfw⟩, hpe, hpr, hmute⟩ :=
      forwardReport_closes (hfills ((forwardWork_iff s).2 (.inr (.inr hsd))))
    obtain ⟨huw, huq, hlf⟩ := hmute hp
    rw [if_pos hfo] at he
    have hup : u.agreement.phase = .mute := by rw [ha]; exact hp
    have hbar : u.presence.muteCause = s.presence.muteCause ∧ u.presence.barring = s.presence.barring := by
      rw [hpr]
      exact ⟨rfl, rfl⟩
    have hcor : (endWork s).channel.corrections = s.channel.corrections := by simp
    have hmiss : (forcedClosed u r').missing = r.missing := by
      have hz : setMinus r'.participants (doneAt r'.forward (u.lastStage r'.kind)) = 0 := by
        rw [rp, rfw, rk, State.lastStage, system_congr hal.loader]
        exact setMinus_of_subset hfull
      simp only [forcedClosed, gathered, Record.closed, hz, rm]
      simp
    obtain ⟨f1, f2, f3, f4, f5, f6, f7, f8, f9, f10, f11⟩ := forcedClose_mute hup (r := r') (by rw [ha])
    have hfit : LinkFits s → LinkFits u := fun h => h.congr (hlf h).1 (by rw [hup, hp]) hbar.1
    rw [hbar.1, hbar.2] at f10 f11
    rw [system_congr hal.loader] at f4 f11
    rw [hal.loader] at f11
    rw [roc] at f1
    refine ⟨_, _, he, (f1.of_alike hal).of_record rn rk ror rop, f2, rfl, hmiss, f3, f4,
      fun h => ?_, by rw [f5, hch], by rw [f6, hch, hcor], fun ch => ?_, fun h => ?_, f11⟩
    · obtain ⟨g1, g2, g3⟩ := f9 (hfit h)
      refine ⟨by rw [g1, huw], by rw [g2, huw], by rw [g3, huq], fun j hj => ?_⟩
      rw [← hpe j hj, State.peerAt, f8, State.peerAt]
    · rw [f7]
      simp only [State.rail, hch]
    · obtain ⟨g1, g2, g3, g4, g5, g6, g7⟩ := f10 h
      refine ⟨g1, g2, by rw [g3, ha], g4, by rw [g5, hch], fun h => ?_⟩
      obtain ⟨k1, k2⟩ := g7 (hfit h)
      refine ⟨k1.trans (hlf h).1, ?_, by rw [← huw]; exact k2⟩
      rw [g6]
      exact (hlf h).2

end Sys2Proof.Machine
end


section
/-! SUPPORT. The owners of the frames as VOTE, STAGE and ABORT are filled and purged: `Tells` (R22, R124, R138). -/

namespace Sys2Proof.Machine

open Sys2Proof

/-! ### What the operations of an open transaction do to the other slots and their owners -/

/-- From one state to another the slots of VOTE, STAGE and ABORT alone changed, and of the owners no more than that the latch
may wait again and the mark may be clear; where every slot held frames of its own kind they were told of nothing. -/
structure Tells (s t : State) : Prop where
  slots : ∀ k, k ≠ .vote → k ≠ .stage → k ≠ .abort → t.slot k = s.slot k
  latch : t.request.latch = s.request.latch ∨ t.request.latch = waits s.request.latch
  mark : t.wake.mark = s.wake.mark ∨ t.wake.mark = none
  queue : t.wake.queue = s.wake.queue
  fits : (∀ k, SlotHolds k (s.slot k)) →
    (∀ k, SlotHolds k (t.slot k)) ∧ t.wake.mark = s.wake.mark ∧ t.request.latch = s.request.latch

theorem Tells.of_eq {s t : State} (hl : t.link = s.link) (hw : t.wake.mark = s.wake.mark) (hq : t.wake.queue = s.wake.queue)
    (hr : t.request.latch = s.request.latch) : Tells s t :=
  ⟨fun k _ _ _ => slot_eq_of_link hl k, .inl hr, .inl hw, hq,
    fun h => ⟨fun k => by rw [slot_eq_of_link hl]; exact h k, hw, hr⟩⟩

theorem Tells.refl (s : State) : Tells s s := .of_eq rfl rfl rfl rfl

theorem Tells.trans {s t u : State} (h : Tells s t) (k : Tells t u) : Tells s u where
  slots := fun j h1 h2 h3 => (k.slots j h1 h2 h3).trans (h.slots j h1 h2 h3)
  latch := by
    rcases h.latch with a | a <;> rcases k.latch with b | b <;> simp [a, b, waits_waits]
  mark := by
    rcases h.mark with a | a <;> rcases k.mark with b | b <;> simp [a, b]
  queue := k.queue.trans h.queue
  fits := fun q => by
    obtain ⟨a1, a2, a3⟩ := h.fits q
    obtain ⟨b1, b2, b3⟩ := k.fits a1
    exact ⟨b1, b2.trans a2, b3.trans a3⟩

theorem Tells.latched {s t : State} (h : Tells s t) : t.latched = s.latched := by
  unfold State.latched
  rcases h.latch with a | a
  · rw [a]
  · rw [a]
    cases s.request.latch <;> rfl

/-- A report on a purged frame may clear the mark and let the latch wait. -/
theorem reportQueued_tells (q : Option Queued) (s : State) :
    ((reportQueued q s).request.latch = s.request.latch ∨ (reportQueued q s).request.latch = waits s.request.latch) ∧
    ((reportQueued q s).wake.mark = s.wake.mark ∨ (reportQueued q s).wake.mark = none) := by
  unfold reportQueued
  split
  · rename_i r
    obtain ⟨h1, h2⟩ := reportPurged_owners r s
    refine ⟨?_, ?_⟩
    · rw [h2]
      split
      · split
        · exact .inl rfl
        · exact .inr rfl
      · exact .inl rfl
    · rw [h1]
      split
      · exact .inr rfl
      · exact .inl rfl
  · exact ⟨.inl rfl, .inl rfl⟩

theorem reportQueued_withSlot (q : Option Queued) (k : FrameKind) (x : Slot) (s : State) :
    (reportQueued q (s.withSlot k x)).wake = (reportQueued q s).wake ∧
    (reportQueued q (s.withSlot k x)).request = (reportQueued q s).request := by
  unfold reportQueued reportPurged latchWaits clearMark
  (repeat' split) <;> simp_all [State.withSlot]

/-- One of the slots of an open transaction is written, and the owner of what it held queued may be told. -/
theorem slot_tells {k : FrameKind} (hk : k = .vote ∨ k = .stage ∨ k = .abort) {s t : State} {x : Slot}
    (hs : ∀ j, t.slot j = (s.withSlot k x).slot j)
    (hown : (t.wake = s.wake ∧ t.request = s.request) ∨ (t.wake = (reportQueued (s.slot k).queued s).wake ∧
      t.request = (reportQueued (s.slot k).queued s).request))
    (hx : SlotHolds k (s.slot k) → SlotHolds k x) : Tells s t := by
  obtain ⟨h1, h2⟩ := reportQueued_tells (s.slot k).queued s
  have hq : (reportQueued (s.slot k).queued s).wake.queue = s.wake.queue := by simp
  refine ⟨fun j j1 j2 j3 => ?_, ?_, ?_, ?_, fun h => ?_⟩
  · rw [hs, slot_withSlot_ne s]
    rintro rfl
    rcases hk with q | q | q
    · exact j1 q
    · exact j2 q
    · exact j3 q
  · rcases hown with ⟨-, q⟩ | ⟨-, q⟩ <;> rw [q]
    · exact .inl rfl
    · exact h1
  · rcases hown with ⟨q, -⟩ | ⟨q, -⟩ <;> rw [q]
    · exact .inl rfl
    · exact h2
  · rcases hown with ⟨q, -⟩ | ⟨q, -⟩ <;> rw [q]
    exact hq
  · have hi : t.wake = s.wake ∧ t.request = s.request := by
      have hi : reportQueued (s.slot k).queued s = s := by
        refine reportQueued_own (h k) ?_ ?_ _ <;> rintro rfl <;> simp at hk
      rw [hi] at hown
      exact hown.elim id id
    refine ⟨fun j => ?_, by rw [hi.1], by rw [hi.2]⟩
    rw [hs]
    by_cases hj : j = k
    · subst hj
      rw [slot_withSlot_same]
      exact hx (h j)
    · rw [slot_withSlot_ne s hj]
      exact h j

theorem purgeKind_tells {k : FrameKind} (hk : k = .vote ∨ k = .stage ∨ k = .abort) (test : Frame → Bool) (s : State) :
    Tells s (purgeKind k test s) := by
  have hx : SlotHolds k (s.slot k) → SlotHolds k
      { queued := if queuedMatches test (s.slot k).queued then none else (s.slot k).queued
        sending := (s.slot k).sending
        rejections := if queuedMatches test (s.slot k).queued then 0 else (s.slot k).rejections
        purgeMark := (s.slot k).purgeMark || sendingMatches test (s.slot k).sending } := by
    rintro ⟨h1, h2, h3⟩
    cases queuedMatches test (s.slot k).queued
    · exact ⟨h1, h2, h3⟩
    · exact ⟨fun r h => (by cases h), fun r h => (by cases h), h3⟩
  refine slot_tells hk (fun j => ?_) ?_ hx
  · simp only [purgeKind]
    split
    · exact slot_eq_of_link (by simp) j
    · rfl
  · simp only [purgeKind]
    split
    · exact .inr (reportQueued_withSlot ..)
    · exact .inl ⟨rfl, rfl⟩

theorem fillFrame_tells {body : Body} (hk : body.kind = .vote ∨ body.kind = .stage ∨ body.kind = .abort) (n : TxnNumber)
    (s : State) : Tells s (fillFrame n body s) := by
  have hx : SlotHolds body.kind (s.slot body.kind) → SlotHolds body.kind
      { s.slot body.kind with
        queued := some (.ready { frame := s.ownFrame n body, forReplaced := false })
        rejections := if (s.slot body.kind).sending.isNone then 0 else (s.slot body.kind).rejections } := by
    rintro ⟨-, -, h3⟩
    refine ⟨fun r h => ?_, fun m h => (by cases h), h3⟩
    cases h
    rfl
  by_cases ht : s.takesFill body.kind = true
  · refine slot_tells hk (fun j => ?_) (.inr ?_) hx
    · by_cases hj : j = body.kind
      · subst hj
        rw [fillFrame, fillSlot_slot_same ht, slot_withSlot_same]
      · rw [fillFrame_slot_ne s hj, slot_withSlot_ne s hj]
    · rw [fillFrame, fillSlot, if_pos ht]
      exact ⟨rfl, rfl⟩
  · have he : fillFrame n body s = s := by
      rw [fillFrame, fillSlot, if_neg ht]
      cases body <;> simp_all [Body.kind, reportQueued, reportPurged, State.ownFrame]
    rw [he]
    exact .refl s

theorem purgeTransaction_tells (n : TxnNumber) (s : State) : Tells s (purgeTransaction n s) :=
  ((purgeKind_tells (by simp) _ s).trans (purgeKind_tells (by simp) _ _)).trans (purgeKind_tells (by simp) _ _)

theorem requestAbort_tells (n : TxnNumber) (reason : AbortReason) (s : State) : Tells s (requestAbort n reason s) := by
  unfold requestAbort
  split
  · exact fillFrame_tells (by simp [Body.kind]) n s
  · exact .refl s

/-! ### The executor -/

/-- What one step of the executor does to the link: nothing, or the fill of a STAGE (R53, R89). -/
theorem execStep_fills (s : State) :
    ((execStep s).1.link = s.link ∧ (execStep s).1.wake = s.wake ∧ (execStep s).1.request = s.request) ∨
    ∃ n d k u, (execStep s).1 = fillFrame n (.stage d k) u ∧ u.link = s.link ∧ u.wake = s.wake ∧ u.request = s.request ∧
      u.loader = s.loader := by
  have hissue : ∀ (r : Running) (x : State × Option Completion), x.1.link = s.link ∧ x.1.wake = s.wake ∧
      x.1.request = s.request → (afterIssue r x).1.link = s.link ∧ (afterIssue r x).1.wake = s.wake ∧
      (afterIssue r x).1.request = s.request := fun r x h => by simpa using h
  unfold execStep
  split
  · exact .inl ⟨rfl, rfl, rfl⟩
  · split
    · split
      · exact .inl (hissue _ _ (by simp))
      · unfold reportStage
        split
        · exact .inl (by simp)
        · exact .inr ⟨_, _, _, _, rfl, rfl, rfl, rfl, rfl⟩
    · split
      · split
        · exact .inl (hissue _ _ (by simp [State.withExecutor]))
        · exact .inr ⟨_, _, _, _, rfl, rfl, rfl, rfl, rfl⟩
      · exact .inr ⟨_, _, _, _, rfl, rfl, rfl, rfl, rfl⟩
    · exact .inl ⟨rfl, rfl, rfl⟩

/-- The executor at work leaves every slot but that of STAGE (R53, R89). -/
theorem execRun_tells (s : State) : Tells s (execRun s) ∧ ∀ k, k ≠ .stage → (execRun s).slot k = s.slot k := by
  refine execRun_induct (p := fun t => Tells s t ∧ ∀ k, k ≠ .stage → t.slot k = s.slot k) (fun t ht => ?_)
    ⟨.refl s, fun _ _ => rfl⟩
  obtain ⟨h1, h2⟩ := ht
  rcases execStep_fills t with ⟨hl, hw, hr⟩ | ⟨n, d, k, u, he, hl, hw, hr, -⟩
  · exact ⟨h1.trans (.of_eq hl (by rw [hw]) (by rw [hw]) (by rw [hr])), fun k hk => (slot_eq_of_link hl k).trans (h2 k hk)⟩
  · rw [he]
    exact ⟨(h1.trans (.of_eq hl (by rw [hw]) (by rw [hw]) (by rw [hr]))).trans (fillFrame_tells (by simp [Body.kind]) n u),
      fun j hj => ((fillFrame_slot_ne u hj n).trans (slot_eq_of_link hl j)).trans (h2 j hj)⟩

theorem execStart_tells (s : State) : Tells s (execStart s) ∧ ∀ k, k ≠ .stage → (execStart s).slot k = s.slot k :=
  ⟨(Tells.of_eq rfl rfl rfl rfl : Tells s (beginStage 1 (s.withExecutor Executor.idle))).trans (execRun_tells _).1,
    (execRun_tells (beginStage 1 (s.withExecutor Executor.idle))).2⟩

theorem commit_tells (s : State) : Tells s (commit s) := by
  unfold commit
  dsimp only
  refine Tells.trans ?_ (purgeKind_tells (k := .abort) (by simp) _ _)
  exact .of_eq (by simp [State.withExecutor]) (by simp [State.withExecutor]) (by simp [State.withExecutor])
    (by simp [State.withExecutor])

theorem commitAtStart_tells (s : State) : Tells s (commitAtStart s) := by
  unfold commitAtStart
  split
  · exact commit_tells s
  · exact .refl s

end Sys2Proof.Machine
end


section
/-! PROOF. The VOTE that decides (O24). -/

namespace Sys2Proof.Machine

open Sys2Proof

/-! ### Streaks -/

theorem streakOf_setStreak (t : PerProposal Nat) {k : Kind} (n : Nat) (h : k.isWake = false ∨ n = 0) :
    streakOf (setStreak t k n) k = n := by
  cases k <;> simp_all [streakOf, setStreak, Kind.isWake]

theorem writeStreak_agreement (n : Nat) {s : State} {r : Record} (hr : s.agreement.record = some r) :
    (writeStreak n s).agreement = { s.agreement with streaks := setStreak s.agreement.streaks r.kind n } := by
  simp [writeStreak, State.kind, hr, State.withAgreement]

theorem writeStreak_alike (n : Nat) (s : State) : ClosesAlike s (writeStreak n s) :=
  .of_fields rfl rfl rfl rfl rfl rfl (fun _ h => h) rfl rfl rfl rfl rfl rfl

/-! ### The vote entered -/

/-- The state at the tally of a VOTE: the answer written, and a peer's miss count cleared (R33, R38). -/
def votedState (i : StationId) (a : Answer) (r : Record) (s : State) : State :=
  (if i = s.me then s else clearMisses i s).withRecord (writeVote i a r)

theorem votedState_stands (i : StationId) (a : Answer) {r : Record} {s : State} (hr : s.agreement.record = some r) :
    let u := votedState i a r s
    u.agreement = { s.agreement with record := some { r with votes := tabSet r.votes i (some a) } } ∧ ClosesAlike s u ∧
    u.link = s.link ∧ u.request = s.request ∧ u.channel = s.channel := by
  have ha : (clearMisses i s).agreement = s.agreement := rfl
  unfold votedState
  split
  · exact ⟨rfl, .of_fields rfl rfl (by simp [State.participants, State.withRecord, hr, writeVote]) rfl rfl
      rfl (fun _ h => h) rfl rfl rfl rfl rfl rfl, rfl, rfl, rfl⟩
  · exact ⟨rfl, .of_fields rfl rfl (by simp [State.participants, State.withRecord, hr, writeVote]) rfl rfl
      rfl (fun _ h => h) rfl rfl rfl rfl rfl rfl, rfl, rfl, rfl⟩

/-- The first matching VOTE of an awaited participant comes to the tally. -/
theorem voteDelivered_tallies {i : StationId} {a : Answer} {r : Record} {s : State} (ht : s.takes i)
    (hp : s.agreement.phase = .voting) (hr : s.agreement.record = some r) (hm : r.matches r.number i = true)
    (hi : i ≠ r.originator) (hv : tabGet r.votes i = none) :
    ∃ u, exec (.voteDelivered i r.number a) s = .next (tally i a u) ∧
      u.agreement = { s.agreement with record := some { r with votes := tabSet r.votes i (some a) } } ∧ ClosesAlike s u ∧
      u.slot .abort = s.slot .abort ∧ u.request = s.request ∧ u.channel = s.channel := by
  obtain ⟨s', he, hd⟩ := handOff_unsettled (f := ⟨i, r.number, .vote a⟩) (engine := fun _ => takeVote i r.number a) ht
    (by simp [hp])
  obtain ⟨-, -, ha, -, hc, -, hq, -, -⟩ := hd.keeps
  obtain ⟨v1, v2, v3, v4, v5⟩ := votedState_stands i a (s := s') (r := r) (by rw [ha, hr])
  have htake : takeVote i r.number a s' = tally i a (votedState i a r s') := by
    unfold takeVote
    rw [ha, hp, hr]
    simp [hm, hi, hv, votedState]
  rw [htake] at he
  exact ⟨_, congrArg Host.Outcome.next he, by rw [v1, ha], (hd.alike (by simp [Body.kind])).trans v2,
    (slot_eq_of_link v3 _).trans (hd.slots _ (by simp [Body.kind])), v4.trans hq, v5.trans hc⟩

/-! ### DECLINED and DEFERRED -/

/-- The tally DECLINED (R34). -/
theorem declineTally_closes (d : DeclineReason) {s : State} {r : Record} (hr : s.agreement.record = some r) :
    let t := declineTally d s
    t.agreement.phase = .settled ∧ Archived s t r .declined (declineCause d) ∧ streakOf t.agreement.streaks r.kind = 0 ∧
    t.agreement.believed = s.agreement.believed ∧ t.request.underVote = none ∧
    Answered s t .low (answersFor s.request.underVote + latchAnswers s.agreement.believed s.request.latch) ∧
    Settled (some (r.kind, .declined)) s t ∧
    ∀ st, s.agreement.believed = some st → Evaluated s t st ∧ Corrected s t (s.profileRow st) := by
  have hw := writeStreak_agreement 0 hr
  have hal := (writeStreak_alike 0 s).trans (answerUnderVote_alike .low (writeStreak 0 s))
  have hans := answerUnderVote_answered .low (writeStreak 0 s)
  have habs := answerUnderVote_absent .low (writeStreak 0 s)
  have hag : (answerUnderVote .low (writeStreak 0 s)).agreement = (writeStreak 0 s).agreement := by simp
  have hl : (answerUnderVote .low (writeStreak 0 s)).latched = s.latched := by simp [State.latched]
  have hc : (answerUnderVote .low (writeStreak 0 s)).channel = s.channel := by simp
  unfold declineTally
  dsimp only
  generalize answerUnderVote .low (writeStreak 0 s) = u at *
  have hu : u.agreement.record = some r := by rw [hag, hw]; exact hr
  have hb : u.agreement.believed = s.agreement.believed := by rw [hag, hw]
  obtain ⟨c1, c2, c3, -, -, -, c4, c5, c6⟩ := closeSettled_closes .declined (declineCause d) hu
  have hk : (closeSettled .declined (declineCause d) u).agreement.streaks = u.agreement.streaks ∧
      (closeSettled .declined (declineCause d) u).request.underVote = u.request.underVote := by simp
  generalize closeSettled .declined (declineCause d) u = t at *
  obtain ⟨k1, k2⟩ := hk
  simp only [believedAfter, hb] at c3 c4 c6
  rw [latchAnswers_congr hl] at c4
  refine ⟨c1, c2.of_alike hal, ?_, c3, k2.trans habs, hans.trans c4, c5.of_alike hal.toSettlesAlike, fun st hst => ?_⟩
  · rw [k1, hag, hw]
    exact streakOf_setStreak _ 0 (.inr rfl)
  · obtain ⟨e1, e2⟩ := c6 st hst
    rw [profileRow_congr hal.loader] at e2
    exact ⟨e1.of_alike hal, e2.of_before hc hal.loader⟩

/-- In RUN a close DEFERRED of an entry kind leaves the latch: the defer hold that it starts holds a request back (R21, R28). -/
theorem settleSignal_deferred {k : Kind} {s : State} (hp : s.agreement.phase = .settled)
    (hb : s.agreement.believed = some .run) (hk : k.isEntry = true) :
    (settleSignal (some (k, .deferred)) s).request.latch = s.request.latch := by
  obtain ⟨-, -, -, hrun⟩ := settleWake_settled (some (k, TxnOutcome.deferred)) hp
  obtain ⟨-, hw⟩ := hrun hb
  have hwb : (settleWake (some (k, .deferred)) s).agreement = s.agreement := by simp
  have hr : (settleSignal (some (k, .deferred)) s).request =
      (settleRequest (some (k, .deferred)) (settleWake (some (k, .deferred)) s)).request := by
    have := (settlePeers_settled
      (s := recomputeBeat (settleRequest (some (k, .deferred)) (settleWake (some (k, .deferred)) s))) (by simpa using hp)).1.2.1
    rw [settleSignal_eq, (show ∀ b u, (settleChannel b u).request = u.request by simp)]
    exact this.trans (by simp)
  rw [hr, ← hw]
  generalize settleWake (some (k, .deferred)) s = u at *
  have hhold : (settleDeferHold (some (k, .deferred)) (settleAwake (some (k, .deferred)) u)).mayPropose = false := by
    simp [State.mayPropose, settleDeferHold, hk, settleAwake, State.withRequest]
  have hpw : (settleDeferHold (some (k, .deferred)) (settleAwake (some (k, .deferred)) u)).agreement.phase = .settled := by
    simp [hwb, hp]
  rw [settleRequest, if_pos (by simp [hwb, hb]), (testPropose_proposes hpw).2.1 hhold]
  simp

theorem becomeSettled_deferred {k : Kind} {s : State} (hb : s.agreement.believed = some .run) (hk : k.isEntry = true) :
    (becomeSettled (some (k, .deferred)) s).request.latch = s.request.latch :=
  settleSignal_deferred (s := s.withPhase .settled) rfl hb hk

/-- At DEFERRED the request under vote returns to an absent latch, or is answered low (R23). -/
theorem deferUnderVote_stands (s : State) :
    let u := deferUnderVote s
    ClosesAlike s u ∧ u.agreement = s.agreement ∧ u.channel = s.channel ∧ u.request.underVote = none ∧
    (∀ q, s.request.underVote = some q → s.request.latch = none →
      u.request.latch = some ⟨q, false⟩ ∧ Answered s u .low 0) ∧
    (s.request.underVote = none ∨ s.request.latch.isSome = true →
      u.latched = s.latched ∧ Answered s u .low (answersFor s.request.underVote)) := by
  unfold deferUnderVote
  split
  · rename_i q hq hl
    refine ⟨.of_fields rfl rfl rfl rfl rfl rfl (fun l h => ?_) rfl rfl rfl rfl rfl rfl, rfl, rfl, rfl, fun q' h _ => ?_,
      fun h => ?_⟩
    · rw [hl] at h
      cases h
    · rw [hq] at h
      cases h
      exact ⟨rfl, rfl, rfl⟩
    · simp [hq, hl] at h
  · rename_i hn
    refine ⟨answerUnderVote_alike .low s, by simp, by simp, answerUnderVote_absent .low s, fun q h1 h2 => ?_, fun _ => ?_⟩
    · exact absurd h2 (hn q h1)
    · exact ⟨by simp [State.latched], answerUnderVote_answered .low s⟩

/-- The tally DEFERRED (R28, R34, R35). -/
theorem deferTally_closes {s : State} {r : Record} (hr : s.agreement.record = some r) (hk : r.kind.isWake = false) :
    let t := deferTally s
    t.agreement.phase = .settled ∧ Archived s t r .deferred .inhibit ∧
    streakOf t.agreement.streaks r.kind = streakOf s.agreement.streaks r.kind + 1 ∧
    t.agreement.believed = s.agreement.believed ∧ t.request.underVote = none ∧ Settled (some (r.kind, .deferred)) s t ∧
    (∀ st, s.agreement.believed = some st → Evaluated s t st ∧ Corrected s t (s.profileRow st)) ∧
    (s.agreement.believed = some .run → r.kind.isEntry = true → t.request.deferHold = some s.system.deferHold ∧
      (∀ q, s.request.underVote = some q → s.request.latch = none →
        t.request.latch = some ⟨q, false⟩ ∧ Answered s t .low 0) ∧
      (s.request.underVote = none ∨ s.request.latch.isSome = true →
        t.request.latch.map Latch.request = s.request.latch.map Latch.request ∧
        Answered s t .low (answersFor s.request.underVote))) := by
  have hsk : s.kind = r.kind := by simp [State.kind, hr]
  have hw := writeStreak_agreement (streakOf s.agreement.streaks r.kind + 1) hr
  have hwal := writeStreak_alike (streakOf s.agreement.streaks r.kind + 1) s
  have hwr : (writeStreak (streakOf s.agreement.streaks r.kind + 1) s).request = s.request ∧
      (writeStreak (streakOf s.agreement.streaks r.kind + 1) s).channel = s.channel := ⟨rfl, rfl⟩
  unfold deferTally
  dsimp only
  rw [hsk]
  generalize writeStreak (streakOf s.agreement.streaks r.kind + 1) s = w at *
  obtain ⟨hwr, hwc⟩ := hwr
  obtain ⟨d1, d2, d3, d4, d5, d6⟩ := deferUnderVote_stands w
  generalize deferUnderVote w = u at *
  rw [hwr] at d5 d6
  have hal := hwal.trans d1
  have hu : u.agreement.record = some r := by rw [d2, hw]; exact hr
  have hb : u.agreement.believed = s.agreement.believed := by rw [d2, hw]
  obtain ⟨c1, c2, c3, -, -, -, c4, c5, c6⟩ := closeSettled_closes .deferred .inhibit hu
  have hkeep : (closeSettled .deferred .inhibit u).agreement.streaks = u.agreement.streaks ∧
      (closeSettled .deferred .inhibit u).request.underVote = u.request.underVote := by simp
  have hlatch : s.agreement.believed = some .run → r.kind.isEntry = true →
      (closeSettled .deferred .inhibit u).request.latch = (closeTransaction .deferred .inhibit true u).request.latch :=
    fun hrun he => by
      have hcb := (closeTransaction_belief .deferred .inhibit true hu).1
      simp only [believedAfter, hb, hrun] at hcb
      rw [closeSettled, show u.kind = r.kind by simp [State.kind, hu]]
      exact becomeSettled_deferred hcb he
  have hclo := (closeTransaction_alike .deferred .inhibit true u).latch
  have hcll := closeTransaction_latched .deferred .inhibit true u
  generalize closeTransaction .deferred .inhibit true u = v at *
  generalize closeSettled .deferred .inhibit u = t at *
  obtain ⟨k1, k2⟩ := hkeep
  simp only [believedAfter, hb] at c3 c4 c6
  have hset := c5.of_alike hal.toSettlesAlike
  refine ⟨c1, c2.of_alike hal, ?_, c3, k2.trans d4, hset, fun st hst => ?_, fun hrun he => ?_⟩
  · rw [k1, d2, hw]
    exact streakOf_setStreak _ _ (.inl hk)
  · obtain ⟨e1, e2⟩ := c6 st hst
    rw [profileRow_congr hal.loader] at e2
    exact ⟨e1.of_alike hal, e2.of_before (d3.trans hwc) hal.loader⟩
  · obtain ⟨-, -, ⟨-, -, -, hreq⟩, -⟩ := hset
    obtain ⟨hhold, -⟩ := hreq (c3.trans hrun)
    have hlt := hlatch hrun he
    have hz : latchAnswers s.agreement.believed u.request.latch = 0 := if_pos hrun
    rw [hz] at c4
    refine ⟨hhold r.kind rfl he, fun q hq hl => ?_, fun hc => ?_⟩
    · obtain ⟨h1, h2⟩ := d5 q hq hl
      refine ⟨hlt.trans (hclo _ h1 rfl), (h2.trans c4).before (by rw [hwr]) (by rw [hwr])⟩
    · obtain ⟨h1, h2⟩ := d6 hc
      refine ⟨?_, (h2.trans c4).before (by rw [hwr]) (by rw [hwr])⟩
      rw [hlt]
      exact hcll.trans (h1.trans (latched_of_request hwr))

end Sys2Proof.Machine
end


section
/-! PROOF. The VOTE that accepts, and with it the VOTE that decides (O24). -/

namespace Sys2Proof.Machine

open Sys2Proof

/-! ### ACCEPTED -/

/-- The record of a transaction accepted, committed at once where C of its kind is 0 (R11, R12). -/
def committedAtStart (s : State) (r : Record) : Record :=
  if s.commitStage r.kind = 0 then { r with committed := true, committedAt := some s.time } else r

theorem commitStage_congr {s t : State} (h : t.loader = s.loader) (k : Kind) : t.commitStage k = s.commitStage k := by
  simp [State.commitStage, system_congr h]

theorem committedAtStart_congr {s t : State} (hl : t.loader = s.loader) (ht : t.time = s.time) (r : Record) :
    committedAtStart t r = committedAtStart s r := by
  unfold committedAtStart
  rw [commitStage_congr hl, ht]

theorem commitAtStart_agreement {s : State} {r : Record} (hr : s.agreement.record = some r) :
    (commitAtStart s).agreement = { s.agreement with record := some (committedAtStart s r) } := by
  have hk : s.kind = r.kind := by simp [State.kind, hr]
  unfold commitAtStart committedAtStart
  rw [hk]
  split
  · exact commit_agreement hr
  · rw [← hr]

theorem committedAtStart_committed (s : State) {r : Record} (h : r.committed = false) :
    (committedAtStart s r).committed = true ↔ s.commitStage r.kind = 0 := by
  unfold committedAtStart
  split <;> simp_all

theorem renewWakeAbort_tells (x : Option (Fin 8)) (s : State) : Tells s (renewWakeAbort x s) := by
  unfold renewWakeAbort
  split
  · split
    · exact .refl s
    · exact requestAbort_tells _ _ s
  · exact .refl s

theorem acceptedVote_stands (s : State) :
    (acceptedVote s).link = s.link ∧ (acceptedVote s).latched = s.latched ∧ (acceptedVote s).request.underVote = none ∧
    Answered s (acceptedVote s) .high (answersFor s.request.underVote) := by
  have hk : ((stopVoteTimers (writeStreak 0 s)).onRecord fun r =>
      { r with outcome := .accepted, acceptedAt := some (stopVoteTimers (writeStreak 0 s)).time }).request = s.request := by simp
  refine ⟨by simp [acceptedVote], ?_, answerUnderVote_absent .high _, ?_⟩
  · exact latched_of_request (s := s) (t := (stopVoteTimers (writeStreak 0 s)).onRecord fun r =>
      { r with outcome := .accepted, acceptedAt := some (stopVoteTimers (writeStreak 0 s)).time }) hk ▸
      (by simp [acceptedVote, State.latched])
  · have := answerUnderVote_answered .high ((stopVoteTimers (writeStreak 0 s)).onRecord fun r =>
      { r with outcome := .accepted, acceptedAt := some (stopVoteTimers (writeStreak 0 s)).time })
    rw [hk] at this
    exact this.before (by rw [hk]) (by rw [hk])

theorem acceptedStaging_tells (s : State) : Tells (acceptedVote s) (acceptedStaging s) :=
  ((purgeKind_tells (k := .vote) (by simp) _ _).trans (purgeKind_tells (k := .abort) (by simp) _ _)).trans
    (.of_eq rfl rfl rfl rfl)

/-- The agreement engine and the owners at ACCEPTED (R11, R23, R34). -/
theorem accept_accepts {s : State} {r : Record} (hr : s.agreement.record = some r) :
    let t := accept s
    let r' := committedAtStart s { r with outcome := .accepted, acceptedAt := some s.time }
    t.agreement = { s.agreement with
      phase := .staging, record := some r', streaks := setStreak s.agreement.streaks r.kind 0
      voteWindow := none, voteGuard := none } ∧
    Tells (acceptedVote s) t ∧ t.request.underVote = none ∧ Answered s t .high (answersFor s.request.underVote) := by
  obtain ⟨-, -, a3, a4⟩ := acceptedVote_stands s
  have hag := acceptedStaging_agreement s
  rw [hr, show s.kind = r.kind by simp [State.kind, hr]] at hag
  have hst := acceptedStaging_tells s
  have hk : (acceptedStaging s).time = s.time ∧ (acceptedStaging s).loader = s.loader ∧
      (acceptedStaging s).request.underVote = (acceptedVote s).request.underVote ∧
      (acceptedStaging s).request.pulses = (acceptedVote s).request.pulses ∧
      (acceptedStaging s).request.result = (acceptedVote s).request.result := by
    simp [acceptedStaging, acceptedVote, State.withPhase]
  rw [accept_eq]
  dsimp only
  generalize (acceptedVote s).queuedWakeAbort (acceptedVote s).openNumber = x
  generalize acceptedVote s = A at *
  generalize acceptedStaging s = u at *
  obtain ⟨k1, k2, k3, k4, k5⟩ := hk
  have hca := commitAtStart_agreement (s := u) (r := { r with outcome := .accepted, acceptedAt := some s.time })
    (by rw [hag]; rfl)
  have hcr : committedAtStart u { r with outcome := .accepted, acceptedAt := some s.time } =
      committedAtStart s { r with outcome := .accepted, acceptedAt := some s.time } := committedAtStart_congr k2 k1 _
  rw [hcr] at hca
  refine ⟨?_, ((hst.trans (commitAtStart_tells u)).trans (renewWakeAbort_tells x _)).trans (execStart_tells _).1, ?_, ?_⟩
  · have : (execStart (renewWakeAbort x (commitAtStart u))).agreement = (commitAtStart u).agreement := by simp
    rw [this, hca, hag]
  · simp [k3, a3]
  · exact a4.after (by simp [k4]) (by simp [k5])

theorem purgeNumber_absent {k : FrameKind} {s : State} (h : (s.slot k).queued = none) (n : TxnNumber) :
    ((purgeNumber k n s).slot k).queued = none := by
  rw [purgeNumber, purgeKind_slot_same, h]
  simp [queuedMatches]

theorem commit_abort_absent {s : State} (h : (s.slot .abort).queued = none) : ((commit s).slot .abort).queued = none := by
  unfold commit
  refine purgeNumber_absent ?_ _
  rw [slot_eq_of_link (s := s) (by simp [State.withExecutor])]
  exact h

/-- The ABORT that is queued with the number at ACCEPTED is purged, but for an ABORT(WAKE), which is requested again before
commit (R81, R138). -/
theorem accept_abort {s : State} {r : Record} (hr : s.agreement.record = some r) {q : Ready}
    (hq : (s.slot .abort).queued = some (.ready q)) (hn : q.frame.number = r.number) :
    (∀ x, q.frame.body = .abort (.wake x) → r.committed = false → 1 ≤ s.commitStage r.kind →
      (accept s).hasQueued .abort r.number (.abort (.wake x))) ∧
    (q.frame.body = .abort .noQuorum ∨ q.frame.body = .abort .timeout ∨ s.commitStage r.kind = 0 →
      ((accept s).slot .abort).queued = none) := by
  obtain ⟨a1, -, -, -⟩ := acceptedVote_stands s
  have hnum : (acceptedVote s).openNumber = r.number := by simp [State.openNumber, acceptedVote_record, hr]
  have hsl : ((acceptedVote s).slot .abort).queued = some (.ready q) := by rw [slot_eq_of_link a1]; exact hq
  have hag := acceptedStaging_agreement s
  rw [hr, show s.kind = r.kind by simp [State.kind, hr]] at hag
  have hgone : ((acceptedStaging s).slot .abort).queued = none := by
    have hv : ((purgeNumber .vote r.number (acceptedVote s)).slot .abort).queued = some (.ready q) := by
      rw [purgeNumber, purgeKind_slot_ne _ (by simp)]
      exact hsl
    have : (acceptedStaging s).slot .abort =
        (purgeNumber .abort r.number (purgeNumber .vote r.number (acceptedVote s))).slot .abort := by
      rw [acceptedStaging, hnum]
      rfl
    rw [this, purgeNumber, purgeKind_slot_same, hv]
    simp [queuedMatches, hn]
  have hk : (acceptedStaging s).loader = s.loader ∧ (acceptedStaging s).time = s.time := by
    simp [acceptedStaging, acceptedVote, State.withPhase]
  have hwake : (∀ x, q.frame.body = .abort (.wake x) →
      (acceptedVote s).queuedWakeAbort (acceptedVote s).openNumber = some x) ∧
      (q.frame.body = .abort .noQuorum ∨ q.frame.body = .abort .timeout →
        (acceptedVote s).queuedWakeAbort (acceptedVote s).openNumber = none) := by
    refine ⟨fun x hb => ?_, fun hb => ?_⟩
    · simp [State.queuedWakeAbort, hsl, hnum, hn, hb]
    · rcases hb with hb | hb <;> simp [State.queuedWakeAbort, hsl, hb]
  rw [accept_eq]
  generalize (acceptedVote s).queuedWakeAbort (acceptedVote s).openNumber = z at *
  obtain ⟨z1, z2⟩ := hwake
  generalize acceptedStaging s = u at *
  obtain ⟨k1, k2⟩ := hk
  have hur : u.agreement.record = some { r with outcome := .accepted, acceptedAt := some s.time } := by rw [hag]; rfl
  have hca := commitAtStart_agreement hur
  have hcs : ∀ k, u.commitStage k = s.commitStage k := commitStage_congr k1
  have hc : ((commitAtStart u).slot .abort).queued = none := by
    unfold commitAtStart
    split
    · exact commit_abort_absent hgone
    · exact hgone
  have hcn : (commitAtStart u).openNumber = r.number := by
    simp only [State.openNumber, hca, committedAtStart]
    split <;> rfl
  have hcm : (commitAtStart u).committed = if s.commitStage r.kind = 0 then true else r.committed := by
    simp only [State.committed, hca, committedAtStart, hcs]
    split <;> rfl
  have hph : (commitAtStart u).agreement.phase = .staging := by rw [hca, hag]
  have hcl : (commitAtStart u).loader = s.loader := by simp [k1]
  generalize commitAtStart u = v at *
  refine ⟨fun x hx hnc hst => ?_, fun h => ?_⟩
  · have hnv : v.committed = false := by
      rw [hcm, if_neg (by omega)]
      exact hnc
    have he : renewWakeAbort (some x) v = fillFrame r.number (.abort (.wake x)) v := by
      simp [renewWakeAbort, requestAbort, hcn, hc, passesAbort, hnv]
    rw [z1 x hx, he]
    have hf := fillFrame_hasQueued (s := v) (body := .abort (.wake x)) (takesFill_of_phase (by simp [hph]) _) r.number
    simp only [State.hasQueued, (execStart_tells _).2 .abort (by simp)]
    simp only [State.hasQueued, Body.kind] at hf
    rw [hf]
    simp [State.ownReady, State.ownFrame, State.me]
  · rw [(execStart_tells _).2 .abort (by simp)]
    rw [← or_assoc] at h
    rcases h with h | h
    · rw [z2 h]
      exact hc
    · unfold renewWakeAbort
      split
      · rw [hcm, if_pos h]
        exact hc
      · exact hc

theorem tally_decline {i : StationId} (d : DeclineReason) {s : State} {r : Record} (hr : s.agreement.record = some r)
    (hi : setHas r.awaited i = true) : tally i (.decline d) s = declineTally d s := by
  simp [tally, hr, hi]

theorem tally_full {i : StationId} {a : Answer} {s : State} {r : Record} (hr : s.agreement.record = some r)
    (hi : setHas r.awaited i = true) (ha : ∀ d, a ≠ .decline d) (hall : r.allVoted = true) : tally i a s = fullTally r s := by
  cases a with
  | decline d => exact absurd rfl (ha d)
  | accept => simp [tally, hr, hi, hall]
  | defer => simp [tally, hr, hi, hall]

/-- Settles O24, from the three outcomes of the tally: `declineTally_closes`, `accept_accepts` with `accept_abort`, and
`deferTally_closes`. -/
theorem voteDecides : Obligations.VoteDecides := by
  intro i a r r' s ht hp hr hm hi haw hv hr'
  obtain ⟨u, he, ha, hal, hab, hq, hc⟩ := voteDelivered_tallies (a := a) ht hp hr hm hi hv
  rw [← hr'] at ha
  have hkind : r'.kind = r.kind ∧ r'.number = r.number ∧ r'.originator = r.originator ∧ r'.openedAt = r.openedAt ∧
      r'.awaited = r.awaited ∧ r'.committed = r.committed := by rw [hr']; exact ⟨rfl, rfl, rfl, rfl, rfl, rfl⟩
  obtain ⟨hrk, hrn, hro, hrt, hrw, hrc⟩ := hkind
  have hur : u.agreement.record = some r' := by rw [ha]
  have hub : u.agreement.believed = s.agreement.believed := by rw [ha]
  have hus : u.agreement.streaks = s.agreement.streaks := by rw [ha]
  have haw' : setHas r'.awaited i = true := by rw [hrw]; exact haw
  have hclose : ∀ {t st}, Evaluated u t st ∧ Corrected u t (u.profileRow st) →
      Evaluated s t st ∧ Corrected s t (s.profileRow st) := fun {t st} h => by
    rw [profileRow_congr hal.loader] at h
    exact ⟨h.1.of_alike hal, h.2.of_before hc hal.loader⟩
  refine ⟨fun d hd => ?_, fun hd hall hcond => ?_, fun hd hall hdef hlt hkw => ?_⟩
  · rw [hd, tally_decline d hur haw'] at he
    rw [hd]
    obtain ⟨c1, c2, c3, c4, c5, c6, c7, c8⟩ := declineTally_closes d hur
    rw [hrk] at c3 c7
    rw [hub] at c4 c6 c8
    rw [hq] at c6
    exact ⟨_, he, c1, (c2.of_alike hal).of_record hrn hrk hro hrt, c3, c4, c5, c6.before (by rw [hq]) (by rw [hq]),
      c7.of_alike hal.toSettlesAlike, fun st hst => hclose (c8 st hst)⟩
  · rw [tally_full hur haw' hd hall, fullTally, if_neg (by rw [hus, hrk]; rcases hcond with h | h <;> simp [h])] at he
    obtain ⟨c1, c2, c3, c4⟩ := accept_accepts hur
    have hl : (accept u).latched = s.latched :=
      (c2.latched.trans (acceptedVote_stands u).2.1).trans (latched_of_request hq)
    have hcom : (committedAtStart u { r' with outcome := .accepted, acceptedAt := some u.time }).outcome = .accepted ∧
        (committedAtStart u { r' with outcome := .accepted, acceptedAt := some u.time }).acceptedAt = some u.time ∧
        (committedAtStart u { r' with outcome := .accepted, acceptedAt := some u.time }).number = r'.number ∧
        (committedAtStart u { r' with outcome := .accepted, acceptedAt := some u.time }).votes = r'.votes := by
      unfold committedAtStart
      split <;> exact ⟨rfl, rfl, rfl, rfl⟩
    obtain ⟨m1, m2, m3, m4⟩ := hcom
    rw [hq] at c4
    refine ⟨_, _, he, by rw [c1], by rw [c1], m1, m2.trans (congrArg some hal.time), m3.trans hrn, m4, ?_, by rw [c1], by rw [c1], c3, hl,
      c4.before (by rw [hq]) (by rw [hq]), fun q hqq hn => ?_⟩
    · rw [c1, hrk]
      exact streakOf_setStreak _ 0 (.inr rfl)
    · have := accept_abort hur (by rw [hab]; exact hqq) (hn.trans hrn.symm)
      rwa [hrk, hrn, hrc, commitStage_congr hal.loader] at this
  · rw [tally_full hur haw' hd hall, fullTally, if_pos (by rw [hus, hrk]; simp [hdef, hlt])] at he
    obtain ⟨c1, c2, c3, c4, c5, c6, c7, c8⟩ := deferTally_closes hur (by rw [hrk]; exact hkw)
    rw [hrk] at c3 c6 c8
    rw [hub] at c4 c7 c8
    rw [hus] at c3
    rw [hq, system_congr hal.loader] at c8
    refine ⟨_, he, c1, (c2.of_alike hal).of_record hrn hrk hro hrt, c3, c4, c5, c6.of_alike hal.toSettlesAlike,
      fun st hst => hclose (c7 st hst), fun hb hen => ?_⟩
    obtain ⟨e1, e2, e3⟩ := c8 hb hen
    refine ⟨e1, fun q h1 h2 => ?_, fun h => ?_⟩
    · obtain ⟨f1, f2⟩ := e2 q h1 h2
      exact ⟨f1, f2.before (by rw [hq]) (by rw [hq])⟩
    · obtain ⟨f1, f2⟩ := e3 h
      exact ⟨f1, f2.before (by rw [hq]) (by rw [hq])⟩

end Sys2Proof.Machine
end


section
/-! SUPPORT. What an opening leaves of the slots, their owners and the agreement engine, from the state before the delivery:
`handOff_hears`, `openTransaction_opens` (R10, R22, R124, R142). -/

namespace Sys2Proof.Machine

open Sys2Proof

/-! ### Before the opening -/

/-- What may have come about before an opening without a change of what is said of its purges: the slots of PROPOSE and WAKE
stand, but that an announcement may be queued where the mark was clear, and of the owners no more than that the latch may wait
and the mark may be clear. -/
structure LeadsTo (s u : State) : Prop where
  propose : (u.slot .propose).queued = (s.slot .propose).queued
  wake : (u.slot .wake).queued = (s.slot .wake).queued ∨
    (s.wake.mark = none ∧ ∃ r w x, (u.slot .wake).queued = some (.ready r) ∧ r.frame.body = .wake w x)
  latch : u.request.latch = s.request.latch ∨ u.request.latch = waits s.request.latch
  queue : u.wake.queue = s.wake.queue
  fits : (∀ k, SlotHolds k (s.slot k)) → (∀ k, SlotHolds k (u.slot k)) ∧
    ((∀ r, (u.slot .wake).queued ≠ some (.ready r)) → u.wake.mark = s.wake.mark)

theorem LeadsTo.refl (s : State) : LeadsTo s s := ⟨rfl, .inl rfl, .inl rfl, rfl, fun h => ⟨h, fun _ => rfl⟩⟩

theorem LeadsTo.tells {s u v : State} (h : LeadsTo s u) (k : Tells u v) : LeadsTo s v where
  propose := by rw [k.slots _ (by simp) (by simp) (by simp)]; exact h.propose
  wake := by rw [k.slots _ (by simp) (by simp) (by simp)]; exact h.wake
  latch := by
    rcases h.latch with a | a <;> rcases k.latch with b | b <;> simp [a, b, waits_waits]
  queue := k.queue.trans h.queue
  fits := fun q => by
    obtain ⟨a1, a2⟩ := h.fits q
    obtain ⟨b1, b2, -⟩ := k.fits a1
    refine ⟨b1, fun hn => b2.trans (a2 fun r => ?_)⟩
    rw [← k.slots _ (by simp) (by simp) (by simp)]
    exact hn r

theorem OpeningPurges.of_before {s u t : State} (h : OpeningPurges u t)
    (hp : (u.slot .propose).queued = (s.slot .propose).queued) : OpeningPurges s t := by
  simpa only [OpeningPurges, State.forcedQueued, hp] using h

theorem OwnersToldOfPurge.of_before {s u t : State} (h : OwnersToldOfPurge u t) (k : LeadsTo s u) : OwnersToldOfPurge s t := by
  obtain ⟨h1, h2, h3, h4⟩ := h
  refine ⟨fun r l kd img hq hb hk hr hl => ?_, h2.trans k.queue, fun r w x hq hb => ?_, fun hs hn => ?_⟩
  · rcases k.latch with a | a
    · exact h1 r l kd img (by rw [k.propose]; exact hq) hb hk hr (by rw [a]; exact hl)
    · exact h1 r { l with queued := false } kd img (by rw [k.propose]; exact hq) hb hk hr (by rw [a, hl]; rfl)
  · rcases k.wake with a | ⟨-, r', w', x', hq', hb'⟩
    · exact h3 r w x (by rw [a]; exact hq) hb
    · exact h3 r' w' x' hq' hb'
  · obtain ⟨f1, f2⟩ := k.fits hs
    rcases k.wake with a | ⟨hm, r', w', x', hq', hb'⟩
    · have hn' : ∀ r, (u.slot .wake).queued ≠ some (.ready r) := fun r => by rw [a]; exact hn r
      exact (h4 f1 hn').trans (f2 hn')
    · rw [h3 r' w' x' hq' hb', hm]

/-! ### After the opening -/

theorem OpeningPurges.tells {s t u : State} (h : OpeningPurges s t) (k : Tells t u)
    (hp : u.agreement.phase = .voting ∨ u.agreement.phase = .staging ↔
      t.agreement.phase = .voting ∨ t.agreement.phase = .staging)
    (hn : u.agreement.number = t.agreement.number) (hf : u.forced = t.forced) (hl : u.loader = t.loader) :
    OpeningPurges s u := by
  have hw : u.slot .wake = t.slot .wake := k.slots _ (by simp) (by simp) (by simp)
  have hpr : u.slot .propose = t.slot .propose := k.slots _ (by simp) (by simp) (by simp)
  have hfa : u.slot .fault = t.slot .fault := k.slots _ (by simp) (by simp) (by simp)
  obtain ⟨h1, h2, h3, h4, h5⟩ := h
  refine ⟨fun r => by rw [hw]; exact h1 r, fun q hq => ?_, fun q => ?_,
    fun j hj => ?_, fun q => by rw [hfa]; exact h5 (hf ▸ q)⟩
  · have := h2 q (hp.1 hq)
    simpa only [State.hasQueued, State.ownReady, State.ownFrame, State.nextNumber, State.me, hpr, hn, hl] using this
  · rw [hpr]
    refine h3 (q.imp_right fun q => ?_)
    rw [← not_or] at q ⊢
    exact mt hp.2 q
  · rcases hj with rfl | rfl
    · rw [hw]
      exact h4 _ (.inl rfl)
    · rw [hpr]
      exact h4 _ (.inr rfl)

theorem OwnersToldOfPurge.tells {s t u : State} (h : OwnersToldOfPurge s t) (k : Tells t u)
    (hf : (∀ j, SlotHolds j (s.slot j)) → ∀ j, SlotHolds j (t.slot j)) : OwnersToldOfPurge s u := by
  obtain ⟨h1, h2, h3, h4⟩ := h
  refine ⟨fun r l kd img hq hb hk hr hl => ?_, k.queue.trans h2, fun r w x hq hb => ?_, fun hs hn => ?_⟩
  · have := h1 r l kd img hq hb hk hr hl
    rcases k.latch with a | a <;> rw [a, this]
    rfl
  · rcases k.mark with a | a
    · rw [a]
      exact h3 r w x hq hb
    · exact a
  · rw [(k.fits (hf hs)).2.1]
    exact h4 hs hn

/-! ### The opening -/

theorem SlotHolds.purged {k : FrameKind} {s : State} (test : Frame → Bool) (h : SlotHolds k (s.slot k)) :
    SlotHolds k ((purgeKind k test s).slot k) := by
  obtain ⟨h1, h2, h3⟩ := h
  rw [purgeKind_slot_same]
  cases queuedMatches test (s.slot k).queued
  · exact ⟨h1, h2, h3⟩
  · exact ⟨fun r h => (by cases h), fun r h => (by cases h), h3⟩

theorem purgeKind_holds {k : FrameKind} (test : Frame → Bool) {s : State} (h : ∀ j, SlotHolds j (s.slot j)) (j : FrameKind) :
    SlotHolds j ((purgeKind k test s).slot j) := by
  by_cases hj : j = k
  · subst hj
    exact (h j).purged test
  · rw [purgeKind_slot_ne s hj]
    exact h j

theorem purgeKind_sending (k j : FrameKind) (test : Frame → Bool) (s : State) :
    ((purgeKind k test s).slot j).sending = (s.slot j).sending := by
  by_cases hj : j = k
  · subst hj
    rw [purgeKind_slot_same]
  · rw [purgeKind_slot_ne s hj]

theorem fillFrame_sending (n : TxnNumber) (body : Body) (j : FrameKind) (s : State) :
    ((fillFrame n body s).slot j).sending = (s.slot j).sending := by
  by_cases hj : j = body.kind
  · subst hj
    by_cases ht : s.takesFill body.kind = true
    · rw [fillFrame, fillSlot_slot_same ht]
    · rw [fillFrame, fillSlot, if_neg ht, slot_eq_of_link (s := s) (by simp)]
  · rw [fillFrame_slot_ne s hj]

theorem fillFrame_holds {n : TxnNumber} {body : Body} {s : State} (h : ∀ j, SlotHolds j (s.slot j)) (j : FrameKind) :
    SlotHolds j ((fillFrame n body s).slot j) := by
  by_cases hj : j = body.kind
  · subst hj
    by_cases ht : s.takesFill body.kind = true
    · rw [fillFrame, fillSlot_slot_same ht]
      refine ⟨fun r q => ?_, fun m q => (by cases q), (h _).2.2⟩
      cases q
      rfl
    · rw [fillFrame, fillSlot, if_neg ht, slot_eq_of_link (s := s) (by simp)]
      exact h _
  · rw [fillFrame_slot_ne s hj]
    exact h j

theorem requeueForced_holds (took : Bool) {s : State} (h : ∀ j, SlotHolds j (s.slot j)) (j : FrameKind) :
    SlotHolds j ((requeueForced took s).slot j) := by
  unfold requeueForced
  split
  · exact fillFrame_holds h j
  · exact h j

theorem purgeKind_mark (k : FrameKind) (test : Frame → Bool) (s : State) :
    (purgeKind k test s).wake.mark = s.wake.mark ∨ (purgeKind k test s).wake.mark = none := by
  simp only [purgeKind]
  split
  · rw [(reportQueued_withSlot ..).1]
    exact (reportQueued_tells _ s).2
  · exact .inl rfl

/-- What an opening leaves but for its purges (R10). -/
structure Opens (s t : State) : Prop where
  sending : ∀ k, (t.slot k).sending = (s.slot k).sending
  slots : ∀ k, k ≠ .propose → k ≠ .wake → k ≠ .fault → t.slot k = s.slot k
  holds : (∀ k, SlotHolds k (s.slot k)) → ∀ k, SlotHolds k (t.slot k)
  latched : t.latched = s.latched
  mark : t.wake.mark = s.wake.mark ∨ t.wake.mark = none

theorem Opens.trans {s t u : State} (h : Opens s t) (k : Opens t u) : Opens s u where
  sending := fun j => (k.sending j).trans (h.sending j)
  slots := fun j h1 h2 h3 => (k.slots j h1 h2 h3).trans (h.slots j h1 h2 h3)
  holds := fun q => k.holds (h.holds q)
  latched := k.latched.trans h.latched
  mark := by
    rcases h.mark with a | a <;> rcases k.mark with b | b <;> simp [a, b]

theorem Opens.of_eq {s t : State} (hl : t.link = s.link) (hm : t.wake.mark = s.wake.mark) (hr : t.request = s.request) :
    Opens s t :=
  ⟨fun k => by rw [slot_eq_of_link hl], fun k _ _ _ => slot_eq_of_link hl k,
    fun h k => by rw [slot_eq_of_link hl]; exact h k, latched_of_request hr, .inl hm⟩

theorem Opens.purge {k : FrameKind} (hk : k = .propose ∨ k = .wake ∨ k = .fault) (test : Frame → Bool) (s : State) :
    Opens s (purgeKind k test s) where
  sending := fun j => purgeKind_sending k j test s
  slots := fun j h1 h2 h3 => purgeKind_slot_ne s (by rintro rfl; simp [h1, h2, h3] at hk) test
  holds := fun h j => purgeKind_holds test h j
  latched := purgeKind_latched k test s
  mark := purgeKind_mark k test s

theorem Opens.requeue (took : Bool) (s : State) : Opens s (requeueForced took s) := by
  obtain ⟨h1, h2, h3, -, h5, -⟩ := requeueForced_slots took s
  refine ⟨fun k => ?_, fun k hp _ _ => h1 k hp, requeueForced_holds took, latched_of_request h3, .inl (by rw [h2])⟩
  by_cases hk : k = .propose
  · rw [hk]
    exact h5
  · rw [h1 k hk]

theorem Opens.purges (forced : Bool) (s : State) : Opens s (purgeAtOpening forced s) := by
  have h := (Opens.purge (.inl rfl) (fun _ => true) s).trans (.purge (.inr (.inl rfl)) (fun _ => true) _)
  unfold purgeAtOpening
  split
  · exact h.trans (.purge (.inr (.inr rfl)) _ _)
  · exact h

/-- The opening itself, its purges aside (R10). -/
theorem openTransaction_opens (o : Opening) (p : Phase) (s : State) : Opens s (openTransaction o p s) := by
  have h := (Opens.of_eq rfl rfl rfl : Opens s (s.withAgreement { s.agreement with
    number := some s.nextNumber
    record := some (newRecord o s.nextNumber s.participantsNow s.system.required s.time) })).trans (.purges o.forced _)
  unfold openTransaction
  dsimp only
  generalize purgeAtOpening o.forced _ = u at *
  exact (h.trans (.of_eq (by simp [State.withPhase]) (by simp [State.withPhase]) (by simp [State.withPhase]))).trans
    (.requeue _ _)

/-! ### The delivery -/

theorem testAnnounce_leads (s : State) : LeadsTo s (testAnnounce s) := by
  unfold testAnnounce
  split
  · rename_i hm
    obtain ⟨hg, hm⟩ := (mayAnnounce_iff s).1 hm
    split
    · rename_i e he
      have ht : s.takesFill FrameKind.wake = true := takesFill_of_phase (by simp [hg.1]) _
      have hq := fillFrame_hasQueued (body := .wake s.wakeTarget e.input) ht s.nextNumber
      refine ⟨?_, .inr ⟨hm, _, _, _, hq, rfl⟩, ?_, ?_, fun h => ⟨fun k => fillFrame_holds h k, fun hn => absurd hq (hn _)⟩⟩
      · exact congrArg Slot.queued (fillFrame_slot_ne (body := .wake s.wakeTarget e.input) s (by simp [Body.kind]) _)
      · show (fillFrame ..).request.latch = _ ∨ (fillFrame ..).request.latch = _
        rw [fillFrame, fillSlot, Body.kind, if_pos ht]
        exact (reportQueued_tells _ s).1
      · simp [State.withWake]
    · exact .refl s
  · exact .refl s

/-- What a station heard of a delivered frame as its agreement engine is handed it (R134, R142). -/
structure Heard (f : Frame) (s t : State) : Prop where
  delivered : DeliveredOnly f.sender s t
  present : f.sender = s.me ∨ t.isPresent f.sender = true
  leads : LeadsTo s t
  mine : f.sender = s.me → t = ownDelivered f (s.ownSending f) s
  others : ∀ k, k ≠ f.body.kind → k ≠ .wake → t.slot k = s.slot k

theorem testAnnounce_slot_ne (s : State) {k : FrameKind} (h : k ≠ .wake) : (testAnnounce s).slot k = s.slot k := by
  unfold testAnnounce
  split
  · split
    · rename_i e he
      exact fillFrame_slot_ne (body := .wake s.wakeTarget e.input) s h _
    · rfl
  · rfl

theorem ownDelivered_holds {f : Frame} (own : Option Ready) {s : State} (h : ∀ k, SlotHolds k (s.slot k)) (k : FrameKind) :
    SlotHolds k ((ownDelivered f own s).slot k) := by
  unfold ownDelivered
  split
  · have hs : ∀ j, (payDebt (clearSending f.body.kind s)).slot j = (clearSending f.body.kind s).slot j := fun _ => rfl
    rw [hs]
    by_cases hk : k = f.body.kind
    · subst hk
      obtain ⟨h1, h2, -⟩ := h f.body.kind
      unfold clearSending
      rw [slot_withSlot_same]
      exact ⟨h1, h2, fun r q => (by cases q)⟩
    · unfold clearSending
      rw [slot_withSlot_ne s hk]
      exact h k
  · exact h k

theorem ownDelivered_leads (f : Frame) (own : Option Ready) (s : State) : LeadsTo s (ownDelivered f own s) := by
  have hq : ∀ k, ((ownDelivered f own s).slot k).queued = (s.slot k).queued := fun k => by
    by_cases hk : k = f.body.kind
    · rw [hk]
      exact (ownDelivered_slot f own s).1
    · rw [ownDelivered_slot_ne own s hk]
  exact ⟨hq _, .inl (hq _), .inl (by simp), by simp, fun h => ⟨ownDelivered_holds own h, fun _ => by simp⟩⟩

/-- The hand-off of a frame that the station takes, in any phase (R134, R142). -/
theorem handOff_hears {f : Frame} {engine : Option Ready → State → State} {s : State} (h : s.takes f.sender) :
    ∃ s', handOff f engine s = engine (s.ownSending f) s' ∧ Heard f s s' := by
  have ha : DeliveredOnly f.sender s (ownDelivered f (s.ownSending f) s) :=
    .of_peers (ownDelivered_delivery ..) (by simp)
  have hl := ownDelivered_leads f (s.ownSending f) s
  have hme : (ownDelivered f (s.ownSending f) s).me = s.me := by simp [State.me]
  have hpr : ∀ j, (ownDelivered f (s.ownSending f) s).peerAt j = s.peerAt j := fun j => by simp [State.peerAt]
  unfold handOff
  rw [if_neg (by simp [h.1])]
  dsimp only
  rw [hme, hpr]
  by_cases hi : f.sender = s.me
  · exact ⟨_, by rw [if_pos hi], ha, .inl hi, hl, fun _ => rfl, fun k hk _ => ownDelivered_slot_ne _ s hk⟩
  · have hns : s.ownSending f = none := ownSending_of_ne hi
    have hd : ownDelivered f none s = s := rfl
    rw [if_neg hi, if_neg (by simpa using h.2.resolve_left hi), hns, hd]
    refine ⟨_, rfl, touchPeer_delivered f s, .inr ?_, ?_, fun q => absurd q hi, fun k _ hk => ?_⟩
    · have ht : (touchPeer f s).peerAt f.sender = (s.peerAt f.sender).heard s.silenceLength f := by
        rw [← peerAt_withPeer_same s f.sender ((s.peerAt f.sender).heard s.silenceLength f)]
        unfold touchPeer reportPresent
        dsimp only
        split
        · simp [State.peerAt]
        · rfl
      rw [State.isPresent, ht, heard_presence]
      rfl
    · unfold touchPeer reportPresent
      dsimp only
      split
      · obtain ⟨h1, h2, h3, h4, h5⟩ :=
          testAnnounce_leads (s.withPeer f.sender ((s.peerAt f.sender).heard s.silenceLength f))
        exact ⟨h1, h2, h3, h4, h5⟩
      · exact ⟨rfl, .inl rfl, .inl rfl, rfl, fun h => ⟨h, fun _ => rfl⟩⟩
    · unfold touchPeer reportPresent
      dsimp only
      split
      · exact testAnnounce_slot_ne (s.withPeer f.sender _) hk
      · rfl

end Sys2Proof.Machine
end


section
/-! PROOF. A WAKE that opens (O21). -/

namespace Sys2Proof.Machine

open Sys2Proof

/-! ### The opening as the delivery finds the station -/

/-- The participants of an opening: the station, the sender and the peers that are PRESENT (R8, R10). -/
theorem Heard.participants {f : Frame} {s t : State} (h : Heard f s t) (j : StationId) :
    setHas t.participantsNow j = (j == s.me || j == f.sender || s.isPresent j) := by
  obtain ⟨-, -, -, -, hl, -, -, -⟩ := h.delivered.keeps
  have hme : t.me = s.me := by simp [State.me, hl]
  rw [State.participantsNow, setHas_setOf, hme]
  by_cases hj : j = f.sender
  · subst hj
    rcases h.present with q | q <;> simp [q]
  · have hp : t.isPresent j = s.isPresent j := by rw [State.isPresent, State.isPresent, h.delivered.2 j hj]
    rw [hp, show (j == f.sender) = false from beq_eq_false_iff_ne.2 hj, Bool.or_false]

theorem Heard.time {f : Frame} {s t : State} (h : Heard f s t) : t.time = s.time := by
  rw [h.delivered.1]
  rfl

theorem openTransaction_purged (o : Opening) (p : Phase) {s u t : State}
    (hl : (u.slot .propose).queued = (s.slot .propose).queued) (k : Tells (openTransaction o p u) t)
    (hp : t.agreement.phase = .voting ∨ t.agreement.phase = .staging ↔ p = .voting ∨ p = .staging)
    (hn : t.agreement.number = some u.nextNumber) (hf : t.forced = o.forced) (hld : t.loader = u.loader) :
    OpeningPurges s t := by
  obtain ⟨a, -⟩ := openTransaction_purges o p u
  have hag := openTransaction_agreement o p u
  exact (a.tells k (by rw [hp, hag]) (by rw [hn, hag]) (by rw [hf, State.forced, hag]; rfl) (by rw [hld]; simp)).of_before hl

theorem openTransaction_told (o : Opening) (p : Phase) {s u t : State} (hl : LeadsTo s u)
    (k : Tells (openTransaction o p u) t) : OwnersToldOfPurge s t :=
  ((openTransaction_purges o p u).2.tells k (openTransaction_opens o p u).holds).of_before hl

/-! ### A wake transaction -/

/-- The record that a WAKE opens with (R12). -/
def wakeRecord (i : StationId) (w : WakeTarget) (x : Fin 8) (s : State) : Record :=
  committedAtStart s (newRecord (wakeOpening i w x) s.nextNumber s.participantsNow s.system.required s.time)

theorem wakeRecord_stands (i : StationId) (w : WakeTarget) (x : Fin 8) (s : State) :
    let r := wakeRecord i w x s
    r.number = s.nextNumber ∧ r.kind = w.kind ∧ r.forced = false ∧ r.originator = i ∧ r.openingCause = .wake ∧
    r.wakeSource = some (i, x) ∧ r.outcome = .accepted ∧ r.openedAt = s.time ∧ r.acceptedAt = some s.time ∧
    r.participants = s.participantsNow ∧ (r.committed = true ↔ s.commitStage w.kind = 0) := by
  have hc := committedAtStart_committed s (r := newRecord (wakeOpening i w x) s.nextNumber s.participantsNow s.system.required
    s.time) rfl
  unfold wakeRecord
  refine ⟨?_, ?_, ?_, ?_, ?_, ?_, ?_, ?_, ?_, ?_, hc⟩ <;>
  · unfold committedAtStart
    split <;> rfl

/-- What a WAKE that opens leaves (R12). -/
theorem openWake_opens (i : StationId) (w : WakeTarget) (x : Fin 8) (s : State) :
    let t := openWake i w x s
    t.agreement = { s.agreement with
      phase := .staging, number := some s.nextNumber, record := some (wakeRecord i w x s) } ∧
    Tells (openTransaction (wakeOpening i w x) .staging s) t ∧ t.wake.demote = none ∧ t.loader = s.loader ∧
    t.presence.debt = s.presence.debt := by
  have ha := openTransaction_agreement (wakeOpening i w x) .staging s
  have hk : (openTransaction (wakeOpening i w x) .staging s).time = s.time ∧
      (openTransaction (wakeOpening i w x) .staging s).loader = s.loader ∧
      (openTransaction (wakeOpening i w x) .staging s).presence.debt = s.presence.debt := by simp
  have hd : (openTransaction (wakeOpening i w x) .staging s).wake.demote = none := by simp [openTransaction, stopDemote]
  rw [openWake_eq]
  dsimp only
  generalize openTransaction (wakeOpening i w x) .staging s = u at *
  obtain ⟨k1, k2, k3⟩ := hk
  have hc := commitAtStart_agreement (s := u) (r := newRecord (wakeOpening i w x) s.nextNumber s.participantsNow
    s.system.required s.time) (by rw [ha])
  rw [committedAtStart_congr k2 k1] at hc
  refine ⟨?_, (commitAtStart_tells u).trans (execStart_tells _).1, by simp [hd], by simp [k2], by simp [k3]⟩
  have : (execStart (commitAtStart u)).agreement = (commitAtStart u).agreement := by simp
  rw [this, hc, ha]
  rfl

/-- The station as its own WAKE opens: the entry that the mark names is ANNOUNCED (R124). -/
def wakeTaken (own : Option Ready) (s : State) : State :=
  if own.isSome then
    match s.wake.mark with
    | some i => clearMark (announceEntry i s)
    | none => s
  else s

theorem wakeOpens_eq (i : StationId) (w : WakeTarget) (x : Fin 8) (own : Option Ready) (s : State) :
    wakeOpens i w x own s = openWake i w x (wakeTaken own s) := by
  unfold wakeOpens wakeTaken
  split
  · cases s.wake.mark <;> rfl
  · rfl

theorem wakeTaken_stands (own : Option Ready) (s : State) :
    wakeTaken own s = { s with wake := { s.wake with queue := (wakeTaken own s).wake.queue, mark := (wakeTaken own s).wake.mark } } := by
  unfold wakeTaken
  split
  · split <;> rfl
  · rfl

/-- The wake queue and the mark as the own WAKE opens (R124). -/
theorem wakeTaken_own {own : Option Ready} (h : own.isSome = true) (s : State) :
    (wakeTaken own s).wake.mark = none ∧
    (∀ i, s.wake.mark = some i → (wakeTaken own s).wake.queue =
      s.wake.queue.map fun e => if e.input = i then { e with state := .announced } else e) ∧
    (s.wake.mark = none → (wakeTaken own s).wake.queue = s.wake.queue) := by
  unfold wakeTaken
  rw [if_pos h]
  cases hm : s.wake.mark with
  | some j =>
    refine ⟨rfl, fun i hi => ?_, fun q => (by cases q)⟩
    cases hi
    simp [clearMark, announceEntry, State.withWake]
  | none => exact ⟨hm, fun i hi => (by cases hi), fun _ => rfl⟩

/-- The station's own WAKE opened (R124, R137, R145). -/
theorem openWake_ownTaken {i : StationId} {w : WakeTarget} {x : Fin 8} {own : Option Ready} {s u : State}
    (ho : own.isSome = true) (hs : (u.slot .wake).sending = none) (hd : u.presence.debt = 0)
    (hm : u.wake.mark = s.wake.mark) (hq : u.wake.queue = s.wake.queue) : OwnWakeTaken s (openWake i w x (wakeTaken own u)) := by
  obtain ⟨w1, w2, w3⟩ := wakeTaken_own ho u
  have ws := wakeTaken_stands own u
  have wl : (wakeTaken own u).link = u.link := by rw [ws]
  have wd : (wakeTaken own u).presence = u.presence := by rw [ws]
  generalize wakeTaken own u = v at *
  obtain ⟨-, o2, -, -, o5⟩ := openWake_opens i w x v
  have hop := openTransaction_opens (wakeOpening i w x) .staging v
  have hoq : (openTransaction (wakeOpening i w x) .staging v).wake.queue = v.wake.queue := by simp
  generalize openTransaction (wakeOpening i w x) .staging v = o at *
  generalize openWake i w x v = t at *
  have hqt : t.wake.queue = v.wake.queue := o2.queue.trans hoq
  rw [hm, hq] at w2
  rw [hm, hq] at w3
  refine ⟨?_, by rw [o5, wd, hd], ?_, fun j hj => hqt.trans (w2 j hj), fun hn => hqt.trans (w3 hn)⟩
  · rw [o2.slots _ (by simp) (by simp) (by simp), hop.sending, slot_eq_of_link wl, hs]
  · rcases hop.mark with a | a <;> rcases o2.mark with b | b <;> simp [a, b, w1]

theorem ownSending_of_sends {f : Frame} {s : State} (h : s.sends f) : (s.ownSending f).isSome = true := by
  obtain ⟨hi, r, hr, hf⟩ := h
  simp [State.ownSending, hr, hi, hf]

theorem ownSending_of_not_sends {f : Frame} {s : State} (h : ¬ s.sends f) : s.ownSending f = none := by
  unfold State.ownSending
  split
  · rename_i r hr
    exact if_neg fun q => h ⟨q.1, r, hr, q.2⟩
  · rfl

theorem wakeTaken_none (s : State) : wakeTaken none s = s := rfl

/-- Settles O21, from what a WAKE that opens leaves (`openWake_opens`) and what was heard of it (`Heard`). -/
theorem wakeOpensStaging : Obligations.WakeOpensStaging := by
  intro i num n w x s ht hp hn hv
  obtain ⟨s', he, hd⟩ := handOff_hears (f := ⟨i, num, .wake w x⟩) (engine := takeWake i w x) ht
  obtain ⟨ha, -, -, -, hl, -, hq, -⟩ := hd.delivered.keeps
  have htake : takeWake i w x (s.ownSending ⟨i, num, .wake w x⟩) s' =
      openWake i w x (wakeTaken (s.ownSending ⟨i, num, .wake w x⟩) s') := by
    rw [← wakeOpens_eq, takeWake, ha, hp]
    dsimp only
    rw [if_pos (by simp [hv, hn])]
  rw [htake] at he
  have ws := wakeTaken_stands (s.ownSending ⟨i, num, .wake w x⟩) s'
  have hu : ∀ u : State, u = { s' with wake := { s'.wake with queue := u.wake.queue, mark := u.wake.mark } } →
      u.agreement = s.agreement ∧ u.loader = s.loader ∧ u.time = s.time ∧ u.participantsNow = s'.participantsNow ∧
      (u.slot .propose).queued = (s.slot .propose).queued := fun u h => by
    rw [h]
    exact ⟨ha, hl, hd.time, rfl, hd.leads.propose⟩
  obtain ⟨u1, u2, u3, u4, u5⟩ := hu _ ws
  have hown : s.sends ⟨i, num, .wake w x⟩ → OwnWakeTaken s (openWake i w x (wakeTaken (s.ownSending ⟨i, num, .wake w x⟩) s')) :=
    fun h => by
      have ho := ownSending_of_sends h
      have hs' := hd.mine h.1
      obtain ⟨-, hsd⟩ := ownDelivered_slot ⟨i, num, .wake w x⟩ (s.ownSending ⟨i, num, .wake w x⟩) s
      obtain ⟨h1, h2⟩ := hsd ho
      refine openWake_ownTaken ho ?_ ?_ ?_ hq
      · rw [hs']
        exact h1
      · rw [hs']
        exact h2
      · rw [hs']
        simp
  have hother : ¬ s.sends ⟨i, num, .wake w x⟩ → LeadsTo s (wakeTaken (s.ownSending ⟨i, num, .wake w x⟩) s') := fun h => by
    rw [ownSending_of_not_sends h, wakeTaken_none]
    exact hd.leads
  clear ws
  generalize wakeTaken (s.ownSending ⟨i, num, .wake w x⟩) s' = u at *
  obtain ⟨o1, o2, o3, o4, -⟩ := openWake_opens i w x u
  obtain ⟨r1, r2, r3, r4, r5, r6, r7, r8, r9, r10, r11⟩ := wakeRecord_stands i w x u
  have hnn : u.nextNumber = n + 1 := by simp [State.nextNumber, u1, hn]
  rw [hnn] at o1 r1
  rw [u3] at r8 r9
  rw [commitStage_congr u2] at r11
  generalize wakeRecord i w x u = r at *
  refine ⟨_, r, congrArg Host.Outcome.next he, by rw [o1], by rw [o1], by rw [o1], r1, r2, r3, r4, r5, r6, r7, r8, r9, r11,
    fun j => ?_, openTransaction_purged (wakeOpening i w x) .staging u5 o2 (by rw [o1]) (by rw [o1, hnn])
      (by rw [State.forced, o1]; exact r3) o4,
    hown, fun h => openTransaction_told _ _ (hother h) o2, o3, by rw [o1, u1], by rw [o1, u1]⟩
  rw [r10, u4]
  exact hd.participants j

end Sys2Proof.Machine
end


section
/-! PROOF. A WAKE in DESCENDING (O22). -/

namespace Sys2Proof.Machine

open Sys2Proof

/-! ### The owners at a close that sends no FAULT -/

theorem closeTransaction_tells (o : TxnOutcome) (c : Cause) (s : State) : Tells s (closeTransaction o c false s) := by
  have hg : (settleBelief o (execIdle (stopVoteTimers (s.onRecord fun r => r.closed o c s.time)))).link = s.link ∧
      (settleBelief o (execIdle (stopVoteTimers (s.onRecord fun r => r.closed o c s.time)))).wake = s.wake ∧
      (settleBelief o (execIdle (stopVoteTimers (s.onRecord fun r => r.closed o c s.time)))).request = s.request := by simp
  unfold closeTransaction
  dsimp only
  generalize settleBelief o (execIdle (stopVoteTimers (s.onRecord fun r => r.closed o c s.time))) = g at *
  obtain ⟨g1, g2, g3⟩ := hg
  obtain ⟨j2, j3, -⟩ := judgeDeferred_owners false g
  have j1 := judgeDeferred_link g
  generalize judgeDeferred false g = v at *
  refine Tells.trans ?_ (purgeTransaction_tells _ _)
  exact .of_eq (by simp [j1, g1]) (by simp [j2, g2]) (by simp [j2, g2]) (by simp [j3, g3])

theorem forcedCloseCore_tells (s : State) : Tells s (forcedCloseCore s) := by
  have hg : Tells s (gatherMissing s) := .of_eq (by simp) (by simp) (by simp) (by simp)
  unfold forcedCloseCore
  generalize gatherMissing s = g at *
  have hc := closeTransaction_tells .forcedDone s.openingCause g
  generalize closeTransaction .forcedDone s.openingCause false g = v at *
  exact (hg.trans hc).trans (.of_eq (by simp) (by simp) (by simp) (by simp))

theorem abandonWork_tells (who : Issuer → Bool) (s : State) : Tells s (abandonWork who s) :=
  .of_eq (by simp) (by simp) (by simp) (by simp)

theorem countLate_alike (s : State) : ClosesAlike s (countLate s) :=
  .of_fields rfl rfl rfl rfl rfl rfl (fun _ h => h) rfl rfl rfl rfl rfl rfl

/-! ### The announcement tested again -/

/-- What the own WAKE that opens nothing leaves in SETTLED: the mark cleared and the announcement tested (R124). -/
theorem ownWakeIdle_settled {own : Option Ready} {s : State} (ho : own.isSome = true) (hp : s.agreement.phase = .settled) :
    ownWakeIdle own s = testAnnounce (clearMark s) := by
  unfold ownWakeIdle
  rw [if_pos ho]
  dsimp only
  rw [if_pos (by simp [hp])]

/-- Where the announcement test was made already, clearing the mark and testing again touches the mark and the slot of WAKE
alone (R122). -/
theorem testAnnounce_again {s : State} (h : ∀ e, IsOldestPending s.wake.queue e → s.gatesOpen → s.announces e.input) :
    (testAnnounce (clearMark s)).request = s.request ∧
    ∀ k, k ≠ .wake → (testAnnounce (clearMark s)).slot k = s.slot k := by
  unfold testAnnounce
  split
  · rename_i hm
    obtain ⟨hg, -⟩ := (mayAnnounce_iff (clearMark s)).1 hm
    split
    · rename_i e he
      obtain ⟨-, hq⟩ := h e ((oldestPending_iff _ _).1 he) hg
      refine ⟨?_, fun k hk => fillFrame_slot_ne (body := .wake (clearMark s).wakeTarget e.input) (clearMark s) hk _⟩
      show (fillFrame ..).request = s.request
      have hps : s.agreement.phase = .settled := hg.1
      have ht : (clearMark s).takesFill FrameKind.wake = true := takesFill_of_phase (by simp [hps]) _
      rw [fillFrame, fillSlot, Body.kind, if_pos ht,
        show ((clearMark s).slot .wake).queued = (s.slot .wake).queued from rfl, hq]
      rfl
    · exact ⟨rfl, fun _ _ => rfl⟩
  · exact ⟨rfl, fun _ _ => rfl⟩

/-- What the settle signal left stands through the announcement tested again (R124). -/
theorem Settled.announcedAgain {closed : Option (Kind × TxnOutcome)} {s t : State} (h : Settled closed s t) :
    Settled closed s (testAnnounce (clearMark t)) := by
  obtain ⟨hp, ⟨w1, w2, w3, w4, w5, w6, w7, w8, w9⟩, hr, hq⟩ := h
  obtain ⟨a1, a2⟩ := testAnnounce_again w8
  obtain ⟨n1, n2⟩ := testAnnounce_announces (s := clearMark t) rfl
  have hk : (testAnnounce (clearMark t)).agreement = t.agreement ∧ (testAnnounce (clearMark t)).loader = t.loader ∧
      (testAnnounce (clearMark t)).presence = t.presence ∧ (testAnnounce (clearMark t)).faults = t.faults ∧
      (testAnnounce (clearMark t)).wake.inputs = t.wake.inputs ∧ (testAnnounce (clearMark t)).wake.pressed = t.wake.pressed ∧
      (testAnnounce (clearMark t)).wake.debounce = t.wake.debounce ∧
      (testAnnounce (clearMark t)).wake.longPress = t.wake.longPress ∧
      (testAnnounce (clearMark t)).wake.commonWindow = t.wake.commonWindow ∧
      (testAnnounce (clearMark t)).wake.queue = t.wake.queue ∧ (testAnnounce (clearMark t)).wake.minDwell = t.wake.minDwell ∧
      (testAnnounce (clearMark t)).wake.faultHold = t.wake.faultHold ∧
      (testAnnounce (clearMark t)).wake.demote = t.wake.demote := by simp
  have hg : (clearMark t).gatesOpen ↔ t.gatesOpen := gatesOpen_congr rfl rfl rfl rfl rfl rfl
  have hun : ¬ t.gatesOpen → (testAnnounce (clearMark t)).wake.mark = none := fun hn => by
    rw [n2 (mt hg.1 hn)]
    rfl
  have hann : ∀ e, IsOldestPending t.wake.queue e → t.gatesOpen → (testAnnounce (clearMark t)).announces e.input :=
    fun e he ho => n1 e he (hg.2 ho)
  generalize testAnnounce (clearMark t) = u at *
  obtain ⟨ka, kl, kp, kf, kin, kpr, kdb, klp, kcw, kq, kmd, kfh, kdm⟩ := hk
  have hgu : u.gatesOpen ↔ t.gatesOpen := gatesOpen_congr (by rw [ka]) (by rw [ka]) kmd kfh kl (by rw [kp])
  have hwi : ∀ i, u.wakeInput i = t.wakeInput i := fun i => by simp [State.wakeInput, kin]
  refine ⟨by rw [ka]; exact hp, ⟨by rw [kcw, w1], by rw [kmd, w2], by rw [kdm, ka]; exact w3,
    fun i => by rw [hwi, ka]; exact w4 i, by rw [kpr]; exact w5, by rw [kdb, w6], by rw [klp, w7],
    fun e he ho => hann e (by rw [← kq]; exact he) (hgu.1 ho), fun hn => hun (mt hgu.2 hn)⟩,
    hr.congr a1 ka kl (a2 _ (by simp)), ?_⟩
  simpa only [PresenceSettled, State.peerAt, LatchedAmong, State.holdsFault, ka, kp, kf, a2 .fault (by simp)] using hq

theorem Evaluated.announcedAgain {s t : State} {st : SystemState} (h : Evaluated s t st) :
    Evaluated s (testAnnounce (clearMark t)) st := by
  have hq : (testAnnounce (clearMark t)).wake.queue = t.wake.queue := by simp
  have hf : (testAnnounce (clearMark t)).faults = t.faults := by simp
  have hm : (testAnnounce (clearMark t)).wake.MarkFits := testAnnounce_markFits (.of_none rfl)
  generalize testAnnounce (clearMark t) = u at *
  obtain ⟨h1, h2, -⟩ := h
  refine ⟨by rw [hq]; exact h1, ?_, hm⟩
  simpa only [hq, LatchedAmong, State.holdsFault, hf] using h2

/-! ### O22 -/

theorem handOff_engine {f : Frame} (engine : Option Ready → State → State) {s : State} (h : s.takes f.sender) :
    handOff f engine s = engine (s.ownSending f) (handOff f (fun _ s => s) s) := by
  have hme : (ownDelivered f (s.ownSending f) s).me = s.me := by simp [State.me]
  have hpr : ∀ j, (ownDelivered f (s.ownSending f) s).peerAt j = s.peerAt j := fun j => by simp [State.peerAt]
  have hon : ¬ (!s.onLink) = true := by simp [h.1]
  unfold handOff
  rw [if_neg hon, if_neg hon]
  dsimp only
  rw [hme, hpr]
  by_cases hi : f.sender = s.me
  · rw [if_pos hi, if_pos hi]
  · have hx : ¬ ((s.peerAt f.sender).presence == PresenceValue.excluded) = true := by simpa using h.2.resolve_left hi
    rw [if_neg hi, if_neg hi, if_neg hx, if_neg hx]

/-- The hand-off outside SETTLED, by both of its descriptions. -/
theorem handOff_hears_unsettled {f : Frame} {engine : Option Ready → State → State} {s : State} (h : s.takes f.sender)
    (hp : s.agreement.phase ≠ .settled) :
    ∃ s', handOff f engine s = engine (s.ownSending f) s' ∧ Heard f s s' ∧ HeardOnly f s s' := by
  obtain ⟨a, ea, ha⟩ := handOff_hears (engine := fun _ s => s) h
  obtain ⟨b, eb, hb⟩ := handOff_unsettled (engine := fun _ s => s) h hp
  obtain rfl : a = b := ea.symm.trans eb
  exact ⟨a, by rw [handOff_engine engine h, ea], ha, hb⟩

/-- The close by a WAKE of a descent, its work abandoned (R12, R52). -/
def wakeClosed (s : State) : State := forcedCloseCore (abandonWork isExecutor s)

theorem wakeInDescent_rise (i : StationId) (x : Fin 8) (own : Option Ready) (s : State) :
    wakeInDescent i .rise x own s = openWake i .rise x (wakeTaken own (wakeClosed s)) := by
  simp only [wakeInDescent, wakeOpens_eq, wakeClosed]

theorem wakeInDescent_resume (i : StationId) (x : Fin 8) (own : Option Ready) (s : State) : wakeInDescent i .resume x own s =
    ownWakeIdle own (becomeSettled (some (.enterOff, .forcedDone)) (countLate (wakeClosed s))) := rfl

theorem wakeClosed_closes {s : State} {r : Record} (hr : s.agreement.record = some r) :
    let u := wakeClosed s
    u.agreement.phase = s.agreement.phase ∧ u.agreement.number = s.agreement.number ∧
    Archived s u r .forcedDone r.openingCause.cause ∧ u.agreement.believed = some .off ∧
    u.agreement.record = some (forcedClosed (abandonWork isExecutor s) r) ∧
    u.wake.faultHold = (if s.system.faultHold = 0 then none else some s.system.faultHold) ∧
    SettlesAlike s u ∧ Tells s u ∧ u.channel = (abandonWork isExecutor s).channel := by
  have hk : (abandonWork isExecutor s).agreement = s.agreement := by simp
  have hal := abandonWork_alike isExecutor s
  have hte := abandonWork_tells isExecutor s
  unfold wakeClosed
  generalize abandonWork isExecutor s = a at *
  obtain ⟨c1, c2, c3, c4, -, -, c5, c6, -, c7⟩ := forcedCloseCore_closes (s := a) (r := r) (by rw [hk]; exact hr)
  have hf := forcedCloseCore_tells a
  have hc : (forcedCloseCore a).channel = a.channel := by simp
  generalize forcedCloseCore a = u at *
  rw [system_congr hal.loader] at c6
  exact ⟨c1.trans (by rw [hk]), c2.trans (by rw [hk]), c3.of_alike hal, c4, c5, c6, hal.toSettlesAlike.trans c7,
    hte.trans hf, hc⟩

/-- Settles O22, from the close (`wakeClosed_closes`), the opening (`openWake_opens`) and the settle signal
(`becomeSettled_acts`). -/
theorem wakeEndsDescent : Obligations.WakeEndsDescent := by
  intro i num n w x r₀ s ht hp hn hr
  obtain ⟨s', he, hd, ho⟩ := handOff_hears_unsettled (f := ⟨i, num, .wake w x⟩) (engine := takeWake i w x) ht (by simp [hp])
  obtain ⟨-, hpi, ha, hx, hc, hwk, -, -, hl⟩ := ho.keeps
  have hal := ho.alike (by simp [Body.kind])
  have htake : takeWake i w x (s.ownSending ⟨i, num, .wake w x⟩) s' =
      wakeInDescent i w x (s.ownSending ⟨i, num, .wake w x⟩) s' := by
    rw [takeWake, ha, hp]
  rw [htake] at he
  obtain ⟨u1, u2, u3, u4, u5, u6, u7, u8, u9⟩ := wakeClosed_closes (s := s') (r := r₀) (by rw [ha, hr])
  have hch : (abandonWork isExecutor s').channel = (abandonWork isExecutor s).channel :=
    ChannelAlike.abandonWork ⟨hc, hl, hpi, by rw [ha]⟩ (by rw [hx]) isExecutor
  have hk : (wakeClosed s').wake.queue = s'.wake.queue ∧ (wakeClosed s').presence.debt = s'.presence.debt ∧
      (wakeClosed s').agreement.lateProposals = s'.agreement.lateProposals := by simp [wakeClosed]
  have harch := u3.of_alike hal
  have hseta := hal.toSettlesAlike.trans u7
  rw [ha, hp] at u1
  rw [ha, hn] at u2
  rw [system_congr hl] at u6
  obtain ⟨kq, kd, kl⟩ := hk
  have hqs : (wakeClosed s').wake.queue = s.wake.queue := by rw [kq, hwk]
  cases w with
  | rise =>
    rw [wakeInDescent_rise] at he
    generalize wakeClosed s' = u at *
    have ws := wakeTaken_stands (s.ownSending ⟨i, num, .wake .rise x⟩) u
    have hv : ∀ v : State, v = { u with wake := { u.wake with queue := v.wake.queue, mark := v.wake.mark } } →
        v.agreement = u.agreement ∧ v.loader = s.loader ∧ v.wake.faultHold = u.wake.faultHold ∧
        (v.slot .propose).queued = (s.slot .propose).queued := fun v h => by
      rw [h]
      exact ⟨rfl, hseta.loader, rfl, by rw [← hseta.propose]; rfl⟩
    obtain ⟨v1, v2, v3, v4⟩ := hv _ ws
    have hown : s.sends ⟨i, num, .wake .rise x⟩ → (∀ k, SlotHolds k (s.slot k)) →
        OwnWakeTaken s (openWake i .rise x (wakeTaken (s.ownSending ⟨i, num, .wake .rise x⟩) u)) := fun h hs => by
      have hos := ownSending_of_sends h
      have hs' := hd.mine h.1
      obtain ⟨-, hsd⟩ := ownDelivered_slot ⟨i, num, .wake .rise x⟩ (s.ownSending ⟨i, num, .wake .rise x⟩) s
      obtain ⟨h1, h2⟩ := hsd hos
      refine openWake_ownTaken hos ?_ ?_ ?_ hqs
      · rw [u8.slots _ (by simp) (by simp) (by simp), hs']
        exact h1
      · rw [kd, hs']
        exact h2
      · rw [(u8.fits (hd.leads.fits hs).1).2.1, hwk]
    have hother : ¬ s.sends ⟨i, num, .wake .rise x⟩ →
        LeadsTo s (wakeTaken (s.ownSending ⟨i, num, .wake .rise x⟩) u) := fun h => by
      rw [ownSending_of_not_sends h, wakeTaken_none]
      exact hd.leads.tells u8
    clear ws
    generalize wakeTaken (s.ownSending ⟨i, num, .wake .rise x⟩) u = v at *
    obtain ⟨o1, o2, -, o4, -⟩ := openWake_opens i .rise x v
    have hfh : (openWake i .rise x v).wake.faultHold = v.wake.faultHold := by simp
    obtain ⟨r1, r2, r3, -, -, r6, -⟩ := wakeRecord_stands i .rise x v
    have hnn : v.nextNumber = n + 1 := by simp [State.nextNumber, v1, u2]
    rw [hnn] at o1 r1
    generalize wakeRecord i .rise x v = r at *
    refine ⟨_, r, congrArg Host.Outcome.next he, by rw [o1, v1, u4], harch.of_after (by rw [o1, v1]), by rw [hfh, v3, u6],
      by rw [o1], fun _ => ⟨by rw [o1], by rw [o1], r2, r1, r6, ?_, hown, fun h => openTransaction_told _ _ (hother h) o2⟩,
      fun h => (by cases h)⟩
    exact openTransaction_purged (wakeOpening i .rise x) .staging v4 o2 (by rw [o1]) (by rw [o1, hnn])
      (by rw [State.forced, o1]; exact r3) o4
  | resume =>
    rw [wakeInDescent_resume] at he
    generalize wakeClosed s' = u at *
    have hcl := countLate_alike u
    have hlate : (countLate u).agreement = { u.agreement with lateProposals := satInc 255 u.agreement.lateProposals } := rfl
    have hlch : (countLate u).channel = u.channel ∧ (countLate u).wake = u.wake := ⟨rfl, rfl⟩
    generalize countLate u = v at *
    obtain ⟨lc, lw⟩ := hlch
    obtain ⟨a1, -, a3, a4⟩ := becomeSettled_acts (.enterOff, .forcedDone) v
    obtain ⟨e1, e2⟩ := a4 .off (by rw [hlate]; exact u4)
    have hset := a3 fun k h => by simp at h
    have hbf : (becomeSettled (some (.enterOff, .forcedDone)) v).wake.faultHold = v.wake.faultHold := by simp
    generalize becomeSettled (some (.enterOff, .forcedDone)) v = z at *
    have hvs : SettlesAlike s v := hseta.trans hcl.toSettlesAlike
    have hev : Evaluated s z .off := e1.of_before (by rw [lw, hqs]) hvs.loader hvs.faults
    have hse := hset.of_alike hvs
    rw [profileRow_congr hvs.loader] at e2
    have hco : Corrected (abandonWork isExecutor s) z (s.profileRow .off) :=
      e2.of_before (lc.trans (u9.trans hch)) (hvs.loader.trans (by simp))
    have hfin : ∀ t : State, t.agreement = z.agreement → t.wake.faultHold = z.wake.faultHold → t.agreement.believed = some .off ∧
        Archived s t r₀ .forcedDone r₀.openingCause.cause ∧
        t.wake.faultHold = (if s.system.faultHold = 0 then none else some s.system.faultHold) ∧
        t.agreement.record = some (forcedClosed (abandonWork isExecutor s') r₀) ∧ t.agreement.phase = .settled ∧
        t.agreement.number = some n ∧ t.agreement.lateProposals = min (s.agreement.lateProposals + 1) 255 := fun t h1 h2 => by
      refine ⟨by rw [h1, a1, hlate, u4], harch.of_after (by rw [h1, a1, hlate]), by rw [h2, hbf, lw, u6], by rw [h1, a1, hlate, u5],
        by rw [h1, a1], by rw [h1, a1, hlate, u2], ?_⟩
      rw [h1, a1, hlate, kl, ha]
      rfl
    by_cases hos : (s.ownSending ⟨i, num, .wake .resume x⟩).isSome = true
    · rw [ownWakeIdle_settled hos (by rw [a1])] at he
      obtain ⟨f1, f2, f3, f4, f5, f6, f7⟩ := hfin (testAnnounce (clearMark z)) (by simp) (by simp)
      exact ⟨_, _, congrArg Host.Outcome.next he, f1, f2, f3, f4, fun h => (by cases h), fun _ => ⟨f5, f6, rfl, f7,
        hev.announcedAgain, hse.announcedAgain, hco.of_after (by simp)⟩⟩
    · have hnone : ownWakeIdle (s.ownSending ⟨i, num, .wake .resume x⟩) z = z := if_neg hos
      rw [hnone] at he
      obtain ⟨f1, f2, f3, f4, f5, f6, f7⟩ := hfin z rfl rfl
      exact ⟨_, _, congrArg Host.Outcome.next he, f1, f2, f3, f4, fun h => (by cases h), fun _ => ⟨f5, f6, rfl, f7,
        hev, hse, hco⟩⟩

end Sys2Proof.Machine
end


section
/-! PROOF. The forced openings (O19, O20). -/

namespace Sys2Proof.Machine

open Sys2Proof

/-! ### The executor in a forced descent -/

theorem pushRecord_forced (stage : Nat) (a : Action) (c : Completion) {s : State} (h : s.forced = true) :
    pushRecord stage a c s = s := by
  have : s.unwindRecord stage a c = none := by
    unfold State.unwindRecord
    split
    · simp [h]
    · rfl
  rw [pushRecord, this]

theorem completeForward_forced (stage : Nat) (a : Action) (c : Completion) {s : State} (h : s.forced = true) :
    (completeForward stage a c s).executor.stack = s.executor.stack ∧
    (completeForward stage a c s).executor.sub = s.executor.sub := by
  have hp := pushRecord_forced stage a c (s := s.withExecutor { s.executor with running := none }) h
  refine ⟨?_, by simp⟩
  unfold completeForward
  dsimp only
  split
  · (repeat' split) <;> rfl
  · rw [hp]
    split <;> rfl

/-- The executor in forward work of a forced descent: no record of a change, and in a silent one no frame (R53, R87). -/
structure Descends (s₀ s : State) : Prop where
  agreement : s.agreement = s₀.agreement
  sub : s.executor.sub ≠ .undoing
  stack : s.executor.stack = []
  link : s₀.silentDescent = true → s.link = s₀.link

theorem execStep_descends {s₀ : State} (hf : s₀.forced = true) (s : State) (h : Descends s₀ s) :
    Descends s₀ (execStep s).1 := by
  obtain ⟨h1, h2, h3, h4⟩ := h
  have hag : (execStep s).1.agreement = s₀.agreement := by simpa using h1
  have hforced : s.forced = true := by simpa [State.forced, h1] using hf
  have hsil : s.silentDescent = s₀.silentDescent := by simp [State.silentDescent, State.recordOpen, h1]
  suffices hx : (execStep s).1.executor.sub ≠ .undoing ∧ (execStep s).1.executor.stack = [] ∧
      (s.silentDescent = true → (execStep s).1.link = s.link) from
    ⟨hag, hx.1, hx.2.1, fun q => (hx.2.2 (hsil.trans q)).trans (h4 q)⟩
  unfold execStep
  split
  · exact ⟨h2, h3, fun _ => rfl⟩
  · split
    · rename_i stage hsub hcur
      split
      · rename_i a ha
        have hk : (issueAction a s).1.executor = s.executor ∧ (issueAction a s).1.agreement = s.agreement ∧
            (issueAction a s).1.link = s.link := by simp
        have hif : (issueAction a s).1.forced = true := by simpa [State.forced, hk.2.1] using hforced
        generalize issueAction a s = x at *
        obtain ⟨u, c⟩ := x
        obtain ⟨k1, -, k3⟩ := hk
        have k1 : u.executor = s.executor := k1
        cases c with
        | none => exact ⟨fun q => h2 (by rw [← k1]; exact q), by rw [← h3, ← k1]; rfl, fun _ => k3⟩
        | some c =>
          obtain ⟨c1, c2⟩ := completeForward_forced stage a c (s := setRunning (.forward stage a) u) hif
          refine ⟨fun q => h2 ?_, ?_, fun _ => ?_⟩
          · rw [← k1, ← show (setRunning (.forward stage a) u).executor.sub = u.executor.sub from rfl, ← c2]
            exact q
          · rw [← h3, ← k1]
            exact c1
          · refine Eq.trans ?_ k3
            simp [afterIssue]
      · unfold reportStage
        split
        · refine ⟨?_, by simpa using h3, fun _ => by simp⟩
          unfold afterReport
          dsimp only
          (repeat' split) <;> simp [beginWaiting, beginStage, State.withExecutor]
        · rename_i hns
          exact ⟨by simp, by simpa using h3, fun q => absurd q hns⟩
    · rename_i hsub _
      exact absurd hsub h2
    · exact ⟨h2, h3, fun _ => rfl⟩

theorem execStart_descends {s : State} (hf : s.forced = true) : Descends s (execStart s) :=
  execRun_induct (execStep_descends hf) ⟨rfl, by simp [beginStage, State.withExecutor], rfl, fun _ => rfl⟩

/-! ### The opening of a forced descent -/

/-- The record that a forced descent opens with (R13). -/
def descentRecord (cause : OpeningCause) (i : StationId) (fl : List (FaultCode × StationId)) (s : State) : Record :=
  newRecord (forcedOpening cause i fl) s.nextNumber s.participantsNow s.system.required s.time

/-- The forced opening, once the open transaction was superseded (R13). -/
def openDescent (cause : OpeningCause) (i : StationId) (fl : List (FaultCode × StationId)) (s : State) : State :=
  execStart (openTransaction (forcedOpening cause i fl) (forcedPhase s.agreement.phase) s)

theorem openDescent_opens (cause : OpeningCause) (i : StationId) (fl : List (FaultCode × StationId)) (s : State) :
    let t := openDescent cause i fl s
    t.agreement = { s.agreement with
      phase := forcedPhase s.agreement.phase, number := some s.nextNumber, record := some (descentRecord cause i fl s) } ∧
    Tells (openTransaction (forcedOpening cause i fl) (forcedPhase s.agreement.phase) s) t ∧ t.executor.stack = [] ∧
    (forcedPhase s.agreement.phase = .mute → t.silentDescent = true ∧ t.slot .stage = s.slot .stage) ∧
    t.loader = s.loader ∧ t.faults = s.faults ∧ t.request.underVote = s.request.underVote ∧
    t.request.pulses = s.request.pulses ∧ t.request.result = s.request.result := by
  have ha := openTransaction_agreement (forcedOpening cause i fl) (forcedPhase s.agreement.phase) s
  have ho := openTransaction_opens (forcedOpening cause i fl) (forcedPhase s.agreement.phase) s
  have hk : (openTransaction (forcedOpening cause i fl) (forcedPhase s.agreement.phase) s).loader = s.loader ∧
      (openTransaction (forcedOpening cause i fl) (forcedPhase s.agreement.phase) s).faults = s.faults ∧
      (openTransaction (forcedOpening cause i fl) (forcedPhase s.agreement.phase) s).request.underVote =
        s.request.underVote ∧
      (openTransaction (forcedOpening cause i fl) (forcedPhase s.agreement.phase) s).request.pulses = s.request.pulses ∧
      (openTransaction (forcedOpening cause i fl) (forcedPhase s.agreement.phase) s).request.result = s.request.result := by
    simp
  unfold openDescent
  dsimp only
  generalize openTransaction (forcedOpening cause i fl) (forcedPhase s.agreement.phase) s = u at *
  obtain ⟨k1, k2, k3, k4, k5⟩ := hk
  have hd := execStart_descends (s := u) (by rw [State.forced, ha]; rfl)
  refine ⟨hd.agreement.trans ha, (execStart_tells u).1, hd.stack, fun hm => ?_, by simp [k1], by simp [k2], by simp [k3],
    by simp [k4], by simp [k5]⟩
  have hs : u.silentDescent = true := by
    simp [State.silentDescent, State.recordOpen, ha, hm, newRecord, forcedOpening, TxnOutcome.inProgress]
  refine ⟨by simpa [State.silentDescent, State.recordOpen, hd.agreement] using hs, ?_⟩
  rw [slot_eq_of_link (hd.link hs), ho.slots _ (by simp) (by simp) (by simp)]

theorem descentRecord_opens {cause : OpeningCause} {i : StationId} {fl : List (FaultCode × StationId)} {s u : State}
    {n : TxnNumber} (hn : u.agreement.number = some n) (hl : u.loader = s.loader) (ht : u.time = s.time) :
    OpensDescent s (descentRecord cause i fl u) (n + 1) cause i fl := by
  have hnn : u.nextNumber = n + 1 := by simp [State.nextNumber, hn]
  exact ⟨hnn, rfl, rfl, rfl, rfl, rfl, ht, rfl, rfl, by rw [← system_congr hl]; rfl⟩

theorem openDescent_purges {cause : OpeningCause} {i : StationId} {fl : List (FaultCode × StationId)} {s u : State}
    (hl : LeadsTo s u) : OpeningPurges s (openDescent cause i fl u) ∧ OwnersToldOfPurge s (openDescent cause i fl u) := by
  obtain ⟨o1, o2, -, -, o5, -⟩ := openDescent_opens cause i fl u
  exact ⟨openTransaction_purged _ _ hl.propose o2 (by rw [o1]) (by rw [o1]) (by rw [State.forced, o1]; rfl) o5,
    openTransaction_told _ _ hl o2⟩

/-! ### O19 -/

/-- A FAULT or a forced PROPOSE of ENTER_OFF that the station takes where it opens a descent comes to the forced opening. -/
theorem forcedDelivered_opens {c : Instr} {i : StationId} {cause : OpeningCause} {fl : List (FaultCode × StationId)}
    {s : State} (hc : (∃ num code tgt, c = .faultDelivered i num code tgt ∧ cause = .fault ∧ fl = [(code, i)]) ∨
      (∃ num img, c = .forcedProposeDelivered i num .enterOff img ∧ cause = .forcedPropose ∧ fl = []))
    (ht : s.takes i) (ho : s.opensForced = true) :
    ∃ f s', f.sender = i ∧ f.body.kind ≠ .stage ∧ exec c s = .next (openForced cause i fl s') ∧ Heard f s s' := by
  have hof : ∀ {f : Frame} {s' : State}, Heard f s s' → s'.opensForced = true := fun h => by
    obtain ⟨ha, -⟩ := h.delivered.keeps
    simpa [State.opensForced, State.opensSilent, State.recordOpen, ha] using ho
  rcases hc with ⟨num, code, tgt, rfl, rfl, rfl⟩ | ⟨num, img, rfl, rfl, rfl⟩
  · obtain ⟨s', he, hd⟩ := handOff_hears (f := ⟨i, num, .fault code tgt⟩) (engine := fun _ => takeFault i code) ht
    rw [takeFault, if_pos (hof hd)] at he
    exact ⟨_, s', rfl, by simp [Body.kind], congrArg Host.Outcome.next he, hd⟩
  · obtain ⟨s', he, hd⟩ := handOff_hears (f := ⟨i, num, .propose .enterOff true img⟩)
      (engine := fun _ => takeForcedPropose i .enterOff) ht
    rw [takeForcedPropose, if_pos (hof hd), if_pos (by simp)] at he
    exact ⟨_, s', rfl, by simp [Body.kind], congrArg Host.Outcome.next he, hd⟩

theorem openForced_unsuperseded {cause : OpeningCause} {i : StationId} {fl : List (FaultCode × StationId)} {s : State}
    (h : s.agreement.phase.defers = false) : openForced cause i fl s = openDescent cause i fl s := by
  have hs : supersede cause s = s := by rw [supersede, h]; rfl
  rw [openForced_eq, hs, openDescent]

/-- Settles O19, from the opening of a descent (`openDescent_opens`) and its purges (`openDescent_purges`). -/
theorem forcedFrameOpensDescent : Obligations.ForcedFrameOpensDescent := by
  refine ⟨fun c i cause fl n s hc ht hp hr hb hn => ?_, fun c i cause fl n s hc ht hp hn => ?_⟩
  · obtain ⟨f, s', hi, hfs, he, hd⟩ := forcedDelivered_opens hc ht (by simp [State.opensForced, State.opensSilent, hp, hr, hb, hn])
    obtain ⟨ha, -, -, hf, hl, -⟩ := hd.delivered.keeps
    have hph : s'.agreement.phase = .mute := by rw [ha, hp]
    rw [openForced_unsuperseded (by simp [hph, Phase.defers])] at he
    obtain ⟨o1, -, -, o4, -, o6, -⟩ := openDescent_opens cause i fl s'
    obtain ⟨p1, p2⟩ := openDescent_purges (cause := cause) (i := i) (fl := fl) hd.leads
    obtain ⟨q1, q2⟩ := o4 (by rw [hph]; rfl)
    rw [hph, ha] at o1
    exact ⟨_, _, he, by rw [o1]; rfl, q1, by rw [o1, State.nextNumber, ha, hn], by rw [o1],
      descentRecord_opens (by rw [ha, hn]) hl hd.time, fun j => hi ▸ hd.participants j, by rw [q2, hd.others _ hfs.symm (by simp)], p1, p2,
      by rw [o1], by rw [o1], o6.trans hf⟩
  · obtain ⟨f, s', hi, -, he, hd⟩ := forcedDelivered_opens hc ht (by simp [State.opensForced, hp, hn])
    obtain ⟨ha, -, -, hf, hl, -⟩ := hd.delivered.keeps
    have hph : s'.agreement.phase = .settled := by rw [ha, hp]
    rw [openForced_unsuperseded (by simp [hph, Phase.defers])] at he
    obtain ⟨o1, -, -, -, -, o6, -⟩ := openDescent_opens cause i fl s'
    obtain ⟨p1, p2⟩ := openDescent_purges (cause := cause) (i := i) (fl := fl) hd.leads
    rw [hph, ha] at o1
    exact ⟨_, _, he, by rw [o1]; rfl, by rw [o1, State.nextNumber, ha, hn], by rw [o1],
      descentRecord_opens (by rw [ha, hn]) hl hd.time, fun j => hi ▸ hd.participants j, p1, p2,
      by rw [o1], by rw [o1], o6.trans hf⟩

end Sys2Proof.Machine
end


section
/-! PROOF. The opening that supersedes (O20). -/

namespace Sys2Proof.Machine

open Sys2Proof

/-! ### The transaction superseded -/

/-- The transaction superseded, up to the purge of its number (R13). -/
def supersededVote (who : Issuer → Bool) (c : Cause) (s : State) : State :=
  answerUnderVote .low (stopVoteTimers ((execIdle (abandonWork who s)).onRecord fun r =>
    r.closed .superseded c (execIdle (abandonWork who s)).time))

theorem closeSuperseded_eq (who : Issuer → Bool) (c : Cause) (s : State) : closeSuperseded who c s =
    archive (purgeTransaction (supersededVote who c s).openNumber (supersededVote who c s)).faults.deferred.length
      (judgeDeferred false (purgeTransaction (supersededVote who c s).openNumber (supersededVote who c s))) := by
  simp only [closeSuperseded, supersededVote]

theorem supersededVote_stands (who : Issuer → Bool) (c : Cause) {s : State} {r : Record} (hr : s.agreement.record = some r) :
    let u := supersededVote who c s
    Tells s u ∧ u.agreement = { s.agreement with
      record := some (r.closed .superseded c s.time), voteWindow := none, voteGuard := none } ∧
    u.request.underVote = none ∧ Answered s u .low (answersFor s.request.underVote) := by
  have hk : (execIdle (abandonWork who s)).agreement = s.agreement ∧ (execIdle (abandonWork who s)).time = s.time ∧
      (execIdle (abandonWork who s)).link = s.link ∧ (execIdle (abandonWork who s)).wake = s.wake ∧
      (execIdle (abandonWork who s)).request = s.request := by simp
  unfold supersededVote
  generalize execIdle (abandonWork who s) = a at *
  obtain ⟨k1, k2, k3, k4, k5⟩ := hk
  have hag := onRecord_agreement (fun r => r.closed .superseded c a.time) (s := a) (by rw [k1]; exact hr)
  have hb : (a.onRecord fun r => r.closed .superseded c a.time).link = a.link ∧
      (a.onRecord fun r => r.closed .superseded c a.time).wake = a.wake ∧
      (a.onRecord fun r => r.closed .superseded c a.time).request = a.request := by simp
  rw [k1, k2] at hag
  rw [k2] at hb ⊢
  generalize (a.onRecord fun r => r.closed .superseded c s.time) = b at *
  obtain ⟨b1, b2, b3⟩ := hb
  have hans := answerUnderVote_answered .low (stopVoteTimers b)
  have habs := answerUnderVote_absent .low (stopVoteTimers b)
  have hsr : (stopVoteTimers b).request = s.request := by simp [b3, k5]
  rw [hsr] at hans
  refine ⟨.of_eq (by simp [b1, k3]) (by simp [b2, k4]) (by simp [b2, k4]) (by simp [b3, k5]), ?_, habs,
    hans.before (by rw [hsr]) (by rw [hsr])⟩
  have : (answerUnderVote .low (stopVoteTimers b)).agreement = (stopVoteTimers b).agreement := by simp
  rw [this, stopVoteTimers, State.withAgreement]
  dsimp only
  rw [hag]

/-- What a transaction that is superseded leaves (R13, R18, R103). -/
theorem closeSuperseded_closes (who : Issuer → Bool) (c : Cause) {s : State} {r : Record} (hr : s.agreement.record = some r) :
    let t := closeSuperseded who c s
    Tells s t ∧ Archived s t r .superseded c ∧
    t.agreement = { s.agreement with
      record := some (r.closed .superseded c s.time), voteWindow := none, voteGuard := none
      history := t.agreement.history } ∧
    t.request.underVote = none ∧ Answered s t .low (answersFor s.request.underVote) ∧ t.faults.deferred = [] := by
  obtain ⟨v1, v2, v3, v4⟩ := supersededVote_stands who c hr
  rw [closeSuperseded_eq]
  dsimp only
  generalize supersededVote who c s = u at *
  have hp := purgeTransaction_tells u.openNumber u
  have hk : (purgeTransaction u.openNumber u).agreement = u.agreement ∧
      (purgeTransaction u.openNumber u).request.underVote = u.request.underVote ∧
      (purgeTransaction u.openNumber u).request.pulses = u.request.pulses ∧
      (purgeTransaction u.openNumber u).request.result = u.request.result := by simp
  generalize purgeTransaction u.openNumber u = p at *
  obtain ⟨p1, p2, p3, p4⟩ := hk
  obtain ⟨j2, j3, -⟩ := judgeDeferred_owners false p
  have j1 := judgeDeferred_link p
  have j4 : (judgeDeferred false p).agreement = p.agreement := by simp
  have j5 : (judgeDeferred false p).faults.deferred = [] := by simp [judgeDeferred]
  generalize judgeDeferred false p = j at *
  have hjr : j.agreement.record = some (r.closed .superseded c s.time) := by rw [j4, p1, v2]
  have hh := archive_history p.faults.deferred.length hjr
  have hak : (archive p.faults.deferred.length j).link = j.link ∧ (archive p.faults.deferred.length j).wake = j.wake ∧
      (archive p.faults.deferred.length j).request = j.request ∧
      (archive p.faults.deferred.length j).faults = j.faults := by simp
  have haa : (archive p.faults.deferred.length j).agreement =
      { j.agreement with history := (archive p.faults.deferred.length j).agreement.history } := by
    unfold archive
    rw [hjr]
    rfl
  generalize archive p.faults.deferred.length j = t at *
  obtain ⟨t1, t2, t3, t4⟩ := hak
  refine ⟨(v1.trans hp).trans (.of_eq (t1.trans j1) (by rw [t2, j2]) (by rw [t2, j2]) (by rw [t3, j3])),
    archived_of_closed (n := p.faults.deferred.length) ?_, ?_, ?_, ?_, by rw [t4, j5]⟩
  · rw [hh, j4, p1, v2]
  · rw [haa, j4, p1, v2]
  · rw [t3, j3, p2, v3]
  · exact v4.after (by rw [t3, j3, p3]) (by rw [t3, j3, p4])

/-- A forced opening that supersedes leads to the superseded transaction's close and the opening of the descent (R13). -/
theorem openForced_superseding {cause : OpeningCause} {i : StationId} {fl : List (FaultCode × StationId)} {s : State}
    (h : s.agreement.phase.defers = true) : openForced cause i fl s =
      openDescent cause i fl (closeSuperseded isSuperseded cause.cause s) := by
  have hs : supersede cause s = closeSuperseded isSuperseded cause.cause s := if_pos h
  rw [openForced_eq, hs, openDescent]

/-! ### A CENSUS that supersedes -/

/-- A step that touches of the slots that of BEAT alone, and no owner. -/
theorem LeadsTo.beat {s u v : State} (h : LeadsTo s u) (hs : ∀ k, k ≠ .beat → v.slot k = u.slot k)
    (hb : SlotHolds .beat (u.slot .beat) → SlotHolds .beat (v.slot .beat)) (hw : v.wake = u.wake)
    (hr : v.request.latch = u.request.latch) : LeadsTo s v where
  propose := by rw [hs _ (by simp)]; exact h.propose
  wake := by rw [hs _ (by simp)]; exact h.wake
  latch := by rw [hr]; exact h.latch
  queue := by rw [hw]; exact h.queue
  fits := fun q => by
    obtain ⟨f1, f2⟩ := h.fits q
    refine ⟨fun k => ?_, fun hn => by rw [hw]; exact f2 fun r => by rw [← hs _ (by simp)]; exact hn r⟩
    by_cases hk : k = .beat
    · rw [hk]
      exact hb (f1 _)
    · rw [hs k hk]
      exact f1 k

/-- A BEAT is filled where none is queued or on the line, so no owner is told (R145). -/
theorem fillBeat_beat (s : State) :
    (∀ k, k ≠ .beat → (fillBeat s).slot k = s.slot k) ∧
    (SlotHolds .beat (s.slot .beat) → SlotHolds .beat ((fillBeat s).slot .beat)) ∧
    (fillBeat s).wake = s.wake ∧ (fillBeat s).request = s.request := by
  unfold fillBeat
  split
  · exact ⟨fun _ _ => rfl, id, rfl, rfl⟩
  · rename_i hb
    have hq : (s.slot .beat).queued = none := by
      cases h : (s.slot .beat).queued with
      | none => rfl
      | some x => simp [State.beatInSlot, h] at hb
    refine ⟨fun k hk => fillSlot_slot_ne s hk _, fun h => ?_, ?_⟩
    · by_cases ht : s.takesFill .beat = true
      · rw [fillSlot_slot_same ht]
        exact ⟨fun r q => (by cases q), fun _ _ => rfl, h.2.2⟩
      · rw [fillSlot, if_neg ht]
        exact h
    · unfold fillSlot
      split
      · rw [hq]
        exact ⟨rfl, rfl⟩
      · exact ⟨rfl, rfl⟩

/-- A CENSUS heard outside SETTLED: the peer table, and the refreshed-view and barring sets (R142, R147, R150). -/
theorem censusPeer_unsettled (i : StationId) (sig : Signature) (rc : ResetCause) {s : State} (h : s.agreement.phase ≠ .settled) :
    (censusPeer i sig rc s).link = s.link ∧ (censusPeer i sig rc s).wake = s.wake ∧
    (censusPeer i sig rc s).request.latch = s.request.latch := by
  unfold censusPeer reportPresent
  dsimp only
  split
  · split
    · rw [testAnnounce_unsettled (s := s.withPeer i _) h]
      exact ⟨rfl, rfl, rfl⟩
    · exact ⟨rfl, rfl, rfl⟩
  · rw [refreshSeen_unsettled (s := s.withPeer i _) i h]
    exact ⟨rfl, rfl, rfl⟩

/-- The CENSUS of a participant while a non-forced transaction is open comes to the forced opening (R13, R150). -/
theorem censusDelivered_opens {i : StationId} {sig : Signature} {rc : ResetCause} {r : Record} {n : TxnNumber} {s : State}
    (ho : s.onLink = true) (hp : s.agreement.phase.defers = true) (hn : s.agreement.number = some n)
    (hr : s.agreement.record = some r) (hi : setHas r.participants i = true) :
    ∃ u, exec (.censusDelivered i sig rc) s = .next (openForced .peerRestart i [] u) ∧ LeadsTo s u ∧
      u.agreement = s.agreement ∧ u.loader = s.loader ∧ u.time = s.time ∧ u.request.underVote = s.request.underVote ∧
      u.request.pulses = s.request.pulses ∧ u.request.result = s.request.result := by
  have hns : s.agreement.phase ≠ .settled ∧ s.agreement.phase ≠ .mute := by
    constructor <;>
    · intro q
      rw [q] at hp
      cases hp
  have hx : exec (.censusDelivered i sig rc) s = .next (deliverCensus i sig rc s) := rfl
  have hl := ownDelivered_leads ⟨i, 0, .census sig rc⟩ (s.ownSending ⟨i, 0, .census sig rc⟩) s
  have hk : (ownDelivered ⟨i, 0, .census sig rc⟩ (s.ownSending ⟨i, 0, .census sig rc⟩) s).agreement = s.agreement ∧
      (ownDelivered ⟨i, 0, .census sig rc⟩ (s.ownSending ⟨i, 0, .census sig rc⟩) s).loader = s.loader ∧
      (ownDelivered ⟨i, 0, .census sig rc⟩ (s.ownSending ⟨i, 0, .census sig rc⟩) s).time = s.time ∧
      (ownDelivered ⟨i, 0, .census sig rc⟩ (s.ownSending ⟨i, 0, .census sig rc⟩) s).request = s.request := by simp
  rw [hx, deliverCensus, if_neg (by simp [ho])]
  dsimp only
  generalize ownDelivered ⟨i, 0, .census sig rc⟩ (s.ownSending ⟨i, 0, .census sig rc⟩) s = a at *
  obtain ⟨k1, k2, k3, k4⟩ := hk
  have hrestart : ∀ u : State, u.agreement = s.agreement → restartSupersedes i u = openForced .peerRestart i [] u := fun u h =>
    if_pos (by simp [State.participants, h, hp, hn, hr, hi])
  by_cases hme : i = a.me
  · rw [if_pos hme, hrestart a k1]
    exact ⟨a, rfl, hl, k1, k2, k3, by rw [k4], by rw [k4], by rw [k4]⟩
  · obtain ⟨c1, c2, c3⟩ := censusPeer_unsettled i sig rc (s := a) (by rw [k1]; exact hns.1)
    have hck : (censusPeer i sig rc a).agreement = a.agreement ∧ (censusPeer i sig rc a).loader = a.loader ∧
        (censusPeer i sig rc a).time = a.time ∧ (censusPeer i sig rc a).request.underVote = a.request.underVote ∧
        (censusPeer i sig rc a).request.pulses = a.request.pulses ∧
        (censusPeer i sig rc a).request.result = a.request.result := by simp
    rw [if_neg hme, takeCensus]
    generalize censusPeer i sig rc a = b at *
    obtain ⟨b1, b2, b3, b4, b5, b6⟩ := hck
    have hb : LeadsTo s b := hl.beat (fun k _ => slot_eq_of_link c1 k) (fun q => by rw [slot_eq_of_link c1]; exact q) c2 c3
    have hlm : checkLeaveMute b = b := by
      unfold checkLeaveMute
      rw [if_neg (by simp [b1, k1, hns.2])]
    rw [hlm]
    obtain ⟨f1, f2, f3, f4⟩ := fillBeat_beat b
    have hfk : (fillBeat b).agreement = b.agreement ∧ (fillBeat b).loader = b.loader ∧ (fillBeat b).time = b.time := by simp
    obtain ⟨g1, g2, g3⟩ := hfk
    have hall : ∀ u : State, u = fillBeat b ∨ u = b → ∃ v, restartSupersedes i u =
        openForced .peerRestart i [] v ∧ LeadsTo s v ∧ v.agreement = s.agreement ∧ v.loader = s.loader ∧
        v.time = s.time ∧ v.request.underVote = s.request.underVote ∧ v.request.pulses = s.request.pulses ∧
        v.request.result = s.request.result := fun u h => by
      rcases h with rfl | rfl
      · rw [hrestart _ (g1.trans (b1.trans k1))]
        exact ⟨_, rfl, hb.beat f1 f2 f3 (by rw [f4]), g1.trans (b1.trans k1), g2.trans (b2.trans k2), g3.trans (b3.trans k3),
          by rw [f4, b4, k4], by rw [f4, b5, k4], by rw [f4, b6, k4]⟩
      · rw [hrestart _ (b1.trans k1)]
        exact ⟨_, rfl, hb, b1.trans k1, b2.trans k2, b3.trans k3, by rw [b4, k4], by rw [b5, k4], by rw [b6, k4]⟩
    split
    · obtain ⟨v, e, h⟩ := hall _ (.inl rfl)
      exact ⟨v, congrArg Host.Outcome.next e, h⟩
    · obtain ⟨v, e, h⟩ := hall _ (.inr rfl)
      exact ⟨v, congrArg Host.Outcome.next e, h⟩

/-! ### O20 -/

theorem forcedPhase_of_defers {p : Phase} (h : p.defers = true) : forcedPhase p = .descending := by
  cases p <;> simp_all [Phase.defers, forcedPhase]

/-- Settles O20, from the close of the superseded transaction (`closeSuperseded_closes`) and the opening of the descent
(`openDescent_opens`, `openDescent_purges`). -/
theorem forcedFrameSupersedes : Obligations.ForcedFrameSupersedes := by
  intro c i cause fl n r₀ s hc hp hn hr
  have hstart : ∃ u, exec c s = .next (openForced cause i fl u) ∧ LeadsTo s u ∧ u.agreement = s.agreement ∧
      u.loader = s.loader ∧ u.time = s.time ∧ u.request.underVote = s.request.underVote ∧
      u.request.pulses = s.request.pulses ∧ u.request.result = s.request.result := by
    have hof : s.opensForced = true := by simp [State.opensForced, hp, hn]
    have hreq : ∀ {f : Frame} {s' : State}, Heard f s s' → s'.request.underVote = s.request.underVote ∧
        s'.request.pulses = s.request.pulses ∧ s'.request.result = s.request.result := fun h => by
      rw [h.delivered.1]
      exact ⟨rfl, rfl, rfl⟩
    have hforced : s.takes i → ((∃ num code tgt, c = .faultDelivered i num code tgt ∧ cause = .fault ∧ fl = [(code, i)]) ∨
        (∃ num img, c = .forcedProposeDelivered i num .enterOff img ∧ cause = .forcedPropose ∧ fl = [])) →
        ∃ u, exec c s = .next (openForced cause i fl u) ∧ LeadsTo s u ∧ u.agreement = s.agreement ∧
          u.loader = s.loader ∧ u.time = s.time ∧ u.request.underVote = s.request.underVote ∧
          u.request.pulses = s.request.pulses ∧ u.request.result = s.request.result := fun ht h => by
      obtain ⟨f, s', -, -, he, hd⟩ := forcedDelivered_opens h ht hof
      obtain ⟨ha, -, -, -, hl, -⟩ := hd.delivered.keeps
      exact ⟨s', he, hd.leads, ha, hl, hd.time, hreq hd⟩
    rcases hc with ⟨num, code, tgt, h1, h2, h3, ht⟩ | ⟨num, img, h1, h2, h3, ht⟩ | ⟨sig, rc, rfl, rfl, rfl, ho, hi⟩
    · exact hforced ht (.inl ⟨num, code, tgt, h1, h2, h3⟩)
    · exact hforced ht (.inr ⟨num, img, h1, h2, h3⟩)
    · exact censusDelivered_opens ho hp hn hr hi
  obtain ⟨u, he, hl, ha, hld, ht, hv, hpu, hre⟩ := hstart
  rw [openForced_superseding (by rw [ha]; exact hp)] at he
  obtain ⟨c1, c2, c3, c4, c5, c6⟩ := closeSuperseded_closes isSuperseded cause.cause (s := u) (r := r₀) (by rw [ha, hr])
  have hk : (closeSuperseded isSuperseded cause.cause u).loader = u.loader ∧
      (closeSuperseded isSuperseded cause.cause u).time = u.time := by simp
  generalize closeSuperseded isSuperseded cause.cause u = v at *
  obtain ⟨k1, k2⟩ := hk
  have hvn : v.agreement.number = some n := by rw [c3, ha, hn]
  have hvp : forcedPhase v.agreement.phase = .descending := by
    rw [c3, ha]
    exact forcedPhase_of_defers hp
  obtain ⟨o1, -, o3, -, -, o6, o7, o8, o9⟩ := openDescent_opens cause i fl v
  obtain ⟨p1, p2⟩ := openDescent_purges (cause := cause) (i := i) (fl := fl) (hl.tells c1)
  rw [hvp] at o1
  rw [hv] at c5
  exact ⟨_, _, he, by rw [o1], by rw [o1, State.nextNumber, hvn], by rw [o1],
    descentRecord_opens hvn (k1.trans hld) (k2.trans ht), (c2.of_before (by rw [ha]) ht).of_after (by rw [o1]), o3,
    by rw [o6, c6], by rw [o7, c4], (c5.before hpu hre).after o8 o9, p1, p2, by rw [o1, c3], by rw [o1, c3],
    by rw [o1, c3, ha]⟩

end Sys2Proof.Machine
end


section
/-! PROOF. A non-forced PROPOSE that opens (O16, O17). -/

namespace Sys2Proof.Machine

open Sys2Proof

/-! ### The vote policy -/

theorem inhibitCalls_iff (s : State) (inh : Inhibits) (k : Kind) (a : InhibitAction) :
    s.inhibitCalls inh k a = true ↔ s.inhibitedTo inh k a := by
  simp [State.inhibitCalls, State.inhibitedTo, inhibitLevel, List.finRange_succ]

theorem hasSevere_iff (s : State) : s.hasSevere = true ↔ ∃ e ∈ s.faults.latched, e.severity = .severe := by
  simp [State.hasSevere]

/-- The vote policy is the first of its seven rows that matches (R32). -/
theorem votePolicy_rows (inh : Inhibits) (k : Kind) (s : State) :
    (s.inhibitedTo inh k .decline → s.votePolicy inh k = .decline .inhibit) ∧
    (¬ s.inhibitedTo inh k .decline →
      (s.request.lockout.isSome = true → k.isEntry = true → s.votePolicy inh k = .decline .lockout) ∧
      (s.request.lockout = none ∨ k.isEntry = false →
        (s.request.refresh ≠ 0 → s.votePolicy inh k = .decline .refreshPending) ∧
        (s.request.refresh = 0 →
          ((∃ e ∈ s.faults.latched, e.severity = .severe) → s.votePolicy inh k = .decline .faultPending) ∧
          ((∀ e ∈ s.faults.latched, e.severity ≠ .severe) →
            (k = .demote → s.agreement.restImage = false → s.votePolicy inh k = .decline .noImage) ∧
            (k ≠ .demote ∨ s.agreement.restImage = true →
              (s.inhibitedTo inh k .defer → s.votePolicy inh k = .defer) ∧
              (¬ s.inhibitedTo inh k .defer → s.votePolicy inh k = .accept)))))) := by
  simp only [← inhibitCalls_iff]
  refine ⟨fun h => if_pos h, fun h => ⟨fun h1 h2 => ?_, fun h1 => ⟨fun h2 => ?_, fun h2 => ⟨fun h3 => ?_, fun h3 =>
    ⟨fun h4 h5 => ?_, fun h4 => ⟨fun h5 => ?_, fun h5 => ?_⟩⟩⟩⟩⟩⟩ <;> rw [State.votePolicy, if_neg h]
  · rw [if_pos (by simp [h1, h2])]
  all_goals have hlock : ¬ (s.request.lockout.isSome && k.isEntry) = true := by rcases h1 with h1 | h1 <;> simp [h1]
  all_goals rw [if_neg hlock]
  · rw [if_pos (by simpa using h2)]
  all_goals rw [if_neg (by simp [h2])]
  · rw [if_pos ((hasSevere_iff s).2 h3)]
  all_goals rw [if_neg (mt (hasSevere_iff s).1 (by push Not; exact h3))]
  · rw [if_pos (by simp [h4, h5])]
  all_goals rw [if_neg (by rcases h4 with h4 | h4 <;> simp [h4])]
  · rw [if_pos h5]
  · rw [if_neg h5]

/-! ### The opening in VOTING -/

/-- The station as its own PROPOSE opens, or another's (R22). -/
theorem ownProposeOpens_stands (own : Option Ready) (s : State) : ownProposeOpens own s = { s with
    request := { s.request with
      latch := (ownProposeOpens own s).request.latch, underVote := (ownProposeOpens own s).request.underVote } } := by
  unfold ownProposeOpens moveUnderVote
  (repeat' split) <;> rfl

/-- The record that a non-forced PROPOSE opens with (R11). -/
def proposeRecord (i : StationId) (k : Kind) (img : Bool) (s : State) : Record :=
  newRecord (proposeOpening i k img) s.nextNumber s.participantsNow s.system.required s.time

/-- The station in VOTING with its own VOTE cast (R11). -/
def votingOpened (i : StationId) (k : Kind) (img : Bool) (inh : Inhibits) (s : State) : State :=
  castVote i k inh (startVoteTimer i (openTransaction (proposeOpening i k img) .voting s))

theorem votePolicy_congr {s t : State} (hl : t.loader = s.loader) (ho : t.request.lockout = s.request.lockout)
    (hr : t.request.refresh = s.request.refresh) (hf : t.faults = s.faults)
    (hi : t.agreement.restImage = s.agreement.restImage) (inh : Inhibits) (k : Kind) :
    t.votePolicy inh k = s.votePolicy inh k := by
  have hst : t.station = s.station := by simp [State.station, hl]
  have hc : ∀ a, t.inhibitCalls inh k a = s.inhibitCalls inh k a := fun a => by simp only [State.inhibitCalls, hst]
  have hs : t.hasSevere = s.hasSevere := by simp only [State.hasSevere, hf]
  unfold State.votePolicy
  rw [hc, hc, hs, ho, hr, hi]

theorem votingOpened_stands (i : StationId) (k : Kind) (img : Bool) (inh : Inhibits) (s : State) :
    let t := votingOpened i k img inh s
    t.agreement = { s.agreement with
      phase := .voting, number := some s.nextNumber, record := some (proposeRecord i k img s)
      voteWindow := if i = s.me then some s.system.voteWindow else s.agreement.voteWindow
      voteGuard := if i = s.me then s.agreement.voteGuard else some (2 * s.system.voteWindow) } ∧
    Tells (openTransaction (proposeOpening i k img) .voting s) t ∧
    (i ≠ s.me → t.hasQueued .vote s.nextNumber (.vote (s.votePolicy inh k))) ∧
    t.loader = s.loader ∧ t.time = s.time ∧ t.executor = s.executor ∧ t.channel = s.channel ∧ t.faults = s.faults ∧
    t.presence.debt = s.presence.debt ∧ t.request.underVote = s.request.underVote ∧
    t.request.pulses = s.request.pulses ∧ t.request.result = s.request.result := by
  have ha := openTransaction_agreement (proposeOpening i k img) .voting s
  have hk : (openTransaction (proposeOpening i k img) .voting s).loader = s.loader ∧
      (openTransaction (proposeOpening i k img) .voting s).time = s.time ∧
      (openTransaction (proposeOpening i k img) .voting s).executor = s.executor ∧
      (openTransaction (proposeOpening i k img) .voting s).channel = s.channel ∧
      (openTransaction (proposeOpening i k img) .voting s).faults = s.faults ∧
      (openTransaction (proposeOpening i k img) .voting s).presence.debt = s.presence.debt ∧
      (openTransaction (proposeOpening i k img) .voting s).request.underVote = s.request.underVote ∧
      (openTransaction (proposeOpening i k img) .voting s).request.pulses = s.request.pulses ∧
      (openTransaction (proposeOpening i k img) .voting s).request.result = s.request.result ∧
      (openTransaction (proposeOpening i k img) .voting s).request.lockout = s.request.lockout ∧
      (openTransaction (proposeOpening i k img) .voting s).request.refresh = s.request.refresh := by simp
  unfold votingOpened
  dsimp only
  generalize openTransaction (proposeOpening i k img) .voting s = u at *
  obtain ⟨k1, k2, k3, k4, k5, k6, k7, k8, k9, k10, k11⟩ := hk
  have hme : u.me = s.me := by simp [State.me, k1]
  by_cases hi : i = s.me
  · have he : castVote i k inh (startVoteTimer i u) =
        u.withAgreement { u.agreement with voteWindow := some u.system.voteWindow } := by
      rw [startVoteTimer, if_pos (hi.trans hme.symm)]
      exact if_pos (hi.trans hme.symm)
    rw [he]
    refine ⟨?_, .of_eq rfl rfl rfl rfl, fun q => absurd hi q, k1, k2, k3, k4, k5, k6, k7, k8, k9⟩
    rw [if_pos hi, if_pos hi, State.withAgreement, ha, system_congr k1]
    rfl
  · have hi' : ¬ i = u.me := by rw [hme]; exact hi
    have he : startVoteTimer i u = u.withAgreement { u.agreement with voteGuard := some (2 * u.system.voteWindow) } := by
      rw [startVoteTimer, if_neg hi']
    rw [he]
    have hw : ∀ v : State, v = u.withAgreement { u.agreement with voteGuard := some (2 * u.system.voteWindow) } →
        castVote i k inh v = fillFrame s.nextNumber (.vote (s.votePolicy inh k)) v := fun v h => by
      have hv : ¬ i = v.me := by rw [h]; exact hi'
      rw [castVote, if_neg hv, show v.openNumber = s.nextNumber by rw [h]; simp [State.openNumber, ha, newRecord],
        votePolicy_congr (s := s) (by rw [h]; exact k1) (by rw [h]; exact k10) (by rw [h]; exact k11) (by rw [h]; exact k5)
          (by rw [h]; simp [ha])]
    rw [hw _ rfl]
    have hq := fillFrame_hasQueued (body := .vote (s.votePolicy inh k))
      (s := u.withAgreement { u.agreement with voteGuard := some (2 * u.system.voteWindow) })
      (takesFill_of_phase (by simp [ha]) _) s.nextNumber
    have hta : Tells u (u.withAgreement { u.agreement with voteGuard := some (2 * u.system.voteWindow) }) :=
      .of_eq rfl rfl rfl rfl
    have hte := fillFrame_tells (body := .vote (s.votePolicy inh k)) (.inl rfl) s.nextNumber
      (u.withAgreement { u.agreement with voteGuard := some (2 * u.system.voteWindow) })
    refine ⟨?_, hta.trans hte,
      fun _ => hq, by simp [k1],
      by simp [k2], by simp [k3], by simp [k4], by simp [k5], by simp [k6], by simp [k7], by simp [k8], by simp [k9]⟩
    simp only [fillFrame_keeps]
    rw [if_neg hi, if_neg hi, State.withAgreement, ha, system_congr k1]
    rfl

theorem set_eq_zero_iff (a : StationSet) : a = 0 ↔ ∀ j, setHas a j = false := by
  refine ⟨fun h j => by rw [h]; simp [setHas], fun h => BitVec.eq_of_getLsbD_eq fun j hj => ?_⟩
  simpa [setHas] using h ⟨j, hj⟩

theorem setHas_and (a b : StationSet) (j : StationId) : setHas (a &&& b) j = (setHas a j && setHas b j) := by
  simp [setHas]

/-- Whom the record of a PROPOSE awaits (R34). -/
theorem proposeRecord_awaited {f : Frame} {s s' u : State} (h : Heard f s s') (hp : u.participantsNow = s'.participantsNow)
    (hl : u.loader = s.loader) (k : Kind) (img : Bool) :
    (proposeRecord f.sender k img u).awaited = 0 ↔ ¬ s.awaitsSome f.sender := by
  have hc : (proposeRecord f.sender k img u).awaited = setDrop (s'.participantsNow &&& s.system.required) f.sender := by
    rw [← system_congr hl, ← hp]
    rfl
  rw [hc, set_eq_zero_iff]
  simp only [setHas_setDrop, setHas_and, h.participants, State.awaitsSome, not_exists, not_and]
  refine forall_congr' fun j => ?_
  by_cases hj : j = f.sender
  · simp [hj]
  · rw [show (j == f.sender) = false from beq_eq_false_iff_ne.2 hj]
    cases setHas s.system.required j <;> cases hp : s.isPresent j <;> by_cases hm : j = s.me <;> simp_all

/-! ### The delivery -/

/-- The record that a PROPOSE opens with. -/
theorem proposeRecord_stands (i : StationId) (k : Kind) (img : Bool) (s : State) :
    let r := proposeRecord i k img s
    r.number = s.nextNumber ∧ r.kind = k ∧ r.forced = false ∧ r.imageBacked = (img && k == .enterRest) ∧ r.originator = i ∧
    r.outcome = .opened ∧ r.openedAt = s.time ∧ r.participants = s.participantsNow ∧
    r.consent = s.participantsNow &&& s.system.required ∧ r.committed = false ∧
    ∀ j, tabGet r.votes j = if j = i then some .accept else none := by
  refine ⟨rfl, rfl, rfl, rfl, rfl, rfl, rfl, rfl, rfl, rfl, fun j => ?_⟩
  show tabGet (Opening.votes (proposeOpening i k img)) j = _
  simp [Opening.votes, proposeOpening]

/-- A valid PROPOSE in SETTLED comes to the opening: what was heard of it, and, where it is the station's own, the request that
goes under vote (R11, R22). -/
theorem proposeDelivered_opens {i : StationId} {num n : TxnNumber} {k : Kind} (img : Bool) (inh : Inhibits) {s : State}
    (ht : s.takes i) (hp : s.agreement.phase = .settled) (hn : s.agreement.number = some n)
    (hv : proposeValid k s.agreement.believed = true) :
    ∃ s' u, exec (.proposeDelivered i num k img inh) s = .next (tallyAtOpening (votingOpened i k img inh u)) ∧
      Heard ⟨i, num, .propose k false img⟩ s s' ∧ u = ownProposeOpens (s.ownSending ⟨i, num, .propose k false img⟩) s' := by
  obtain ⟨s', he, hd⟩ := handOff_hears (f := ⟨i, num, .propose k false img⟩) (engine := takePropose i k img inh) ht
  obtain ⟨ha, -⟩ := hd.delivered.keeps
  rw [takePropose, ha, hp] at he
  dsimp only at he
  rw [if_pos (by simp [hv, hn])] at he
  exact ⟨s', _, congrArg Host.Outcome.next he, hd, rfl⟩

theorem proposeValid_of {k : Kind} {b : Option SystemState}
    (h : (b = some .run ∧ k.isEntry = true) ∨ (b = some .rest ∧ k = .demote)) : proposeValid k b = true := by
  rcases h with ⟨rfl, h⟩ | ⟨rfl, rfl⟩
  · exact h
  · rfl

/-- What stands as the opening begins. -/
theorem ownProposeOpens_heard {i : StationId} {num : TxnNumber} {k : Kind} {img : Bool} {s s' u : State}
    (hd : Heard ⟨i, num, .propose k false img⟩ s s')
    (hu : u = ownProposeOpens (s.ownSending ⟨i, num, .propose k false img⟩) s') :
    u.agreement = s.agreement ∧ u.loader = s.loader ∧ u.time = s.time ∧ u.participantsNow = s'.participantsNow ∧
    (u.slot .propose).queued = (s.slot .propose).queued ∧ u.executor = s.executor ∧ u.channel = s.channel ∧
    u.faults = s.faults ∧ u.request.lockout = s.request.lockout ∧ u.request.refresh = s.request.refresh ∧
    (¬ s.sends ⟨i, num, .propose k false img⟩ → LeadsTo s u) := by
  obtain ⟨ha, hx, hc, hf, hl, -, -, -⟩ := hd.delivered.keeps
  have hw := ownProposeOpens_stands (s.ownSending ⟨i, num, .propose k false img⟩) s'
  rw [← hu] at hw
  have hreq : s'.request.lockout = s.request.lockout ∧ s'.request.refresh = s.request.refresh := by
    rw [hd.delivered.1]
    exact ⟨rfl, rfl⟩
  have hleads : ¬ s.sends ⟨i, num, .propose k false img⟩ → LeadsTo s u := fun h => by
    rw [hu, ownSending_of_not_sends h]
    exact hd.leads
  clear hu
  rw [hw]
  refine ⟨ha, hl, hd.time, rfl, hd.leads.propose, hx, hc, hf, hreq.1, hreq.2, fun h => ?_⟩
  rw [← hw]
  exact hleads h

/-- A PROPOSE that awaits nobody is accepted at its opening: the VOTEs of its number are purged (R11, R34). -/
theorem accept_vote {s : State} {r : Record} (hr : s.agreement.record = some r) :
    ∀ q, ((accept s).slot .vote).queued = some (.ready q) → q.frame.number ≠ r.number := by
  have hnum : (acceptedVote s).openNumber = r.number := by simp [State.openNumber, acceptedVote_record, hr]
  have hs : (acceptedStaging s).slot .vote = (purgeNumber .vote r.number (acceptedVote s)).slot .vote := by
    rw [acceptedStaging, hnum]
    exact purgeKind_slot_ne _ (by simp) _
  have hc : ∀ u : State, (commitAtStart u).slot .vote = u.slot .vote := fun u => by
    unfold commitAtStart commit
    split
    · dsimp only
      rw [purgeNumber, purgeKind_slot_ne _ (by simp)]
      exact slot_eq_of_link (by simp [State.withExecutor]) _
    · rfl
  have hw : ∀ (x : Option (Fin 8)) (u : State), (renewWakeAbort x u).slot .vote = u.slot .vote := fun x u => by
    unfold renewWakeAbort requestAbort
    (repeat' split) <;> try rfl
    exact fillFrame_slot_ne u (by simp [Body.kind]) _
  intro q hq hn
  rw [accept_eq, (execStart_tells _).2 .vote (by simp), hw, hc, hs, purgeNumber, purgeKind_slot_same] at hq
  dsimp only at hq
  split at hq
  · cases hq
  · rename_i hm
    rw [hq] at hm
    simp [queuedMatches, hn] at hm

theorem acceptedVote_tells (s : State) : Tells s (acceptedVote s) :=
  .of_eq (by simp [acceptedVote]) (by simp [acceptedVote]) (by simp [acceptedVote]) (by simp [acceptedVote])

/-- Settles O16: the vote policy by its rows, the openings from what they leave (`votingOpened_stands`, `accept_accepts`). -/
theorem proposeOpensVoting : Obligations.ProposeOpensVoting := by
  refine ⟨fun inh k s => votePolicy_rows inh k s, fun i num n k img inh s ht hp hn haw hv => ?_,
    fun i num n k img inh s ht hp hn haw hv => ?_⟩
  · obtain ⟨s', u, he, hd, hu⟩ := proposeDelivered_opens (num := num) img inh ht hp hn (proposeValid_of hv)
    obtain ⟨u1, u2, u3, u4, u5, u6, u7, u8, -, -, u9⟩ := ownProposeOpens_heard hd hu
    have hnn : u.nextNumber = n + 1 := by simp [State.nextNumber, u1, hn]
    obtain ⟨v1, v2, -, v4, v5, -, -, v8, -⟩ := votingOpened_stands i k img inh u
    obtain ⟨r1, r2, r3, -, r5, r6, r7, r8, -, r10, -⟩ := proposeRecord_stands i k img u
    have hz : (proposeRecord i k img u).awaited = 0 := (proposeRecord_awaited hd u4 u2 k img).2 haw
    generalize votingOpened i k img inh u = b at *
    have hbr : b.agreement.record = some (proposeRecord i k img u) := by rw [v1]
    rw [tallyAtOpening, hbr] at he
    dsimp only at he
    rw [if_pos hz] at he
    have hvote := accept_vote hbr
    obtain ⟨c1, c2, -, -⟩ := accept_accepts hbr
    have hal : (accept b).loader = b.loader ∧ (accept b).faults = b.faults := by simp
    have htells := v2.trans ((acceptedVote_tells b).trans c2)
    have hcm := committedAtStart_committed b
      (r := { proposeRecord i k img u with outcome := .accepted, acceptedAt := some b.time }) r10
    have hrec : ∀ r' : Record, r' = committedAtStart b
        { proposeRecord i k img u with outcome := .accepted, acceptedAt := some b.time } →
        r'.number = u.nextNumber ∧ r'.kind = k ∧ r'.forced = false ∧ r'.originator = i ∧ r'.outcome = .accepted ∧
        r'.openedAt = u.time ∧ r'.acceptedAt = some b.time ∧ r'.participants = u.participantsNow := fun r' h => by
      rw [h]
      unfold committedAtStart
      split <;> exact ⟨rfl, rfl, rfl, rfl, rfl, rfl, rfl, rfl⟩
    obtain ⟨q1, q2, q3, q4, q5, q6, q7, q8⟩ := hrec _ rfl
    generalize committedAtStart b { proposeRecord i k img u with outcome := .accepted, acceptedAt := some b.time } = r' at *
    generalize accept b = t at *
    rw [v1] at c1
    refine ⟨t, r', he, by rw [c1], by rw [c1, hnn], by rw [c1], q1.trans hnn, q2, q3, q4, q5, q6.trans u3,
      q7.trans (congrArg some (v5.trans u3)), ?_, fun j => ?_, by rw [c1], by rw [c1], ?_, ?_, ?_,
      fun h => openTransaction_told _ _ (u9 h) htells, by rw [c1, u1], by rw [c1, u1], hal.2.trans (v8.trans u8)⟩
    · rw [hcm, r2, commitStage_congr (v4.trans u2)]
    · rw [q8, u4]
      exact hd.participants j
    · rw [c1, r2]
      exact streakOf_setStreak _ 0 (.inr rfl)
    · rw [← hnn, ← r1]
      exact hvote
    · exact openTransaction_purged _ _ u5 htells (by rw [c1]; simp) (by rw [c1]) (by rw [State.forced, c1]; exact q3)
        (hal.1.trans v4)
  · obtain ⟨s', u, he, hd, hu⟩ := proposeDelivered_opens (num := num) img inh ht hp hn (proposeValid_of hv)
    obtain ⟨u1, u2, u3, u4, u5, u6, u7, u8, u10, u11, u9⟩ := ownProposeOpens_heard hd hu
    have hnn : u.nextNumber = n + 1 := by simp [State.nextNumber, u1, hn]
    have hme : u.me = s.me := by simp [State.me, u2]
    obtain ⟨v1, v2, v3, v4, v5, v6, v7, v8, -⟩ := votingOpened_stands i k img inh u
    obtain ⟨r1, r2, r3, r4, r5, r6, r7, r8, r9, -, r11⟩ := proposeRecord_stands i k img u
    have hz : (proposeRecord i k img u).awaited ≠ 0 := mt (proposeRecord_awaited hd u4 u2 k img).1 (not_not_intro haw)
    rw [votePolicy_congr u2 u10 u11 u8 (by rw [u1])] at v3
    generalize votingOpened i k img inh u = b at *
    have hbr : b.agreement.record = some (proposeRecord i k img u) := by rw [v1]
    rw [tallyAtOpening, hbr] at he
    dsimp only at he
    rw [if_neg hz] at he
    generalize proposeRecord i k img u = r at *
    rw [hnn] at v1 v3 r1
    rw [system_congr u2] at v1 r9
    refine ⟨b, r, he, by rw [v1], by rw [v1], hbr, r1, r2, r3, r4, r5, r6, r7.trans u3, fun j => ?_, by rw [r9, r8], r11,
      fun h => ?_, fun h => ⟨?_, v3 (by rw [hme]; exact h)⟩, ?_, fun h => openTransaction_told _ _ (u9 h) v2, by rw [v1, u1],
      by rw [v1, u1], v6.trans u6, v7.trans u7, v8.trans u8⟩
    · rw [r8, u4]
      exact hd.participants j
    · rw [v1]
      exact if_pos (h.trans hme.symm)
    · rw [v1]
      exact if_neg (by rw [hme]; exact h)
    · exact openTransaction_purged _ _ u5 v2 (by rw [v1]) (by rw [v1, hnn]) (by rw [State.forced, hbr]; exact r3) v4

end Sys2Proof.Machine
end


section
/-! PROOF. The station's own PROPOSE that opens (O17). -/

namespace Sys2Proof.Machine

open Sys2Proof

/-- The own PROPOSE of the latched request takes it under vote (R22). -/
theorem moveUnderVote_latched {r : Ready} {k : Kind} {img : Bool} (hb : r.frame.body = .propose k false img)
    (hk : k ≠ .demote) (hf : r.forReplaced = false) (s : State) : moveUnderVote r s =
    s.withRequest { s.request with latch := none, underVote := s.request.latch.map Latch.request } := by
  simp [moveUnderVote, hb, hk, hf]

theorem latch_of_latched {s : State} (h : s.latched = none) : s.request.latch = none := by
  simpa [State.latched] using h

/-- Settles O17, from the opening in VOTING (`votingOpened_stands`) and the own frame's hand-off (`Heard.mine`). -/
theorem ownProposeGoesUnderVote : Obligations.OwnProposeGoesUnderVote := by
  intro num n k img inh l s ho hp hb hk hn haw hl hs
  obtain ⟨s', u, he, hd, hu⟩ := proposeDelivered_opens (i := s.me) (num := num) (k := k) img inh ⟨ho, .inl rfl⟩ hp hn
    (proposeValid_of (.inl ⟨hb, hk⟩))
  have hown : s.ownSending ⟨s.me, num, .propose k false img⟩ = some (s.ownReady num (.propose k false img)) := by
    have hs' : (s.slot (Body.kind (.propose k false img))).sending = some (s.ownReady num (.propose k false img)) := hs
    simp [State.ownSending, hs', State.ownReady, State.ownFrame]
  obtain ⟨u1, u2, u3, u4, u5, -⟩ := ownProposeOpens_heard hd hu
  have hdem : k ≠ .demote := by
    rintro rfl
    cases hk
  rw [hown, ownProposeOpens, moveUnderVote_latched (k := k) (img := img) rfl hdem rfl] at hu
  have hs' := hd.mine rfl
  obtain ⟨-, hsd⟩ := ownDelivered_slot ⟨s.me, num, .propose k false img⟩ (s.ownSending ⟨s.me, num, .propose k false img⟩) s
  obtain ⟨h1, h2⟩ := hsd (by rw [hown]; rfl)
  have hrq : s'.request = s.request := by rw [hs']; simp
  have husl : (u.slot .propose).sending = none := by
    rw [hu, hs']
    exact h1
  have hud : u.presence.debt = 0 := by
    rw [hu, hs']
    exact h2
  have hur : u.request.latch = none ∧ u.request.underVote = some l.request ∧ u.request.pulses = s.request.pulses ∧
      u.request.result = s.request.result := by
    rw [hu]
    refine ⟨rfl, ?_, by rw [← hrq]; rfl, by rw [← hrq]; rfl⟩
    show s'.request.latch.map Latch.request = _
    rw [hrq, hl]
    rfl
  have hz : (proposeRecord s.me k img u).awaited ≠ 0 := mt (proposeRecord_awaited hd u4 u2 k img).1 (not_not_intro haw)
  clear hu
  obtain ⟨v1, v2, -, v4, -, -, -, -, v9, v10, v11, v12⟩ := votingOpened_stands s.me k img inh u
  have hop := openTransaction_opens (proposeOpening s.me k img) .voting u
  have hforced : (proposeRecord s.me k img u).forced = false := rfl
  generalize votingOpened s.me k img inh u = b at *
  have hbr : b.agreement.record = some (proposeRecord s.me k img u) := by rw [v1]
  rw [tallyAtOpening, hbr] at he
  dsimp only at he
  rw [if_neg hz] at he
  obtain ⟨w1, w2, w3, w4⟩ := hur
  refine ⟨b, he, by rw [v1], latch_of_latched ?_, v10.trans w2, ?_, v9.trans hud,
    openTransaction_purged _ _ u5 v2 (by rw [v1]) (by rw [v1]) (by rw [State.forced, hbr]; exact hforced) v4,
    .of_eq .low (v11.trans w3) (v12.trans w4)⟩
  · rw [v2.latched, hop.latched, State.latched, w1]
    rfl
  · rw [v2.slots _ (by simp) (by simp) (by simp), hop.sending, husl]

end Sys2Proof.Machine
end


section
/-! PROOF. Openings that come too late (O18). -/

namespace Sys2Proof.Machine

open Sys2Proof

/-! ### What a late opening leaves -/

/-- From one state to another an opening frame was delivered and counted late, and no more happened (R2). -/
structure LateOnly (s t : State) : Prop where
  agreement : t.agreement = { s.agreement with lateProposals := min (s.agreement.lateProposals + 1) 255 }
  rest : t = { s.withDeliveryOf t with agreement := t.agreement }

theorem LateOnly.of_delivered {i : StationId} {s u t : State} (h : DeliveredOnly i s u) (k : DeliveredOnly i (countLate u) t) :
    LateOnly s t := by
  have hu : (countLate u).agreement = { s.agreement with lateProposals := min (s.agreement.lateProposals + 1) 255 } := by
    rw [← h.keeps.1]
    rfl
  have hsh : t = { s.withDeliveryOf t with agreement := (countLate u).agreement } := by
    conv_lhs => rw [k.1, countLate, h.1]
    rw [countLate, h.1]
    rfl
  have ha := k.keeps.1
  exact ⟨ha.trans hu, by rw [ha]; exact hsh⟩

theorem LateOnly.keeps {s t : State} (h : LateOnly s t) :
    t.executor = s.executor ∧ t.channel = s.channel ∧ t.faults = s.faults := by
  refine ⟨?_, ?_, ?_⟩ <;>
  · rw [h.rest]
    rfl

theorem proposeLate_delivered (i : StationId) (own : Option Ready) (s : State) :
    DeliveredOnly i (countLate s) (proposeLate own s) := by
  cases own with
  | none => exact .refl i _
  | some r =>
    have h1 : DeliveredOnly i (countLate s) (reportPurged r (countLate s)) := .of_peers (reportPurged_delivery ..) (by simp)
    exact h1.trans (.of_peers (testPropose_delivery _) (by simp))

/-- A non-forced PROPOSE that opens nothing is late (R2, R8). -/
theorem takePropose_late {i : StationId} {k : Kind} {img : Bool} {inh : Inhibits} (own : Option Ready) {s : State}
    (h : s.agreement.phase = .voting ∨ s.agreement.phase = .staging ∨ s.agreement.phase = .unwinding ∨
      s.agreement.phase = .descending ∨ (s.agreement.phase = .settled ∧ proposeValid k s.agreement.believed = false)) :
    takePropose i k img inh own s = proposeLate own s := by
  unfold takePropose
  rcases h with h | h | h | h | ⟨h, hv⟩ <;> rw [h]
  exact if_neg (by simp [hv])

theorem takeForcedPropose_late {i : StationId} {k : Kind} {s : State}
    (h : s.agreement.phase = .descending ∨ (k ≠ .enterOff ∧ s.opensForced = true)) :
    takeForcedPropose i k s = countLate s := by
  unfold takeForcedPropose
  rcases h with h | ⟨hk, ho⟩
  · have ho : ¬ s.opensForced = true := by simp [State.opensForced, State.opensSilent, h, Phase.defers]
    rw [if_neg ho, if_pos (by simp [h])]
  · rw [if_pos ho, if_neg (by simpa using hk)]

/-- Where ENTER_OFF would open, another forced kind is late (log 22). -/
theorem opensForced_of_phase {s : State} (hn : s.agreement.number.isSome = true)
    (h : s.agreement.phase = .settled ∨ s.agreement.phase = .voting ∨ s.agreement.phase = .staging ∨
      s.agreement.phase = .unwinding ∨
      (s.agreement.phase = .mute ∧ s.recordOpen = false ∧ s.agreement.believed.isSome = true)) : s.opensForced = true := by
  rcases h with h | h | h | h | ⟨h, hr, hb⟩
  · simp [State.opensForced, h, hn]
  · simp [State.opensForced, h, hn, Phase.defers]
  · simp [State.opensForced, h, hn, Phase.defers]
  · simp [State.opensForced, h, hn, Phase.defers]
  · simp [State.opensForced, State.opensSilent, h, hn, hr, hb]

/-! ### The station's own -/

/-- The own PROPOSE that opened nothing makes the latched request wait (R22). -/
theorem reportPurged_propose {r : Ready} {n : TxnNumber} {k : Kind} {img : Bool} {l : Latch} {s : State}
    (hb : r.frame = s.ownFrame n (.propose k false img)) (hk : k ≠ .demote) (hr : r.forReplaced = false)
    (hl : s.request.latch = some l) :
    (reportPurged r s).request = { s.request with latch := some { l with queued := false } } := by
  simp [reportPurged, latchWaits, hb, State.ownFrame, hk, hr, hl]

theorem testAnnounce_sending (k : FrameKind) (s : State) : ((testAnnounce s).slot k).sending = (s.slot k).sending := by
  unfold testAnnounce
  split
  · split
    · exact fillFrame_sending _ _ _ _
    · rfl
  · rfl

/-- The own WAKE that opened nothing (R124). -/
theorem ownWakeIdle_own {own : Option Ready} (ho : own.isSome = true) (s : State) :
    ((ownWakeIdle own s).slot .wake).sending = (s.slot .wake).sending ∧
    (s.agreement.phase ≠ .settled → (ownWakeIdle own s).wake.mark = none) ∧
    (s.agreement.phase = .settled →
      (∀ e, IsOldestPending s.wake.queue e → s.gatesOpen → (ownWakeIdle own s).announces e.input) ∧
      (¬ s.gatesOpen → (ownWakeIdle own s).wake.mark = none)) := by
  by_cases hp : s.agreement.phase = .settled
  · obtain ⟨n1, n2⟩ := testAnnounce_announces (s := clearMark s) rfl
    have hg : (clearMark s).gatesOpen ↔ s.gatesOpen := gatesOpen_congr rfl rfl rfl rfl rfl rfl
    rw [ownWakeIdle_settled ho hp]
    exact ⟨testAnnounce_sending .wake (clearMark s), fun h => absurd hp h,
      fun _ => ⟨fun e he h => n1 e he (hg.2 h), fun h => by rw [n2 (mt hg.1 h)]; rfl⟩⟩
  · have he : ownWakeIdle own s = clearMark s := by
      unfold ownWakeIdle
      rw [if_pos ho]
      exact if_neg (by simpa using hp)
    rw [he]
    exact ⟨rfl, fun _ => rfl, fun h => absurd h hp⟩

/-- The own WAKE that opens nothing comes to the announcement tested again, be it counted late or not (R8, R124). -/
theorem takeWake_idle {i : StationId} {n : TxnNumber} {w : WakeTarget} {x : Fin 8} (own : Option Ready) {s : State}
    (h : (s.agreement.phase = .settled ∧ wakeValid w s.agreement.believed = false) ∨ s.discards (.wakeDelivered i n w x)) :
    takeWake i w x own s = ownWakeIdle own (if s.agreement.phase = .settled then countLate s else s) := by
  rcases h with ⟨hp, hv⟩ | hd
  · rw [if_pos hp, takeWake, hp]
    exact if_neg (by simp [hv])
  · have hp : s.agreement.phase ≠ .settled := by
      rcases hd with h | h | h | h | ⟨h, -⟩ <;> simp [h]
    rw [takeWake_discarded own hd, if_neg hp]

/-- Settles O18, from the hand-off and what each engine makes of an opening that is late. -/
theorem lateOpeningsAreCounted : Obligations.LateOpeningsAreCounted := by
  refine ⟨fun c i s ht hc => ?_, fun num k img inh r l s hon hp hs hf hk hr hl => ?_, fun num w x s hon hs hc => ?_⟩
  · suffices h : ∃ t, exec c s = .next t ∧ LateOnly s t by
      obtain ⟨t, he, hlate⟩ := h
      obtain ⟨k1, k2, k3⟩ := hlate.keeps
      exact ⟨t, he, hlate.agreement, k1, k2, k3, hlate.rest⟩
    rcases hc with ⟨num, k, img, inh, rfl, hp⟩ | ⟨num, w, x, rfl, hp, hv⟩ | ⟨num, k, img, rfl, hp⟩
    · obtain ⟨s', he, hd⟩ := handOff_takes (f := ⟨i, num, .propose k false img⟩) (engine := takePropose i k img inh) ht
      rw [takePropose_late _ (by rw [hd.keeps.1]; exact hp)] at he
      exact ⟨_, congrArg Host.Outcome.next he, .of_delivered hd (proposeLate_delivered i _ s')⟩
    · obtain ⟨s', he, hd⟩ := handOff_takes (f := ⟨i, num, .wake w x⟩) (engine := takeWake i w x) ht
      rw [takeWake_idle (n := num) _ (.inl (by rw [hd.keeps.1]; exact ⟨hp, hv⟩)), hd.keeps.1, if_pos hp] at he
      exact ⟨_, congrArg Host.Outcome.next he, .of_delivered hd (ownWakeIdle_delivered i _ _)⟩
    · obtain ⟨s', he, hd⟩ := handOff_takes (f := ⟨i, num, .propose k true img⟩)
        (engine := fun _ => takeForcedPropose i k) ht
      have hlate : s'.agreement.phase = .descending ∨ (k ≠ .enterOff ∧ s'.opensForced = true) := by
        refine hp.imp (fun h => by rw [hd.keeps.1, h]) fun ⟨hk, hn, h⟩ => ⟨hk, ?_⟩
        have ho := opensForced_of_phase hn h
        simpa [State.opensForced, State.opensSilent, State.recordOpen, hd.keeps.1] using ho
      rw [takeForcedPropose_late hlate] at he
      exact ⟨_, congrArg Host.Outcome.next he, .of_delivered hd (.refl i _)⟩
  · have hsends : s.sends (s.ownFrame num (.propose k false img)) := ⟨rfl, r, hs, hf⟩
    have hown : s.ownSending ⟨s.me, num, .propose k false img⟩ = some r := by
      simp [State.ownSending, Body.kind, hs, hf, State.ownFrame]
    have hns : s.agreement.phase ≠ .settled := by rcases hp with h | h | h | h <;> simp [h]
    obtain ⟨s', he, hd⟩ := handOff_hears (f := ⟨s.me, num, .propose k false img⟩) (engine := takePropose s.me k img inh)
      ⟨hon, .inl rfl⟩
    have hs' := hd.mine rfl
    have hsend : (s'.slot .propose).sending = none := by
      rw [hs', hown]
      exact ((ownDelivered_slot ⟨s.me, num, .propose k false img⟩ (some r) s).2 rfl).1
    have hreq : s'.request = s.request := by rw [hs']; simp
    obtain ⟨ha, -, -, -, hld, -⟩ := hd.delivered.keeps
    have hlate : takePropose s.me k img inh (some r) s' = reportPurged r (countLate s') := by
      rw [takePropose_late _ (by rw [ha]; rcases hp with h | h | h | h <;> simp [h]), proposeLate]
      refine testPropose_unsettled ?_
      simpa [countLate, ha] using hns
    rw [hown, hlate] at he
    refine ⟨_, congrArg Host.Outcome.next he, ?_, by rw [reportPurged_slot]; exact hsend⟩
    have hfr : r.frame = (countLate s').ownFrame num (.propose k false img) := by
      rw [hf, State.ownFrame, State.ownFrame, State.me, State.me, show (countLate s').loader = s'.loader from rfl, hld]
    rw [reportPurged_propose hfr hk hr (show (countLate s').request.latch = some l by
      rw [show (countLate s').request = s'.request from rfl, hreq, hl]), show (countLate s').request = s'.request from rfl, hreq]
  · have ho := ownSending_of_sends hs
    obtain ⟨s', he, hd⟩ := handOff_hears (f := ⟨s.me, num, .wake w x⟩) (engine := takeWake s.me w x) ⟨hon, .inl rfl⟩
    have hs' := hd.mine rfl
    have hsend : (s'.slot .wake).sending = none := by
      rw [hs']
      exact ((ownDelivered_slot ⟨s.me, num, .wake w x⟩ _ s).2 ho).1
    have hkeep : s'.wake = s.wake ∧ s'.presence.peers = s.presence.peers := by rw [hs']; simp
    obtain ⟨ha, -, -, -, hld, -⟩ := hd.delivered.keeps
    have hidle := takeWake_idle (i := s.me) (n := num) (w := w) (x := x) (s.ownSending ⟨s.me, num, .wake w x⟩) (s := s')
      (hc.imp (fun h => by rw [ha]; exact h) (State.discards_of_delivered hd.delivered))
    rw [hidle] at he
    have hv : ∀ v : State, v = (if s'.agreement.phase = .settled then countLate s' else s') →
        v.wake = s.wake ∧ v.agreement.phase = s.agreement.phase ∧ (v.slot .wake).sending = none ∧
        (v.gatesOpen ↔ s.gatesOpen) := fun v h => by
      have hvs : v.wake = s'.wake ∧ v.agreement.phase = s'.agreement.phase ∧ v.agreement.believed = s'.agreement.believed ∧
          v.link = s'.link ∧ v.loader = s'.loader ∧ v.presence = s'.presence := by
        rw [h]
        split <;> exact ⟨rfl, rfl, rfl, rfl, rfl, rfl⟩
      obtain ⟨v1, v2, v3, v4, v5, v6⟩ := hvs
      exact ⟨v1.trans hkeep.1, by rw [v2, ha], by rw [slot_eq_of_link v4, hsend],
        gatesOpen_congr (by rw [v2, ha]) (by rw [v3, ha]) (by rw [v1, hkeep.1]) (by rw [v1, hkeep.1]) (v5.trans hld)
          (by rw [v6, hkeep.2])⟩
    obtain ⟨v1, v2, v3, v4⟩ := hv _ rfl
    generalize (if s'.agreement.phase = .settled then countLate s' else s') = v at *
    obtain ⟨o1, o2, o3⟩ := ownWakeIdle_own (own := s.ownSending ⟨s.me, num, .wake w x⟩) ho v
    have hw : (ownWakeIdle (s.ownSending ⟨s.me, num, .wake w x⟩) v).wake =
        { v.wake with mark := (ownWakeIdle (s.ownSending ⟨s.me, num, .wake w x⟩) v).wake.mark } := by
      conv_lhs => rw [(ownWakeIdle_delivered s.me _ v).1]
      rfl
    rw [v2, v1, v4] at o3
    exact ⟨_, congrArg Host.Outcome.next he, by rw [← v1]; exact hw, o1.trans v3, by rw [← v2]; exact o2, o3⟩

end Sys2Proof.Machine
end


section
/-! SUPPORT. What an entry to MUTE leaves: `enterMute_mutes` (R9, R23, R53, R139, R147). -/

namespace Sys2Proof.Machine

open Sys2Proof

/-! ### The executor in MUTE -/

theorem fillFrame_muted {n : TxnNumber} {body : Body} {s : State} (h : s.takesFill body.kind = false) :
    fillFrame n body s = reportPurged ⟨s.ownFrame n body, false⟩ s := by
  unfold fillFrame fillSlot
  rw [if_neg (by simp [h])]
  rfl

theorem takesFill_muted {k : FrameKind} {s : State} (h : s.agreement.phase = .mute) (hk : k ≠ .census) :
    s.takesFill k = false := by
  simp [State.takesFill, h, hk]

/-- In MUTE a report of a stage or a level fills no slot (R139). -/
theorem fillStage_muted (n : TxnNumber) (d : Direction) (k : Nat) {s : State} (h : s.agreement.phase = .mute) :
    fillFrame n (.stage d k) s = s := by
  rw [fillFrame_muted (takesFill_muted h (by simp [Body.kind]))]
  rfl

/-- What the link controller and the owners of frames hold is the same. -/
structure SameOwners (s t : State) : Prop where
  link : t.link = s.link
  wake : t.wake = s.wake
  request : t.request = s.request
  phase : t.agreement.phase = s.agreement.phase

theorem SameOwners.trans {s t u : State} (h : SameOwners s t) (k : SameOwners t u) : SameOwners s u :=
  ⟨k.link.trans h.link, k.wake.trans h.wake, k.request.trans h.request, k.phase.trans h.phase⟩

theorem reportLevel_muted (k : Nat) {s : State} (h : s.agreement.phase = .mute) : SameOwners s (reportLevel k s) := by
  have hf := fillStage_muted s.openNumber .unwind k (s := s.withExecutor { s.executor with sub := .reporting }) h
  unfold reportLevel
  rw [hf]
  exact ⟨rfl, rfl, rfl, rfl⟩

theorem execStep_muted {s : State} (h : s.agreement.phase = .mute) : SameOwners s (execStep s).1 := by
  unfold execStep
  split
  · exact ⟨rfl, rfl, rfl, rfl⟩
  · split
    · split
      · rename_i a ha
        exact ⟨by simp, by simp, by simp, by simp⟩
      · rename_i stage _ _ _ _
        unfold reportStage
        split
        · exact ⟨by simp, by simp, by simp, by simp⟩
        · have hf := fillStage_muted s.openNumber .forward
            stage (s := s.withExecutor { s.executor with sub := .reporting }) h
          rw [hf]
          exact ⟨rfl, rfl, rfl, rfl⟩
    · split
      · split
        · exact ⟨by simp [State.withExecutor], by simp [State.withExecutor], by simp [State.withExecutor],
            by simp [State.withExecutor]⟩
        · exact reportLevel_muted _ h
      · exact reportLevel_muted _ h
    · exact ⟨rfl, rfl, rfl, rfl⟩

theorem execRun_muted {s : State} (h : s.agreement.phase = .mute) : SameOwners s (execRun s) :=
  execRun_induct (p := fun t => SameOwners s t)
    (fun _ k => k.trans (execStep_muted (k.phase.trans h))) ⟨rfl, rfl, rfl, rfl⟩

theorem muteReport_muted {s : State} (h : s.agreement.phase = .mute) : SameOwners s (muteReport s) := by
  unfold muteReport
  split
  · split
    · rename_i k _
      have ha : SameOwners s (afterReport k s) := ⟨by simp, by simp, by simp, by simp⟩
      exact ha.trans (execRun_muted (ha.phase.trans h))
    · exact ⟨rfl, rfl, rfl, rfl⟩
  · exact ⟨rfl, rfl, rfl, rfl⟩

theorem muteReport_undescended {s : State} (h : s.recordOpen = false) : muteReport s = s := by
  unfold muteReport
  rw [if_neg (by simp [State.silentDescent, h])]

/-! ### The owners at an entry to MUTE -/

theorem supersededVote_latched (who : Issuer → Bool) (c : Cause) (s : State) :
    (supersededVote who c s).latched = s.latched ∧
    Answered s (supersededVote who c s) .low (answersFor s.request.underVote) := by
  have hr : (stopVoteTimers ((execIdle (abandonWork who s)).onRecord fun r =>
      r.closed .superseded c (execIdle (abandonWork who s)).time)).request = s.request := by simp
  unfold supersededVote
  generalize stopVoteTimers _ = a at *
  have ha := answerUnderVote_answered .low a
  rw [hr] at ha
  exact ⟨by simp [State.latched, hr], ha.before (by rw [hr]) (by rw [hr])⟩

/-- A request under vote is answered low where its transaction is superseded, and the latch keeps its request (R13, R23). -/
theorem closeSuperseded_latched (who : Issuer → Bool) (c : Cause) (s : State) :
    (closeSuperseded who c s).latched = s.latched ∧
    Answered s (closeSuperseded who c s) .low (answersFor s.request.underVote) := by
  obtain ⟨h1, h2⟩ := supersededVote_latched who c s
  rw [closeSuperseded_eq]
  generalize supersededVote who c s = u at *
  have hp := (purgeTransaction_tells u.openNumber u).latched
  have hk : (purgeTransaction u.openNumber u).request.pulses = u.request.pulses ∧
      (purgeTransaction u.openNumber u).request.result = u.request.result := by simp
  generalize purgeTransaction u.openNumber u = p at *
  obtain ⟨-, j3, -⟩ := judgeDeferred_owners false p
  have ht : (archive p.faults.deferred.length (judgeDeferred false p)).request = p.request := by simp [j3]
  exact ⟨(latched_of_request ht).trans (hp.trans h1), h2.after (by rw [ht, hk.1]) (by rw [ht, hk.2])⟩

theorem muteTransaction_latched (s : State) : (muteTransaction s).latched = s.latched ∧
    Answered s (muteTransaction s) .low (if s.agreement.phase.defers then answersFor s.request.underVote else 0) := by
  unfold muteTransaction
  split
  · exact closeSuperseded_latched isExecutor .mute s
  · exact ⟨rfl, .refl s .low⟩

theorem emptySlots_latched (s : State) : (emptySlots s).latched = s.latched := by
  have hf : ∀ (l : List FrameKind) (u : State),
      (l.foldl (fun s k => reportQueued (s.slot k).queued s) u).latched = u.latched := by
    intro l
    induction l with
    | nil => exact fun _ => rfl
    | cons k l ih => exact fun u => (ih _).trans (reportQueued_latched _ u)
  have hl : ∀ u : State, State.latched { u with link := { u.link with slots := Vector.replicate 8 Slot.blank } } = u.latched :=
    fun _ => rfl
  exact (hl _).trans (hf frameKinds s)

theorem emptySlots_slot (s : State) (k : FrameKind) : (emptySlots s).slot k = Slot.blank := by
  simp [emptySlots, State.slot, tabGet]

/-! ### The entry -/

/-- What an entry to MUTE leaves of the slots, their owners and the presence unit. -/
structure Mutes (c : MuteCause) (s t : State) : Prop where
  phase : t.agreement.phase = .mute
  cause : t.presence.muteCause = c
  barring : t.presence.barring = s.presence.barring
  slots : ∀ k, t.slot k = Slot.blank
  beatTimer : t.presence.beatTimer = none
  debt : t.presence.debt = 0
  censusWindow : t.presence.censusWindow = none
  barredRetry : t.presence.barredRetry = muteRetry c s
  retryHeld : t.presence.retryHeld = false
  latch : t.request.latch = none
  mark : t.wake.mark = none
  answered : Answered s t .low ((if s.agreement.phase.defers then answersFor s.request.underVote else 0) +
    answersFor (s.request.latch.map Latch.request))

theorem enterMute_mutes (c : MuteCause) (s : State) : Mutes c s (enterMute c s) := by
  have hm : (muteMonitoring s).request = s.request ∧ (muteMonitoring s).agreement = s.agreement ∧
      (muteMonitoring s).presence = s.presence ∧ (muteMonitoring s).loader = s.loader := by simp
  unfold enterMute
  dsimp only
  generalize muteMonitoring s = m at *
  obtain ⟨m1, m2, m3, m4⟩ := hm
  obtain ⟨l1, l2⟩ := muteTransaction_latched m
  have hv : (muteTransaction m).presence = m.presence ∧ (muteTransaction m).loader = m.loader := by simp
  rw [m1, m2] at l2
  have l2 := l2.before (s := s) (by rw [m1]) (by rw [m1])
  have l1 := l1.trans (latched_of_request m1)
  generalize muteTransaction m = v at *
  obtain ⟨v1, v2⟩ := hv
  have hp : (mutePresence c (v.withPhase .mute)).presence = { s.presence with
      muteCause := c, beatTimer := none, debt := 0, censusWindow := none, barredRetry := muteRetry c s
      retryHeld := false, alignment := none } := by
    have hre : muteRetry c (v.withPhase .mute) = muteRetry c s := by
      unfold muteRetry
      rw [system_congr (s := s) (t := v.withPhase .mute) (v2.trans m4)]
    show ({ v.presence with
      muteCause := c, beatTimer := none, debt := 0, censusWindow := none, barredRetry := muteRetry c (v.withPhase .mute)
      retryHeld := false, alignment := none } : Presence) = _
    rw [hre, v1, m3]
  have hq : (mutePresence c (v.withPhase .mute)).request = v.request ∧
      (mutePresence c (v.withPhase .mute)).agreement.phase = .mute := ⟨rfl, rfl⟩
  generalize mutePresence c (v.withPhase .mute) = p at *
  obtain ⟨q1, q2⟩ := hq
  have he := emptySlots_latched p
  have hs := emptySlots_slot p
  have hek : (emptySlots p).presence = p.presence ∧ (emptySlots p).agreement = p.agreement ∧
      (emptySlots p).request.pulses = p.request.pulses ∧ (emptySlots p).request.result = p.request.result := by simp
  generalize emptySlots p = e at *
  obtain ⟨e1, e2, e3, e4⟩ := hek
  have hca := clearLatch_answered e
  rw [show e.request.latch.map Latch.request = s.request.latch.map Latch.request from
    he.trans ((latched_of_request q1).trans l1)] at hca
  have hcn := clearLatch_absent e
  have hck : (clearLatch e).presence = e.presence ∧ (clearLatch e).link = e.link ∧ (clearLatch e).agreement = e.agreement := by
    simp
  generalize clearLatch e = d at *
  obtain ⟨d1, d2, d3⟩ := hck
  have hw : (refreshQualification (clearMark (stopDemote d))).presence = d.presence ∧
      (refreshQualification (clearMark (stopDemote d))).link = d.link ∧
      (refreshQualification (clearMark (stopDemote d))).agreement = d.agreement ∧
      (refreshQualification (clearMark (stopDemote d))).request = d.request ∧
      (refreshQualification (clearMark (stopDemote d))).wake.mark = none := ⟨rfl, rfl, rfl, rfl, rfl⟩
  generalize refreshQualification (clearMark (stopDemote d)) = w at *
  obtain ⟨w1, w2, w3, w4, w5⟩ := hw
  have hwp : w.agreement.phase = .mute := by rw [w3, d3, e2, q2]
  obtain ⟨r1, r2, r3, r4⟩ := muteReport_muted hwp
  have hrp : (muteReport w).presence = w.presence := by simp
  generalize muteReport w = t at *
  have htp := hrp.trans (w1.trans (d1.trans (e1.trans hp)))
  refine ⟨by rw [r4, hwp], by rw [htp], by rw [htp], fun k => ?_, by rw [htp], by rw [htp], by rw [htp], by rw [htp], by rw [htp],
    by rw [r3, w4, hcn], by rw [r2, w5], ?_⟩
  · rw [slot_eq_of_link r1, slot_eq_of_link w2, slot_eq_of_link d2, hs]
  · have h1 : Answered s e .low (if s.agreement.phase.defers then answersFor s.request.underVote else 0) :=
      l2.after (by rw [e3, q1]) (by rw [e4, q1])
    exact (h1.trans hca).after (by rw [r3, w4]) (by rw [r3, w4])

theorem detachAlignment_rail (s : State) (ch : Fin 6) : (detachAlignment s).rail ch = detachRail (s.rail ch) := by
  simp [detachAlignment, State.rail]

/-- The monitoring at an entry to MUTE from CENSUS, where no record is open (R71, log 39). -/
theorem enterMute_monitors (c : MuteCause) {s : State} (hp : s.agreement.phase = .census) (hr : s.recordOpen = false)
    (ch : Fin 6) : (enterMute c s).rail ch = detachRail ((startAllMonitoring s).rail ch) := by
  have hm : muteMonitoring s = startAllMonitoring s := if_pos (by simp [hp])
  have hk : (startAllMonitoring s).agreement = s.agreement := by simp
  unfold enterMute
  rw [hm]
  generalize startAllMonitoring s = m at *
  have ht : muteTransaction m = m := by
    unfold muteTransaction
    rw [hk, hp]
    rfl
  rw [ht]
  dsimp only
  have he : ∀ u : State, (refreshQualification (clearMark (stopDemote (clearLatch (emptySlots u))))).channel = u.channel ∧
      (refreshQualification (clearMark (stopDemote (clearLatch (emptySlots u))))).agreement = u.agreement := fun u => by simp
  obtain ⟨e1, e2⟩ := he (mutePresence c (m.withPhase .mute))
  generalize refreshQualification _ = w at *
  have hmp : (mutePresence c (m.withPhase .mute)).agreement.record = s.agreement.record := by rw [← hk]; rfl
  rw [muteReport_undescended (by rw [State.recordOpen, e2, hmp]; exact hr), State.rail, e1]
  exact detachAlignment_rail _ ch

end Sys2Proof.Machine
end


section
/-! PROOF. The BEAT that bars (O31). -/

namespace Sys2Proof.Machine

open Sys2Proof

/-! ### A BEAT heard -/

/-- A heard BEAT reaches the presence unit with its sender's entry written (R142). -/
theorem beatDelivered_takes {i : StationId} {s : State} (h : s.hears i) (n : TxnNumber) (b : BeatBody) :
    exec (.beatDelivered i n b) s = .next (takeBeat i n b (touchPeer ⟨i, n, .beat b⟩ s)) := by
  obtain ⟨hon, hi, hx⟩ := h
  have hown : s.ownSending ⟨i, n, .beat b⟩ = none := ownSending_of_ne hi
  have hd : ownDelivered ⟨i, n, .beat b⟩ none s = s := rfl
  show Host.Outcome.next (deliverBeat i n b s) = _
  unfold deliverBeat
  dsimp only
  rw [if_neg (by simp [hon]), hown, hd, if_neg hi, if_neg (by simpa using hx)]

theorem touchPeer_latched (f : Frame) (s : State) : (touchPeer f s).latched = s.latched := by
  unfold touchPeer reportPresent
  dsimp only
  split
  · have h := testAnnounce_leads (s.withPeer f.sender ((s.peerAt f.sender).heard s.silenceLength f))
    rcases h.latch with a | a
    · exact congrArg (Option.map Latch.request) a
    · unfold State.latched
      rw [a]
      show (waits s.request.latch).map Latch.request = _
      cases s.request.latch <;> rfl
  · rfl

theorem retryHeldCensus_unheld {s : State} (h : s.presence.retryHeld = false) : retryHeldCensus s = s := by
  unfold retryHeldCensus
  rw [if_neg (by simp [h])]

/-- The station as it judges whether a heard BEAT bars it (R30, R142). -/
def beatHeard (i : StationId) (n : TxnNumber) (b : BeatBody) (s : State) : State :=
  refreshSeen i (touchPeer ⟨i, n, .beat b⟩ s)

theorem beatHeard_keeps (i : StationId) (n : TxnNumber) (b : BeatBody) (s : State) :
    let u := beatHeard i n b s
    u.agreement = s.agreement ∧ u.executor = s.executor ∧ u.channel = s.channel ∧ u.faults = s.faults ∧
    u.loader = s.loader ∧ u.time = s.time ∧ u.pins = s.pins ∧
    u.presence = { s.presence with peers := u.presence.peers } ∧ u.latched = s.latched ∧
    u.request.underVote = s.request.underVote ∧ u.request.pulses = s.request.pulses ∧
    u.request.result = s.request.result := by
  have hl := touchPeer_latched ⟨i, n, .beat b⟩ s
  have hd := (touchPeer_delivered ⟨i, n, .beat b⟩ s).1
  have hk : (touchPeer ⟨i, n, .beat b⟩ s).presence =
      { s.presence with peers := (touchPeer ⟨i, n, .beat b⟩ s).presence.peers } := by
    unfold touchPeer reportPresent
    dsimp only
    split
    · rw [show ∀ u, (testAnnounce u).presence = u.presence from fun u => by simp]
      rfl
    · rfl
  have ht : (touchPeer ⟨i, n, .beat b⟩ s).agreement = s.agreement ∧ (touchPeer ⟨i, n, .beat b⟩ s).executor = s.executor ∧
      (touchPeer ⟨i, n, .beat b⟩ s).channel = s.channel ∧ (touchPeer ⟨i, n, .beat b⟩ s).faults = s.faults ∧
      (touchPeer ⟨i, n, .beat b⟩ s).loader = s.loader ∧ (touchPeer ⟨i, n, .beat b⟩ s).time = s.time ∧
      (touchPeer ⟨i, n, .beat b⟩ s).pins = s.pins ∧
      (touchPeer ⟨i, n, .beat b⟩ s).request.underVote = s.request.underVote ∧
      (touchPeer ⟨i, n, .beat b⟩ s).request.pulses = s.request.pulses ∧
      (touchPeer ⟨i, n, .beat b⟩ s).request.result = s.request.result := by simp
  unfold beatHeard
  dsimp only
  generalize touchPeer ⟨i, n, .beat b⟩ s = v at *
  obtain ⟨t1, t2, t3, t4, t5, t6, t7, t8, t9, t10⟩ := ht
  have hp : (refreshSeen i v).presence = v.presence := by simp
  exact ⟨by simp [t1], by simp [t2], by simp [t3], by simp [t4], by simp [t5], by simp [t6], by simp [t7],
    by rw [hp]; exact hk, (refreshSeen_latched i v).trans hl, by simp [t8], by simp [t9], by simp [t10]⟩

/-- A BEAT that lists the station (R147, R148). -/
theorem takeBeat_bars {i : StationId} {n : TxnNumber} {b : BeatBody} {s : State} (h : setHas b.exclusion s.me = true) :
    takeBeat i n b (touchPeer ⟨i, n, .beat b⟩ s) = retryHeldCensus (bar i (beatHeard i n b s)) := by
  have hme : (beatHeard i n b s).me = s.me := by
    obtain ⟨-, -, -, -, hl, -⟩ := beatHeard_keeps i n b s
    rw [State.me, hl, State.me]
  unfold takeBeat
  dsimp only
  rw [show refreshSeen i (touchPeer ⟨i, n, .beat b⟩ s) = beatHeard i n b s from rfl, hme, if_pos h]

/-- The station with a sender added to its barring set (R147). -/
def barredBy (i : StationId) (s : State) : State :=
  s.withPresence { s.presence with barring := setAdd s.presence.barring i }

theorem bar_mutes {i : StationId} {s : State} (h : s.agreement.phase.takesPart = true ∨ s.agreement.phase = .census) :
    bar i s = enterMute .barred (barredBy i s) := by
  have hc : ((barredBy i s).agreement.phase.takesPart || (barredBy i s).agreement.phase == .census) = true := by
    rcases h with h | h <;> simp [barredBy, State.withPresence, h]
  unfold bar
  dsimp only
  exact if_pos hc

/-! ### O31 -/

/-- Settles O31, from what an entry to MUTE leaves (`enterMute_mutes`, `enterMute_monitors`). -/
theorem barringBeatMutes : Obligations.BarringBeatMutes := by
  intro i n b s hh hp hx
  rw [beatDelivered_takes hh, takeBeat_bars hx]
  obtain ⟨k1, -, k3, -, k5, k6, k7, k8, k9, k10, k11, k12⟩ := beatHeard_keeps i n b s
  generalize beatHeard i n b s = u at *
  rw [bar_mutes (by rw [k1]; exact hp)]
  have hw : (barredBy i u).agreement = u.agreement ∧ (barredBy i u).channel = u.channel ∧
      (barredBy i u).loader = u.loader ∧ (barredBy i u).time = u.time ∧ (barredBy i u).pins = u.pins ∧
      (barredBy i u).request = u.request ∧ (barredBy i u).presence.barring = setAdd u.presence.barring i :=
    ⟨rfl, rfl, rfl, rfl, rfl, rfl, rfl⟩
  generalize barredBy i u = v at *
  obtain ⟨w1, w2, w3, w4, w5, w6, w7⟩ := hw
  obtain ⟨m1, m2, m3, m4, m5, m6, m7, m8, m9, m10, m11, m12⟩ := enterMute_mutes .barred v
  rw [retryHeldCensus_unheld m9]
  have hag := enterMute_agreement .barred v
  have hmm : (muteMonitoring v).agreement = s.agreement ∧ (muteMonitoring v).time = s.time := by simp [w1, k1, w4, k6]
  have hsys : v.system = s.system := system_congr (w3.trans k5)
  rw [w1, k1, w6, k10, show u.request.latch.map Latch.request = s.request.latch.map Latch.request from k9] at m12
  refine ⟨_, rfl, m1, m2, ?_, m4, m5, m6, m7, ?_, m10, m11, m12.before (by rw [w6, k11]) (by rw [w6, k12]),
    fun r hd hr => ?_, fun hd => ?_, fun hc ho ch hon => ?_⟩
  · rw [m3, w7]
    simp
  · rw [m8, ← hsys]
    rfl
  · have ht : muteTransaction (muteMonitoring v) = closeSuperseded isExecutor .mute (muteMonitoring v) :=
      if_pos (by rw [hmm.1]; exact hd)
    obtain ⟨-, c2, -⟩ := closeSuperseded_closes isExecutor .mute (s := muteMonitoring v) (r := r) (by rw [hmm.1, hr])
    rw [ht] at hag
    exact (c2.of_before (by rw [hmm.1]) hmm.2).of_after (by rw [hag])
  · have ht : muteTransaction (muteMonitoring v) = muteMonitoring v := if_neg (by rw [hmm.1, hd]; simp)
    rw [hag, ht, hmm.1]
  · have hrail : v.rail ch = s.rail ch := by unfold State.rail; rw [w2, k3]
    have hpg : v.powerGood ch = s.powerGood ch := by simp [State.powerGood, w5, k7]
    have hpar : v.railParams ch = s.railParams ch := by unfold State.railParams State.station; rw [w3, k5]
    rw [enterMute_monitors .barred (by rw [w1, k1, hc]) (by rw [State.recordOpen, w1, k1]; exact ho) ch,
      startAllMonitoring_rail, hrail, if_pos hon, hpar, hpg]
    refine ⟨rfl, rfl, rfl, ?_⟩
    simp [detachRail, startedMonitoring]

end Sys2Proof.Machine
end


section
/-! PROOF. The BEAT that is mirrored (O30). -/

namespace Sys2Proof.Machine

open Sys2Proof

/-! ### The sender's entry -/

/-- The entry of a peer at its BEAT (R141, R142). -/
theorem heard_beat (p : Peer) (len : Nat) (i : StationId) (n : TxnNumber) (b : BeatBody) :
    let q := p.heard len ⟨i, n, .beat b⟩
    q.presence = .present ∧ q.lastState = (if b.phase = .census then p.lastState else some b.state) ∧
    q.lastPhase = some b.phase ∧ q.lastOpen = b.openFlag ∧ q.lastNumber = some n ∧ q.summary = b.summary := by
  have hs : (p.setPresence .present).presence = .present ∧ (p.setPresence .present).lastState = p.lastState := by
    unfold Peer.setPresence
    split
    · rename_i h
      exact ⟨h, rfl⟩
    · exact ⟨rfl, rfl⟩
  simp [Peer.heard, mirrorBeat, hs]

theorem touchPeer_peers (f : Frame) (s : State) : (touchPeer f s).presence.peers =
    (s.withPeer f.sender ((s.peerAt f.sender).heard s.silenceLength f)).presence.peers := by
  unfold touchPeer reportPresent
  dsimp only
  split
  · rw [show ∀ u, (testAnnounce u).presence = u.presence from fun u => by simp]
  · rfl

theorem beatHeard_peer (i : StationId) (n : TxnNumber) (b : BeatBody) (s : State) :
    (beatHeard i n b s).peerAt i = (s.peerAt i).heard s.silenceLength ⟨i, n, .beat b⟩ ∧
    ∀ j, j ≠ i → (beatHeard i n b s).peerAt j = s.peerAt j := by
  have hp : (beatHeard i n b s).presence.peers =
      (s.withPeer i ((s.peerAt i).heard s.silenceLength ⟨i, n, .beat b⟩)).presence.peers := by
    rw [← touchPeer_peers ⟨i, n, .beat b⟩ s]
    simp [beatHeard]
  refine ⟨?_, fun j hj => ?_⟩
  · rw [State.peerAt, hp]
    exact peerAt_withPeer_same s i _
  · rw [State.peerAt, hp]
    exact peerAt_withPeer_ne s hj _

theorem refreshSeen_refresh (i : StationId) (s : State) : (refreshSeen i s).request.refresh = setDrop s.request.refresh i := by
  unfold refreshSeen
  dsimp only
  split
  · rw [show ∀ u, (testPropose u).request.refresh = u.request.refresh from fun u => by simp]
    rfl
  · rfl

theorem beatHeard_refresh (i : StationId) (n : TxnNumber) (b : BeatBody) (s : State) :
    (beatHeard i n b s).request.refresh = setDrop s.request.refresh i := by
  rw [beatHeard, refreshSeen_refresh]
  simp

/-- In MUTE a heard BEAT fills no slot (R139). -/
theorem beatHeard_link {i : StationId} {n : TxnNumber} {b : BeatBody} {s : State} (h : s.agreement.phase ≠ .settled) :
    (beatHeard i n b s).link = s.link := by
  rw [beatHeard, touchPeer_unsettled _ h, refreshSeen_unsettled (s := s.withPeer _ _) i h]
  rfl

/-- A BEAT that does not list the station, outside CENSUS (R148). -/
theorem takeBeat_unlisted {i : StationId} {n : TxnNumber} {b : BeatBody} {s : State} (h : setHas b.exclusion s.me = false)
    (hc : s.agreement.phase ≠ .census) :
    takeBeat i n b (touchPeer ⟨i, n, .beat b⟩ s) = retryHeldCensus (unbar i (beatHeard i n b s)) := by
  have hme : (beatHeard i n b s).me = s.me := by
    obtain ⟨-, -, -, -, hl, -⟩ := beatHeard_keeps i n b s
    rw [State.me, hl, State.me]
  have hp : (touchPeer ⟨i, n, .beat b⟩ s).agreement = s.agreement := by simp
  unfold takeBeat
  dsimp only
  rw [show refreshSeen i (touchPeer ⟨i, n, .beat b⟩ s) = beatHeard i n b s from rfl, hme, if_neg (by simp [h]),
    if_neg (by simp [hc])]

/-! ### The held barred-retry expiry -/

theorem openHeard_iff (s : State) : s.openHeard = true ↔
    ∃ j, j ≠ s.me ∧ (s.peerAt j).presence = .present ∧ (s.peerAt j).lastOpen = true := by
  simp [State.openHeard, State.isPresent, allStations, and_assoc]

/-- A held expiry at the end of a BEAT (R148). -/
theorem retryHeldCensus_held {s : State} (hp : s.agreement.phase = .mute) (hm : s.presence.muteCause = .barred)
    (hr : s.presence.retryHeld = true) : (retryHeldCensus s).agreement = s.agreement ∧
    (s.openHeard = true → retryHeldCensus s = s) ∧
    (s.openHeard = false → (retryHeldCensus s).presence.retryHeld = false ∧
      (retryHeldCensus s).hasQueued .census 0 (.census s.loader.signature s.loader.resetCause)) := by
  refine ⟨by simp, fun h => ?_, fun h => ?_⟩
  · unfold retryHeldCensus
    rw [if_neg (by simp [h])]
  · have ht : (s.withPresence { s.presence with retryHeld := false }).takesFill .census = true := by
      simp [State.takesFill, State.withPresence, hm]
    have hq := fillFrame_hasQueued (body := .census s.loader.signature s.loader.resetCause) ht 0
    have he : retryHeldCensus s = fillFrame 0 (.census s.loader.signature s.loader.resetCause)
        (s.withPresence { s.presence with retryHeld := false }) := by
      unfold retryHeldCensus
      rw [if_pos (by simp [hp, hr, h])]
      rfl
    rw [he]
    refine ⟨?_, hq⟩
    rw [show ∀ u : State, (fillFrame 0 (.census s.loader.signature s.loader.resetCause) u).presence = u.presence from
      fun u => by simp]
    rfl

/-- In MUTE, where the BEAT does not end it, the barring set alone changes before a held expiry is judged (R147, R148). -/
theorem takeBeat_barred {i : StationId} {n : TxnNumber} {b : BeatBody} {s : State} (hp : s.agreement.phase = .mute)
    (h : setHas b.exclusion s.me = true ∨ s.recordOpen = true ∨ setDrop s.presence.barring i ≠ 0) :
    ∃ x, takeBeat i n b (touchPeer ⟨i, n, .beat b⟩ s) = retryHeldCensus ((beatHeard i n b s).withPresence
      { (beatHeard i n b s).presence with barring := x }) ∧
    (setHas b.exclusion s.me = false → s.recordOpen = false → x = setDrop s.presence.barring i) := by
  obtain ⟨k1, -, -, -, -, -, -, k8, -⟩ := beatHeard_keeps i n b s
  have hsame : ∀ u : State, u = u.withPresence { u.presence with barring := u.presence.barring } := fun _ => rfl
  by_cases hx : setHas b.exclusion s.me = true
  · rw [takeBeat_bars hx]
    refine ⟨setAdd (beatHeard i n b s).presence.barring i, congrArg retryHeldCensus ?_, fun q => by rw [hx] at q; cases q⟩
    unfold bar
    dsimp only
    exact if_neg (by simp [State.withPresence, k1, hp, Phase.takesPart])
  · rw [takeBeat_unlisted (by simpa using hx) (by simp [hp])]
    by_cases hr : s.recordOpen = true
    · refine ⟨(beatHeard i n b s).presence.barring, congrArg retryHeldCensus ?_, fun _ q => absurd hr (by simp [q])⟩
      unfold unbar
      rw [if_neg (by simpa [State.recordOpen, k1] using fun _ => hr)]
      exact hsame _
    · refine ⟨setDrop (beatHeard i n b s).presence.barring i, congrArg retryHeldCensus ?_, fun _ _ => by rw [k8]⟩
      have hb : setDrop (beatHeard i n b s).presence.barring i ≠ 0 := by
        rw [k8]
        exact (h.resolve_left hx).resolve_left hr
      unfold unbar
      rw [if_pos (by simpa [State.recordOpen, k1, hp] using hr)]
      exact checkLeaveMute_stays (s := dropBarring i (beatHeard i n b s)) (.inr hb)

/-! ### O30 -/

/-- A BEAT that lists the station or leaves another in its barring set, with an expiry held (R147, R148, log 56). -/
theorem beat_held {i : StationId} {n : TxnNumber} {b : BeatBody} {s : State} (hh : s.hears i)
    (hp : s.agreement.phase = .mute) (hm : s.presence.muteCause = .barred) (hr : s.presence.retryHeld = true)
    (h : setHas b.exclusion s.me = true ∨ s.recordOpen = true ∨ setDrop s.presence.barring i ≠ 0) :
    ∃ t, exec (.beatDelivered i n b) s = .next t ∧ t.agreement = s.agreement ∧
      (b.openFlag = true ∨
          (∃ j, j ≠ i ∧ j ≠ s.me ∧ (s.peerAt j).presence = .present ∧ (s.peerAt j).lastOpen = true) →
        t.presence.retryHeld = true ∧ t.link = s.link) ∧
      (b.openFlag = false → (∀ j, j ≠ i → j ≠ s.me → (s.peerAt j).presence = .present → (s.peerAt j).lastOpen = false) →
        t.presence.retryHeld = false ∧ t.hasQueued .census 0 (.census s.loader.signature s.loader.resetCause)) := by
  obtain ⟨x, hx, -⟩ := takeBeat_barred (n := n) hp h
  obtain ⟨k1, -, -, -, k5, -, -, k8, -⟩ := beatHeard_keeps i n b s
  obtain ⟨p1, p2⟩ := beatHeard_peer i n b s
  have hl := beatHeard_link (i := i) (n := n) (b := b) (s := s) (by simp [hp])
  obtain ⟨q1, -, -, q4, -⟩ := heard_beat (s.peerAt i) s.silenceLength i n b
  rw [← p1] at q1 q4
  rw [beatDelivered_takes hh, hx]
  generalize beatHeard i n b s = u at *
  have hv : (u.withPresence { u.presence with barring := x }).agreement = s.agreement ∧
      (u.withPresence { u.presence with barring := x }).loader = s.loader ∧
      (u.withPresence { u.presence with barring := x }).link = s.link ∧
      (u.withPresence { u.presence with barring := x }).presence.muteCause = .barred ∧
      (u.withPresence { u.presence with barring := x }).presence.retryHeld = true ∧
      ∀ j, (u.withPresence { u.presence with barring := x }).peerAt j = u.peerAt j := by
    refine ⟨k1, k5, hl, ?_, ?_, fun _ => rfl⟩
    · show u.presence.muteCause = .barred
      rw [k8, hm]
    · show u.presence.retryHeld = true
      rw [k8, hr]
  generalize u.withPresence { u.presence with barring := x } = v at *
  obtain ⟨v1, v2, v3, v4, v5, v6⟩ := hv
  obtain ⟨r1, r2, r3⟩ := retryHeldCensus_held (s := v) (by rw [v1, hp]) v4 v5
  have hme : v.me = s.me := by rw [State.me, v2, State.me]
  have ho := openHeard_iff v
  refine ⟨_, rfl, r1.trans v1, fun h => ?_, fun hb hall => ?_⟩
  · have : v.openHeard = true := by
      rw [ho, hme]
      rcases h with hb | ⟨j, hji, hjm, hj⟩
      · exact ⟨i, hh.2.1, by rw [v6, q1], by rw [v6, q4, hb]⟩
      · exact ⟨j, hjm, by rw [v6, p2 j hji]; exact hj⟩
    rw [r2 this]
    exact ⟨v5, v3⟩
  · have : v.openHeard = false := by
      rw [Bool.eq_false_iff, ne_eq, ho, hme]
      rintro ⟨j, hjm, hj1, hj2⟩
      rw [v6] at hj1 hj2
      by_cases hji : j = i
      · rw [hji, q4, hb] at hj2
        cases hj2
      · rw [p2 j hji] at hj1 hj2
        rw [hall j hji hjm hj1] at hj2
        cases hj2
    rw [← v2]
    exact r3 this

/-- The station's own BEAT (R30, R145). -/
theorem beat_own {n : TxnNumber} {b : BeatBody} {s : State} (hon : s.onLink = true)
    (hs : (s.slot .beat).sending = some (s.ownReady n (.beat b))) :
    ∃ t, exec (.beatDelivered s.me n b) s = .next t ∧ t.request.refresh = setDrop s.request.refresh s.me ∧
      t.presence = { s.presence with debt := 0 } ∧ (t.slot .beat).sending = none ∧ t.agreement = s.agreement ∧
      t.executor = s.executor ∧ t.channel = s.channel ∧ t.faults = s.faults := by
  have ho : (s.ownSending ⟨s.me, n, .beat b⟩).isSome = true := ownSending_of_sends ⟨rfl, _, hs, rfl⟩
  obtain ⟨-, hd⟩ := ownDelivered_slot ⟨s.me, n, .beat b⟩ (s.ownSending ⟨s.me, n, .beat b⟩) s
  obtain ⟨h1, -⟩ := hd ho
  have hk : (ownDelivered ⟨s.me, n, .beat b⟩ (s.ownSending ⟨s.me, n, .beat b⟩) s).presence = { s.presence with debt := 0 } := by
    unfold ownDelivered
    rw [if_pos ho]
    rfl
  have hr : (ownDelivered ⟨s.me, n, .beat b⟩ (s.ownSending ⟨s.me, n, .beat b⟩) s).request = s.request ∧
      (ownDelivered ⟨s.me, n, .beat b⟩ (s.ownSending ⟨s.me, n, .beat b⟩) s).agreement = s.agreement ∧
      (ownDelivered ⟨s.me, n, .beat b⟩ (s.ownSending ⟨s.me, n, .beat b⟩) s).executor = s.executor ∧
      (ownDelivered ⟨s.me, n, .beat b⟩ (s.ownSending ⟨s.me, n, .beat b⟩) s).channel = s.channel ∧
      (ownDelivered ⟨s.me, n, .beat b⟩ (s.ownSending ⟨s.me, n, .beat b⟩) s).faults = s.faults := by simp
  have hme : (ownDelivered ⟨s.me, n, .beat b⟩ (s.ownSending ⟨s.me, n, .beat b⟩) s).me = s.me := by simp [State.me]
  have he : exec (.beatDelivered s.me n b) s =
      .next (refreshSeen s.me (ownDelivered ⟨s.me, n, .beat b⟩ (s.ownSending ⟨s.me, n, .beat b⟩) s)) := by
    show Host.Outcome.next (deliverBeat s.me n b s) = _
    unfold deliverBeat
    dsimp only
    rw [if_neg (by simp [hon]), if_pos hme.symm, if_pos ho]
  rw [he]
  generalize ownDelivered ⟨s.me, n, .beat b⟩ (s.ownSending ⟨s.me, n, .beat b⟩) s = u at *
  obtain ⟨r1, r2, r3, r4, r5⟩ := hr
  refine ⟨_, rfl, by rw [refreshSeen_refresh, r1], by simp [hk], ?_, by simp [r2], by simp [r3], by simp [r4], by simp [r5]⟩
  have hsend : ((refreshSeen s.me u).slot .beat).sending = (u.slot .beat).sending := by
    have ht : ∀ v, ((testPropose v).slot .beat).sending = (v.slot .beat).sending := fun v => by
      unfold testPropose
      split
      · split
        · exact fillFrame_sending _ _ _ _
        · rfl
      · rfl
    unfold refreshSeen
    dsimp only
    split
    · exact ht _
    · rfl
  exact hsend.trans h1

/-- A BEAT that does not list the station, in MUTE(BARRED) with no silent descent (R148, R150, log 28, log 35). -/
theorem beat_unbars {i : StationId} {n : TxnNumber} {b : BeatBody} {s : State} (hh : s.hears i)
    (hp : s.agreement.phase = .mute) (hm : s.presence.muteCause = .barred) (hr : s.recordOpen = false)
    (hx : setHas b.exclusion s.me = false) :
    ∃ t, exec (.beatDelivered i n b) s = .next t ∧ t.presence.barring = setDrop s.presence.barring i ∧
      (setDrop s.presence.barring i ≠ 0 → t.agreement = s.agreement ∧ t.presence.muteCause = .barred ∧
        t.channel = s.channel) ∧
      (setDrop s.presence.barring i = 0 →
        t.agreement = { s.agreement with phase := .census, believed := none, number := none } ∧
        t.presence.muteCause = .none ∧ t.presence.censusWindow = some s.system.censusWindow ∧
        t.presence.beat = some s.system.beatLow ∧ t.presence.beatTimer = some s.system.beatLow ∧ t.presence.debt = 0 ∧
        t.presence.barredRetry = none ∧ t.presence.retryHeld = false ∧
        t.hasQueued .census 0 (.census s.loader.signature s.loader.resetCause) ∧
        ∀ ch, (s.rail ch).state = .on → t.rail ch = { s.rail ch with
          filter := none, window := none, dropouts := 0, loss := false }) := by
  obtain ⟨k1, -, k3, -, k5, -, -, k8, -⟩ := beatHeard_keeps i n b s
  rw [beatDelivered_takes hh]
  by_cases hb : setDrop s.presence.barring i = 0
  · rw [takeBeat_unlisted hx (by simp [hp])]
    generalize beatHeard i n b s = u at *
    have hv : (dropBarring i u).agreement = s.agreement ∧ (dropBarring i u).channel = s.channel ∧
        (dropBarring i u).loader = s.loader ∧ (dropBarring i u).presence.barring = setDrop s.presence.barring i ∧
        (dropBarring i u).presence.muteCause = .barred := by
      refine ⟨k1, k3, k5, ?_, ?_⟩
      · show setDrop u.presence.barring i = _
        rw [k8]
      · show u.presence.muteCause = _
        rw [k8, hm]
    have hu : unbar i u = checkLeaveMute (dropBarring i u) := by
      unfold unbar
      rw [if_pos (by simpa [State.recordOpen, k1, hp] using hr)]
    rw [hu]
    generalize dropBarring i u = v at *
    obtain ⟨v1, v2, v3, v4, v5⟩ := hv
    have hsys : v.system = s.system := system_congr v3
    have hrail : ∀ ch, v.rail ch = s.rail ch := fun ch => by unfold State.rail; rw [v2]
    rw [checkLeaveMute_leaves (by rw [v1, hp]) v5 (by rw [v4, hb]) (by rw [State.recordOpen, v1]; exact hr)]
    obtain ⟨l1, l2, l3, l4, -⟩ := leaveMute_leaves v
    rw [hsys] at l2
    rw [v3] at l3
    rw [v1] at l1
    generalize leaveMute v = t at *
    rw [retryHeldCensus_unheld (by rw [l2])]
    refine ⟨t, rfl, by rw [l2]; exact v4, fun h => absurd hb h, fun _ => ⟨l1, by rw [l2], by rw [l2], by rw [l2], by rw [l2],
      by rw [l2], by rw [l2], by rw [l2], l3, fun ch hon => ?_⟩⟩
    rw [l4, hrail, if_pos hon]
    rfl
  · obtain ⟨x, e, hxb⟩ := takeBeat_barred (i := i) (n := n) (b := b) hp (.inr (.inr hb))
    rw [e, hxb hx hr]
    generalize beatHeard i n b s = u at *
    have hv : ∀ v : State, (retryHeldCensus v).agreement = v.agreement ∧ (retryHeldCensus v).channel = v.channel ∧
        (retryHeldCensus v).presence.muteCause = v.presence.muteCause ∧
        (retryHeldCensus v).presence.barring = v.presence.barring := fun v => by simp
    obtain ⟨v1, v2, v3, v4⟩ := hv (u.withPresence { u.presence with barring := setDrop s.presence.barring i })
    refine ⟨_, rfl, v4, fun _ => ⟨v1.trans k1, v3.trans ?_, v2.trans k3⟩, fun h => absurd h hb⟩
    show u.presence.muteCause = _
    rw [k8, hm]

/-- Settles O30, clause by clause: the held expiry, the own BEAT, the barring set and the phases that take part. -/
theorem beatIsMirrored : Obligations.BeatIsMirrored := by
  refine ⟨fun _ _ _ _ => beat_held, fun _ _ _ => beat_own, fun _ _ _ _ => beat_unbars, fun i n b s hh hp hx => ?_⟩
  have hph : s.agreement.phase ≠ .census ∧ s.agreement.phase ≠ .mute := by
    constructor <;>
    · intro q
      rw [q] at hp
      cases hp
  obtain ⟨k1, k2, k3, k4, -⟩ := beatHeard_keeps i n b s
  obtain ⟨p1, -⟩ := beatHeard_peer i n b s
  obtain ⟨q1, q2, q3, q4, q5, q6⟩ := heard_beat (s.peerAt i) s.silenceLength i n b
  rw [← p1] at q1 q2 q3 q4 q5 q6
  have hr := beatHeard_refresh i n b s
  rw [beatDelivered_takes hh, takeBeat_unlisted hx hph.1]
  generalize beatHeard i n b s = u at *
  have hu : unbar i u = u := by
    unfold unbar
    rw [if_neg (by simp [k1, hph.2])]
  have ht : retryHeldCensus u = u := by
    unfold retryHeldCensus
    rw [if_neg (by simp [k1, hph.2])]
  rw [hu, ht]
  exact ⟨u, rfl, q1, q2, q3, q4, q5, q6, hr, k1, k2, k3, k4⟩

end Sys2Proof.Machine
end


section
/-! SUPPORT. What an adoption leaves as it ends census, and the steps of an alignment on the rails (R98, R151, R152). -/

namespace Sys2Proof.Machine

open Sys2Proof

/-! ### DOMAIN_LOST -/

/-- A SEVERE condition met in a phase that requests a FAULT (R98, R101). -/
theorem raiseFault_requested (code : FaultCode) (target : Target) {s : State} (h : s.agreement.phase.requestsFault = true)
    (hm : s.agreement.phase ≠ .mute) :
    (raiseFault code target .severe s).wake = s.wake ∧ (raiseFault code target .severe s).request = s.request ∧
    (∀ k, k ≠ .fault → (raiseFault code target .severe s).slot k = s.slot k) ∧
    ((raiseFault code target .severe s).slot .fault).queued.isSome = true := by
  have he : raiseFault code target .severe s = requestFault code target (latchFault code target .severe s) := by
    simp [raiseFault, disposeFault, h]
  obtain ⟨h1, h2, h3⟩ := requestFault_owners code target (latchFault code target .severe s)
  rw [he]
  refine ⟨by rw [h1]; simp, by rw [h2]; simp, fun k hk => by rw [h3 k hk]; exact slot_eq_of_link (by simp) k, ?_⟩
  exact requestFault_queued (by simpa using hm) _ _

theorem raiseFault_alike {code : FaultCode} (hc : code ≠ .peerLost) (target : Target) {s : State}
    (h : s.agreement.phase.requestsFault = true) (hm : s.agreement.phase ≠ .mute) :
    ClosesAlike s (raiseFault code target .severe s) := by
  obtain ⟨h1, h2, h3, -⟩ := raiseFault_requested code target h hm
  have hl := raiseFault_latched code target .severe s
  exact
    { pins := by simp
      loader := by simp
      participants := by simp [State.participants]
      beat := by simp
      beatTimer := by simp
      inputs := by rw [h1]
      pressed := by rw [h1]
      debounce := by rw [h1]
      longPress := by rw [h1]
      minDwell := by rw [h1]
      demote := by rw [h1]
      latch := fun l hl _ => by rw [h2]; exact hl
      deferHold := by rw [h2]
      lockout := by rw [h2]
      propose := h3 _ (by simp)
      faults := hl.grow
      peerLost := fun e he hp => (hl.mem he).resolve_right fun q => hc (q.1.symm.trans hp)
      queue := by rw [h1]
      time := by simp
      history := by simp }

theorem LatchedFirst.of_grow {s u t : State} {code : FaultCode} {target : Target} {sev : Severity}
    (h : LatchedFirst s u code target sev) (k : FaultsGrow u t) : LatchedFirst s t code target sev := by
  rcases h with h | ⟨h1, h2⟩
  · exact .inl (k.holds h)
  · have := k.unrecorded
    exact .inr ⟨h1, by omega⟩

/-! ### The faults at the end of census -/

/-- A step that grows the fault lists and leaves a queued FAULT queued. -/
structure FaultStands (s t : State) : Prop where
  grow : FaultsGrow s t
  queued : (s.slot .fault).queued.isSome = true → (t.slot .fault).queued.isSome = true

theorem FaultStands.trans {s t u : State} (h : FaultStands s t) (k : FaultStands t u) : FaultStands s u :=
  ⟨h.grow.trans k.grow, fun q => k.queued (h.queued q)⟩

theorem FaultStands.of_eq {s t : State} (hf : t.faults = s.faults) (hs : t.slot .fault = s.slot .fault) : FaultStands s t :=
  ⟨.of_eq (by rw [hf]) (by rw [hf]), fun q => by rw [hs]; exact q⟩

theorem testPropose_slot_ne (s : State) {k : FrameKind} (h : k ≠ .propose) : (testPropose s).slot k = s.slot k := by
  unfold testPropose
  split
  · rename_i l hl
    split
    · exact fillFrame_slot_ne (body := .propose l.request.kind false _) s h _
    · rfl
  · rfl

theorem settleWake_faultStands (closed : Option (Kind × TxnOutcome)) (s : State) : FaultStands s (settleWake closed s) := by
  obtain ⟨-, h2, -, h4, -⟩ := settleEvaluation_owners (s.agreement.believed.getD .off) s
  have hk := settleTimers_keeps closed (settleEvaluation (s.agreement.believed.getD .off) s)
  obtain ⟨-, -, kl, -, -, -, -, -, -, -, -, kf, -⟩ := hk
  have he : FaultStands s (settleEvaluation (s.agreement.believed.getD .off) s) :=
    ⟨h4, fun q => by rw [slot_eq_of_link h2]; exact q⟩
  rw [settleWake_eq]
  refine he.trans (.trans (t := settleTimers closed (settleEvaluation (s.agreement.believed.getD .off) s)) ?_ ?_)
  · exact .of_eq kf (slot_eq_of_link kl _)
  · exact .of_eq (by simp) (testAnnounce_slot_ne _ (by simp))

theorem settleRequest_faultStands (closed : Option (Kind × TxnOutcome)) (s : State) :
    FaultStands s (settleRequest closed s) := by
  refine .of_eq (by simp) ?_
  unfold settleRequest
  split
  · rw [testPropose_slot_ne _ (by simp)]
    exact slot_eq_of_link (by simp) _
  · exact slot_eq_of_link (by simp [State.withRequest]) _

/-- The settle signal grows the fault lists, and a FAULT queued before it stays queued (R99, R101). -/
theorem settleSignal_faultStands (closed : Option (Kind × TxnOutcome)) {s : State} (hp : s.agreement.phase = .settled) :
    FaultStands s (settleSignal closed s) := by
  have h1 := (settleWake_faultStands closed s).trans (settleRequest_faultStands closed _)
  have hp1 : (recomputeBeat (settleRequest closed (settleWake closed s))).agreement.phase = .settled := by simpa using hp
  have h2 : FaultStands (settleRequest closed (settleWake closed s))
      (recomputeBeat (settleRequest closed (settleWake closed s))) := .of_eq (by simp) (slot_eq_of_link (by simp) _)
  have h3 : FaultStands (recomputeBeat (settleRequest closed (settleWake closed s)))
      (settlePeers (recomputeBeat (settleRequest closed (settleWake closed s)))) := by
    obtain ⟨⟨-, -, -, g, q⟩, -⟩ := settlePeers_fold allStations hp1
    unfold settlePeers
    split
    · exact ⟨g, q⟩
    · exact .of_eq rfl rfl
  have h4 : ∀ u, FaultStands u (settleChannel closed.isNone u) := fun u => .of_eq (by simp) (slot_eq_of_link (by simp) _)
  exact ((h1.trans h2).trans h3).trans (h4 _)

theorem endCensus_faultStands (s : State) : FaultStands s (endCensus s) :=
  FaultStands.trans (.of_eq rfl rfl : FaultStands s ((s.withPresence { s.presence with alignment := none }).withPhase .settled))
    (settleSignal_faultStands none rfl)

/-! ### What the channel block reads -/

/-- What a row is compared with and corrected by is the same in both states. -/
theorem rows_congr {s t : State} (hc : t.channel = s.channel) (hl : t.loader = s.loader) (hp : t.pins = s.pins) :
    (∀ ch, t.rail ch = s.rail ch) ∧ (∀ ch, t.railParams ch = s.railParams ch) ∧ (∀ ch, t.powerGood ch = s.powerGood ch) ∧
    (∀ row ch, t.railDiffers row ch = s.railDiffers row ch) ∧ (∀ row i, t.signalDiffers row i = s.signalDiffers row i) ∧
    (∀ row, t.alignmentSteps row = s.alignmentSteps row) ∧ (∀ row, t.outputsDiffer row = s.outputsDiffer row) ∧
    (∀ ch up, t.alignedRail ch up = s.alignedRail ch up) ∧ ∀ c, t.stepTakesTime c = s.stepTakesTime c := by
  have h1 : ∀ ch, t.rail ch = s.rail ch := fun ch => by simp [State.rail, hc]
  have h2 : ∀ ch, t.railParams ch = s.railParams ch := fun ch => by simp [State.railParams, State.station, hl]
  have h3 : ∀ ch, t.powerGood ch = s.powerGood ch := fun ch => by simp [State.powerGood, hp]
  have h4 : ∀ row ch, t.railDiffers row ch = s.railDiffers row ch := fun row ch => by
    simp [State.railDiffers, State.enable, h1, h2]
  have h5 : ∀ row i, t.signalDiffers row i = s.signalDiffers row i := fun row i => by
    simp [State.signalDiffers, State.signal, hc]
  have h6 : ∀ row, t.alignmentSteps row = s.alignmentSteps row := fun row => by simp [State.alignmentSteps, h4, h5]
  have h7 : ∀ ch up, t.alignedRail ch up = s.alignedRail ch up := fun ch up => by simp [State.alignedRail, h1, h2, h3]
  exact ⟨h1, h2, h3, h4, h5, h6, fun row => by unfold State.outputsDiffer; rw [h6], h7,
    fun c => by cases c <;> simp [State.stepTakesTime, h7]⟩

theorem MonitoringStarts.of_before {s s' t : State} {row : ProfileRow} (h : MonitoringStarts s' t row)
    (hc : s'.channel = s.channel) (hl : s'.loader = s.loader) (hp : s'.pins = s.pins) : MonitoringStarts s t row := by
  obtain ⟨h1, h2, h3, h4, -⟩ := rows_congr hc hl hp
  simpa only [MonitoringStarts, h1, h2, h3, h4] using h

theorem StepsIssued.of_before {s s' t : State} {l : List Change} (h : StepsIssued s' t l)
    (hc : s'.channel = s.channel) (hl : s'.loader = s.loader) (hp : s'.pins = s.pins) : StepsIssued s t l := by
  obtain ⟨h1, -, -, -, -, -, -, h7, -⟩ := rows_congr hc hl hp
  simpa only [StepsIssued, h1, h7] using h

/-! ### Steps on the rails -/

/-- A change of a rail. -/
def MovesRail (c : Change) : Prop := ∃ ch, c = .raise ch ∨ c = .drop ch

theorem movesRail_of_takesTime {s : State} {c : Change} (h : s.stepTakesTime c = true) : MovesRail c := by
  cases c with
  | raise ch => exact ⟨ch, .inl rfl⟩
  | drop ch => exact ⟨ch, .inr rfl⟩
  | setHigh i => simp [State.stepTakesTime] at h
  | setLow i => simp [State.stepTakesTime] at h

/-- Steps on rails leave the rest of the channel block (R152). -/
theorem foldl_afterStep_rails {l : List Change} (h : ∀ c ∈ l, MovesRail c) (s : State) :
    (l.foldl State.afterStep s).channel = { s.channel with rails := (l.foldl State.afterStep s).channel.rails } := by
  induction l generalizing s with
  | nil => rfl
  | cons c l ih =>
    have hc : (s.afterStep c).channel = { s.channel with rails := (s.afterStep c).channel.rails } := by
      obtain ⟨ch, rfl | rfl⟩ := h c List.mem_cons_self <;> rfl
    have hl := ih (fun d hd => h d (List.mem_cons_of_mem _ hd)) (s.afterStep c)
    rw [List.foldl_cons, hl, hc]

/-- In the steps for a row those on rails come first (R152). -/
theorem alignmentSteps_railsFirst {s : State} {row : ProfileRow} {done rest : List Change} {c : Change}
    (h : s.alignmentSteps row = done ++ c :: rest) (hc : MovesRail c) : ∀ d ∈ done, MovesRail d := by
  obtain ⟨rails, sigs, hs, hr, hg⟩ : ∃ rails sigs, s.alignmentSteps row = rails ++ sigs ∧ (∀ d ∈ rails, MovesRail d) ∧
      ∀ d ∈ sigs, SetsSignal d := by
    refine ⟨_, _, rfl, fun d hd => ?_, fun d hd => ?_⟩
    · simp only [List.mem_append, List.mem_map] at hd
      rcases hd with ⟨ch, -, rfl⟩ | ⟨ch, -, rfl⟩
      · exact ⟨ch, .inr rfl⟩
      · exact ⟨ch, .inl rfl⟩
    · simp only [List.mem_map] at hd
      obtain ⟨i, -, rfl⟩ := hd
      split
      · exact ⟨i, .inl rfl⟩
      · exact ⟨i, .inr rfl⟩
  rcases List.append_eq_append_iff.1 (hs.symm.trans h) with ⟨m, rfl, he⟩ | ⟨m, hm, -⟩
  · obtain ⟨i, q | q⟩ := hg c (by rw [he]; simp)
    · obtain ⟨ch, rfl | rfl⟩ := hc <;> cases q
    · obtain ⟨ch, rfl | rfl⟩ := hc <;> cases q
  · exact fun d hd => hr d (by rw [hm]; simp [hd])

end Sys2Proof.Machine
end


section
/-! PROOF. Census adoption (O32). -/

namespace Sys2Proof.Machine

open Sys2Proof

/-! ### A BEAT heard in CENSUS -/

theorem takeBeat_census {i : StationId} {n : TxnNumber} {b : BeatBody} {s : State} (h : setHas b.exclusion s.me = false)
    (hc : s.agreement.phase = .census) :
    takeBeat i n b (touchPeer ⟨i, n, .beat b⟩ s) = judgeBeat b n (beatHeard i n b s) := by
  have hme : (beatHeard i n b s).me = s.me := by
    obtain ⟨-, -, -, -, hl, -⟩ := beatHeard_keeps i n b s
    rw [State.me, hl, State.me]
  have hp : (touchPeer ⟨i, n, .beat b⟩ s).agreement = s.agreement := by simp
  unfold takeBeat
  dsimp only
  rw [show refreshSeen i (touchPeer ⟨i, n, .beat b⟩ s) = beatHeard i n b s from rfl, hme, if_neg (by simp [h]),
    if_pos (by simp [hc])]

/-- In CENSUS a heard BEAT changes nothing that is said of a close. -/
theorem beatHeard_alike {i : StationId} {n : TxnNumber} {b : BeatBody} {s : State} (h : s.agreement.phase ≠ .settled) :
    ClosesAlike s (beatHeard i n b s) := by
  have ht := (touchPeer_heard ⟨i, n, .beat b⟩ h).alike (by simp [Body.kind])
  have hp : (touchPeer ⟨i, n, .beat b⟩ s).agreement.phase ≠ .settled := by simpa using h
  rw [beatHeard, refreshSeen_unsettled i hp]
  exact ht.trans (.of_fields rfl rfl rfl rfl rfl rfl (fun _ h => h) rfl rfl rfl rfl rfl rfl)

/-- The station as a settled BEAT is adopted from, before the profile check (R151). -/
def adoptsBeat (i : StationId) (n : TxnNumber) (b : BeatBody) (s : State) : State :=
  writeAdoption b.state n (beatHeard i n b s)

/-- A settled, not open BEAT in CENSUS comes to the profile check (R150, R151). -/
theorem settledBeat_adopts {i : StationId} {n : TxnNumber} {b : BeatBody} {s : State} (hh : s.hears i)
    (hp : s.agreement.phase = .census) (ha : s.presence.alignment = none) (hx : setHas b.exclusion s.me = false)
    (hb : b.phase = .settled) (ho : b.openFlag = false) :
    exec (.beatDelivered i n b) s = .next (profileCheck b.state (adoptsBeat i n b s)) ∧
    ClosesAlike s (adoptsBeat i n b s) ∧ (adoptsBeat i n b s).channel = s.channel ∧
    (adoptsBeat i n b s).agreement =
      { s.agreement with believed := some b.state, number := some n, restImage := false } ∧
    (adoptsBeat i n b s).presence.censusWindow = none ∧ (adoptsBeat i n b s).request.refresh = 0 ∧
    (adoptsBeat i n b s).executor = s.executor ∧ (adoptsBeat i n b s).faults = s.faults := by
  obtain ⟨k1, k2, k3, k4, -, -, -, k8, -⟩ := beatHeard_keeps i n b s
  have hal := (beatHeard_alike (i := i) (n := n) (b := b) (s := s) (by simp [hp])).trans (writeAdoption_alike b.state n _)
  rw [beatDelivered_takes hh, takeBeat_census hx hp]
  unfold adoptsBeat
  generalize beatHeard i n b s = u at *
  have hj : judgeBeat b n u = profileCheck b.state (writeAdoption b.state n u) := by
    unfold judgeBeat
    rw [if_neg (by rw [State.aligning, k8]; simp [ha]), if_pos (by simp [hb, ho])]
    rfl
  rw [hj]
  refine ⟨rfl, hal, k3, ?_, rfl, rfl, k2, k4⟩
  show ({ u.agreement with believed := some b.state, number := some n, restImage := false } : Agreement) = _
  rw [k1]

/-! ### Alignment -/

/-- In STOW and OFF the profile check aligns (R151, R152). -/
theorem profileCheck_aligns {st : SystemState} (h : st = .stow ∨ st = .off) (s : State) :
    profileCheck st s = runAlignment (s.alignmentSteps (s.profileRow st)) s := by
  unfold profileCheck
  rcases h with rfl | rfl <;> exact if_neg (by simp)

/-- A step that takes time leaves the station in CENSUS (R152). -/
theorem adoption_aligns {st : SystemState} {n : TxnNumber} {s w : State} (hst : st = .stow ∨ st = .off)
    (hp : s.agreement.phase = .census) (hal : ClosesAlike s w) (hc : w.channel = s.channel)
    (ha : w.agreement = { s.agreement with believed := some st, number := some n, restImage := false })
    {done rest : List Change} {c : Change} (hs : s.alignmentSteps (s.profileRow st) = done ++ c :: rest)
    (hd : ∀ d ∈ done, s.stepTakesTime d = false) (ht : s.stepTakesTime c = true) :
    ∃ v, profileCheck st w = v.withPresence { w.presence with alignment := some rest } ∧ StepsIssued s v (done ++ [c]) ∧
      v = { w with channel := { s.channel with rails := v.channel.rails } } := by
  obtain ⟨-, -, -, -, -, h6, -, -, h9⟩ := rows_congr hc hal.loader hal.pins
  have hsw : w.alignmentSteps (w.profileRow st) = done ++ c :: rest := by rw [h6, profileRow_congr hal.loader, hs]
  obtain ⟨f1, f2⟩ := alignmentSteps_fit w (w.profileRow st)
  rw [hsw] at f1 f2
  have hsub : (done ++ [c]).Sublist (done ++ c :: rest) := by simp
  have hnd : ((done ++ [c]).map outputOf).Nodup := f2.sublist (hsub.map _)
  have hrun := runAlignment_takesTime (done := done) (c := c) rest (s := w) (fun d q => f1 d (hsub.subset q)) hnd
    (fun d q => by rw [h9]; exact hd d q) (by rw [h9]; exact ht) (.inr (by rw [ha, hp]; rfl))
  have hmc := movesRail_of_takesTime ht
  have hmd := alignmentSteps_railsFirst hs hmc
  have hall : ∀ d ∈ done ++ [c], MovesRail d := fun d q => by
    rcases List.mem_append.1 q with q | q
    · exact hmd d q
    · rw [List.mem_singleton.1 q]
      exact hmc
  obtain ⟨g1, g2, -⟩ := foldl_afterStep hnd w
  have g3 := foldl_afterStep_rails hall w
  rw [profileCheck_aligns hst, hsw, hrun]
  generalize (done ++ [c]).foldl State.afterStep w = v at *
  refine ⟨v, rfl, g2.of_before hc hal.loader hal.pins, ?_⟩
  have : v = { w with channel := v.channel } := by rw [g1]
  rw [← hc, ← g3]
  exact this

/-- Where every step completes at once the station is SETTLED with its outputs at their cells (R151, R152). -/
theorem adoption_atOnce {st : SystemState} {n : TxnNumber} {s w : State} (hst : st = .stow ∨ st = .off)
    (hp : s.agreement.phase = .census) (hal : ClosesAlike s w) (hc : w.channel = s.channel)
    (ha : w.agreement = { s.agreement with believed := some st, number := some n, restImage := false })
    (hd : ∀ d ∈ s.alignmentSteps (s.profileRow st), s.stepTakesTime d = false) :
    let t := profileCheck st w
    t.agreement = { w.agreement with phase := .settled } ∧ t.presence.alignment = none ∧ Settled none s t ∧
    Evaluated s t st ∧ MonitoringStarts s t (s.profileRow st) ∧
    (∀ j, t.signal j = tabGet (s.profileRow st).signals j) ∧
    (∀ ch, s.railDiffers (s.profileRow st) ch = true →
      t.enable ch = tabGet (s.profileRow st).rails ch ∧ (t.rail ch).state.standing = true) ∧
    t.channel.corrections = s.channel.corrections := by
  obtain ⟨h1, h2, h3, h4, -, h6, -, -, h9⟩ := rows_congr hc hal.loader hal.pins
  have hrow : w.profileRow st = s.profileRow st := profileRow_congr hal.loader st
  have hdw : ∀ d ∈ w.alignmentSteps (s.profileRow st), w.stepTakesTime d = false := by
    rw [h6]
    exact fun d q => by rw [h9]; exact hd d q
  obtain ⟨f1, f2⟩ := alignmentSteps_fit w (s.profileRow st)
  have hrun := runAlignment_atOnce f1 f2 hdw (by rw [ha, hp]; rfl)
  obtain ⟨g1, -, -⟩ := foldl_afterStep f2 w
  obtain ⟨r1, r2, r3⟩ := foldl_afterStep_row hdw
  rw [profileCheck_aligns hst, hrow, hrun]
  dsimp only
  generalize (w.alignmentSteps (s.profileRow st)).foldl State.afterStep w = v at *
  have hv : v.agreement = w.agreement ∧ v.channel.corrections = w.channel.corrections ∧ v.loader = w.loader ∧
      v.pins = w.pins ∧ ClosesAlike w v := by
    rw [g1]
    exact ⟨rfl, rfl, rfl, rfl, .of_fields rfl rfl rfl rfl rfl rfl (fun _ h => h) rfl rfl rfl rfl rfl rfl⟩
  obtain ⟨v1, v2, v3, v4, v5⟩ := hv
  have hvb : v.agreement.believed = some st := by rw [v1, ha]
  have hvrow : v.profileRow st = s.profileRow st := (profileRow_congr v3 st).trans hrow
  have hpar : ∀ ch, v.railParams ch = s.railParams ch := fun ch => by
    rw [← h2]
    simp [State.railParams, State.station, v3]
  have hpg : ∀ ch, v.powerGood ch = s.powerGood ch := fun ch => by
    rw [← h3]
    simp [State.powerGood, v4]
  have hdr : ∀ ch, v.railDiffers (s.profileRow st) ch = false := fun ch => by
    by_cases hdf : w.railDiffers (s.profileRow st) ch = true
    · simp [State.railDiffers, (r2 ch hdf).1]
    · have hdf : w.railDiffers (s.profileRow st) ch = false := by simpa using hdf
      rw [← hdf]
      simp [State.railDiffers, State.enable, r3 ch hdf, hpar, h2]
  have hds : ∀ i, v.signalDiffers (s.profileRow st) i = false := fun i => by simp [State.signalDiffers, r1]
  obtain ⟨e1, e2, e3⟩ := endCensus_still hvb (by rw [hvrow]; exact hdr) (by rw [hvrow]; exact hds)
  obtain ⟨q1, q2, -, q4⟩ := endCensus_settled v
  obtain ⟨q5, -⟩ := endCensus_ends hvb
  have hstate : ∀ ch, ((endCensus v).rail ch).state = (v.rail ch).state := fun ch => by
    rw [e1]
    split <;> simp [startedMonitoring]
  have halv := hal.trans v5
  refine ⟨by rw [q1, v1], q2, q4.of_alike halv.toSettlesAlike, q5.of_alike halv, fun ch hon hdf => ?_, fun j => ?_,
    fun ch hdf => ?_, by rw [e3, v2, hc]⟩
  · have hvr : v.rail ch = s.rail ch := (r3 ch (by rw [h4]; exact hdf)).trans (h1 ch)
    rw [e1, hvr, if_pos hon, hpar, hpg]
    simp [startedMonitoring]
  · rw [← r1 j, State.signal, State.signal, e2]
  · obtain ⟨a1, a2⟩ := r2 ch (by rw [h4]; exact hdf)
    rw [State.enable, hstate]
    exact ⟨a1, a2⟩

/-! ### The profile check -/

/-- In RUN and REST a difference is DOMAIN_LOST, and the station settles at once; so it does where nothing differs (R151). -/
theorem profileCheck_settles {st : SystemState} {s w : State} (hp : w.agreement.phase = .census)
    (hst : st = .run ∨ st = .rest ∨ s.outputsDiffer (s.profileRow st) = false) (hal : ClosesAlike s w)
    (hc : w.channel = s.channel) :
    ∃ v, profileCheck st w = endCensus v ∧ ClosesAlike w v ∧ v.agreement = w.agreement ∧ v.channel = w.channel ∧
      v.presence = w.presence ∧ v.request = w.request ∧
      (st = .run ∨ st = .rest → s.outputsDiffer (s.profileRow st) = true →
        LatchedFirst w v .domainLost noTarget .severe ∧ (v.slot .fault).queued.isSome = true) := by
  obtain ⟨-, -, -, -, -, h6, -⟩ := rows_congr hc hal.loader hal.pins
  have hsteps : w.alignmentSteps (w.profileRow st) = s.alignmentSteps (s.profileRow st) := by
    rw [h6, profileRow_congr hal.loader]
  by_cases hdf : s.outputsDiffer (s.profileRow st) = true
  · have hrr : st = .run ∨ st = .rest := by
      rcases hst with h | h | h
      · exact .inl h
      · exact .inr h
      · rw [hdf] at h
        cases h
    have hr : w.agreement.phase.requestsFault = true ∧ w.agreement.phase ≠ .mute := by simp [hp, Phase.requestsFault]
    obtain ⟨-, f2, -, f4⟩ := raiseFault_requested .domainLost noTarget hr.1 hr.2
    refine ⟨raiseFault .domainLost noTarget .severe w, ?_, raiseFault_alike (by simp) noTarget hr.1 hr.2, by simp, by simp,
      by simp, f2, fun _ _ => ⟨(raiseFault_latched ..).first, f4⟩⟩
    have hne : (s.alignmentSteps (s.profileRow st)).isEmpty = false := by simpa [State.outputsDiffer] using hdf
    unfold profileCheck
    rw [hsteps]
    dsimp only
    rw [if_pos (by rcases hrr with rfl | rfl <;> rfl), hne]
    rfl
  · have he : s.alignmentSteps (s.profileRow st) = [] := by simpa [State.outputsDiffer] using hdf
    refine ⟨w, ?_, .refl w, rfl, rfl, rfl, rfl, fun _ h => absurd h hdf⟩
    unfold profileCheck
    rw [hsteps, he]
    dsimp only
    split <;> rfl

/-! ### The withdrawal -/

/-- An adoption withdrawn from a state that a delivery left these parts of (R152). -/
theorem withdrawAdoption_withdraws {s u : State} (hal : s.presence.alignment.isSome = true)
    (hpa : u.presence.alignment = s.presence.alignment) (ha : u.agreement = s.agreement) (hc : u.channel = s.channel)
    (hx : u.executor = s.executor) (hf : u.faults = s.faults) (hl : u.loader = s.loader) :
    let t := withdrawAdoption u
    t.agreement = { s.agreement with believed := none, number := none } ∧
    t.presence.alignment = none ∧ t.presence.censusWindow = some s.system.censusWindow ∧
    (∀ ch, t.rail ch = { s.rail ch with
      issuer := if (s.rail ch).issuer = some .alignment then some .detached else (s.rail ch).issuer
      held := (t.rail ch).held }) ∧
    t.executor = s.executor ∧ t.faults = s.faults := by
  have he : withdrawAdoption u = detachAlignment (State.withPresence
      (u.withAgreement { u.agreement with believed := none, number := none })
      { u.presence with alignment := none, censusWindow := some u.system.censusWindow }) :=
    if_pos (by rw [State.aligning, hpa]; exact hal)
  rw [he]
  refine ⟨?_, rfl, ?_, fun ch => ?_, hx, hf⟩
  · show ({ u.agreement with believed := none, number := none } : Agreement) = _
    rw [ha]
  · show some u.system.censusWindow = _
    rw [system_congr hl]
  · rw [detachAlignment_rail]
    have hr : (State.withPresence (u.withAgreement { u.agreement with believed := none, number := none })
        { u.presence with alignment := none, censusWindow := some u.system.censusWindow }).rail ch = s.rail ch := by
      show u.rail ch = _
      unfold State.rail
      rw [hc]
    rw [hr]
    unfold detachRail
    have hi : (s.rail ch).issuer.map detachIssuer =
        if (s.rail ch).issuer = some .alignment then some .detached else (s.rail ch).issuer := by
      rcases (s.rail ch).issuer with _ | (_ | _ | _ | _) <;> simp [detachIssuer]
    rw [hi]

/-- The frames that withdraw a running adoption all come to the withdrawal, with the announcing mark cleared perhaps behind
it (R124, R152). -/
theorem opening_withdraws {c : Instr} {i : StationId} {s : State} (ht : s.takes i) (hp : s.agreement.phase = .census)
    (hc : (∃ n k img inh, c = .proposeDelivered i n k img inh) ∨ (∃ n k img, c = .forcedProposeDelivered i n k img) ∨
      (∃ n w x, c = .wakeDelivered i n w x) ∨ (∃ n code tgt, c = .faultDelivered i n code tgt)) :
    ∃ u t, exec c s = .next t ∧ DeliveredOnly i s u ∧ DeliveredOnly i (withdrawAdoption u) t ∧
      t.presence.censusWindow = (withdrawAdoption u).presence.censusWindow := by
  have hw : ∀ {u}, DeliveredOnly i s u → withdrawInCensus u = withdrawAdoption u := fun h =>
    if_pos (by rw [h.keeps.1, hp]; rfl)
  have hop : ∀ {u}, DeliveredOnly i s u → ¬ u.opensForced = true := fun h => by
    simp [State.opensForced, State.opensSilent, h.keeps.1, hp, Phase.defers]
  rcases hc with ⟨n, k, img, inh, rfl⟩ | ⟨n, k, img, rfl⟩ | ⟨n, w, x, rfl⟩ | ⟨n, code, tgt, rfl⟩
  · obtain ⟨u, he, hd⟩ := handOff_takes (f := ⟨i, n, .propose k false img⟩) (engine := takePropose i k img inh) ht
    rw [takePropose, hd.keeps.1, hp] at he
    exact ⟨u, _, congrArg Host.Outcome.next he, hd, by rw [hw hd]; exact .refl i _, by rw [hw hd]⟩
  · obtain ⟨u, he, hd⟩ := handOff_takes (f := ⟨i, n, .propose k true img⟩) (engine := fun _ => takeForcedPropose i k) ht
    rw [takeForcedPropose, if_neg (hop hd), if_neg (by simp [hd.keeps.1, hp]), hw hd] at he
    exact ⟨u, _, congrArg Host.Outcome.next he, hd, .refl i _, rfl⟩
  · obtain ⟨u, he, hd⟩ := handOff_takes (f := ⟨i, n, .wake w x⟩) (engine := takeWake i w x) ht
    rw [takeWake, hd.keeps.1, hp] at he
    refine ⟨u, _, congrArg Host.Outcome.next he, hd, ?_, ?_⟩
    · rw [← hw hd]
      exact ownWakeIdle_delivered i _ _
    · rw [← hw hd]
      simp
  · obtain ⟨u, he, hd⟩ := handOff_takes (f := ⟨i, n, .fault code tgt⟩) (engine := fun _ => takeFault i code) ht
    have hdesc : ¬ u.descending = true := by simp [State.descending, State.silentDescent, hd.keeps.1, hp]
    rw [takeFault, if_neg (hop hd), if_neg hdesc, hw hd] at he
    exact ⟨u, _, congrArg Host.Outcome.next he, hd, .refl i _, rfl⟩

/-! ### O32 -/

/-- Settles O32, from what a settled BEAT is adopted with (`settledBeat_adopts`), the profile check and the withdrawal. -/
theorem settledBeatIsAdopted : Obligations.SettledBeatIsAdopted := by
  refine ⟨fun i n b s hh hp ha hx hb ho hst => ?_, fun c i s hc hp hal => ?_, fun i n b s hh hp ha hx hb ho hst => ?_⟩
  · obtain ⟨he, w1, w2, w3, w4, w5, w6, w7⟩ := settledBeat_adopts hh hp ha hx hb ho (n := n)
    rw [he]
    generalize adoptsBeat i n b s = w at *
    refine ⟨fun done c rest hs hd ht => ?_, fun hd => ?_⟩
    · obtain ⟨v, e, v1, v2⟩ := adoption_aligns hst hp w1 w2 w3 hs hd ht
      rw [e]
      have hv : v.agreement = w.agreement ∧ v.request = w.request ∧ v.executor = w.executor ∧ v.faults = w.faults ∧
          v.channel = { s.channel with rails := v.channel.rails } := by
        rw [v2]
        exact ⟨rfl, rfl, rfl, rfl, rfl⟩
      obtain ⟨a1, a2, a3, a4, a5⟩ := hv
      exact ⟨_, rfl, a1.trans w3, rfl, w4, (congrArg (fun q => q.refresh) a2).trans w5, v1, a5, a3.trans w6, a4.trans w7⟩
    · obtain ⟨t1, t2, t3, t4, t5, t6, t7, t8⟩ := adoption_atOnce hst hp w1 w2 w3 hd
      exact ⟨_, rfl, by rw [t1], by rw [t1, w3], by rw [t1, w3], t2, t3, t4, t5, t6, t7, t8⟩
  · have hopen : s.takes i → ((∃ n k img inh, c = .proposeDelivered i n k img inh) ∨
        (∃ n k img, c = .forcedProposeDelivered i n k img) ∨ (∃ n w x, c = .wakeDelivered i n w x) ∨
        (∃ n code tgt, c = .faultDelivered i n code tgt)) →
        ∃ t, exec c s = .next t ∧ t.agreement = { s.agreement with believed := none, number := none } ∧
          t.presence.alignment = none ∧ t.presence.censusWindow = some s.system.censusWindow ∧
          (∀ ch, t.rail ch = { s.rail ch with
            issuer := if (s.rail ch).issuer = some .alignment then some .detached else (s.rail ch).issuer
            held := (t.rail ch).held }) ∧
          t.executor = s.executor ∧ t.faults = s.faults := fun ht h => by
      obtain ⟨u, t, he, hd, hdt, hcw⟩ := opening_withdraws ht hp h
      obtain ⟨d1, d2, d3, d4, d5, -, -, d8⟩ := hd.keeps
      obtain ⟨q1, q2, q3, q4, q5, q6⟩ := withdrawAdoption_withdraws hal d8 d1 d3 d2 d4 d5
      obtain ⟨k1, k2, k3, k4, -, -, -, k8⟩ := hdt.keeps
      have hr : ∀ ch, t.rail ch = (withdrawAdoption u).rail ch := fun ch => by unfold State.rail; rw [k3]
      exact ⟨t, he, k1.trans q1, k8.trans q2, hcw.trans q3, fun ch => by rw [hr]; exact q4 ch, k2.trans q5, k4.trans q6⟩
    rcases hc with ⟨n, b, rfl, hof, hx, hh⟩ | ⟨n, k, img, inh, rfl, ht⟩ | ⟨n, k, img, rfl, ht⟩ | ⟨n, w, x, rfl, ht⟩ |
      ⟨n, code, tgt, rfl, ht⟩
    · obtain ⟨k1, k2, k3, k4, k5, -, -, k8, -⟩ := beatHeard_keeps i n b s
      rw [beatDelivered_takes hh, takeBeat_census hx hp]
      generalize beatHeard i n b s = u at *
      have hpa : u.presence.alignment = s.presence.alignment := by rw [k8]
      have hj : judgeBeat b n u = withdrawAdoption u := by
        unfold judgeBeat
        rw [if_pos (by rw [State.aligning, hpa]; exact hal), if_pos hof]
      rw [hj]
      exact ⟨_, rfl, withdrawAdoption_withdraws hal hpa k1 k3 k2 k4 k5⟩
    · exact hopen ht (.inl ⟨n, k, img, inh, rfl⟩)
    · exact hopen ht (.inr (.inl ⟨n, k, img, rfl⟩))
    · exact hopen ht (.inr (.inr (.inl ⟨n, w, x, rfl⟩)))
    · exact hopen ht (.inr (.inr (.inr ⟨n, code, tgt, rfl⟩)))
  · obtain ⟨he, w1, w2, w3, w4, w5, -, w7⟩ := settledBeat_adopts hh hp ha hx hb ho (n := n)
    rw [he]
    generalize adoptsBeat i n b s = w at *
    obtain ⟨v, e, v1, v2, v3, v4, v5, v6⟩ := profileCheck_settles (w := w) (by rw [w3, hp]) hst w1 w2
    rw [e]
    have halv := w1.trans v1
    obtain ⟨q1, -, q3, q4⟩ := endCensus_settled v
    obtain ⟨q5, q6, q7⟩ := endCensus_ends (s := v) (st := b.state) (by rw [v2, w3])
    rw [profileRow_congr halv.loader] at q6 q7
    obtain ⟨g1, g2⟩ := endCensus_faultStands v
    have hch := v3.trans w2
    refine ⟨_, rfl, by rw [q1], by rw [q1, v2, w3], by rw [q1, v2, w3], by rw [q1, v2, w3], by rw [q3, v4, w4],
      by rw [endCensus_refresh, v5, w5], q4.of_alike halv.toSettlesAlike, q5.of_alike halv, q6.of_before hch halv.loader,
      q7.of_before hch halv.loader halv.pins, fun hrr hdf => ?_⟩
    obtain ⟨x1, x2⟩ := v6 hrr hdf
    refine ⟨?_, g2 x2⟩
    have hx : LatchedFirst s v .domainLost noTarget .severe := by simpa only [LatchedFirst, w7] using x1
    exact hx.of_grow g1

end Sys2Proof.Machine
end


section
/-! PROOF. The ABORT that starts unwinding (O28). -/

namespace Sys2Proof.Machine

open Sys2Proof

/-! ### The executor at a level -/

/-- The executor stops at the first step that does not go on. -/
theorem execRun_stops {s : State} (h : (execStep s).2 = false) : execRun s = (execStep s).1 := by
  unfold execRun
  rw [execLoop]
  rcases e : execStep s with ⟨t, b⟩
  rw [e] at h
  obtain rfl : b = false := h
  rfl

/-- The executor goes on by one step, and stops at the next. -/
theorem execRun_goesOn {s t : State} (h : execStep s = (t, true)) (ht : (execStep t).2 = false) :
    execRun s = (execStep t).1 := by
  unfold execRun
  rw [execLoop, h]
  dsimp only
  rw [execLoop]
  rcases e : execStep t with ⟨u, b⟩
  rw [e] at ht
  obtain rfl : b = false := ht
  rfl

/-- The executor undoes at this level, with no action in progress (R84). -/
structure UndoesAt (h : Nat) (s : State) : Prop where
  sub : s.executor.sub = .undoing
  cursor : s.executor.cursor = some h
  halted : s.executor.halted = false
  running : s.executor.running = none

theorem execStep_running {s : State} (h : s.executor.running.isSome = true) : execStep s = (s, false) := by
  unfold execStep
  rw [if_pos (by simp [h])]

/-- The top record of the level leaves the stack, and its undo is issued (R89). -/
theorem UndoesAt.undo {h : Nat} {s : State} (k : UndoesAt h s) {u : UnwindRecord} {rest : List UnwindRecord}
    (hs : s.executor.stack = u :: rest) (hu : u.stage = h) : execStep s = afterIssue (.undo u)
      (issueChange (undoOf u.change) .executor (s.withExecutor { s.executor with stack := rest })) := by
  obtain ⟨h1, h2, h3, h4⟩ := k
  unfold execStep
  rw [if_neg (by simp [h3, h4]), h1, h2]
  dsimp only
  rw [hs]
  exact if_pos hu

/-- With no record of the level left its report is queued (R89, R92). -/
theorem UndoesAt.report {h : Nat} {s : State} (k : UndoesAt h s)
    (hs : ∀ u, s.executor.stack.head? = some u → u.stage ≠ h) : execStep s = (reportLevel h s, false) := by
  obtain ⟨h1, h2, h3, h4⟩ := k
  unfold execStep
  rw [if_neg (by simp [h3, h4]), h1, h2]
  dsimp only
  rcases e : s.executor.stack with _ | ⟨u, rest⟩
  · rfl
  · rw [e] at hs
    exact if_neg (hs u rfl)

theorem reportLevel_reports (h : Nat) {s : State} (hp : s.agreement.phase ≠ .mute) :
    (reportLevel h s).executor = { s.executor with sub := .reporting } ∧ (reportLevel h s).channel = s.channel ∧
    (reportLevel h s).hasQueued .stage s.openNumber (.stage .unwind h) := by
  have hq := fillFrame_hasQueued (s := s.withExecutor { s.executor with sub := .reporting })
    (body := .stage .unwind h) (takesFill_of_phase hp _) s.openNumber
  exact ⟨by simp [reportLevel, State.withExecutor], by simp [reportLevel, State.withExecutor], hq⟩

/-! ### Undos of rails -/

/-- The DROP of a rail in ON whose power-good reads high (R67). -/
theorem issueChange_drop_falls {ch : Fin 6} {s : State} (he : (s.railParams ch).enabled = true)
    (hs : (s.rail ch).state = .on) (hg : s.powerGood ch = .high) :
    (issueChange (.drop ch) .executor s).2 = none ∧ (issueChange (.drop ch) .executor s).1.executor = s.executor ∧
    (issueChange (.drop ch) .executor s).1.rail ch = { s.rail ch with
      state := .falling, counter := some (s.railParams ch).dischargeWindow, filter := none, window := none
      bounces := 0, issuer := some .executor } := by
  have h : issueChange (.drop ch) .executor s = (enterTimed ch .falling (s.railParams ch).dischargeWindow
      (takeAction ch .executor (s.withRail ch (stoppedMonitoring (s.rail ch)))), none) := by
    simp [issueChange, issueRail, he, hs, RailState.standing, startStanding, startDrop, takeAction, hg]
  rw [h]
  exact ⟨rfl, rfl, by simp [enterTimed, takeAction, stoppedMonitoring]⟩

/-- The RAISE of a rail that stands low, whose power-good reads low (R64). -/
theorem issueChange_raise_rises {ch : Fin 6} {s : State} (he : (s.railParams ch).enabled = true)
    (hs : (s.rail ch).state = .off ∨ (s.rail ch).state = .failedUp ∨ (s.rail ch).state = .failedDown)
    (hg : s.powerGood ch = .low) :
    (issueChange (.raise ch) .executor s).2 = none ∧ (issueChange (.raise ch) .executor s).1.executor = s.executor ∧
    (issueChange (.raise ch) .executor s).1.rail ch = { s.rail ch with
      state := .rising, counter := some (s.railParams ch).settleWindow, bounces := 0, issuer := some .executor } := by
  have hst : (s.rail ch).state.standing = true ∧ (s.rail ch).state ≠ .on := by
    rcases hs with h | h | h <;> simp [h, RailState.standing]
  have h : issueChange (.raise ch) .executor s = (enterTimed ch .rising (s.railParams ch).settleWindow
      (takeAction ch .executor s), none) := by
    simp [issueChange, issueRail, he, hst, startStanding, startRaise, takeAction, hg]
  rw [h]
  exact ⟨rfl, rfl, by simp [enterTimed, takeAction]⟩

/-- An undo that takes time: the executor holds it in progress (R89). -/
theorem UndoesAt.takesTime {h : Nat} {s : State} (k : UndoesAt h s) {u : UnwindRecord} {rest : List UnwindRecord}
    (hs : s.executor.stack = u :: rest) (hu : u.stage = h) {t : State}
    (ht : t = s.withExecutor { s.executor with stack := rest })
    (hi : (issueChange (undoOf u.change) .executor t).2 = none)
    (hx : (issueChange (undoOf u.change) .executor t).1.executor = t.executor) :
    (execRun s).executor = { s.executor with stack := rest, running := some (.undo u) } ∧
    (execRun s).channel = (issueChange (undoOf u.change) .executor t).1.channel := by
  have he := k.undo hs hu
  rw [← ht] at he
  rcases e : issueChange (undoOf u.change) .executor t with ⟨v, o⟩
  rw [e] at he hi hx
  obtain rfl : o = none := hi
  have he : execStep s = (setRunning (.undo u) v, false) := he
  have hx : v.executor = t.executor := hx
  rw [execRun_stops (by rw [he]), he]
  refine ⟨?_, rfl⟩
  show ({ v.executor with running := some (.undo u) } : Executor) = _
  rw [hx, ht]
  rfl

/-! ### The undo of a signal -/

theorem issueSet_completes (i : Fin 4) (l : Level) (s : State) :
    ∃ c, (issueSet i l s).2 = some c ∧ c ≠ .failed := by
  unfold issueSet
  split
  · exact ⟨_, rfl, by simp⟩
  · exact ⟨_, rfl, by simp⟩

/-- The one record of a signal goes back at once, and the level's report is queued (R74, R89, R92). -/
theorem UndoesAt.signal {h : Nat} {s : State} (k : UndoesAt h s) {u : UnwindRecord} {i : Fin 4} {l : Level}
    (hs : s.executor.stack = [u]) (hu : u.stage = h) (hc : undoOf u.change = setTo i l)
    (hp : s.agreement.phase ≠ .mute) :
    (execRun s).executor = { s.executor with stack := [], sub := .reporting } ∧ (execRun s).signal i = l ∧
    (execRun s).hasQueued .stage s.openNumber (.stage .unwind h) := by
  have he := k.undo hs hu
  rw [hc, issueChange_setTo] at he
  obtain ⟨a1, -, -, a4⟩ := issueSet_signal i l (s.withExecutor { s.executor with stack := [] })
  obtain ⟨c, hcc, hcf⟩ := issueSet_completes i l (s.withExecutor { s.executor with stack := [] })
  rcases e : issueSet i l (s.withExecutor { s.executor with stack := [] }) with ⟨v, o⟩
  rw [e] at he a1 a4 hcc
  obtain rfl : o = some c := hcc
  have hv : v.executor = { s.executor with stack := [] } ∧ v.agreement = s.agreement := by
    have h4 : v = _ := a4
    rw [h4]
    exact ⟨rfl, rfl⟩
  obtain ⟨v1, v2⟩ := hv
  have hw : ∃ w, execStep s = (w, true) ∧ w.executor = { s.executor with stack := [] } ∧ w.agreement = s.agreement ∧
      w.channel = v.channel := by
    refine ⟨_, he, ?_, ?_, ?_⟩
    · have hcu : completeRunning c (setRunning (.undo u) v) =
          (setRunning (.undo u) v).withExecutor { (setRunning (.undo u) v).executor with running := none } := by
        cases c
        · rfl
        · rfl
        · exact absurd rfl hcf
      rw [hcu]
      show ({ v.executor with running := none } : Executor) = _
      rw [v1, ← k.running]
    · simpa using v2
    · simp [setRunning, State.withExecutor]
  obtain ⟨w, e1, e2, e3, e4⟩ := hw
  have hk : UndoesAt h w := ⟨by rw [e2]; exact k.sub, by rw [e2]; exact k.cursor, by rw [e2]; exact k.halted,
    by rw [e2]; exact k.running⟩
  have hr := hk.report fun x hx => by rw [e2] at hx; cases hx
  obtain ⟨r1, r2, r3⟩ := reportLevel_reports h (s := w) (by rw [e3]; exact hp)
  rw [execRun_goesOn e1 (by rw [hr]), hr]
  refine ⟨by rw [r1, e2], ?_, ?_⟩
  · rw [← a1, State.signal, State.signal, r2, e4]
  · rw [show s.openNumber = w.openNumber by simp [State.openNumber, e3]]
    exact r3

/-! ### The ABORT taken -/

theorem unwindTopOf_eq (forward : Table 12 StationSet) (last commitStage : Nat) :
    unwindTopOf forward last commitStage = min (greatestDone forward last + 1) commitStage := by
  unfold unwindTopOf
  dsimp only
  split <;> omega

/-- The station as the executor turns to unwinding from this level (R82 to R84). -/
def unwindingAt (reason : AbortReason) (h : Nat) (s : State) : State :=
  let s := (s.onRecord fun r => { r with abortCause := some reason, unwindTop := some h }).withPhase .unwinding
  beginLevel h (s.withExecutor { s.executor with halted := false })

theorem unwindingAt_stands (reason : AbortReason) (h : Nat) {r : Record} {s : State} (hr : s.agreement.record = some r) :
    let t := unwindingAt reason h s
    t.agreement = { s.agreement with
      phase := .unwinding, record := some { r with abortCause := some reason, unwindTop := some h } } ∧
    t.executor = { s.executor with
      sub := .undoing, cursor := some h, actionCursor := none, halted := false, barrier := none
      barrierExpired := false } ∧
    t.channel = s.channel ∧ t.loader = s.loader ∧ t.pins = s.pins ∧ t.faults = s.faults := by
  have ha := onRecord_agreement (fun r => { r with abortCause := some reason, unwindTop := some h }) hr
  have hk : (s.onRecord fun r => { r with abortCause := some reason, unwindTop := some h }).executor = s.executor ∧
      (s.onRecord fun r => { r with abortCause := some reason, unwindTop := some h }).channel = s.channel ∧
      (s.onRecord fun r => { r with abortCause := some reason, unwindTop := some h }).loader = s.loader ∧
      (s.onRecord fun r => { r with abortCause := some reason, unwindTop := some h }).pins = s.pins ∧
      (s.onRecord fun r => { r with abortCause := some reason, unwindTop := some h }).faults = s.faults := by simp
  unfold unwindingAt
  generalize (s.onRecord fun r => { r with abortCause := some reason, unwindTop := some h }) = u at *
  obtain ⟨k1, k2, k3, k4, k5⟩ := hk
  refine ⟨?_, ?_, k2, k3, k4, k5⟩
  · show ({ u.agreement with phase := .unwinding } : Agreement) = _
    rw [ha]
  · show ({ u.executor with
      halted := false, sub := .undoing, cursor := some h, actionCursor := none, barrier := none
      barrierExpired := false } : Executor) = _
    rw [k1]

/-- Settles O28, from what the executor does at the level it turns to (`UndoesAt.takesTime`, `UndoesAt.signal`,
`UndoesAt.report`). -/
theorem abortStartsUnwinding : Obligations.AbortStartsUnwinding := by
  intro i reason r s ht hr hm
  refine ⟨fun hp hc => ?_, fun hp => ?_⟩
  · obtain ⟨s', he, hd⟩ := handOff_takes (f := ⟨i, r.number, .abort reason⟩) (engine := fun _ => takeAbort i r.number reason) ht
    obtain ⟨ha, hx, hch, hf, hl, hpi, -⟩ := hd.keeps
    have htop : unwindTopOf r.forward (s'.lastStage r.kind) (s'.commitStage r.kind) =
        min (greatestDone r.forward (s.lastStage r.kind) + 1) (s.commitStage r.kind) := by
      rw [unwindTopOf_eq]
      simp [State.lastStage, State.commitStage, State.system, hl]
    have htake : takeAbort i r.number reason s' = execRun (unwindingAt reason
        (min (greatestDone r.forward (s.lastStage r.kind) + 1) (s.commitStage r.kind)) s') := by
      rw [← htop]
      unfold takeAbort
      rw [ha, hr]
      simp [Record.matches, hm, hp, hc, takeUnwinding, execUnwind, unwindingAt]
    rw [htake] at he
    obtain ⟨w1, w2, w3, w4, w5, w6⟩ := unwindingAt_stands reason
      (min (greatestDone r.forward (s.lastStage r.kind) + 1) (s.commitStage r.kind)) (s := s') (r := r) (by rw [ha, hr])
    generalize hh : min (greatestDone r.forward (s.lastStage r.kind) + 1) (s.commitStage r.kind) = h at *
    generalize unwindingAt reason h s' = w at *
    rw [ha] at w1
    rw [hx] at w2
    obtain ⟨c1, c2, c3, -⟩ := rows_congr (w3.trans hch) (w4.trans hl) (w5.trans hpi)
    have hmute : w.agreement.phase ≠ .mute := by simp [w1]
    have hnum : w.openNumber = r.number := by simp [State.openNumber, w1]
    refine ⟨_, congrArg Host.Outcome.next he, by simpa using w1, by simp [w6, hf], ?_⟩
    rintro h' e rfl rfl
    refine ⟨fun hrun => ?_, fun hrun => ?_⟩
    · have hstep := execStep_running (s := w) (by rw [w2]; exact hrun)
      rw [execRun_stops (by rw [hstep]), hstep]
      exact ⟨w2, w3.trans hch⟩
    · have hk : UndoesAt h' w := ⟨by rw [w2], by rw [w2], by rw [w2], by rw [w2]; exact hrun⟩
      have hstack : w.executor.stack = s.executor.stack := by rw [w2]
      refine ⟨fun u rest ch hs hu hcu hen hst hg => ?_, fun u rest ch hs hu hcu hen hst hg => ?_,
        fun u j hs hu hcu => ?_, fun hs => ?_⟩
      · obtain ⟨d1, d2, d3⟩ := issueChange_drop_falls (s := w.withExecutor { w.executor with stack := rest }) (ch := ch)
          ((c2 ch).symm ▸ hen) ((c1 ch).symm ▸ hst) ((c3 ch).symm ▸ hg)
        have hund : undoOf u.change = .drop ch := by rw [hcu]; rfl
        obtain ⟨t1, t2⟩ := hk.takesTime (hstack.trans hs) hu rfl (by rw [hund]; exact d1) (by rw [hund]; exact d2)
        rw [hund] at t2
        refine ⟨by rw [t1, w2], ?_⟩
        rw [State.rail, t2]
        refine d3.trans ?_
        show ({ w.rail ch with
          state := .falling, counter := some (w.railParams ch).dischargeWindow, filter := none, window := none
          bounces := 0, issuer := some .executor } : Rail) = _
        rw [c1, c2]
      · obtain ⟨d1, d2, d3⟩ := issueChange_raise_rises (s := w.withExecutor { w.executor with stack := rest }) (ch := ch)
          ((c2 ch).symm ▸ hen) ((c1 ch).symm ▸ hst) ((c3 ch).symm ▸ hg)
        have hund : undoOf u.change = .raise ch := by rw [hcu]; rfl
        obtain ⟨t1, t2⟩ := hk.takesTime (hstack.trans hs) hu rfl (by rw [hund]; exact d1) (by rw [hund]; exact d2)
        rw [hund] at t2
        refine ⟨by rw [t1, w2], ?_⟩
        rw [State.rail, t2]
        refine d3.trans ?_
        show ({ w.rail ch with
          state := .rising, counter := some (w.railParams ch).settleWindow, bounces := 0
          issuer := some .executor } : Rail) = _
        rw [c1, c2]
      · have hund : undoOf u.change = setTo j (if u.change = .setHigh j then .low else .high) := by
          rcases hcu with q | q <;> rw [q] <;> simp [undoOf, setTo]
        obtain ⟨t1, t2, t3⟩ := hk.signal (hstack.trans hs) hu hund hmute
        rw [hnum] at t3
        exact ⟨by rw [t1, w2], t2, t3⟩
      · have hstep := hk.report (by rw [hstack]; exact hs)
        obtain ⟨t1, t2, t3⟩ := reportLevel_reports h' hmute
        rw [hnum] at t3
        rw [execRun_stops (by rw [hstep]), hstep]
        exact ⟨by rw [t1, w2], t2.trans (w3.trans hch), t3⟩
  · obtain ⟨s', he, hd⟩ := handOff_takes (f := ⟨i, r.number, .abort reason⟩) (engine := fun _ => takeAbort i r.number reason) ht
    obtain ⟨ha, hx, hch, hf, -⟩ := hd.keeps
    have htake : takeAbort i r.number reason s' = s' := by
      unfold takeAbort
      rw [ha, hr]
      rcases hp with ⟨hp, hc⟩ | hp | hp
      · simp [Record.matches, hm, hp, hc]
      · simp [Record.matches, hm, hp]
      · simp [Record.matches, hm, hp]
    rw [htake] at he
    exact ⟨s', congrArg Host.Outcome.next he, ha, hx, hch, hf⟩

end Sys2Proof.Machine
end

section
/-! SUPPORT. A state told by its fields, one equation for each field of the blocks that commands write in part. -/

namespace Sys2Proof.Machine

open Sys2Proof

/-- Two states are one where every field of the blocks that commands write in part is, and every other block. -/
theorem State.eq_iff_fields {t s : State} : t = s ↔
    t.time = s.time ∧ t.pins.powerGood = s.pins.powerGood ∧ t.pins.sense = s.pins.sense ∧
    t.pins.wake = s.pins.wake ∧ t.link.integrated = s.link.integrated ∧ t.link.slots = s.link.slots ∧
    t.link.receiveErrors = s.link.receiveErrors ∧ t.agreement.phase = s.agreement.phase ∧
    t.agreement.believed = s.agreement.believed ∧ t.agreement.restImage = s.agreement.restImage ∧
    t.agreement.number = s.agreement.number ∧ t.agreement.record = s.agreement.record ∧
    t.agreement.history = s.agreement.history ∧ t.agreement.lateProposals = s.agreement.lateProposals ∧
    t.agreement.streaks = s.agreement.streaks ∧ t.agreement.voteWindow = s.agreement.voteWindow ∧
    t.agreement.voteGuard = s.agreement.voteGuard ∧ t.presence.peers = s.presence.peers ∧
    t.presence.barring = s.presence.barring ∧ t.presence.muteCause = s.presence.muteCause ∧
    t.presence.beat = s.presence.beat ∧ t.presence.beatTimer = s.presence.beatTimer ∧
    t.presence.debt = s.presence.debt ∧ t.presence.censusWindow = s.presence.censusWindow ∧
    t.presence.barredRetry = s.presence.barredRetry ∧ t.presence.retryHeld = s.presence.retryHeld ∧
    t.presence.alignment = s.presence.alignment ∧ t.executor = s.executor ∧ t.channel.rails = s.channel.rails ∧
    t.channel.signals = s.channel.signals ∧ t.channel.awaits = s.channel.awaits ∧
    t.channel.waitCounter = s.channel.waitCounter ∧ t.channel.corrections = s.channel.corrections ∧
    t.wake.inputs = s.wake.inputs ∧ t.wake.pressed = s.wake.pressed ∧ t.wake.debounce = s.wake.debounce ∧
    t.wake.longPress = s.wake.longPress ∧ t.wake.commonWindow = s.wake.commonWindow ∧ t.wake.queue = s.wake.queue ∧
    t.wake.mark = s.wake.mark ∧ t.wake.minDwell = s.wake.minDwell ∧ t.wake.faultHold = s.wake.faultHold ∧
    t.wake.demote = s.wake.demote ∧ t.request.latch = s.request.latch ∧ t.request.underVote = s.request.underVote ∧
    t.request.deferHold = s.request.deferHold ∧ t.request.lockout = s.request.lockout ∧
    t.request.refresh = s.request.refresh ∧ t.request.pulses = s.request.pulses ∧
    t.request.result = s.request.result ∧ t.faults.latched = s.faults.latched ∧
    t.faults.unrecorded = s.faults.unrecorded ∧ t.faults.deferred = s.faults.deferred ∧
    t.loader.image = s.loader.image ∧ t.loader.signature = s.loader.signature ∧
    t.loader.resetCause = s.loader.resetCause ∧ t.loader.bytesRead = s.loader.bytesRead ∧ t.port = s.port ∧
    t.pending = s.pending := by
  obtain ⟨_, ⟨⟩, ⟨⟩, ⟨⟩, ⟨⟩, _, ⟨⟩, ⟨⟩, ⟨⟩, ⟨⟩, ⟨⟩, _, _⟩ := t
  obtain ⟨_, ⟨⟩, ⟨⟩, ⟨⟩, ⟨⟩, _, ⟨⟩, ⟨⟩, ⟨⟩, ⟨⟩, ⟨⟩, _, _⟩ := s
  simp [and_assoc]

/-- A command of which a lemma says what it keeps, in a frame that this gives. -/
theorem frame_of_keeps {c : Instr} {s : State} {p q : State → Prop} (k : ∃ t, exec c s = .next t ∧ p t)
    (f : ∀ t, p t → q t) : ∃ t, exec c s = .next t ∧ q t := by
  obtain ⟨t, e, h⟩ := k
  exact ⟨t, e, f t h⟩

end Sys2Proof.Machine
end

section
/-! PROOF. The frame of each group of commands (O3). -/

namespace Sys2Proof.Machine

open Sys2Proof

/-- A transfer of the port (R162). -/
theorem transfer_group_frame {c : Instr} (hc : c.group = .transfer) (s : State) :
    ∃ t, exec c s = .next t ∧ t = { s with
      port := t.port, presence := { s.presence with peers := t.presence.peers }
      agreement := { s.agreement with history := t.agreement.history }
      faults := { s.faults with latched := t.faults.latched, unrecorded := t.faults.unrecorded } } := by
  cases c with
  | status w => exact frame_of_keeps (execStatus_keeps w s) fun t k => by simp [State.eq_iff_fields, k]
  | peer argument w => exact frame_of_keeps (execPeer_keeps argument w s) fun t k => by simp [State.eq_iff_fields, k]
  | txn w => exact frame_of_keeps (execTxn_keeps w s) fun t k => by simp [State.eq_iff_fields, k]
  | history argument w =>
    exact frame_of_keeps (execHistory_keeps argument w s) fun t k => by simp [State.eq_iff_fields, k]
  | wakeq w => exact frame_of_keeps (execWakeq_keeps w s) fun t k => by simp [State.eq_iff_fields, k]
  | faults w => exact frame_of_keeps (execFaults_keeps w s) fun t k => by simp [State.eq_iff_fields, k]
  | stack w => exact frame_of_keeps (execStack_keeps w s) fun t k => by simp [State.eq_iff_fields, k]
  | ackFaults w => exact frame_of_keeps (execAckFaults_keeps w s) fun t k => by simp [State.eq_iff_fields, k]
  | unknownCommand w => exact frame_of_keeps (execUnknownCommand_keeps w s) fun t k => by simp [State.eq_iff_fields, k]
  | snapshotRead r => exact frame_of_keeps (execSnapshotRead_keeps r s) fun t k => by simp [State.eq_iff_fields, k]
  | _ => simp [Instr.group] at hc

/-- A command of the link controller (R133 to R137). -/
theorem link_group_frame {c : Instr} (hc : c.group = .link) (s : State) :
    ∃ t, exec c s = .next t ∧ t = { s.withSlotsOf t with link := t.link } := by
  cases c with
  | integration =>
    exact frame_of_keeps (execIntegration_keeps s) fun t k => by simp [State.eq_iff_fields, State.withSlotsOf, k]
  | frameStart =>
    exact frame_of_keeps (execFrameStart_keeps s) fun t k => by simp [State.eq_iff_fields, State.withSlotsOf, k]
  | lostArbitration winner =>
    exact frame_of_keeps (execLostArbitration_keeps winner s) fun t k => by
      simp [State.eq_iff_fields, State.withSlotsOf, k]
  | discardedAtThisStationAlone rx =>
    exact frame_of_keeps (execDiscardedAtThisStationAlone_keeps rx s) fun t k => by
      simp [State.eq_iff_fields, State.withSlotsOf, k]
  | _ => simp [Instr.group] at hc

/-- A command of the request unit (R20 to R29). -/
theorem request_group_frame {c : Instr} (hc : c.group = .request) (s : State) :
    ∃ t, exec c s = .next t ∧ t = { s.withSlotsOf t with
      request := { t.request with underVote := s.request.underVote, refresh := s.request.refresh } } := by
  cases c with
  | deferHoldExpiry =>
    exact frame_of_keeps (execDeferHoldExpiry_keeps s) fun t k => by simp [State.eq_iff_fields, State.withSlotsOf, k]
  | reEntryLockoutExpiry =>
    exact frame_of_keeps (execReEntryLockoutExpiry_keeps s) fun t k => by
      simp [State.eq_iff_fields, State.withSlotsOf, k]
  | slpreqEdge type1 type0 imgrdy =>
    exact frame_of_keeps (execSlpreqEdge_keeps type1 type0 imgrdy s) fun t k => by
      simp [State.eq_iff_fields, State.withSlotsOf, k]
  | reqackPulseEnd =>
    exact frame_of_keeps (execReqackPulseEnd_keeps s) fun t k => by simp [State.eq_iff_fields, State.withSlotsOf, k]
  | _ => simp [Instr.group] at hc

/-- A command of the wake unit (R112 to R123). -/
theorem wake_group_frame {c : Instr} (hc : c.group = .wake) (s : State) :
    ∃ t, exec c s = .next t ∧ t = { s.withFaultsOf t with
      pins := { s.pins with wake := t.pins.wake }, wake := t.wake
      request := { t.request with
        underVote := s.request.underVote, lockout := s.request.lockout, refresh := s.request.refresh } } := by
  cases c with
  | demoteTimerExpiry =>
    exact frame_of_keeps (execDemoteTimerExpiry_keeps s) fun t k => by
      simp [State.eq_iff_fields, State.withFaultsOf, State.withSlotsOf, k]
  | minimumDwellExpiry =>
    exact frame_of_keeps (execMinimumDwellExpiry_keeps s) fun t k => by
      simp [State.eq_iff_fields, State.withFaultsOf, State.withSlotsOf, k]
  | faultHoldExpiry =>
    exact frame_of_keeps (execFaultHoldExpiry_keeps s) fun t k => by
      simp [State.eq_iff_fields, State.withFaultsOf, State.withSlotsOf, k]
  | levelInputChange input level =>
    exact frame_of_keeps (execLevelInputChange_keeps input level s) fun t k => by
      simp [State.eq_iff_fields, State.withFaultsOf, State.withSlotsOf, k]
  | levelHoldEnd input =>
    exact frame_of_keeps (execLevelHoldEnd_keeps input s) fun t k => by
      simp [State.eq_iff_fields, State.withFaultsOf, State.withSlotsOf, k]
  | countEdge input =>
    exact frame_of_keeps (execCountEdge_keeps input s) fun t k => by
      simp [State.eq_iff_fields, State.withFaultsOf, State.withSlotsOf, k]
  | ownWindowExpiry input =>
    exact frame_of_keeps (execOwnWindowExpiry_keeps input s) fun t k => by
      simp [State.eq_iff_fields, State.withFaultsOf, State.withSlotsOf, k]
  | commonWindowExpiry =>
    exact frame_of_keeps (execCommonWindowExpiry_keeps s) fun t k => by
      simp [State.eq_iff_fields, State.withFaultsOf, State.withSlotsOf, k]
  | buttonInputChange input level =>
    exact frame_of_keeps (execButtonInputChange_keeps input level s) fun t k => by
      simp [State.eq_iff_fields, State.withFaultsOf, State.withSlotsOf, k]
  | debounceEnd =>
    exact frame_of_keeps (execDebounceEnd_keeps s) fun t k => by
      simp [State.eq_iff_fields, State.withFaultsOf, State.withSlotsOf, k]
  | longPressEnd =>
    exact frame_of_keeps (execLongPressEnd_keeps s) fun t k => by
      simp [State.eq_iff_fields, State.withFaultsOf, State.withSlotsOf, k]
  | _ => simp [Instr.group] at hc

/-- The end of a vote timer (R36). -/
theorem voteTimer_group_frame {c : Instr} (hc : c.group = .voteTimer) (s : State) :
    ∃ t, exec c s = .next t ∧ t = { s.withSlotsOf t with
      agreement := { s.agreement with voteWindow := t.agreement.voteWindow, voteGuard := t.agreement.voteGuard } } := by
  cases c with
  | voteWindowExpiry =>
    exact frame_of_keeps (execVoteWindowExpiry_keeps s) fun t k => by simp [State.eq_iff_fields, State.withSlotsOf, k]
  | voteGuardExpiry =>
    exact frame_of_keeps (execVoteGuardExpiry_keeps s) fun t k => by simp [State.eq_iff_fields, State.withSlotsOf, k]
  | _ => simp [Instr.group] at hc

/-- The end of a barrier (R48, R59, R95). -/
theorem barrier_group_frame {c : Instr} (hc : c.group = .barrier) (s : State) :
    ∃ t, exec c s = .next t ∧ t = { s.withFaultsOf t with
      agreement := { s.agreement with record := t.agreement.record }, executor := t.executor
      channel := { t.channel with corrections := s.channel.corrections } } := by
  cases c with
  | barrierTimerExpiry =>
    exact frame_of_keeps (execBarrierTimerExpiry_keeps s) fun t k => by
      simp [State.eq_iff_fields, State.withFaultsOf, State.withSlotsOf, k]
  | completionWaitExpiry =>
    exact frame_of_keeps (execCompletionWaitExpiry_keeps s) fun t k => by
      simp [State.eq_iff_fields, State.withFaultsOf, State.withSlotsOf, k]
  | reverseBarrierExpiry =>
    exact frame_of_keeps (execReverseBarrierExpiry_keeps s) fun t k => by
      simp [State.eq_iff_fields, State.withFaultsOf, State.withSlotsOf, k]
  | _ => simp [Instr.group] at hc

/-- A beat tick and the barred retry (R145, R148). -/
theorem beat_group_frame {c : Instr} (hc : c.group = .beat) (s : State) :
    ∃ t, exec c s = .next t ∧ t = { s.withFaultsOf t with
      presence := { s.presence with
        debt := t.presence.debt, beatTimer := t.presence.beatTimer, barredRetry := t.presence.barredRetry
        retryHeld := t.presence.retryHeld } } := by
  cases c with
  | beatTick =>
    exact frame_of_keeps (execBeatTick_keeps s) fun t k => by
      simp [State.eq_iff_fields, State.withFaultsOf, State.withSlotsOf, k]
  | barredRetryExpiry =>
    exact frame_of_keeps (execBarredRetryExpiry_keeps s) fun t k => by
      simp [State.eq_iff_fields, State.withFaultsOf, State.withSlotsOf, k]
  | _ => simp [Instr.group] at hc

/-- The end of a dropout timer (R71, R72). -/
theorem dropout_group_frame {c : Instr} (hc : c.group = .dropout) (s : State) :
    ∃ t, exec c s = .next t ∧ t = { s.withFaultsOf t with
      faults := t.faults, channel := { s.channel with rails := t.channel.rails } } := by
  cases c with
  | dropoutFilterExpiry rail =>
    exact frame_of_keeps (execDropoutFilterExpiry_keeps rail s) fun t k => by
      simp [State.eq_iff_fields, State.withFaultsOf, State.withSlotsOf, k]
  | dropoutWindowExpiry rail =>
    exact frame_of_keeps (execDropoutWindowExpiry_keeps rail s) fun t k => by
      simp [State.eq_iff_fields, State.withFaultsOf, State.withSlotsOf, k]
  | _ => simp [Instr.group] at hc

/-- The end of a pulse, AWAIT or WAIT, and a sense edge (R75 to R77). -/
theorem signal_group_frame {c : Instr} (hc : c.group = .signal) (s : State) :
    ∃ t, exec c s = .next t ∧ t = { s.withFaultsOf t with
      pins := { s.pins with sense := t.pins.sense }, executor := t.executor
      channel := { t.channel with corrections := s.channel.corrections } } := by
  cases c with
  | pulseEnd signal =>
    exact frame_of_keeps (execPulseEnd_keeps signal s) fun t k => by
      simp [State.eq_iff_fields, State.withFaultsOf, State.withSlotsOf, k]
  | senseChange sense level =>
    exact frame_of_keeps (execSenseChange_keeps sense level s) fun t k => by
      simp [State.eq_iff_fields, State.withFaultsOf, State.withSlotsOf, k]
  | awaitTimeout sense =>
    exact frame_of_keeps (execAwaitTimeout_keeps sense s) fun t k => by
      simp [State.eq_iff_fields, State.withFaultsOf, State.withSlotsOf, k]
  | waitEnd =>
    exact frame_of_keeps (execWaitEnd_keeps s) fun t k => by
      simp [State.eq_iff_fields, State.withFaultsOf, State.withSlotsOf, k]
  | _ => simp [Instr.group] at hc

/-- A rail counter or a power-good edge (R64 to R71). -/
theorem rail_group_frame {c : Instr} (hc : c.group = .rail) (s : State) :
    ∃ t, exec c s = .next t ∧ t = { s with
      pins := { s.pins with powerGood := t.pins.powerGood }, link := { s.link with slots := t.link.slots }
      agreement := { s.agreement with phase := t.agreement.phase }
      presence := { s.presence with
        alignment := t.presence.alignment, beat := t.presence.beat, beatTimer := t.presence.beatTimer }
      executor := t.executor, channel := t.channel
      wake := { t.wake with
        debounce := s.wake.debounce, longPress := s.wake.longPress, faultHold := s.wake.faultHold }
      request := { t.request with underVote := s.request.underVote }, faults := t.faults } := by
  cases c with
  | settleWindowExpiry rail =>
    exact frame_of_keeps (execSettleWindowExpiry_keeps rail s) fun t k => by simp [State.eq_iff_fields, k]
  | holdUpEnd rail => exact frame_of_keeps (execHoldUpEnd_keeps rail s) fun t k => by simp [State.eq_iff_fields, k]
  | dischargeWindowExpiry rail =>
    exact frame_of_keeps (execDischargeWindowExpiry_keeps rail s) fun t k => by simp [State.eq_iff_fields, k]
  | holdDownEnd rail => exact frame_of_keeps (execHoldDownEnd_keeps rail s) fun t k => by simp [State.eq_iff_fields, k]
  | powerGoodRiseRising rail =>
    exact frame_of_keeps (execPowerGoodRiseRising_keeps rail s) fun t k => by simp [State.eq_iff_fields, k]
  | powerGoodFallHoldingUp rail =>
    exact frame_of_keeps (execPowerGoodFallHoldingUp_keeps rail s) fun t k => by simp [State.eq_iff_fields, k]
  | powerGoodFallFalling rail =>
    exact frame_of_keeps (execPowerGoodFallFalling_keeps rail s) fun t k => by simp [State.eq_iff_fields, k]
  | powerGoodRiseHoldingDown rail =>
    exact frame_of_keeps (execPowerGoodRiseHoldingDown_keeps rail s) fun t k => by simp [State.eq_iff_fields, k]
  | powerGoodFallFailedDown rail =>
    exact frame_of_keeps (execPowerGoodFallFailedDown_keeps rail s) fun t k => by simp [State.eq_iff_fields, k]
  | powerGoodFallOn rail =>
    exact frame_of_keeps (execPowerGoodFallOn_keeps rail s) fun t k => by simp [State.eq_iff_fields, k]
  | powerGoodRiseOn rail =>
    exact frame_of_keeps (execPowerGoodRiseOn_keeps rail s) fun t k => by simp [State.eq_iff_fields, k]
  | _ => simp [Instr.group] at hc

/-- A delivery (R8). -/
theorem delivery_group_frame {c : Instr} (hc : c.group = .delivery) (s : State) :
    ∃ t, exec c s = .next t ∧ t = { s with
      link := { s.link with slots := t.link.slots }, agreement := t.agreement, presence := t.presence
      executor := t.executor, channel := t.channel, wake := t.wake, request := t.request, faults := t.faults } := by
  cases c with
  | proposeDelivered sender number kind imageBacked inh =>
    exact frame_of_keeps (execProposeDelivered_keeps sender number kind imageBacked inh s) fun t k => by
      simp [State.eq_iff_fields, k]
  | forcedProposeDelivered sender number kind imageBacked =>
    exact frame_of_keeps (execForcedProposeDelivered_keeps sender number kind imageBacked s) fun t k => by
      simp [State.eq_iff_fields, k]
  | wakeDelivered sender number target input =>
    exact frame_of_keeps (execWakeDelivered_keeps sender number target input s) fun t k => by
      simp [State.eq_iff_fields, k]
  | voteDelivered sender number answer =>
    exact frame_of_keeps (execVoteDelivered_keeps sender number answer s) fun t k => by simp [State.eq_iff_fields, k]
  | stageForwardDelivered sender number stage =>
    exact frame_of_keeps (execStageForwardDelivered_keeps sender number stage s) fun t k => by
      simp [State.eq_iff_fields, k]
  | stageUnwindDelivered sender number stage =>
    exact frame_of_keeps (execStageUnwindDelivered_keeps sender number stage s) fun t k => by
      simp [State.eq_iff_fields, k]
  | abortDelivered sender number reason =>
    exact frame_of_keeps (execAbortDelivered_keeps sender number reason s) fun t k => by simp [State.eq_iff_fields, k]
  | faultDelivered sender number code target =>
    exact frame_of_keeps (execFaultDelivered_keeps sender number code target s) fun t k => by
      simp [State.eq_iff_fields, k]
  | beatDelivered sender number body =>
    exact frame_of_keeps (execBeatDelivered_keeps sender number body s) fun t k => by simp [State.eq_iff_fields, k]
  | censusDelivered sender signature cause =>
    exact frame_of_keeps (execCensusDelivered_keeps sender signature cause s) fun t k => by
      simp [State.eq_iff_fields, k]
  | _ => simp [Instr.group] at hc

/-- The end of the image read (R154, R159). -/
theorem load_group_frame {c : Instr} (hc : c.group = .load) (s : State) :
    ∃ t, exec c s = .next t ∧ t = { s.withSlotsOf t with
      agreement := { s.agreement with phase := t.agreement.phase }
      presence := { s.presence with
        beat := t.presence.beat, beatTimer := t.presence.beatTimer, debt := t.presence.debt
        censusWindow := t.presence.censusWindow }
      channel := t.channel, loader := { t.loader with resetCause := s.loader.resetCause } } := by
  cases c with
  | loadDone image =>
    exact frame_of_keeps (execLoadDone_keeps image s) fun t k => by simp [State.eq_iff_fields, State.withSlotsOf, k]
  | loadFailure =>
    exact frame_of_keeps (execLoadFailure_keeps s) fun t k => by simp [State.eq_iff_fields, State.withSlotsOf, k]
  | _ => simp [Instr.group] at hc

/-- A rejected frame (R135). -/
theorem rejection_group_frame {c : Instr} (hc : c.group = .rejection) (s : State) :
    ∃ t, exec c s = .next t ∧ t = { s with
      link := { t.link with integrated := s.link.integrated }
      agreement := { s.agreement with
        phase := t.agreement.phase, record := t.agreement.record, history := t.agreement.history
        voteWindow := t.agreement.voteWindow, voteGuard := t.agreement.voteGuard }
      presence := { t.presence with
        peers := s.presence.peers, barring := s.presence.barring, beat := s.presence.beat }
      executor := t.executor, channel := { t.channel with corrections := s.channel.corrections }
      wake := { s.wake with inputs := t.wake.inputs, mark := t.wake.mark, demote := t.wake.demote }
      request := { t.request with
        deferHold := s.request.deferHold, lockout := s.request.lockout, refresh := s.request.refresh }
      faults := t.faults } := by
  cases c with
  | frameRejected rx => exact frame_of_keeps (execFrameRejected_keeps rx s) fun t k => by simp [State.eq_iff_fields, k]
  | _ => simp [Instr.group] at hc

/-- The end of the closing wait (R16). -/
theorem closing_group_frame {c : Instr} (hc : c.group = .closing) (s : State) :
    ∃ t, exec c s = .next t ∧ t = { s with
      link := { s.link with slots := t.link.slots }
      agreement := { t.agreement with
        lateProposals := s.agreement.lateProposals, streaks := s.agreement.streaks }
      presence := { t.presence with
        peers := s.presence.peers, barring := s.presence.barring, alignment := s.presence.alignment }
      executor := t.executor
      channel := { t.channel with awaits := s.channel.awaits, waitCounter := s.channel.waitCounter }
      wake := t.wake, request := { t.request with underVote := s.request.underVote }, faults := t.faults } := by
  cases c with
  | closingWaitExpiry =>
    exact frame_of_keeps (execClosingWaitExpiry_keeps s) fun t k => by simp [State.eq_iff_fields, k]
  | _ => simp [Instr.group] at hc

/-- The end of the census window (R150). -/
theorem census_group_frame {c : Instr} (hc : c.group = .census) (s : State) :
    ∃ t, exec c s = .next t ∧ t = { s with
      link := { s.link with slots := t.link.slots }
      agreement := { s.agreement with
        phase := t.agreement.phase, believed := t.agreement.believed, restImage := t.agreement.restImage
        number := t.agreement.number }
      presence := { s.presence with
        beat := t.presence.beat, beatTimer := t.presence.beatTimer, censusWindow := t.presence.censusWindow
        alignment := t.presence.alignment }
      channel := { t.channel with awaits := s.channel.awaits, waitCounter := s.channel.waitCounter }
      wake := { t.wake with
        debounce := s.wake.debounce, longPress := s.wake.longPress, faultHold := s.wake.faultHold }
      request := { t.request with underVote := s.request.underVote }
      faults := { t.faults with deferred := s.faults.deferred } } := by
  cases c with
  | censusWindowExpiry =>
    exact frame_of_keeps (execCensusWindowExpiry_keeps s) fun t k => by simp [State.eq_iff_fields, k]
  | _ => simp [Instr.group] at hc

/-- The end of a silence timer (R143). -/
theorem silence_group_frame {c : Instr} (hc : c.group = .silence) (s : State) :
    ∃ t, exec c s = .next t ∧ t = { s with
      link := { s.link with slots := t.link.slots }
      agreement := { s.agreement with
        phase := t.agreement.phase, believed := t.agreement.believed, number := t.agreement.number }
      presence := { t.presence with alignment := s.presence.alignment }
      channel := { s.channel with rails := t.channel.rails }
      wake := { s.wake with
        inputs := t.wake.inputs, debounce := t.wake.debounce, longPress := t.wake.longPress
        commonWindow := t.wake.commonWindow, mark := t.wake.mark }
      request := { s.request with latch := t.request.latch, refresh := t.request.refresh }
      faults := { t.faults with deferred := s.faults.deferred } } := by
  cases c with
  | silenceTimerExpiry peer =>
    exact frame_of_keeps (execSilenceTimerExpiry_keeps peer s) fun t k => by simp [State.eq_iff_fields, k]
  | _ => simp [Instr.group] at hc

/-- A reset keeps the pins and the queue, and all but POR the records of what went before (R160). -/
theorem reset_group_frame {c : Instr} (hc : c.group = .reset) (s : State) :
    ∃ t, exec c s = .next t ∧ t.pins = s.pins ∧ t.pending = s.pending ∧
      (c ≠ .por → t.agreement.history = s.agreement.history ∧ t.faults.latched = s.faults.latched ∧
        t.faults.unrecorded = s.faults.unrecorded) := by
  cases c with
  | por => exact frame_of_keeps (execPor_keeps s) fun t k => by simp [k]
  | pinReset => exact frame_of_keeps (execPinReset_keeps s) fun t k => by simp [k]
  | restart w => exact frame_of_keeps (execRestart_keeps w s) fun t k => by simp [k]
  | _ => simp [Instr.group] at hc

/-- Settles O3, group by group: a command stands in one group, and the clauses of the others say nothing of it. -/
theorem commandsLeaveOtherBlocks : Obligations.CommandsLeaveOtherBlocks := by
  intro c s
  cases hg : c.group with
  | reset => exact frame_of_keeps (reset_group_frame hg s) fun t k => by simpa using k
  | load => exact frame_of_keeps (load_group_frame hg s) fun t k => by simpa using k
  | link => exact frame_of_keeps (link_group_frame hg s) fun t k => by simpa using k
  | rejection => exact frame_of_keeps (rejection_group_frame hg s) fun t k => by simpa using k
  | delivery => exact frame_of_keeps (delivery_group_frame hg s) fun t k => by simpa using k
  | voteTimer => exact frame_of_keeps (voteTimer_group_frame hg s) fun t k => by simpa using k
  | barrier => exact frame_of_keeps (barrier_group_frame hg s) fun t k => by simpa using k
  | closing => exact frame_of_keeps (closing_group_frame hg s) fun t k => by simpa using k
  | beat => exact frame_of_keeps (beat_group_frame hg s) fun t k => by simpa using k
  | census => exact frame_of_keeps (census_group_frame hg s) fun t k => by simpa using k
  | silence => exact frame_of_keeps (silence_group_frame hg s) fun t k => by simpa using k
  | request => exact frame_of_keeps (request_group_frame hg s) fun t k => by simpa using k
  | wake => exact frame_of_keeps (wake_group_frame hg s) fun t k => by simpa using k
  | rail => exact frame_of_keeps (rail_group_frame hg s) fun t k => by simpa using k
  | dropout => exact frame_of_keeps (dropout_group_frame hg s) fun t k => by simpa using k
  | signal => exact frame_of_keeps (signal_group_frame hg s) fun t k => by simpa using k
  | transfer => exact frame_of_keeps (transfer_group_frame hg s) fun t k => by simpa using k

end Sys2Proof.Machine
end

section
/-! SUPPORT. The peer table and the beat debt (R38, R141 to R146) in the operations that write them. -/

namespace Sys2Proof.Machine

open Sys2Proof

/-! ### One entry of the peer table -/

@[simp] theorem Peer.setPresence_fields (p : Peer) (v : PresenceValue) :
    (p.setPresence v).presence = v ∧ (p.setPresence v).silence = p.silence ∧ (p.setPresence v).misses = p.misses ∧
    (p.setPresence v).rejoins = p.rejoins := by
  unfold Peer.setPresence
  split
  · simp_all
  · simp

/-- A frame heard starts the silence timer and leaves the count of rejoins (R142). -/
theorem heard_silence (p : Peer) (n : Nat) (f : Frame) :
    (p.heard n f).silence = some n ∧ (p.heard n f).rejoins = p.rejoins := by
  unfold Peer.heard
  dsimp only
  split <;> simp [mirrorBeat]

/-- A peer that is not EXCLUDED has missed fewer than three votes (R38). -/
theorem PeerFits.misses_ne {p : Peer} (h : PeerFits p) (hp : p.presence ≠ .excluded) : p.misses ≠ 3 :=
  fun q => hp (h.2.2.1 q)

theorem PeerFits.heard {p : Peer} (h : PeerFits p) (hp : p.presence ≠ .excluded) (n : Nat) (f : Frame) :
    PeerFits (p.heard n f) := by
  obtain ⟨hs, hr⟩ := heard_silence p n f
  have hv := heard_presence p n f
  have hm := heard_misses p n f
  obtain ⟨-, hle, -, hrj⟩ := id h
  exact ⟨by simp [hv, hs], by rwa [hm], fun q => absurd (hm ▸ q) (h.misses_ne hp), by rwa [hr]⟩

/-- A CENSUS leaves the entry in order, whichever signature it carries (R146). -/
theorem PeerFits.atCensus {p : Peer} (h : PeerFits p) (equal : Bool) (n : Nat) (rc : ResetCause) :
    PeerFits (p.atCensus equal n rc) := by
  obtain ⟨-, hm, -, hr⟩ := h
  cases equal
  · exact ⟨by simp [Peer.atCensus], hm, fun _ => rfl, hr⟩
  · exact ⟨by simp [Peer.atCensus], Nat.zero_le _, nofun, Nat.min_le_right ..⟩

/-- A peer made EXCLUDED with its timer stopped may have any count of misses up to three (R38). -/
theorem PeerFits.excluded {p : Peer} (h : PeerFits p) {n : Nat} (hn : n ≤ 3) :
    PeerFits { Peer.setPresence { p with misses := n } .excluded with silence := none } := by
  obtain ⟨-, -, -, hr⟩ := h
  exact ⟨by simp, by simpa using hn, fun _ => by simp, by simpa using hr⟩

/-- A count of misses below three excludes nobody (R38). -/
theorem PeerFits.withMisses {p : Peer} (h : PeerFits p) {n : Nat} (hn : n < 3) : PeerFits { p with misses := n } := by
  obtain ⟨hs, -, -, hr⟩ := h
  exact ⟨hs, hn.le, fun q => absurd q hn.ne, hr⟩

/-- A PRESENT peer goes SILENT with its timer stopped (R143). -/
theorem PeerFits.silent {p : Peer} (h : PeerFits p) (hp : p.silence.isSome = true) :
    PeerFits { p.setPresence .silent with silence := none } := by
  obtain ⟨hs, hm, -, hr⟩ := id h
  have hv : p.presence ≠ .excluded := by simp [hs.1 hp]
  exact ⟨by simp, by simpa using hm, fun q => absurd (by simpa using q) (h.misses_ne hv), by simpa using hr⟩

/-- The presence-changed flag is no part of the order of an entry (R164). -/
theorem PeerFits.withChanged {p : Peer} (h : PeerFits p) (b : Bool) : PeerFits { p with changed := b } := h

/-! ### The table and the debt -/

theorem PeersFit.of_debt {s t : State} (h : PeersFit s) (hp : t.presence.peers = s.presence.peers)
    (hd : t.presence.debt ≤ 4) : PeersFit t :=
  ⟨fun i => by simpa [State.peerAt, hp] using h.1 i, hd⟩

theorem PeersFit.of_eq {s t : State} (h : PeersFit s) (hp : t.presence.peers = s.presence.peers)
    (hd : t.presence.debt = s.presence.debt) : PeersFit t :=
  h.of_debt hp (hd ▸ h.2)

/-- A command whose frame holds the table and the debt keeps them in order. -/
theorem PeersFit.of_frame {c : Instr} {s t : State} {f : State → State} (h : PeersFit s)
    (k : ∃ u, exec c s = .next u ∧ u = f u) (e : exec c s = .next t)
    (hp : ∀ u, (f u).presence.peers = s.presence.peers) (hd : ∀ u, (f u).presence.debt = s.presence.debt) :
    PeersFit t := by
  obtain ⟨u, eu, hu⟩ := k
  cases eu.symm.trans e
  exact h.of_eq (by rw [hu, hp]) (by rw [hu, hd])

theorem withPeer_peers {s : State} (h : PeersFit s) (i : StationId) {p : Peer} (hp : PeerFits p) :
    PeersFit (s.withPeer i p) := by
  refine ⟨fun j => ?_, h.2⟩
  by_cases hj : j = i
  · rwa [hj, peerAt_withPeer_same]
  · rw [peerAt_withPeer_ne s hj]
    exact h.1 j

theorem foldl_peers {α : Type} {f : State → α → State} (hf : ∀ s a, PeersFit s → PeersFit (f s a)) (l : List α)
    {s : State} (h : PeersFit s) : PeersFit (l.foldl f s) := by
  induction l generalizing s with
  | nil => exact h
  | cons a l ih => exact ih (hf s a h)

/-! ### The operations that write the table -/

theorem touchPeer_peersFit (f : Frame) {s : State} (h : PeersFit s) (hp : (s.peerAt f.sender).presence ≠ .excluded) :
    PeersFit (touchPeer f s) :=
  (withPeer_peers h f.sender ((h.1 _).heard hp s.silenceLength f)).of_eq (by simp [touchPeer]) (by simp [touchPeer])

theorem censusPeer_peers (i : StationId) (sig : Signature) (rc : ResetCause) {s : State} (h : PeersFit s) :
    PeersFit (censusPeer i sig rc s) := by
  have hc := withPeer_peers h i ((h.1 i).atCensus (sig == s.loader.signature) s.silenceLength rc)
  unfold censusPeer
  dsimp only
  split
  · exact hc.of_eq (by simp) (by simp)
  · exact hc.of_eq (by simp) (by simp)

theorem missVote_peers (i : StationId) {s : State} (h : PeersFit s) : PeersFit (missVote i s) := by
  have hn : satInc 3 (s.peerAt i).misses ≤ 3 := Nat.min_le_right ..
  unfold missVote
  dsimp only
  split
  · exact (withPeer_peers h i ((h.1 i).excluded hn)).of_eq (by simp) (by simp)
  · exact withPeer_peers h i ((h.1 i).withMisses (by omega))

theorem clearMisses_peers (i : StationId) {s : State} (h : PeersFit s) : PeersFit (clearMisses i s) :=
  withPeer_peers h i ((h.1 i).withMisses (by decide))

theorem silencePeer_peers (i : StationId) {s : State} (h : PeersFit s) (hs : (s.peerAt i).silence.isSome = true) :
    PeersFit (silencePeer i s) := by
  have hp := withPeer_peers h i ((h.1 i).silent hs)
  unfold silencePeer
  dsimp only
  split
  · exact hp.of_eq (by simp) (by simp)
  · exact hp.of_eq (by simp) (by simp)

/-! ### The operations that write the debt -/

theorem startCensus_debt (s : State) : (startCensus s).presence.debt = 0 := by simp [startCensus]

theorem checkLeaveMute_peers {s : State} (h : PeersFit s) : PeersFit (checkLeaveMute s) := by
  refine h.of_debt (by simp) ?_
  unfold checkLeaveMute
  split
  · simp [leaveMute, startCensus_debt]
  · exact h.2

theorem forcedClose_peers {s : State} (h : PeersFit s) : PeersFit (forcedClose s) := by
  unfold forcedClose
  split
  · exact checkLeaveMute_peers (h.of_eq (by simp) (by simp))
  · exact h.of_eq (by simp) (by simp)

theorem enterMute_debt (c : MuteCause) (s : State) : (enterMute c s).presence.debt = 0 := by
  simp [enterMute, mutePresence]

theorem enterMute_peers (c : MuteCause) {s : State} (h : PeersFit s) : PeersFit (enterMute c s) :=
  h.of_debt (by simp) (by simp [enterMute_debt])

theorem ownDelivered_peers (f : Frame) (own : Option Ready) {s : State} (h : PeersFit s) :
    PeersFit (ownDelivered f own s) := by
  refine h.of_debt (by simp) ?_
  unfold ownDelivered
  split
  · simp [payDebt]
  · exact h.2

theorem beatTickEffect_peers {s : State} (h : PeersFit s) : PeersFit (beatTickEffect s) := by
  have hd : satInc 4 s.presence.debt ≤ 4 := Nat.min_le_right ..
  refine h.of_debt (by simp) ?_
  unfold beatTickEffect
  dsimp only
  split <;> split <;> simpa using hd

theorem linkFault_peers {s : State} (h : PeersFit s) : PeersFit (linkFault s) := by
  have hl := h.of_eq (t := latchFault .linkFault noTarget .severe s) (by simp) (by simp)
  unfold linkFault
  dsimp only
  split
  · exact hl.of_eq (by simp) (by simp)
  · exact enterMute_peers _ hl

end Sys2Proof.Machine
end

section
/-! PROOF. The peer table and the beat debt are kept by every command (O58). -/

namespace Sys2Proof.Machine

open Sys2Proof

/-! ### Deliveries -/

/-- What the engine keeps in order, the hand-off does: it updates the entry of a sender that is not EXCLUDED alone (R142). -/
theorem handOff_peers (f : Frame) {engine : Option Ready → State → State} {s : State} (h : PeersFit s)
    (he : ∀ own t, PeersFit t → PeersFit (engine own t)) : PeersFit (handOff f engine s) := by
  have ho := ownDelivered_peers f (s.ownSending f) h
  unfold handOff
  split
  · exact h
  · dsimp only
    split
    · exact he _ _ ho
    · split
      · exact ho
      · rename_i hx
        exact he _ _ (touchPeer_peersFit f ho (by simpa using hx))

theorem takeVote_peers (i : StationId) (n : TxnNumber) (a : Answer) {s : State} (h : PeersFit s) :
    PeersFit (takeVote i n a s) := by
  unfold takeVote
  split
  · split
    · dsimp only
      have hc : PeersFit (if i = s.me then s else clearMisses i s) := by
        split
        · exact h
        · exact clearMisses_peers i h
      split
      · exact hc.of_eq (by simp) (by simp)
      · exact hc
    · exact h
  · exact h

theorem takeForward_peers (i : StationId) (n : TxnNumber) (k : Nat) (own : Option Ready) {s : State} (h : PeersFit s) :
    PeersFit (takeForward i n k own s) := by
  unfold takeForward
  split
  · unfold afterForward
    split
    · split
      · split
        · exact forcedClose_peers (h.of_eq (by simp) (by simp))
        · exact h.of_eq (by simp) (by simp)
      · split
        · exact h.of_eq (by simp) (by simp)
        · exact h.of_eq (by simp) (by simp)
    · exact h.of_eq (by simp) (by simp)
  · exact h

theorem countMisses_peers (r : Record) {s : State} (h : PeersFit s) : PeersFit (countMisses r s) := by
  refine foldl_peers (fun s i hs => ?_) _ h
  split
  · exact missVote_peers i hs
  · exact hs

theorem takeAbort_peers (i : StationId) (n : TxnNumber) (reason : AbortReason) {s : State} (h : PeersFit s) :
    PeersFit (takeAbort i n reason s) := by
  unfold takeAbort
  split
  · rename_i r _
    split
    · split
      · unfold abortVote
        dsimp only
        have hr := h.of_eq (t := State.onRecord (fun r => { r with abortCause := some reason }) s) (by simp) (by simp)
        split
        · exact (countMisses_peers r hr).of_eq (by simp) (by simp)
        · exact hr.of_eq (by simp) (by simp)
      · split
        · exact h
        · exact h.of_eq (by simp) (by simp)
      · exact h
    · exact h
  · exact h

theorem takeBeat_peers (i : StationId) (n : TxnNumber) (b : BeatBody) {s : State} (h : PeersFit s) :
    PeersFit (takeBeat i n b s) := by
  have hh : ∀ {t}, PeersFit t → PeersFit (retryHeldCensus t) := fun ht => ht.of_eq (by simp) (by simp)
  have hr : PeersFit (refreshSeen i s) := h.of_eq (by simp) (by simp)
  unfold takeBeat
  dsimp only
  split
  · refine hh ?_
    unfold bar
    dsimp only
    split
    · exact enterMute_peers _ (hr.of_eq rfl rfl)
    · exact hr
  · split
    · exact hr.of_eq (by simp) (by simp)
    · refine hh ?_
      unfold unbar
      split
      · exact checkLeaveMute_peers (hr.of_eq rfl rfl)
      · exact hr

theorem deliverBeat_peers (i : StationId) (n : TxnNumber) (b : BeatBody) {s : State} (h : PeersFit s) :
    PeersFit (deliverBeat i n b s) := by
  have ho : ∀ f own, PeersFit (ownDelivered f own s) := fun f own => ownDelivered_peers f own h
  unfold deliverBeat
  split
  · exact h
  · dsimp only
    split
    · split
      · exact (ho ⟨i, n, .beat b⟩ (s.ownSending ⟨i, n, .beat b⟩)).of_eq (by simp) (by simp)
      · exact ho _ _
    · split
      · exact ho _ _
      · rename_i hx
        exact takeBeat_peers i n b (touchPeer_peersFit _ (ho _ _) (by simpa using hx))

theorem deliverCensus_peers (i : StationId) (sig : Signature) (rc : ResetCause) {s : State} (h : PeersFit s) :
    PeersFit (deliverCensus i sig rc s) := by
  have hr : ∀ {t}, PeersFit t → PeersFit (restartSupersedes i t) := fun ht => ht.of_eq (by simp) (by simp)
  unfold deliverCensus
  split
  · exact h
  · dsimp only
    have ho := ownDelivered_peers ⟨i, 0, .census sig rc⟩ (s.ownSending ⟨i, 0, .census sig rc⟩) h
    refine hr ?_
    split
    · exact ho
    · have hc := checkLeaveMute_peers (censusPeer_peers i sig rc ho)
      unfold takeCensus
      dsimp only
      split
      · exact hc.of_eq (by simp) (by simp)
      · exact hc

theorem delivery_group_peers {c : Instr} {s t : State} (hc : c.group = .delivery) (h : PeersFit s)
    (e : exec c s = .next t) : PeersFit t := by
  cases c with
  | proposeDelivered i n k img inh =>
    cases e; exact handOff_peers _ h fun _ _ ht => ht.of_eq (by simp) (by simp)
  | forcedProposeDelivered i n k img =>
    cases e; exact handOff_peers _ h fun _ _ ht => ht.of_eq (by simp) (by simp)
  | wakeDelivered i n w x => cases e; exact handOff_peers _ h fun _ _ ht => ht.of_eq (by simp) (by simp)
  | voteDelivered i n a => cases e; exact handOff_peers _ h fun _ _ => takeVote_peers i n a
  | stageForwardDelivered i n k => cases e; exact handOff_peers _ h fun own _ => takeForward_peers i n k own
  | stageUnwindDelivered i n k =>
    cases e; exact handOff_peers _ h fun _ _ ht => ht.of_eq (by simp) (by simp)
  | abortDelivered i n r => cases e; exact handOff_peers _ h fun _ _ => takeAbort_peers i n r
  | faultDelivered i n code tgt =>
    cases e; exact handOff_peers _ h fun _ _ ht => ht.of_eq (by simp) (by simp)
  | beatDelivered i n b => cases e; exact deliverBeat_peers i n b h
  | censusDelivered i sig rc => cases e; exact deliverCensus_peers i sig rc h
  | _ => simp [Instr.group] at hc

/-! ### The other groups -/

theorem blank_peers {s : State} (h : s.presence = Presence.blank) : PeersFit s := by
  refine ⟨fun i => ?_, by simp [h, Presence.blank]⟩
  have hb : s.peerAt i = Peer.blank := by simp [State.peerAt, h, Presence.blank, tabGet]
  rw [hb]
  exact ⟨by simp [Peer.blank], Nat.zero_le _, nofun, Nat.zero_le _⟩

theorem reset_group_peers {c : Instr} {s t : State} (hc : c.group = .reset) (h : PeersFit s) (e : exec c s = .next t) :
    PeersFit t := by
  cases c with
  | por => cases e; exact blank_peers rfl
  | pinReset => cases e; exact blank_peers rfl
  | restart w =>
    cases e
    unfold onPort
    split
    · exact blank_peers rfl
    · exact h
  | _ => simp [Instr.group] at hc

theorem load_group_peers {c : Instr} {s t : State} (hc : c.group = .load) (h : PeersFit s) (e : exec c s = .next t) :
    PeersFit t := by
  cases c with
  | loadDone i =>
    cases e
    split
    · dsimp only
      split
      · exact h.of_debt (by simp) (by simp [loadDone, startCensus_debt])
      · exact h
    · exact h
  | loadFailure =>
    cases e
    split
    · exact h
    · exact h
  | _ => simp [Instr.group] at hc

theorem rejectFrame_peers (rx : Reception) {s : State} (h : PeersFit s) : PeersFit (rejectFrame rx s) := by
  have hj := h.of_eq (t := judgeReception rx s) (by simp) (by simp)
  unfold rejectFrame
  split
  · exact h
  · dsimp only
    split
    · unfold rejectSending
      dsimp only
      split
      · exact linkFault_peers hj
      · exact hj.of_eq (by simp) (by simp)
    · exact hj

theorem beat_group_peers {c : Instr} {s t : State} (hc : c.group = .beat) (h : PeersFit s) (e : exec c s = .next t) :
    PeersFit t := by
  cases c with
  | beatTick =>
    cases e
    split
    · exact beatTickEffect_peers h
    · exact h
  | barredRetryExpiry =>
    cases e
    split
    · dsimp only
      split
      · exact h
      · exact h.of_eq (by simp) (by simp)
    · exact h
  | _ => simp [Instr.group] at hc

theorem transfer_group_peers {c : Instr} {s t : State} (hc : c.group = .transfer) (h : PeersFit s)
    (e : exec c s = .next t) : PeersFit t := by
  have ho : ∀ (a : I2cAddress) (f : State → State), PeersFit (f s) → PeersFit (onPort a f s) := fun a f hf => by
    unfold onPort
    split
    · exact hf
    · exact h
  cases c with
  | peer a w =>
    cases e
    refine ho _ _ ?_
    split
    · exact h
    · split
      · exact withPeer_peers (s := select _ _ s) h _ ((h.1 _).withChanged false)
      · exact h
  | history a w =>
    cases e
    refine ho _ _ ?_
    split
    · exact h
    · split
      · exact h
      · exact h
  | status w => cases e; exact ho _ _ h
  | txn w => cases e; exact ho _ _ h
  | wakeq w => cases e; exact ho _ _ h
  | faults w => cases e; exact ho _ _ h
  | stack w => cases e; exact ho _ _ h
  | ackFaults w => cases e; exact ho _ _ h
  | unknownCommand w => cases e; exact ho _ _ h
  | snapshotRead r => cases e; exact ho _ _ h
  | _ => simp [Instr.group] at hc

/-- Every command keeps the peer table and the debt in order: by its frame, where the frame holds both. -/
theorem exec_peers {c : Instr} {s t : State} (h : PeersFit s) (e : exec c s = .next t) : PeersFit t := by
  cases hg : c.group with
  | reset => exact reset_group_peers hg h e
  | load => exact load_group_peers hg h e
  | link => exact h.of_frame (link_group_frame hg s) e (fun _ => rfl) fun _ => rfl
  | rejection =>
    cases c with
    | frameRejected rx => cases e; exact rejectFrame_peers rx h
    | _ => simp [Instr.group] at hg
  | delivery => exact delivery_group_peers hg h e
  | voteTimer => exact h.of_frame (voteTimer_group_frame hg s) e (fun _ => rfl) fun _ => rfl
  | barrier => exact h.of_frame (barrier_group_frame hg s) e (fun _ => rfl) fun _ => rfl
  | closing =>
    cases c with
    | closingWaitExpiry =>
      cases e
      split
      · exact forcedClose_peers h
      · exact h
    | _ => simp [Instr.group] at hg
  | beat => exact beat_group_peers hg h e
  | census => exact h.of_frame (census_group_frame hg s) e (fun _ => rfl) fun _ => rfl
  | silence =>
    cases c with
    | silenceTimerExpiry i =>
      cases e
      split
      · rename_i hs
        exact checkLeaveMute_peers (silencePeer_peers i h hs)
      · exact h
    | _ => simp [Instr.group] at hg
  | request => exact h.of_frame (request_group_frame hg s) e (fun _ => rfl) fun _ => rfl
  | wake => exact h.of_frame (wake_group_frame hg s) e (fun _ => rfl) fun _ => rfl
  | rail => exact h.of_frame (rail_group_frame hg s) e (fun _ => rfl) fun _ => rfl
  | dropout => exact h.of_frame (dropout_group_frame hg s) e (fun _ => rfl) fun _ => rfl
  | signal => exact h.of_frame (signal_group_frame hg s) e (fun _ => rfl) fun _ => rfl
  | transfer => exact transfer_group_peers hg h e

/-- Settles O58, from `exec_peers`: every command keeps the peer table and the debt in order, as does the time base. -/
theorem peersFitIsKept : Obligations.PeersFitIsKept :=
  kept_of_exec (fun _ h => h) (fun _ _ h => h) fun _ _ _ => exec_peers

end Sys2Proof.Machine
end

section
/-! SUPPORT. Fills of a free slot, and what the request unit does as it latches and proposes (R20 to R22, R136). -/

namespace Sys2Proof.Machine

open Sys2Proof

/-! ### A fill of a free slot -/

/-- A frame that the link controller takes into a free queued place disturbs no owner (R136). -/
theorem fillFrame_free {s : State} {body : Body} (n : TxnNumber) (ht : s.takesFill body.kind = true)
    (hq : (s.slot body.kind).queued = none) :
    fillFrame n body s = s.withSlot body.kind { s.slot body.kind with
      queued := some (.ready (s.ownReady n body))
      rejections := if (s.slot body.kind).sending.isNone then 0 else (s.slot body.kind).rejections } := by
  unfold fillFrame fillSlot
  rw [if_pos ht, hq]
  rfl

/-! ### The test of R21 -/

/-- The request unit after a request was proposed: the latch is QUEUED, and nothing else of it changes (R21). -/
theorem testPropose_request {s : State} (hm : s.mayPropose = true) {l : Latch} (hl : s.request.latch = some l)
    (hq : l.queued = false) : (testPropose s).request = { s.request with latch := some { l with queued := true } } := by
  unfold testPropose
  rw [hl]
  dsimp only
  rw [if_pos (by simp [hm, hq])]
  simp

/-- The test of R21 leaves a request in the latch where it stands (R21). -/
theorem testPropose_keepsLatch {s : State} {r : Request} {q : Bool} (hl : s.request.latch = some ⟨r, q⟩) :
    ∃ q', (testPropose s).request.latch = some ⟨r, q'⟩ := by
  unfold testPropose
  rw [hl]
  dsimp only
  split
  · exact ⟨_, rfl⟩
  · exact ⟨_, hl⟩

/-- With nothing in the latch there is nothing to propose (R21). -/
theorem testPropose_empty {s : State} (hl : s.request.latch = none) : testPropose s = s := by
  unfold testPropose
  rw [hl]

/-- A request already proposed is not proposed again (R21). -/
theorem testPropose_queued {s : State} (h : ∀ l, s.request.latch = some l → l.queued = true) : testPropose s = s := by
  unfold testPropose
  split
  · rename_i l hl
    rw [if_neg (by simp [h l hl])]
  · rfl

/-! ### Latching (R20, R25) -/

/-- A replaced request of the lines is answered low, and any other is not answered (R20, R23). -/
theorem replaceLatched_answers (s : State) :
    (∀ l, s.request.latch = some l → l.request.source = .lines →
      (replaceLatched s).request.result = .low ∧ (replaceLatched s).request.pulses = s.request.pulses + 1) ∧
    (s.request.latch = none → replaceLatched s = s) := by
  constructor
  · intro l hl hs
    unfold replaceLatched
    rw [hl]
    dsimp only
    have ha : answerRequest l.request .low s = answer .low s := by simp [answerRequest, hs]
    rw [ha]
    split
    · exact ⟨rfl, rfl⟩
    · exact ⟨rfl, rfl⟩
  · intro hl
    unfold replaceLatched
    rw [hl]

/-- A request taken stands in the latch, the defer hold stops, and a replaced request of the lines is answered low
(R20, R24, R28). -/
theorem takeRequest_latches (r : Request) (s : State) :
    (∃ q, (takeRequest r s).request.latch = some ⟨r, q⟩) ∧ (takeRequest r s).request.deferHold = none ∧
    (∀ l, s.request.latch = some l → l.request.source = .lines →
      (takeRequest r s).request.result = .low ∧ (takeRequest r s).request.pulses = s.request.pulses + 1) ∧
    (s.request.latch = none → (takeRequest r s).request.pulses = s.request.pulses) := by
  obtain ⟨ha, hn⟩ := replaceLatched_answers s
  refine ⟨testPropose_keepsLatch (q := false) rfl, ?_, fun l hl hs => ?_, fun hl => ?_⟩
  · simp [takeRequest, latchRequest]
  · simpa [takeRequest, latchRequest] using ha l hl hs
  · simp [takeRequest, latchRequest, hn hl]

end Sys2Proof.Machine
end

section
/-! PROOF. The timers of the vote (O34), the ends of the holds (O38), and the edges of SLPREQ (O49). -/

namespace Sys2Proof.Machine

open Sys2Proof

/-! ### The vote window and the vote guard (O34) -/

/-- With no ABORT queued the vote that runs out in VOTING queues ABORT(NO_QUORUM), and touches the link alone (R36). -/
theorem voteRunsOut_queues {s : State} (hp : s.agreement.phase = .voting) (hq : (s.slot .abort).queued = none) :
    (voteRunsOut s).hasQueued .abort s.openNumber (.abort .noQuorum) ∧
    voteRunsOut s = { s with link := (voteRunsOut s).link } := by
  have ht : s.takesFill .abort = true := takesFill_of_phase (by simp [hp]) _
  have hv : voteRunsOut s = fillFrame s.openNumber (.abort .noQuorum) s := by
    simp [voteRunsOut, hp, requestAbort, hq, passesAbort]
  have hf := fillFrame_free (body := .abort .noQuorum) s.openNumber ht hq
  rw [hv]
  exact ⟨fillFrame_hasQueued (body := .abort .noQuorum) ht _, by rw [hf]; rfl⟩

/-- Settles O34, from `voteRunsOut_queues` on the state with the timer stopped. -/
theorem voteTimersQueueNoQuorum : Obligations.VoteTimersQueueNoQuorum := by
  refine ⟨fun s hw hp hq => ?_, fun s hg hp hq => ?_, fun s hw => ?_, fun s hg => ?_⟩
  · obtain ⟨ha, he⟩ := voteRunsOut_queues (s := s.withAgreement { s.agreement with voteWindow := none }) hp hq
    exact ⟨_, congrArg Host.Outcome.next (if_pos hw), ha, he⟩
  · obtain ⟨ha, he⟩ := voteRunsOut_queues (s := s.withAgreement { s.agreement with voteGuard := none }) hp hq
    exact ⟨_, congrArg Host.Outcome.next (if_pos hg), ha, he⟩
  · exact congrArg Host.Outcome.next (if_neg (by simp [hw]))
  · exact congrArg Host.Outcome.next (if_neg (by simp [hg]))

/-! ### The defer hold, the lockout and the demote timer (O38) -/

/-- The station with neither the defer hold nor the re-entry lockout running (R28, R29). -/
def holdsEnded (s : State) : State := s.withRequest { s.request with deferHold := none, lockout := none }

/-- Where the other hold does not run, the end of one hold tests R21 with neither running (R28, R29). -/
theorem holdEnd_tests {c : Instr} {s : State}
    (h : (c = .deferHoldExpiry ∧ s.request.deferHold.isSome = true ∧ s.request.lockout = none) ∨
      (c = .reEntryLockoutExpiry ∧ s.request.lockout.isSome = true ∧ s.request.deferHold = none)) :
    exec c s = .next (testPropose (holdsEnded s)) := by
  rcases h with ⟨rfl, hr, ho⟩ | ⟨rfl, hr, ho⟩
  · refine (congrArg Host.Outcome.next (if_pos hr)).trans ?_
    simp [holdsEnded, ho]
  · refine (congrArg Host.Outcome.next (if_pos hr)).trans ?_
    simp [holdsEnded, ho]

/-- The demote timer ends (R27). -/
theorem demoteTimer_ends {s : State} (h : s.wake.demote.isSome = true) :
    exec .demoteTimerExpiry s = .next (if s.mayDemote then proposeDemote (stopDemote s) else stopDemote s) :=
  congrArg Host.Outcome.next (if_pos h)

theorem mayDemote_iff (s : State) : s.mayDemote = true ↔
    s.agreement.phase = .settled ∧ s.agreement.believed = some .rest ∧ s.agreement.restImage = true := by
  simp [State.mayDemote, and_assoc]

/-- Settles O38: each hold's end is the test of R21 (`holdEnd_tests`), and the demote timer's end the proposal of R27. -/
theorem holdEndProposes : Obligations.HoldEndProposes := by
  refine ⟨fun c s hc => ⟨fun l hl hq hp hb hr hf hx => ?_, fun hl => ?_⟩, fun s hd => ⟨fun hp hb hi => ?_, fun hn => ?_⟩⟩
  · have hm : (holdsEnded s).mayPropose = true := (mayPropose_iff (s := holdsEnded s) hp hb).2 ⟨rfl, hr, rfl, hf, hx⟩
    obtain ⟨-, hqueued⟩ := (testPropose_proposes (s := holdsEnded s) hp).1 hm l hl hq
    have ha : (testPropose (holdsEnded s)).agreement = s.agreement := by simp [holdsEnded]
    rw [State.nextNumber, ha] at hqueued
    exact ⟨_, holdEnd_tests hc, hqueued, testPropose_request hm hl hq, ha⟩
  · rw [holdEnd_tests hc, testPropose_empty (s := holdsEnded s) hl]
    rfl
  · have ht : (stopDemote s).takesFill .propose = true := takesFill_of_phase (s := stopDemote s) (by simp [hp]) _
    rw [demoteTimer_ends hd, if_pos ((mayDemote_iff s).2 ⟨hp, hb, hi⟩)]
    exact ⟨_, rfl, fillFrame_hasQueued (body := .propose .demote false false) ht _, by simp [proposeDemote, stopDemote],
      by simp, by simp, by simp⟩
  · rw [demoteTimer_ends hd, if_neg]
    · rfl
    · rw [mayDemote_iff]
      rintro ⟨hp, hb, hi⟩
      simp [hp, hb, hi] at hn

/-! ### SLPREQ (O49) -/

/-- The request that an edge of SLPREQ latches, by its type and the level of IMGRDY (R20). -/
theorem requestEdge_takes {t1 t0 img : Level} {r : Request} (s : State)
    (h : (t1 = .low ∧ t0 = .high ∧ r = ⟨.enterRest, img.isHigh, .lines⟩) ∨
      (t1 = .high ∧ t0 = .low ∧ img = .high ∧ r = ⟨.enterStow, false, .lines⟩) ∨
      (t1 = .high ∧ t0 = .high ∧ r = ⟨.enterOff, false, .lines⟩)) :
    requestEdge t1 t0 img s = takeRequest r s := by
  rcases h with ⟨rfl, rfl, rfl⟩ | ⟨rfl, rfl, rfl, rfl⟩ | ⟨rfl, rfl, rfl⟩ <;> rfl

/-- Settles O49: what an edge takes is `requestEdge_takes`, and what a request taken does is `takeRequest_latches`. -/
theorem slpreqLatchesRequest : Obligations.SlpreqLatchesRequest := by
  refine ⟨fun t1 t0 img r s hp h => ?_, fun img s => ?_, fun s hp => ?_, fun t1 t0 img s hp => ?_, fun s => rfl⟩
  · obtain ⟨⟨q, hl⟩, hd, ha, hn⟩ := takeRequest_latches r s
    have he : exec (.slpreqEdge t1 t0 img) s = .next (takeRequest r s) := by
      rw [← requestEdge_takes s h]
      exact congrArg Host.Outcome.next (if_pos hp)
    exact ⟨_, q, he, hl, hd, by simp, by simp, by simp, ha, hn⟩
  · exact congrArg Host.Outcome.next (ite_self s)
  · exact congrArg Host.Outcome.next (if_pos hp)
  · exact congrArg Host.Outcome.next (if_neg (by simp [hp]))

end Sys2Proof.Machine
end

section
/-! PROOF. A VOTE that does not decide (O23). -/

namespace Sys2Proof.Machine

open Sys2Proof

/-- The first matching VOTE of a participant comes to the tally (R33). -/
theorem takeVote_tallies {i : StationId} {a : Answer} {r : Record} {s : State} (hp : s.agreement.phase = .voting)
    (hr : s.agreement.record = some r) (hm : r.matches r.number i = true) (hi : i ≠ r.originator)
    (hv : tabGet r.votes i = none) : takeVote i r.number a s = tally i a (votedState i a r s) := by
  unfold takeVote
  rw [hp, hr]
  simp [hm, hi, hv, votedState]

/-- The tally waits where the VOTE was not awaited, or was no DECLINE and leaves an answer out (R34). -/
theorem tally_undecided {i : StationId} {a : Answer} {r : Record} {s : State} (hr : s.agreement.record = some r)
    (h : setHas r.awaited i = false ∨ ((∀ d, a ≠ .decline d) ∧ r.allVoted = false)) : tally i a s = s := by
  unfold tally
  rw [hr]
  dsimp only
  split
  · rfl
  · rename_i hw
    obtain ⟨hd, hall⟩ := h.resolve_left (by simpa using hw)
    split
    · exact absurd rfl (hd _)
    · rw [if_neg (by simp [hall])]

/-- Where a VOTE of a peer is entered its miss count is 0, and the executor and the fault unit hear nothing of it (R33, R38). -/
theorem votedState_clears {i : StationId} (a : Answer) (r : Record) {s : State} (hi : i ≠ s.me) :
    ((votedState i a r s).peerAt i).misses = 0 ∧ (votedState i a r s).executor = s.executor ∧
    (votedState i a r s).faults = s.faults := by
  have hp : (votedState i a r s).peerAt i = (clearMisses i s).peerAt i := by rw [votedState, if_neg hi]; rfl
  rw [hp, clearMisses, peerAt_withPeer_same, votedState, if_neg hi]
  exact ⟨rfl, rfl, rfl⟩

/-- Settles O23: the VOTE comes to the tally (`takeVote_tallies`), which waits (`tally_undecided`). -/
theorem voteIsRecorded : Obligations.VoteIsRecorded := by
  rintro i a r r' s ⟨hon, hme, hx⟩ hp hr hm hi hv rfl hw
  obtain ⟨s', he, hd⟩ := handOff_unsettled (f := ⟨i, r.number, .vote a⟩) (engine := fun _ => takeVote i r.number a)
    ⟨hon, .inr hx⟩ (by simp [hp])
  obtain ⟨-, -, ha, hex, hc, -, -, hf, hl⟩ := hd.keeps
  have hme' : i ≠ s'.me := by simpa [State.me, hl] using hme
  obtain ⟨v1, -, -, -, v5⟩ := votedState_stands i a (s := s') (r := r) (by rw [ha, hr])
  obtain ⟨c1, c2, c3⟩ := votedState_clears a r hme'
  rw [takeVote_tallies (by rw [ha, hp]) (by rw [ha, hr]) hm hi hv, tally_undecided (by rw [v1]) hw] at he
  exact ⟨_, congrArg Host.Outcome.next he, by rw [v1, ha], c1, c2.trans hex, v5.trans hc, c3.trans hf⟩

end Sys2Proof.Machine
end

section
/-! PROOF. A peer's CENSUS (O33), and the end of a silence timer (O40). -/

namespace Sys2Proof.Machine

open Sys2Proof

/-! ### The BEAT that answers a CENSUS -/

/-- After a fill of a BEAT outside MUTE one stands in its slot, with the current number where none stood before (R145). -/
theorem fillBeat_fills {s : State} (h : s.agreement.phase ≠ .mute) :
    (fillBeat s).beatInSlot = true ∧ (s.beatInSlot = false → (fillBeat s).beatFilled s.agreement.number) := by
  have ht : s.takesFill .beat = true := takesFill_of_phase h _
  unfold fillBeat
  split
  · rename_i hb
    exact ⟨hb, fun q => by simp [hb] at q⟩
  · simp [State.beatInSlot, State.beatFilled, fillSlot_slot_same ht]

theorem beatInSlot_congr {s t : State} (h : t.slot .beat = s.slot .beat) : t.beatInSlot = s.beatInSlot := by
  simp [State.beatInSlot, h]

/-- A forced opening that supersedes leaves the BEAT slot alone (R10, R13). -/
theorem openForced_beat {cause : OpeningCause} {i : StationId} {fl : List (FaultCode × StationId)} {r : Record} {s : State}
    (h : s.agreement.phase.defers = true) (hr : s.agreement.record = some r) :
    (openForced cause i fl s).slot .beat = s.slot .beat := by
  obtain ⟨hc, -⟩ := closeSuperseded_closes isSuperseded cause.cause hr
  rw [openForced_superseding h]
  generalize closeSuperseded isSuperseded cause.cause s = u at *
  obtain ⟨-, ho, -⟩ := openDescent_opens cause i fl u
  rw [ho.slots _ (by simp) (by simp) (by simp), (openTransaction_opens ..).slots _ (by simp) (by simp) (by simp),
    hc.slots _ (by simp) (by simp) (by simp)]

/-- A CENSUS that supersedes leaves the BEAT slot alone, as does one that does not (R146). -/
theorem restartSupersedes_beat (i : StationId) (s : State) : (restartSupersedes i s).slot .beat = s.slot .beat := by
  unfold restartSupersedes
  split
  · rename_i h
    simp only [Bool.and_eq_true] at h
    obtain ⟨⟨hp, hi⟩, -⟩ := h
    cases hr : s.agreement.record with
    | some r => exact openForced_beat hp hr
    | none => simp [State.participants, hr, setHas] at hi
  · rfl

/-! ### The peer table at a CENSUS -/

/-- A CENSUS writes the entry of its sender, and of the slots those of WAKE and PROPOSE at most (R146). -/
theorem censusPeer_table (i : StationId) (sig : Signature) (rc : ResetCause) (s : State) :
    (∀ j, (censusPeer i sig rc s).peerAt j =
      (s.withPeer i ((s.peerAt i).atCensus (sig == s.loader.signature) s.silenceLength rc)).peerAt j) ∧
    (∀ k, k ≠ .wake → k ≠ .propose → (censusPeer i sig rc s).slot k = s.slot k) ∧
    (sig ≠ s.loader.signature → (censusPeer i sig rc s).request.refresh = setDrop s.request.refresh i) := by
  unfold censusPeer
  dsimp only
  generalize hu : s.withPeer i _ = u
  have hsl : ∀ k, u.slot k = s.slot k := fun k => by rw [← hu]; rfl
  have hrf : u.request.refresh = s.request.refresh := by rw [← hu]; rfl
  split
  · rename_i heq
    refine ⟨fun j => by simp [State.peerAt], fun k hw _ => ?_, fun h => absurd (by simpa using heq) h⟩
    unfold reportPresent
    split
    · rw [testAnnounce_slot_ne u hw, hsl]
    · exact hsl k
  · refine ⟨fun j => by simp [State.peerAt], fun k _ hp => ?_, fun _ => ?_⟩
    · have hd : (dropBarring i (refreshSeen i u)).slot k = (refreshSeen i u).slot k := rfl
      rw [hd, ← hsl]
      unfold refreshSeen
      dsimp only
      split
      · exact testPropose_slot_ne (dropRefresh i u) hp
      · rfl
    · exact (refreshSeen_refresh i u).trans (by rw [hrf])

/-- What follows the peer's entry at a CENSUS writes neither the peer table nor the refreshed-view set (R145, R148). -/
theorem takeCensus_table (i : StationId) (sig : Signature) (rc : ResetCause) (s : State) :
    (takeCensus i sig rc s).presence.peers = (censusPeer i sig rc s).presence.peers ∧
    (takeCensus i sig rc s).request.refresh = (censusPeer i sig rc s).request.refresh := by
  unfold takeCensus
  dsimp only
  split <;> simp

/-- A station that takes part does not leave MUTE. -/
theorem checkLeaveMute_takesPart {s : State} (h : s.agreement.phase.takesPart = true) : checkLeaveMute s = s := by
  unfold checkLeaveMute
  rw [if_neg]
  intro q
  simp only [Bool.and_eq_true, beq_iff_eq] at q
  obtain ⟨⟨⟨hp, -⟩, -⟩, -⟩ := q
  rw [hp] at h
  cases h

/-- A station that takes part answers a CENSUS with a BEAT (R145). -/
theorem takeCensus_answers {i : StationId} {sig : Signature} {rc : ResetCause} {s : State}
    (h : s.agreement.phase.takesPart = true) :
    (takeCensus i sig rc s).beatInSlot = true ∧
    (s.beatInSlot = false → (takeCensus i sig rc s).beatFilled s.agreement.number) := by
  obtain ⟨-, hs, -⟩ := censusPeer_table i sig rc s
  have ha : (censusPeer i sig rc s).agreement = s.agreement := by simp
  have hb := beatInSlot_congr (hs .beat (by simp) (by simp))
  unfold takeCensus
  generalize censusPeer i sig rc s = u at *
  rw [← ha] at h ⊢
  dsimp only
  rw [checkLeaveMute_takesPart h, if_pos h, ← hb]
  exact fillBeat_fills fun q => by simp [q, Phase.takesPart] at h

/-- Settles O33: the sender's entry is `Peer.atCensus` (`censusPeer_table`), and the BEAT that answers is
`takeCensus_answers`; a transaction that the CENSUS supersedes touches neither. -/
theorem censusJudgesSignature : Obligations.CensusJudgesSignature := by
  intro i sig rc s hon hi
  have he : exec (.censusDelivered i sig rc) s = .next (restartSupersedes i (takeCensus i sig rc s)) := by
    show Host.Outcome.next (deliverCensus i sig rc s) = _
    unfold deliverCensus
    have hown : s.ownSending ⟨i, 0, .census sig rc⟩ = none := ownSending_of_ne hi
    rw [if_neg (by simp [hon])]
    dsimp only
    rw [hown]
    exact congrArg (fun x => Host.Outcome.next (restartSupersedes i x)) (if_neg hi)
  obtain ⟨hc, -, hrf⟩ := censusPeer_table i sig rc s
  have hp : ∀ j, (restartSupersedes i (takeCensus i sig rc s)).peerAt j =
      (s.withPeer i ((s.peerAt i).atCensus (sig == s.loader.signature) s.silenceLength rc)).peerAt j := fun j => by
    rw [← hc j]
    simp [State.peerAt, takeCensus_table]
  have hpi := hp i
  rw [peerAt_withPeer_same] at hpi
  refine ⟨_, he, ?_, ?_, ?_, ?_, ?_, fun hsig => ?_, fun hsig => ?_, fun j hj => ?_, fun ht => ?_⟩
  · rw [hpi]; rfl
  · rw [hpi]; rfl
  · rw [hpi]; rfl
  · rw [hpi]; rfl
  · rw [hpi]; rfl
  · rw [hpi]
    simp [Peer.atCensus, hsig, satInc, State.silenceLength]
  · rw [hpi]
    refine ⟨by simp [Peer.atCensus, hsig], by simp [Peer.atCensus, hsig], by simp [Peer.atCensus, hsig],
      by simp [Peer.atCensus, hsig], ?_⟩
    rw [← hrf hsig]
    simp [takeCensus_table]
  · rw [hp, peerAt_withPeer_ne s hj]
  · obtain ⟨h1, h2⟩ := takeCensus_answers (i := i) (sig := sig) (rc := rc) ht
    have hb := restartSupersedes_beat i (takeCensus i sig rc s)
    exact ⟨(beatInSlot_congr hb).trans h1, fun q => by rw [State.beatFilled, hb]; exact h2 q⟩

/-! ### The end of a silence timer -/

/-- The peer as it goes SILENT (R143). -/
def silentPeer (p : Peer) : Peer := { p with presence := .silent, silence := none, changed := true }

/-- The station with a peer gone SILENT, before PEER_LOST is judged (R30, R143, R148). -/
def peerSilenced (i : StationId) (s : State) : State :=
  dropBarring i (refreshSeen i (s.withPeer i (silentPeer (s.peerAt i))))

theorem silencePeer_eq {i : StationId} {s : State} (h : (s.peerAt i).presence = .present) :
    silencePeer i s = if setHas (peerSilenced i s).system.quorum i && (peerSilenced i s).missesPeers
      then raisePeerLost i (peerSilenced i s) else peerSilenced i s := by
  have hp : ({ (s.peerAt i).setPresence .silent with silence := none } : Peer) = silentPeer (s.peerAt i) := by
    simp [Peer.setPresence, h, silentPeer]
  unfold silencePeer
  dsimp only
  rw [hp]
  rfl

theorem peerSilenced_stands (i : StationId) (s : State) :
    let u := peerSilenced i s
    (∀ j, u.peerAt j = (s.withPeer i (silentPeer (s.peerAt i))).peerAt j) ∧
    u.request.refresh = setDrop s.request.refresh i ∧ u.agreement = s.agreement ∧ u.faults = s.faults ∧
    u.time = s.time ∧ u.loader = s.loader := by
  have hr := refreshSeen_refresh i (s.withPeer i (silentPeer (s.peerAt i)))
  unfold peerSilenced
  exact ⟨fun j => by simp [State.peerAt], hr, by simp, by simp, by simp, by simp⟩

/-- Latching reads the fault lists and the time alone. -/
theorem Latched.congr {s s' t t' : State} {code : FaultCode} {target : Target} {sev : Severity}
    (h : Latched s t code target sev) (hf : s'.faults = s.faults) (ht : s'.time = s.time) (hg : t'.faults = t.faults) :
    Latched s' t' code target sev := by
  unfold Latched at *
  rw [hf, ht, hg]
  exact h

/-- Settles O40: the peer goes SILENT (`peerSilenced_stands`), PEER_LOST is judged (`silencePeer_eq`), and the end of MUTE
touches neither the peer table nor the fault lists. -/
theorem silentPeerIsLost : Obligations.SilentPeerIsLost := by
  intro i s hs hp
  obtain ⟨ht, hr, ha, hf, htm, hl⟩ := peerSilenced_stands i s
  have he : exec (.silenceTimerExpiry i) s = .next (checkLeaveMute (silencePeer i s)) :=
    congrArg Host.Outcome.next (if_pos hs)
  have hpeer : ∀ j, (checkLeaveMute (silencePeer i s)).peerAt j = (s.withPeer i (silentPeer (s.peerAt i))).peerAt j :=
    fun j => by
      rw [← ht j, silencePeer_eq hp]
      split <;> simp [State.peerAt, raisePeerLost]
  refine ⟨_, he, by rw [hpeer, peerAt_withPeer_same]; rfl, fun j hj => by rw [hpeer, peerAt_withPeer_ne s hj], ?_,
    fun hq ho hb => ?_⟩
  · rw [← hr, silencePeer_eq hp]
    split <;> simp [raisePeerLost]
  · have hm : (setHas (peerSilenced i s).system.quorum i && (peerSilenced i s).missesPeers) = true := by
      have hto : (peerSilenced i s).txnOpen = s.txnOpen := by simp [State.txnOpen, State.recordOpen, ha]
      rw [system_congr hl]
      simp [State.missesPeers, hto, ho, ha, hb, hq]
    rw [silencePeer_eq hp, if_pos hm]
    exact (raiseFault_latched .peerLost (eightTarget i) .severe (peerSilenced i s)).congr hf.symm htm.symm (by simp [raisePeerLost])

end Sys2Proof.Machine
end

section
/-! SUPPORT. What arbitration and the reading back of a frame decide, and what an attempt without delivery leaves
(R133, R137, R138). -/

namespace Sys2Proof.Machine

open Sys2Proof

/-! ### Bits on the line (R129, R133) -/

theorem mod_two_pow_succ_testBit (v n : Nat) : v % 2 ^ (n + 1) = v % 2 ^ n + 2 ^ n * (v.testBit n).toNat := by
  rw [Nat.mod_pow_succ, Nat.toNat_testBit]

/-- Arbitration goes to the lower value of a field (R133). -/
theorem losesBits_fieldBits (n a b : Nat) :
    losesBits (fieldBits n a) (fieldBits n b) = true ↔ b % 2 ^ n < a % 2 ^ n := by
  induction n with
  | zero => simp [fieldBits, losesBits, Nat.mod_one]
  | succ n ih =>
    have ha := mod_two_pow_succ_testBit a n
    have hb := mod_two_pow_succ_testBit b n
    have hla := Nat.mod_lt a (Nat.two_pow_pos n)
    have hlb := Nat.mod_lt b (Nat.two_pow_pos n)
    rw [fieldBits, fieldBits, losesBits]
    cases hx : a.testBit n <;> cases hy : b.testBit n <;> simp [hx, hy, ih] at ha hb ⊢ <;> omega

/-- A station loses exactly to a lower arbitration value (R133). -/
theorem losesTo_iff {own : Nat} (winner : BitVec 6) (h : own < 64) : losesTo own winner = true ↔ winner.toNat < own := by
  have hw : winner.toNat < 64 := winner.isLt
  rw [losesTo, losesBits_fieldBits]
  omega

theorem firstDifference_some {sent read : List Bool} {m : Nat} {b : Bool} (h : ∀ q, q < m → read[q]? = sent[q]?)
    (hs : sent[m]? = some b) (hr : read[m]? = some (!b)) : firstDifference sent read = some m := by
  obtain ⟨hsl, rfl⟩ := List.getElem?_eq_some_iff.1 hs
  obtain ⟨hrl, hne⟩ := List.getElem?_eq_some_iff.1 hr
  refine List.findIdx?_eq_some_iff_getElem.2 ⟨by simp; omega, by simp [hne], fun q hq => ?_⟩
  have he := h q hq
  rw [List.getElem?_eq_getElem (by omega), List.getElem?_eq_getElem (by omega), Option.some_inj] at he
  simp [he]

theorem firstDifference_none {sent read : List Bool} (h : ∀ q, q < sent.length → read[q]? = sent[q]?) :
    firstDifference sent read = none := by
  refine List.findIdx?_eq_none_iff.2 fun x hx => ?_
  obtain ⟨q, hq⟩ := List.mem_iff_getElem?.1 hx
  obtain ⟨hs, hr⟩ := List.getElem?_zip_eq_some.1 hq
  obtain ⟨hl, -⟩ := List.getElem?_eq_some_iff.1 hs
  have he := h q hl
  rw [hs, hr, Option.some_inj] at he
  simp [he]

/-- The first bit read back other than sent, within the first bits of a line (R133). -/
theorem firstDifference_take_some {sent read : List Bool} {m n : Nat} {b : Bool} (hm : m < n)
    (h : ∀ q, q < m → read[q]? = sent[q]?) (hs : sent[m]? = some b) (hr : read[m]? = some (!b)) :
    firstDifference (sent.take n) read = some m :=
  firstDifference_some (fun q hq => (h q hq).trans (List.getElem?_take_of_lt (by omega)).symm)
    ((List.getElem?_take_of_lt hm).trans hs) hr

/-- A sender that reads back the first bits of a line as it sent them (R133). -/
theorem firstDifference_take_none {sent read : List Bool} {n : Nat} (h : ∀ q, q < n → read[q]? = sent[q]?) :
    firstDifference (sent.take n) read = none := by
  refine firstDifference_none fun q hq => ?_
  have hn : q < n := by simp at hq; omega
  exact (h q hn).trans (List.getElem?_take_of_lt hn).symm

/-- The reject slot stands behind the arbitration field (R129). -/
theorem arbitration_before_rejectSlot (f : Frame) : 7 < f.rejectSlot := by
  unfold Frame.rejectSlot
  omega

/-- A sender drives its dominant bits up to the one at which it loses arbitration (R133). -/
theorem Frame.holds_lost {f : Frame} {read : List Bool} {m : Nat} (h : f.lostAt read = some m) (p : Nat) :
    f.holds read p = true ↔ p ≤ m ∧ f.line[p]? = some false := by
  simp [Frame.holds, h]

/-- From the bit behind a mismatch on a sender drives every bit through its reject slot and two end bits (R133). -/
theorem Frame.holds_mismatch {f : Frame} {read : List Bool} {m : Nat} (hl : f.lostAt read = none)
    (hd : f.differsAt read = some m) (p : Nat) :
    f.holds read p = true ↔ (p ≤ m ∧ f.line[p]? = some false) ∨ (m < p ∧ p ≤ f.rejectSlot + 2) := by
  unfold Frame.holds
  rw [hl, hd]
  dsimp only
  split
  · rename_i hp
    simp [hp, Nat.not_lt.2 hp]
  · rename_i hp
    simp [hp, Nat.lt_of_not_le hp]

/-- A sender that reads back every bit as sent drives its dominant bits (R133). -/
theorem Frame.holds_undisturbed {f : Frame} {read : List Bool} (hl : f.lostAt read = none)
    (hd : f.differsAt read = none) (p : Nat) : f.holds read p = true ↔ f.line[p]? = some false := by
  simp [Frame.holds, hl, hd]

/-! ### The end of an attempt without delivery (R137, R138) -/

/-- With no mark and no newer frame the frame returns to the queued place (R137). -/
theorem returnFrame_queued {k : FrameKind} {r : Ready} {s : State} (n : Nat) (hs : (s.slot k).sending = some r)
    (hm : (s.slot k).purgeMark = false) (hq : (s.slot k).queued = none) :
    returnFrame k n s =
      s.withSlot k { queued := some (.ready r), sending := none, rejections := n, purgeMark := false } := by
  simp [returnFrame, hs, hm, hq]

/-- With a mark or a newer frame it is dropped, and its owner told (R137, R138). -/
theorem returnFrame_dropped {k : FrameKind} {r : Ready} {s : State} (n : Nat) (hs : (s.slot k).sending = some r)
    (h : (s.slot k).purgeMark = true ∨ (s.slot k).queued.isSome = true) :
    returnFrame k n s = requeueForced (isForcedPropose r.frame) (reportPurged r
      (s.withSlot k { queued := (s.slot k).queued, sending := none, rejections := 0, purgeMark := false })) := by
  simp only [returnFrame, hs, Bool.or_eq_true]
  rw [if_pos h]

theorem requeueForced_sending (took : Bool) (k : FrameKind) (s : State) :
    ((requeueForced took s).slot k).sending = (s.slot k).sending := by
  unfold requeueForced fillForcedPropose
  split
  · exact fillFrame_sending ..
  · rfl

/-- Either way the sending place empties (R137). -/
theorem returnFrame_sending (k : FrameKind) (n : Nat) (s : State) : ((returnFrame k n s).slot k).sending = none := by
  unfold returnFrame
  dsimp only
  split
  · assumption
  · split
    · simp [requeueForced_sending]
    · simp

theorem testPropose_sending (k : FrameKind) (s : State) : ((testPropose s).slot k).sending = (s.slot k).sending := by
  unfold testPropose
  split
  · split
    · exact fillFrame_sending ..
    · rfl
  · rfl

theorem afterReturn_sending (k j : FrameKind) (s : State) :
    ((afterReturn k s).slot j).sending = (s.slot j).sending := by
  cases k
  case wake => exact testAnnounce_sending j s
  case propose => exact testPropose_sending j s
  all_goals rfl

/-- What the owner tests fills the slot of its own kind alone (R22, R124). -/
theorem afterReturn_slot_ne {j k : FrameKind} (h : j ≠ k) (s : State) : (afterReturn k s).slot j = s.slot j := by
  cases k
  case wake => exact testAnnounce_slot_ne s h
  case propose => exact testPropose_slot_ne s h
  all_goals rfl

/-- The owners of the other kinds test nothing (R22, R124). -/
theorem afterReturn_other {k : FrameKind} (hp : k ≠ .propose) (hw : k ≠ .wake) (s : State) : afterReturn k s = s := by
  cases k
  case wake => exact absurd rfl hw
  case propose => exact absurd rfl hp
  all_goals rfl

/-- While an input is announced no other is (R122). -/
theorem testAnnounce_marked {s : State} (h : s.wake.mark.isSome = true) : testAnnounce s = s := by
  refine if_neg fun hm => ?_
  rw [((mayAnnounce_iff s).1 hm).2] at h
  exact absurd h (by decide)

/-- The arbitration field that goes on (R133). -/
theorem loseArbitration_sending {s : State} {k : FrameKind} (h : s.sendingKind = some k) (winner : BitVec 6) :
    loseArbitration winner s = if losesTo (s.sendingValue k) winner then
      afterReturn k (returnFrame k (s.slot k).rejections s) else s := by
  rw [loseArbitration, h]

end Sys2Proof.Machine
end

section
/-! PROOF. A lost arbitration, and what its sender drives on SLK (O10). -/

namespace Sys2Proof.Machine

open Sys2Proof

/-- A lost arbitration touches the slots, the announcing mark and the latch alone (R133). -/
theorem lostArbitration_frame (winner : BitVec 6) (s : State) : loseArbitration winner s = { s with
    link := { s.link with slots := (loseArbitration winner s).link.slots }
    wake := { s.wake with mark := (loseArbitration winner s).wake.mark }
    request := { s.request with latch := (loseArbitration winner s).request.latch } } := by
  simp [State.eq_iff_fields]

/-- Settles O10: the frame returns by `returnFrame_queued`, and the sender's bits follow `firstDifference`. -/
theorem losingFrameIsQueuedAgain : Obligations.LosingFrameIsQueuedAgain := by
  refine ⟨fun own winner => losesTo_iff winner, fun winner s k r hk hs => ⟨fun hl => ?_, fun hl => ?_⟩,
    fun f read m p b hq hm hr => ⟨fun h7 => ?_, fun h7 hrs => ?_⟩, fun f read p hq => ?_, fun winner s hk => ?_⟩
  · have he := loseArbitration_sending hk winner
    rw [if_pos hl] at he
    refine ⟨loseArbitration winner s, rfl, ?_, fun hm hq => ?_, lostArbitration_frame winner s⟩
    · rw [he, afterReturn_sending, returnFrame_sending]
    · rw [he, returnFrame_queued _ hs hm hq]
      refine ⟨fun j hj => (afterReturn_slot_ne hj _).trans (slot_withSlot_ne s hj _), _, rfl, ?_, ?_, ?_⟩
      · rintro rfl
        exact ⟨rfl, fun h => testPropose_queued h⟩
      · rintro rfl
        exact ⟨rfl, fun h => testAnnounce_marked h⟩
      · exact fun hp hw => afterReturn_other hp hw _
  · exact congrArg Host.Outcome.next ((loseArbitration_sending hk winner).trans (if_neg (by simp [hl])))
  · exact Frame.holds_lost (firstDifference_take_some h7 hq hm hr) p
  · exact Frame.holds_mismatch (firstDifference_take_none fun q h => hq q (by omega))
      (firstDifference_take_some hrs hq hm hr) p
  · have h7 := arbitration_before_rejectSlot f
    exact Frame.holds_undisturbed (firstDifference_take_none fun q h => hq q (by omega))
      (firstDifference_take_none hq) p
  · change Host.Outcome.next (loseArbitration winner s) = _
    rw [loseArbitration, hk]

end Sys2Proof.Machine
end

section
/-! PROOF. A rejected frame: sent again, dropped, discarded, or the eighth of a row (O11). -/

namespace Sys2Proof.Machine

open Sys2Proof

/-! ### The station's own finding (R134) -/

theorem judgeReception_slot (rx : Reception) (k : FrameKind) (s : State) : (judgeReception rx s).slot k = s.slot k := by
  unfold judgeReception
  split <;> rfl

theorem judgeReception_sendingKind (rx : Reception) (s : State) : (judgeReception rx s).sendingKind = s.sendingKind := by
  simp [State.sendingKind, judgeReception_slot]

/-- A station that finds a frame in error raises its count of receive errors, up to 65535, and nothing else (R134). -/
theorem judgeReception_counts (rx : Reception) (s : State) : judgeReception rx s = { s with link := { s.link with
    receiveErrors := if rx.inError s.system.linkRate then min (s.link.receiveErrors + 1) 65535
      else s.link.receiveErrors } } := by
  unfold judgeReception
  split
  · simp [countReceiveError, satInc]
  · rfl

theorem rejectFrame_sending {s : State} {k : FrameKind} (ho : s.onLink = true) (hk : s.sendingKind = some k)
    (rx : Reception) : rejectFrame rx s = rejectSending k (judgeReception rx s) := by
  simp [rejectFrame, ho, judgeReception_sendingKind, hk]

/-- Below the eighth rejection the attempt ends as one that lost arbitration, with the count one higher (R135). -/
theorem rejectFrame_below {s : State} {k : FrameKind} (ho : s.onLink = true) (hk : s.sendingKind = some k)
    (hr : (s.slot k).rejections < 7) (rx : Reception) :
    rejectFrame rx s = afterReturn k (returnFrame k ((s.slot k).rejections + 1) (judgeReception rx s)) := by
  rw [rejectFrame_sending ho hk]
  unfold rejectSending
  rw [judgeReception_slot]
  exact if_neg (by omega)

/-- The eighth rejection of a row is LINK_FAULT, whatever mark the frame carries (R135, log 55). -/
theorem rejectFrame_eighth {s : State} {k : FrameKind} (ho : s.onLink = true) (hk : s.sendingKind = some k)
    (hr : 7 ≤ (s.slot k).rejections) (rx : Reception) : rejectFrame rx s = linkFault (judgeReception rx s) := by
  rw [rejectFrame_sending ho hk]
  unfold rejectSending
  rw [judgeReception_slot]
  exact if_pos (by omega)

/-! ### A dropped frame (R22, R26, R124, R137) -/

/-- The owners of the other kinds are told nothing (R138). -/
theorem reportPurged_other {r : Ready} (hp : r.frame.body.kind ≠ .propose) (hw : r.frame.body.kind ≠ .wake)
    (s : State) : reportPurged r s = s := by
  unfold reportPurged
  cases hb : r.frame.body
  case wake => exact absurd (congrArg Body.kind hb) hw
  case propose => exact absurd (congrArg Body.kind hb) hp
  all_goals rfl

/-- The owner of a WAKE clears the announcing mark (R124). -/
theorem reportPurged_wake {r : Ready} (h : r.frame.body.kind = .wake) (s : State) : reportPurged r s = clearMark s := by
  unfold reportPurged
  cases hb : r.frame.body
  case wake => rfl
  all_goals exact absurd (h.symm.trans (congrArg Body.kind hb)) (by simp [Body.kind])

/-- The owner of a PROPOSE makes the latch wait where the frame was made for the latched request (R22). -/
theorem reportPurged_unforced {r : Ready} {kd : Kind} {img : Bool} (h : r.frame.body = .propose kd false img) (s : State) :
    reportPurged r s = if kd = .demote ∨ r.forReplaced = true then s else latchWaits s := by
  simp [reportPurged, h]

theorem isForcedPropose_other {f : Frame} (h : f.body.kind ≠ .propose) : isForcedPropose f = false := by
  unfold isForcedPropose
  cases hb : f.body
  case propose => exact absurd (congrArg Body.kind hb) h
  all_goals rfl

theorem latchWaits_eq (s : State) : latchWaits s =
    { s with request := { s.request with latch := s.request.latch.map fun l => { l with queued := false } } } := by
  unfold latchWaits
  cases h : s.request.latch with
  | none => simp [State.eq_iff_fields, h]
  | some l => rfl

theorem requeueForced_false (s : State) : requeueForced false s = s := rfl

/-- What a beaten or rejected sender does with a frame that does not return: the slot empties but for a newer frame, the
owner is told, and a forced PROPOSE is weighed again (R137). -/
theorem dropped_returns {c : Instr} {winner : BitVec 6} {rx : Reception} {s s₀ : State} {k : FrameKind} {r : Ready}
    (ho : s.onLink = true) (hk : s.sendingKind = some k) (hs : (s.slot k).sending = some r)
    (hc : (c = .lostArbitration winner ∧ losesTo (s.sendingValue k) winner = true ∧ s₀ = s) ∨
      (c = .frameRejected rx ∧ (s.slot k).rejections < 7 ∧ s₀ = judgeReception rx s))
    (hd : (s.slot k).purgeMark = true ∨ (s.slot k).queued.isSome = true) :
    exec c s = .next (afterReturn k (requeueForced (isForcedPropose r.frame) (reportPurged r (s₀.withSlot k
      { queued := (s.slot k).queued, sending := none, rejections := 0, purgeMark := false })))) := by
  rcases hc with ⟨rfl, hl, rfl⟩ | ⟨rfl, hr, rfl⟩
  · refine congrArg Host.Outcome.next ?_
    rw [loseArbitration_sending hk, if_pos hl, returnFrame_dropped _ hs hd]
  · refine congrArg Host.Outcome.next ?_
    rw [rejectFrame_below ho hk hr, returnFrame_dropped (r := r) _ (by rw [judgeReception_slot, hs])
      (by rw [judgeReception_slot]; exact hd), judgeReception_slot]

/-- A forced PROPOSE stands queued again while a vote or a plan before commit is under way, and the test of R21 leaves it
there (R26). -/
theorem requeueForced_requeues {s : State} (hv : s.votingOrStaging = true) (hq : (s.slot .propose).queued = none) :
    (testPropose (requeueForced true s)).hasQueued .propose s.nextNumber (.propose .enterOff true false) := by
  obtain ⟨-, -, -, h, -, -, -⟩ := requeueForced_slots true s
  have hp : (requeueForced true s).agreement.phase ≠ .settled := by
    intro h
    rw [show (requeueForced true s).agreement = s.agreement by simp] at h
    simp [State.votingOrStaging, h] at hv
  rw [testPropose_unsettled hp]
  exact h rfl hv hq

/-- No forced PROPOSE is queued again where a long press no longer applies or a newer frame waits (R26). -/
theorem requeueForced_stands {s : State} (h : s.votingOrStaging = false ∨ (s.slot .propose).queued.isSome = true) :
    requeueForced true s = s := by
  refine if_neg ?_
  rcases h with h | h
  · simp [State.longPressApplies, h]
  · simp [Option.isSome_iff_ne_none.1 h]

/-! ### The eighth rejection (R135, R139) -/

/-- The transaction that an entry to MUTE closes latches the losses that its descent deferred (R9, R103). -/
theorem muteTransaction_grows (s : State) : FaultsGrow s (muteTransaction s) := by
  unfold muteTransaction
  split
  · rw [closeSuperseded_eq]
    generalize hu : purgeTransaction (supersededVote isExecutor .mute s).openNumber
      (supersededVote isExecutor .mute s) = u
    have hf : u.faults = s.faults := by rw [← hu]; simp [supersededVote]
    obtain ⟨-, -, -, hg, -⟩ := judgeDeferred_owners false u
    exact (FaultsGrow.of_eq (by rw [hf]) (by rw [hf])).trans (hg.trans (.of_eq (by simp) (by simp)))
  · exact .refl s

theorem enterMute_grows (c : MuteCause) (s : State) : FaultsGrow s (enterMute c s) := by
  have hf : (enterMute c s).faults = (muteTransaction (muteMonitoring s)).faults := by simp [enterMute]
  exact (FaultsGrow.of_eq (by simp) (by simp)).trans ((muteTransaction_grows (muteMonitoring s)).trans
    (.of_eq (by rw [hf]) (by rw [hf])))

/-- LINK_FAULT leaves the station MUTE with every slot empty, and the condition latched before any other (R135, R139). -/
theorem linkFault_mutes (s : State) : (linkFault s).agreement.phase = .mute ∧
    (linkFault s).presence.muteCause = .linkFault ∧ (∀ j, (linkFault s).slot j = Slot.blank) ∧
    LatchedFirst s (linkFault s) .linkFault noTarget .severe := by
  have hl := (latchFault_latched .linkFault noTarget .severe s).first
  unfold linkFault
  dsimp only
  generalize latchFault .linkFault noTarget .severe s = u at hl
  split
  · rename_i hp
    refine ⟨by simpa [muteLinkFault] using hp, by simp [muteLinkFault], emptySlots_slot _,
      hl.of_grow (.of_eq (by simp [muteLinkFault]) (by simp [muteLinkFault]))⟩
  · have hm := enterMute_mutes .linkFault u
    exact ⟨hm.phase, hm.cause, hm.slots, hl.of_grow (enterMute_grows .linkFault u)⟩

/-! ### The obligation -/

/-- Settles O11: a frame returns by `returnFrame_queued`, is dropped by `dropped_returns`, and the eighth rejection is
`linkFault_mutes`. -/
theorem rejectedFrameIsSentAgain : Obligations.RejectedFrameIsSentAgain := by
  refine ⟨fun rx s s' k r ho hk hs hm hq hr hs' => ?_, fun c winner rx s s₀ s' k r ho hk hs hb hc hd hs' => ?_,
    fun rx s k ho hk => ?_, fun c rx s ho hk hc => ?_, fun c rx s ho hc => ?_, fun rx s k ho hk hr => ?_⟩
  · have he : exec (.frameRejected rx) s = .next (afterReturn k s') := by
      refine congrArg Host.Outcome.next ?_
      rw [rejectFrame_below ho hk hr, returnFrame_queued (r := r) _ (by rw [judgeReception_slot, hs])
        (by rw [judgeReception_slot, hm]) (by rw [judgeReception_slot, hq]), hs']
    have hsr : s'.request = s.request := by simp [hs']
    have hsw : s'.wake = s.wake := by simp [hs']
    rw [he]
    refine ⟨fun hp hw => by rw [afterReturn_other hp hw], ?_, ?_⟩
    · rintro rfl
      exact ⟨rfl, fun h => congrArg Host.Outcome.next (testPropose_queued (by rwa [hsr]))⟩
    · rintro rfl
      exact ⟨rfl, fun h => congrArg Host.Outcome.next (testAnnounce_marked (by rwa [hsw]))⟩
  · have he := dropped_returns ho hk hs hc hd
    rw [← hs'] at he
    have hs₀ : s₀.request = s.request ∧ s₀.agreement = s.agreement := by
      rcases hc with ⟨-, -, rfl⟩ | ⟨-, -, rfl⟩ <;> simp
    have hsr : s'.request = s.request := by simp [hs', hs₀]
    have hsa : s'.agreement = s.agreement := by simp [hs', hs₀]
    have hsq : (s'.slot k).queued = (s.slot k).queued := by simp [hs']
    rw [he]
    refine ⟨fun hp hw => ?_, ?_, fun kd img hf => ?_, fun kd img hf => ?_⟩
    · rw [afterReturn_other hp hw, isForcedPropose_other (by rwa [hb]), requeueForced_false,
        reportPurged_other (by rwa [hb]) (by rwa [hb])]
    · rintro rfl
      rw [isForcedPropose_other (by rw [hb]; decide), requeueForced_false, reportPurged_wake hb]
      rfl
    · obtain rfl : k = .propose := by rw [← hb, hf]; rfl
      have hfp : isForcedPropose r.frame = false := by simp [isForcedPropose, hf]
      rw [hfp, requeueForced_false, reportPurged_unforced hf]
      refine ⟨fun h => by rw [if_pos h]; rfl, fun hkd hrp => ?_⟩
      rw [if_neg (by simp [hkd, hrp]), latchWaits_eq, hsr]
      rfl
    · obtain rfl : k = .propose := by rw [← hb, hf]; rfl
      have hfp : isForcedPropose r.frame = true := by simp [isForcedPropose, hf]
      have hrp : reportPurged r s' = s' := by simp [reportPurged, hf]
      have hv : s'.votingOrStaging = s.votingOrStaging := by simp [State.votingOrStaging, hsa]
      rw [hfp, hrp]
      refine ⟨fun h => ?_, fun h hq => ⟨_, rfl, ?_⟩⟩
      · rw [requeueForced_stands (by rwa [hv, hsq])]
        rfl
      · have hn : s'.nextNumber = s.nextNumber := by rw [State.nextNumber, hsa, State.nextNumber]
        rw [← hn]
        exact requeueForced_requeues (by rwa [hv]) (by rwa [hsq])
  · refine congrArg Host.Outcome.next ?_
    simp [discardAlone, ho, judgeReception_sendingKind, hk, clearSending, judgeReception_slot]
  · rw [← judgeReception_counts]
    rcases hc with rfl | rfl
    · refine congrArg Host.Outcome.next ?_
      simp [rejectFrame, ho, judgeReception_sendingKind, hk]
    · refine congrArg Host.Outcome.next ?_
      simp [discardAlone, ho, judgeReception_sendingKind, hk]
  · rcases hc with rfl | rfl <;> refine congrArg Host.Outcome.next ?_
    · simp [rejectFrame, ho]
    · simp [discardAlone, ho]
  · obtain ⟨hp, hm, hb, hl⟩ := linkFault_mutes (judgeReception rx s)
    have hj : (judgeReception rx s).faults = s.faults := by simp
    refine ⟨_, congrArg Host.Outcome.next (rejectFrame_eighth ho hk hr rx), hp, hm, hb, ?_, fun other => by simp [State.rejects, hp]⟩
    simpa only [LatchedFirst, hj] using hl

end Sys2Proof.Machine
end

section
/-! PROOF. The button: its raw input, its debounced presses and releases, and the long press (O52). -/

namespace Sys2Proof.Machine

open Sys2Proof

/-! ### The raw input (R117) -/

/-- A wake input reads the level that its pin was just given (R112). -/
theorem setWakePin_wakeActive (i : Fin 8) (l : Level) (s : State) :
    (setWakePin i l s).wakeActive i = (l == (s.wakeDef i).activeLevel) := by
  unfold State.wakeActive setWakePin
  rw [tabGet_tabSet_same]
  rfl

/-! ### Qualification (R119) -/

/-- A qualified input has an entry (R119). -/
theorem queueAfter_holds (i : Fin 8) (now : Time) (q : List WakeEntry) : ∃ e ∈ queueAfter i now q, e.input = i := by
  unfold queueAfter
  split
  · rename_i h
    obtain ⟨e, he, hi⟩ := List.any_eq_true.1 h
    refine ⟨_, List.mem_map.2 ⟨e, he, rfl⟩, ?_⟩
    rw [if_pos hi]
    exact beq_iff_eq.1 hi
  · exact ⟨_, List.mem_append_right _ (List.mem_singleton.2 rfl), rfl⟩

theorem qualify_queue (i : Fin 8) (s : State) : (qualify i s).wake.queue = queueAfter i s.time s.wake.queue := by
  unfold qualify
  dsimp only
  split
  · simp
  · split <;> simp

/-! ### Debounced presses and releases (R25, R117) -/

/-- A debounced press: the long-press counter starts, and the input qualifies where the station is asleep (R117). -/
theorem buttonPressed_presses (i : Fin 8) (s : State) :
    (buttonPressed i s).wake.pressed = true ∧ (buttonPressed i s).wake.longPress = some (s.wakeDef i).longPress ∧
    (asleep s.agreement.believed = true → ∃ e ∈ (buttonPressed i s).wake.queue, e.input = i) ∧
    (asleep s.agreement.believed = false → (buttonPressed i s).wake.queue = s.wake.queue) := by
  cases ha : asleep s.agreement.believed
  · simp only [buttonPressed, State.withWake_agreement, ha, Bool.false_eq_true, if_false]
    exact ⟨rfl, rfl, fun h => absurd h (by decide), fun _ => rfl⟩
  · have hd : (qualify i (s.withWake { s.wake with pressed := true })).wakeDef i = s.wakeDef i := by
      simp [State.wakeDef, State.station]
    have hq := qualify_queue i (s.withWake { s.wake with pressed := true })
    simp only [buttonPressed, State.withWake_agreement, ha, if_true, hd]
    refine ⟨by simp, rfl, fun _ => ?_, fun h => absurd h (by decide)⟩
    rw [State.withWake_wake, hq]
    exact queueAfter_holds i s.time s.wake.queue

/-- A short press in SETTLED RUN latches what the station section gives (R25). -/
theorem shortPress_takes {k : Kind} {s : State} (hp : s.agreement.phase = .settled)
    (hb : s.agreement.believed = some .run)
    (hk : (s.station.shortPress = .enterRest ∧ k = .enterRest) ∨ (s.station.shortPress = .enterOff ∧ k = .enterOff)) :
    shortPress s = takeRequest ⟨k, false, .button⟩ s := by
  unfold shortPress
  rw [if_pos (by simp [hp, hb])]
  rcases hk with ⟨h, rfl⟩ | ⟨h, rfl⟩ <;> rw [h]

/-- Elsewhere a short press latches nothing (R25). -/
theorem shortPress_ignored {s : State} (h : s.agreement.phase ≠ .settled ∨ s.agreement.believed ≠ some .run ∨
    s.station.shortPress = .nothing) : shortPress s = s := by
  unfold shortPress
  split
  · rename_i hc
    simp only [Bool.and_eq_true, beq_iff_eq] at hc
    rw [(h.resolve_left (not_not.2 hc.1)).resolve_left (not_not.2 hc.2)]
  · rfl

/-- The station after a debounced release, before its short press is judged (R117). -/
def buttonUp (s : State) : State := s.withWake { s.wake with pressed := false, longPress := none }

theorem buttonReleased_short {s : State} (h : s.wake.longPress.isSome = true) :
    buttonReleased s = shortPress (buttonUp s) := by
  simp [buttonReleased, buttonUp, h]

theorem buttonReleased_long {s : State} (h : s.wake.longPress = none) : buttonReleased s = buttonUp s := by
  simp [buttonReleased, buttonUp, h]

theorem buttonReleased_releases (s : State) :
    (buttonReleased s).wake.pressed = false ∧ (buttonReleased s).wake.longPress = none := by
  unfold buttonReleased
  dsimp only
  split <;> simp

/-- A release that is no short press latches nothing (R25). -/
theorem buttonReleased_ignored {s : State} (h : s.wake.longPress = none ∨ s.agreement.phase ≠ .settled ∨
    s.agreement.believed ≠ some .run ∨ s.station.shortPress = .nothing) : buttonReleased s = buttonUp s := by
  rcases hl : s.wake.longPress with _ | n
  · exact buttonReleased_long hl
  · rw [buttonReleased_short (by simp [hl])]
    exact shortPress_ignored (s := buttonUp s) (h.resolve_left (by simp [hl]))

/-- The station whose debounce counter has just ended (R117). -/
def debounced (s : State) : State := s.withWake { s.wake with debounce := none }

theorem debounceEnd_judges {s : State} {i : Fin 8} (hd : s.wake.debounce.isSome = true) (hb : s.buttonInput = some i) :
    exec .debounceEnd s = .next (if s.wakeActive i then buttonPressed i (debounced s) else buttonReleased (debounced s)) := by
  refine (congrArg Host.Outcome.next (if_pos hd)).trans (congrArg Host.Outcome.next ?_)
  dsimp only
  rw [show (s.withWake { s.wake with debounce := none }).buttonInput = some i from hb]
  rfl

/-! ### The long press (R26) -/

theorem longPressReported_iff (s : State) : s.longPressReported = true ↔
    (s.agreement.phase = .settled ∧ s.agreement.believed = some .run) ∨ s.agreement.phase = .voting ∨
      s.agreement.phase = .staging := by
  simp [State.longPressReported, State.votingOrStaging]

/-- The end of the long-press counter (R26). -/
theorem longPressEnd_reports {s : State} (h : s.wake.longPress.isSome = true) :
    exec .longPressEnd s = .next (if s.wake.pressed && s.longPressReported then
      fillForcedPropose (s.withWake { s.wake with longPress := none })
      else s.withWake { s.wake with longPress := none }) :=
  congrArg Host.Outcome.next (if_pos h)

/-! ### The obligation -/

/-- Settles O52: a press is `buttonPressed_presses`, a short press `shortPress_takes`, and a long press fills a forced
PROPOSE. -/
theorem buttonEvents : Obligations.ButtonEvents := by
  refine ⟨fun i l s hk hr => ?_, fun i l s h => ?_, fun i s hd hb => ?_, fun s hl => ⟨fun hp hs => ?_, fun h => ?_⟩⟩
  · have hc : ((s.wakeDef i).kind = .button && s.readsButton) = true := by simp [hk, hr]
    refine congrArg Host.Outcome.next ((if_pos hc).trans ?_)
    rw [setWakePin_wakeActive, debounceAfter]
    simp only [beq_iff_eq]
    rfl
  · refine congrArg Host.Outcome.next (if_neg (c := ((s.wakeDef i).kind = .button && s.readsButton) = true) ?_)
    rcases h with h | h <;> simp [h]
  · have he := debounceEnd_judges hd hb
    cases ha : s.wakeActive i
    · rw [ha] at he
      obtain ⟨hp, hn⟩ := buttonReleased_releases (debounced s)
      refine ⟨_, he, by simp [debounced], hp, fun h => absurd h (by decide), fun _ => ⟨hn, by simp [debounced], ?_, ?_⟩,
        by simp [debounced], by simp [debounced]⟩
      · intro k hlp hph hbe hsp
        rw [if_neg (by decide), buttonReleased_short (s := debounced s) hlp,
          shortPress_takes (s := buttonUp (debounced s)) hph hbe hsp]
        obtain ⟨⟨q, hq⟩, hh, hn, -⟩ := takeRequest_latches ⟨k, false, .button⟩ (buttonUp (debounced s))
        exact ⟨q, hq, hh, hn⟩
      · intro h
        rw [if_neg (by decide), buttonReleased_ignored (s := debounced s) h]
        exact ⟨rfl, rfl⟩
    · rw [ha] at he
      obtain ⟨hp, hn, hq, hk⟩ := buttonPressed_presses i (debounced s)
      exact ⟨_, he, by simp [debounced], hp, fun _ => ⟨hn, hq, hk⟩, fun h => absurd h (by decide), by simp [debounced],
        by simp [debounced]⟩
  · have ht : s.agreement.phase ≠ .mute := by
      rcases hs with ⟨h, -⟩ | h | h <;> simp [h]
    refine ⟨_, longPressEnd_reports hl, ?_, ?_, ?_⟩
    all_goals rw [hp, (longPressReported_iff s).2 hs, if_pos (by decide)]
    · exact fillFrame_hasQueued (body := .propose .enterOff true false)
        (takesFill_of_phase (s := s.withWake { s.wake with longPress := none }) ht _) _
    · simp
    · simp
  · rw [longPressEnd_reports hl, if_neg]
    · rfl
    · rcases h with h | h <;> simp [h]

end Sys2Proof.Machine
end

section
/-! SUPPORT. A SEVERE condition met with no FAULT queued, a halted executor, and an action that fails (R45, R51, R91, R98,
R101). -/

namespace Sys2Proof.Machine

open Sys2Proof

/-! ### A condition met with no FAULT queued (R98, R101) -/

/-- In MUTE no condition requests a FAULT (R98). -/
theorem requestsFault_ne_mute {s : State} (h : s.agreement.phase.requestsFault = true) : s.agreement.phase ≠ .mute := by
  intro hm
  rw [hm] at h
  exact absurd h (by decide)

/-- Latching writes the fault lists alone (R99). -/
theorem latchFault_writes (code : FaultCode) (target : Target) (sev : Severity) (s : State) :
    latchFault code target sev s = { s with faults := (latchFault code target sev s).faults } := by
  unfold latchFault
  split
  · rfl
  · split <;> rfl

/-- With no FAULT queued a SEVERE condition queues its own, and writes the link and the fault lists alone (R98, R101). -/
theorem raiseFault_queues (code : FaultCode) (target : Target) {s : State} (h : s.agreement.phase.requestsFault = true)
    (hq : (s.slot .fault).queued = none) :
    (raiseFault code target .severe s).hasQueued .fault s.nextNumber (.fault code target) ∧
    raiseFault code target .severe s = { s with
      link := (raiseFault code target .severe s).link, faults := (raiseFault code target .severe s).faults } := by
  have hw := latchFault_writes code target .severe s
  have hr : raiseFault code target .severe s = requestFault code target (latchFault code target .severe s) := by
    simp [raiseFault, disposeFault, h]
  rw [hr]
  generalize (latchFault code target .severe s) = u at hw ⊢
  have hq' : (u.slot .fault).queued = none := by rw [hw]; exact hq
  have ht : u.takesFill .fault = true := takesFill_of_phase (by rw [hw]; exact requestsFault_ne_mute h) _
  have hn : u.nextNumber = s.nextNumber := by rw [hw]; rfl
  have he : requestFault code target u = fillFrame s.nextNumber (.fault code target) u := by
    simp [requestFault, hq', passesFault, hn]
  rw [he]
  refine ⟨fillFrame_hasQueued (body := .fault code target) ht s.nextNumber, ?_⟩
  obtain ⟨l, hl⟩ : ∃ l, fillFrame s.nextNumber (.fault code target) u = { u with link := l } :=
    ⟨_, fillFrame_free (body := .fault code target) s.nextNumber ht hq'⟩
  rw [hl]
  exact congrArg (fun x : State => { x with link := l }) hw

/-! ### A halted executor (R45) -/

theorem execRun_halted {s : State} (h : s.executor.halted = true) : execRun s = s := by
  have he : execStep s = (s, false) := by rw [execStep, if_pos (by simp [h])]
  rw [execRun_stops (by rw [he]), he]

/-- Outside a forced transaction an action, or an undo, that fails halts the executor (R51, R91). -/
theorem execComplete_failed {s : State} (hr : s.executor.running.isSome = true) (hf : s.forced = false) :
    execComplete .failed s = s.withExecutor { s.executor with running := none, halted := true } := by
  have hc : completeRunning .failed s = s.withExecutor { s.executor with running := none, halted := true } := by
    obtain ⟨r, hr⟩ := Option.isSome_iff_exists.1 hr
    unfold completeRunning
    rw [hr]
    cases r with
    | forward stage a => exact if_neg (by simpa [State.forced] using hf)
    | undo u => rfl
  rw [execComplete, if_pos hr, hc, execRun_halted rfl]

end Sys2Proof.Machine
end

section
/-! PROOF. The barriers and waits of the executor that run out (O35). -/

namespace Sys2Proof.Machine

open Sys2Proof

/-- With no ABORT queued an ABORT asked for outside MUTE is queued, and only the link changes (R80). -/
theorem requestAbort_queues (n : TxnNumber) (reason : AbortReason) {s : State} (hp : s.agreement.phase ≠ .mute)
    (hq : (s.slot .abort).queued = none) :
    (requestAbort n reason s).hasQueued .abort n (.abort reason) ∧
    requestAbort n reason s = { s with link := (requestAbort n reason s).link } := by
  have ht : s.takesFill .abort = true := takesFill_of_phase hp _
  have he : requestAbort n reason s = fillFrame n (.abort reason) s := by
    simp [requestAbort, hq, passesAbort]
  have hf := fillFrame_free (body := .abort reason) n ht hq
  rw [he]
  exact ⟨fillFrame_hasQueued (body := .abort reason) ht _, by rw [hf]; rfl⟩

/-- A stall in a phase that requests a FAULT: STALL is latched, its FAULT queued, and the executor halts (R48, R98). -/
theorem stall_stalls {s : State} (h : s.agreement.phase.requestsFault = true) (hq : (s.slot .fault).queued = none) :
    Latched s (stall s) .stall noTarget .severe ∧ (stall s).hasQueued .fault s.nextNumber (.fault .stall noTarget) ∧
    stall s = { s with
      executor := { s.executor with halted := true }, link := (stall s).link, faults := (stall s).faults } := by
  obtain ⟨hf, he⟩ := raiseFault_queues .stall noTarget h hq
  refine ⟨raiseFault_latched .stall noTarget .severe s, hf, ?_⟩
  exact congrArg (fun t : State => t.withExecutor { t.executor with halted := true }) he

/-- The barrier of a stage waited for, or the completion wait, runs out in a non-forced transaction (R48, R59). -/
theorem barrier_runsOut {c : Instr} {s : State} (hp : s.agreement.phase = .staging) (hf : s.forced = false)
    (hc : (c = .barrierTimerExpiry ∧ s.barrierIn .stage = true ∧ s.executor.sub = .waiting ∧
        ∃ k, s.executor.cursor = some k ∧ k ≤ s.lastStage s.kind) ∨
      (c = .completionWaitExpiry ∧ s.barrierIn .completion = true)) :
    exec c s = .next (expireNonForced (barrierStopped s)) := by
  rcases hc with ⟨rfl, hb, hs, k, hk, hl⟩ | ⟨rfl, hb⟩
  · have hw := waitsForStage_eq (by simp [State.forwardWork, hp]) hs hk hl
    have he : expireStage k s = expireNonForced (barrierStopped s) := if_neg (by simpa [State.forced] using hf)
    show execBarrierTimerExpiry s = _
    rw [execBarrierTimerExpiry, if_pos hb, hw]
    exact congrArg _ he
  · exact congrArg Host.Outcome.next (if_pos hb)

/-- Settles O35: before commit by `requestAbort_queues`, after it and in UNWINDING by `stall_stalls`, each on the state with
the barrier timer stopped. -/
theorem barrierExpiryAbortsOrStalls : Obligations.BarrierExpiryAbortsOrStalls := by
  refine ⟨fun c s hp hf hc => ⟨fun hn hq => ?_, fun hy hq => ?_⟩, fun s hb hp hq => ?_⟩
  · have he : expireNonForced (barrierStopped s) = requestAbort s.openNumber .timeout (barrierStopped s) :=
      if_neg (by simpa [State.committed] using hn)
    obtain ⟨ha, hw⟩ := requestAbort_queues s.openNumber .timeout (s := barrierStopped s) (by simp [hp]) hq
    exact ⟨_, (barrier_runsOut hp hf hc).trans (congrArg _ he), ha, hw⟩
  · have he : expireNonForced (barrierStopped s) = stall (barrierStopped s) :=
      if_pos (by simpa [State.committed] using hy)
    obtain ⟨hl, hf', hw⟩ := stall_stalls (s := barrierStopped s) (by simp [hp, Phase.requestsFault, Phase.takesPart]) hq
    exact ⟨_, (barrier_runsOut hp hf hc).trans (congrArg _ he), hl, hf', hw⟩
  · obtain ⟨hl, hf', hw⟩ := stall_stalls (s := barrierStopped s) (by simp [hp, Phase.requestsFault, Phase.takesPart]) hq
    exact ⟨_, congrArg Host.Outcome.next (if_pos hb), hl, hf', hw⟩

end Sys2Proof.Machine
end

section
/-! PROOF. A rail whose window runs out, or that bounces too often, fails (O43). -/

namespace Sys2Proof.Machine

open Sys2Proof

/-! ### The failed rail and its issuer -/

theorem raiseFault_rail (code : FaultCode) (target : Target) (sev : Severity) (s : State) (j : Fin 6) :
    (raiseFault code target sev s).rail j = s.rail j := by
  simp [State.rail]

/-- With nothing held a rail that stands starts nothing (R44). -/
theorem serveRail_notHeld {ch : Fin 6} {s : State} (h : (s.rail ch).held = []) : serveRail ch s = (s, []) := by
  have hs : ({ s.rail ch with held := [] } : Rail) = s.rail ch := by rw [← h]
  rw [serveRail, h, serveHeld, hs, withRail_self]

/-- With nothing held, the completion of a rail action is the one notice, to its issuer if it has one (R44, R78). -/
theorem railNotices_notHeld {ch : Fin 6} (iss : Option Issuer) (c : Completion) {s : State} (h : (s.rail ch).held = []) :
    railNotices ch iss c s = (s, (iss.map fun i => ⟨i, c⟩).toList) := by
  rw [railNotices, serveRail_notHeld h]
  cases iss with
  | some i => rfl
  | none => rfl

/-- A failed completion moves nothing but the executor, where it was the executor's and no alignment runs (R51, R78, R91). -/
theorem deliverNotices_failed (iss : Option Issuer) {s : State} (ha : s.presence.alignment = none) :
    deliverNotices (s, (iss.map fun i => ⟨i, .failed⟩).toList) =
      if iss = some .executor then execComplete .failed s else s := by
  match iss with
  | none => rfl
  | some .executor => rfl
  | some .correction => rfl
  | some .detached => rfl
  | some .alignment =>
    show deliverNotice s ⟨.alignment, .failed⟩ = s
    simp [deliverNotice, ha]

/-- The executor after the rail action of this issuer has failed (R51, R91). -/
def haltedBy (iss : Option Issuer) (e : Executor) : Executor :=
  if iss = some .executor ∧ e.running.isSome = true then { e with running := none, halted := true } else e

/-- A rail action fails with nothing held behind it, no alignment running and no forced transaction (R78). -/
theorem failRail_fails (ch : Fin 6) (failed : RailState) (code : FaultCode) {s : State} (hh : (s.rail ch).held = [])
    (ha : s.presence.alignment = none) (hf : s.forced = false) :
    deliverNotices (failRail ch failed code s) =
      (raiseFault code (railTarget ch) .severe (enterLow ch failed s)).withExecutor
        (haltedBy (s.rail ch).issuer s.executor) := by
  have hr : failRail ch failed code s = railNotices ch (s.rail ch).issuer .failed
    (raiseFault code (railTarget ch) .severe (enterLow ch failed s)) := rfl
  have hheld : ((raiseFault code (railTarget ch) .severe (enterLow ch failed s)).rail ch).held = [] := by
    rw [raiseFault_rail, enterLow, rail_withRail_same]
    exact hh
  have hex : (raiseFault code (railTarget ch) .severe (enterLow ch failed s)).executor = s.executor := by simp
  have hag : (raiseFault code (railTarget ch) .severe (enterLow ch failed s)).agreement = s.agreement := by simp
  have hpr : (raiseFault code (railTarget ch) .severe (enterLow ch failed s)).presence = s.presence := by simp
  rw [hr]
  generalize raiseFault code (railTarget ch) .severe (enterLow ch failed s) = u at *
  rw [railNotices_notHeld _ _ hheld, deliverNotices_failed _ (by rw [hpr, ha]), haltedBy, ← hex]
  by_cases hi : (s.rail ch).issuer = some .executor
  · rw [if_pos hi]
    by_cases hrun : u.executor.running.isSome = true
    · rw [if_pos ⟨hi, hrun⟩, execComplete_failed hrun (by simpa [State.forced, hag] using hf)]
    · rw [if_neg fun h => hrun h.2, execComplete, if_neg hrun]
      rfl
  · rw [if_neg hi, if_neg fun h => hi h.1]
    rfl

/-- What stands after a rail action has failed (R67, R68, R78, R99). -/
structure RailFails (ch : Fin 6) (code : FaultCode) (failed : RailState) (s t : State) : Prop where
  rail : t.rail ch = { s.rail ch with state := failed, counter := none, issuer := none }
  others : ∀ j, j ≠ ch → t.rail j = s.rail j
  latched : Latched s t code (railTarget ch) .severe
  queued : s.agreement.phase.requestsFault = true → (s.slot .fault).queued = none →
    t.hasQueued .fault s.nextNumber (.fault code (railTarget ch))
  executor : t.executor = haltedBy (s.rail ch).issuer s.executor
  signals : t.channel.signals = s.channel.signals
  agreement : t.agreement = s.agreement
  pins : t.pins = s.pins

theorem railFails_of_failRail (ch : Fin 6) (failed : RailState) (code : FaultCode) {s : State}
    (hh : (s.rail ch).held = []) (ha : s.presence.alignment = none) (hf : s.forced = false) :
    RailFails ch code failed s (deliverNotices (failRail ch failed code s)) := by
  rw [failRail_fails ch failed code hh ha hf]
  exact
    { rail := (raiseFault_rail ..).trans (rail_withRail_same s ch _)
      others := fun j hj => (raiseFault_rail ..).trans (rail_withRail_ne s hj _)
      latched := raiseFault_latched code (railTarget ch) .severe (enterLow ch failed s)
      queued := fun hp hq => (raiseFault_queues code (railTarget ch) (s := enterLow ch failed s) hp hq).1
      executor := rfl
      signals := by simp
      agreement := by simp
      pins := by simp }

namespace RailFails

variable {ch : Fin 6} {code : FaultCode} {failed : RailState} {s t : State}

/-- In both failed states the enable is low (R69). -/
theorem enable_low (h : RailFails ch code failed s t) (hs : failed = .failedUp ∨ failed = .failedDown) :
    t.enable ch = .low := by
  rw [State.enable, h.rail]
  rcases hs with rfl | rfl <;> rfl

/-- The executor halts where the action or the undo was its own (R51, R91). -/
theorem halts (h : RailFails ch code failed s t) (hi : (s.rail ch).issuer = some .executor)
    (hr : s.executor.running.isSome = true) : t.executor = { s.executor with running := none, halted := true } :=
  h.executor.trans (if_pos ⟨hi, hr⟩)

theorem executor_stands (h : RailFails ch code failed s t) (hi : (s.rail ch).issuer ≠ some .executor) :
    t.executor = s.executor :=
  h.executor.trans (if_neg fun q => hi q.1)

end RailFails

/-! ### The events that make a rail fail -/

/-- The rail with one bounce more, its power-good pin at this level (R66, R68). -/
def bounced (ch : Fin 6) (l : Level) (s : State) : State :=
  (setPowerGood ch l s).withRail ch { s.rail ch with bounces := (s.rail ch).bounces + 1 }

/-- The window of a rail in RISING or FALLING runs out (R65, R67). -/
theorem window_runsOut {c : Instr} {ch : Fin 6} {code : FaultCode} {failed : RailState} {s : State}
    (hc : (c = .settleWindowExpiry ch ∧ (s.rail ch).state = .rising ∧ code = .railTimeout ∧ failed = .failedUp) ∨
      (c = .dischargeWindowExpiry ch ∧ (s.rail ch).state = .falling ∧ code = .railStuck ∧ failed = .failedDown)) :
    exec c s = .next (deliverNotices (failRail ch failed code s)) := by
  rcases hc with ⟨rfl, hs, rfl, rfl⟩ | ⟨rfl, hs, rfl, rfl⟩
  · exact congrArg Host.Outcome.next (if_pos hs)
  · exact congrArg Host.Outcome.next (if_pos hs)

/-- A bounce that reaches the dropout threshold fails the action (R66, R68). -/
theorem bounceRail_fails {ch : Fin 6} {l : Level} (back : RailState) (length : Nat) (failed : RailState) (code : FaultCode)
    {s : State} (hb : (s.railParams ch).dropoutThreshold ≤ (s.rail ch).bounces + 1) :
    bounceRail ch back length failed code (setPowerGood ch l s) = failRail ch failed code (bounced ch l s) := by
  refine if_neg (Nat.not_lt.2 ?_)
  rw [rail_withRail_same]
  exact hb

/-- An edge of power-good in HOLDING_UP or HOLDING_DOWN is the last bounce (R66, R68). -/
theorem lastBounce_fails {c : Instr} {ch : Fin 6} {code : FaultCode} {failed : RailState} {l : Level} {s : State}
    (hc : (c = .powerGoodFallHoldingUp ch ∧ (s.rail ch).state = .holdingUp ∧ s.powerGood ch = .high ∧ l = .low ∧
        code = .railTimeout ∧ failed = .failedUp) ∨
      (c = .powerGoodRiseHoldingDown ch ∧ (s.rail ch).state = .holdingDown ∧ s.powerGood ch = .low ∧ l = .high ∧
        code = .railStuck ∧ failed = .failedDown))
    (hb : (s.railParams ch).dropoutThreshold ≤ (s.rail ch).bounces + 1) :
    exec c s = .next (deliverNotices (failRail ch failed code (bounced ch l s))) := by
  rcases hc with ⟨rfl, hs, hg, rfl, rfl, rfl⟩ | ⟨rfl, hs, hg, rfl, rfl, rfl⟩
  · have hs' : ((setPowerGood ch .low s).rail ch).state = .holdingUp := hs
    have hp : powerGoodFalls ch s = judgeFall ch (setPowerGood ch .low s) := if_neg (by simp [hg])
    show Host.Outcome.next (powerGoodFalls ch s) = _
    rw [hp, judgeFall, hs']
    dsimp only
    rw [bounceRail_fails _ _ _ _ hb]
  · have hs' : ((setPowerGood ch .high s).rail ch).state = .holdingDown := hs
    have hp : powerGoodRises ch s = judgeRise ch (setPowerGood ch .high s) := if_neg (by simp [hg])
    show Host.Outcome.next (powerGoodRises ch s) = _
    rw [hp, judgeRise, hs']
    dsimp only
    rw [bounceRail_fails _ _ _ _ hb]

/-- Settles O43: each event comes to a failed rail action, and `RailFails` says what then stands. -/
theorem railWindowExpiryFails : Obligations.RailWindowExpiryFails := by
  refine ⟨fun c ch code failed s hc hh ha hf => ?_, fun c ch code failed l s hc hb hh ha hf => ?_⟩
  · have h := railFails_of_failRail ch failed code hh ha hf
    have hs : failed = .failedUp ∨ failed = .failedDown :=
      hc.imp (fun ⟨_, _, _, q⟩ => q) (fun ⟨_, _, _, q⟩ => q)
    exact ⟨_, window_runsOut hc, h.rail, h.enable_low hs, h.latched, h.others, h.queued, h.halts, h.executor_stands,
      h.signals, h.agreement⟩
  · have hsame : (bounced ch l s).rail ch = { s.rail ch with bounces := (s.rail ch).bounces + 1 } :=
      rail_withRail_same ..
    have h := railFails_of_failRail ch failed code (s := bounced ch l s) (by rw [hsame]; exact hh) ha hf
    have hs : failed = .failedUp ∨ failed = .failedDown :=
      hc.imp (fun ⟨_, _, _, _, _, q⟩ => q) (fun ⟨_, _, _, _, _, q⟩ => q)
    refine ⟨_, lastBounce_fails hc hb, ?_, h.enable_low hs, h.latched, fun j hj => ?_, h.pins, h.queued,
      fun hi => h.halts ?_, fun hi => h.executor_stands ?_, h.agreement⟩
    · rw [h.rail, hsame]
    · exact (h.others j hj).trans (rail_withRail_ne (setPowerGood ch l s) hj _)
    · rw [hsame]
      exact hi
    · rw [hsame]
      exact hi

end Sys2Proof.Machine
end

section
/-! PROOF. The ends of PULSE, AWAIT and WAIT, and the report of the stage or what stands in for it (O48). -/

namespace Sys2Proof.Machine

open Sys2Proof

/-! ### The last action of a stage completes (R50, R53) -/

/-- The executor carries out this action of a stage, the last that the stage lists (R50). -/
structure RunsLast (k m : Nat) (a : Action) (s : State) : Prop where
  running : s.executor.running = some (.forward k a)
  sub : s.executor.sub = .acting
  halted : s.executor.halted = false
  cursor : s.executor.cursor = some k
  actionCursor : s.executor.actionCursor = some m
  length : (s.actionsAt s.kind k).length = m + 1

/-- The action moves no output that unwinding would move back (R87). -/
def IsTimed (a : Action) : Prop := ∀ x on, a ≠ .change x on

/-- The completion counts as complete: a failed one does in a forced descent (R51). -/
def CountsComplete (c : Completion) (s : State) : Prop := c ≠ .failed ∨ s.forced = true

/-- The executor past its last action, with nothing in progress (R50). -/
def pastLast (m : Nat) (s : State) : State :=
  s.withExecutor { s.executor with running := none, actionCursor := some (m + 1) }

theorem pushRecord_timed (k : Nat) {a : Action} (ha : IsTimed a) (c : Completion) (s : State) :
    pushRecord k a c s = s := by
  have hu : s.unwindRecord k a c = none := by
    cases a with
    | change x on => exact absurd rfl (ha x on)
    | pulse i w => rfl
    | wait w => rfl
    | await i l w => rfl
  rw [pushRecord, hu]

namespace RunsLast

variable {k m : Nat} {a : Action} {c : Completion} {s : State}

/-- The completion advances the action cursor, and leaves no record (R50, R51, R87). -/
theorem completes (h : RunsLast k m a s) (ha : IsTimed a) (hc : CountsComplete c s) :
    completeRunning c s = pastLast m s := by
  have hadv : s.withExecutor { s.executor with
      running := none, actionCursor := s.executor.actionCursor.map (· + 1) } = pastLast m s := by
    rw [h.actionCursor]
    rfl
  have hsub : (s.withExecutor { s.executor with running := none }).executor.sub = .acting := h.sub
  rw [completeRunning, h.running]
  dsimp only
  unfold completeForward
  dsimp only
  split
  · exact (if_pos (hc.resolve_left fun q => q rfl)).trans ((if_pos hsub).trans hadv)
  · rw [pushRecord_timed k ha]
    exact (if_pos hsub).trans hadv

/-- Past the last action the stage is reported (R53). -/
theorem execStep_reports (h : RunsLast k m a s) : execStep (pastLast m s) = reportStage k (pastLast m s) := by
  have hnone : ((pastLast m s).actionsAt (pastLast m s).kind k)[(pastLast m s).executor.actionCursor.getD 0]? = none :=
    List.getElem?_eq_none (Nat.le_of_eq h.length)
  have hs : (pastLast m s).executor.sub = .acting := h.sub
  have hk : (pastLast m s).executor.cursor = some k := h.cursor
  unfold execStep
  rw [if_neg (by simp [pastLast, h.halted]), hs, hk]
  dsimp only
  rw [hnone]

theorem execComplete_runs (h : RunsLast k m a s) (ha : IsTimed a) (hc : CountsComplete c s) :
    execComplete c s = execRun (pastLast m s) := by
  rw [execComplete, if_pos (by simp [h.running]), h.completes ha hc]

/-- Where the station is heard, the report of the stage is the end of it (R53). -/
theorem execComplete_heard (h : RunsLast k m a s) (ha : IsTimed a) (hc : CountsComplete c s)
    (hs : s.silentDescent = false) :
    execComplete c s = fillFrame s.openNumber (.stage .forward k) (s.withExecutor { s.executor with
      sub := .reporting, running := none, actionCursor := some (m + 1) }) := by
  have hr : execStep (pastLast m s) = (fillFrame s.openNumber (.stage .forward k) (s.withExecutor { s.executor with
      sub := .reporting, running := none, actionCursor := some (m + 1) }), false) :=
    h.execStep_reports.trans (if_neg (by rw [show (pastLast m s).silentDescent = s.silentDescent from rfl, hs]; decide))
  rw [h.execComplete_runs ha hc, execRun_stops (by rw [hr]), hr]

/-- In a silent descent the completion stands in for the report's delivery, and the executor waits, where there is somebody
to wait for, or for the close (R53, R54). -/
theorem execComplete_silent (h : RunsLast k m a s) (ha : IsTimed a) (hc : CountsComplete c s)
    (hs : s.silentDescent = true) (hw : k = s.lastStage s.kind ∨ s.shortOf (k + 1) ≠ 0) :
    execComplete c s = afterReport k (pastLast m s) := by
  have hr : execStep (pastLast m s) = (afterReport k (pastLast m s), true) := h.execStep_reports.trans (if_pos hs)
  have hwait : (afterReport k (pastLast m s)).executor.sub = .waiting := by
    unfold afterReport
    by_cases hk : k = s.lastStage s.kind
    · rw [if_pos (by exact hk)]
      rfl
    · rw [if_neg (by exact hk), if_neg (by exact hw.resolve_left hk)]
      rfl
  have hstop : execStep (afterReport k (pastLast m s)) = (afterReport k (pastLast m s), false) := by
    unfold execStep
    rw [hwait]
    exact ite_self _
  rw [h.execComplete_runs ha hc, execRun_goesOn hr (by rw [hstop]), hstop]

end RunsLast

/-! ### What stands where a stage has ended -/

/-- The executor, the transaction and the image are the same in both states. -/
structure SamePlan (s v : State) : Prop where
  executor : v.executor = s.executor
  agreement : v.agreement = s.agreement
  loader : v.loader = s.loader

namespace SamePlan

variable {s v : State}

theorem kind (h : SamePlan s v) : v.kind = s.kind := by simp [State.kind, h.agreement]

theorem forced (h : SamePlan s v) : v.forced = s.forced := by simp [State.forced, h.agreement]

theorem openNumber (h : SamePlan s v) : v.openNumber = s.openNumber := by simp [State.openNumber, h.agreement]

theorem silentDescent (h : SamePlan s v) : v.silentDescent = s.silentDescent := by
  simp [State.silentDescent, State.recordOpen, h.agreement]

theorem entryAt? (h : SamePlan s v) (k : Kind) (n : Nat) : v.entryAt? k n = s.entryAt? k n := by
  simp [State.entryAt?, State.entries, State.plan, h.loader]

theorem lastStage (h : SamePlan s v) : v.lastStage v.kind = s.lastStage s.kind := by
  simp [State.lastStage, State.system, h.kind, h.loader]

theorem actionsAt (h : SamePlan s v) (n : Nat) : v.actionsAt v.kind n = s.actionsAt s.kind n := by
  simp [State.actionsAt, h.kind, h.entryAt?]

theorem waitLimit (h : SamePlan s v) (n : Nat) : v.waitLimit v.kind n = s.waitLimit s.kind n := by
  simp [State.waitLimit, h.kind, h.entryAt?, State.entries, State.plan, h.loader]

theorem shortOf (h : SamePlan s v) (n : Nat) : v.shortOf n = s.shortOf n := by
  simp [State.shortOf, State.waitSetAt, State.participants, State.forwardAt, h.kind, h.entryAt?, h.agreement]

theorem runsLast (h : SamePlan s v) {k m : Nat} {a : Action} (r : RunsLast k m a s) : RunsLast k m a v where
  running := h.executor ▸ r.running
  sub := h.executor ▸ r.sub
  halted := h.executor ▸ r.halted
  cursor := h.executor ▸ r.cursor
  actionCursor := h.executor ▸ r.actionCursor
  length := h.actionsAt k ▸ r.length

end SamePlan

/-- The executor past the last action of stage `k`, waiting with this barrier (R16, R47). -/
def waitsAfter (k m : Nat) (b : BarrierRun) (e : Executor) : Executor :=
  { e with
    sub := .waiting, running := none, cursor := some (k + 1), actionCursor := some (m + 1)
    barrier := some b, barrierExpired := false }

/-- What the end of the last action of stage `k` leaves, from `v` as the completion reaches the executor (R53, R54). -/
structure StageEnds (k m : Nat) (s v t : State) : Prop where
  agreement : t.agreement = s.agreement
  channel : t.channel = v.channel
  faults : t.faults = v.faults
  reports : s.agreement.phase ≠ .mute →
    t.executor = { s.executor with sub := .reporting, running := none, actionCursor := some (m + 1) } ∧
    t.hasQueued .stage s.openNumber (.stage .forward k)
  standsIn : s.silentDescent = true → (t.slot .stage).queued = (v.slot .stage).queued ∧
    (k = s.lastStage s.kind → s.forced = true → t.executor =
      waitsAfter k m ⟨.closing, s.waitLimit s.kind k⟩ s.executor) ∧
    (k ≠ s.lastStage s.kind → s.shortOf (k + 1) ≠ 0 → t.executor =
      waitsAfter k m ⟨.stage, s.waitLimit s.kind (k + 1)⟩ s.executor)

/-- The executor past its last action waits for the close, or for the next stage (R16, R47). -/
theorem afterReport_waits (k m : Nat) (s : State) :
    (k = s.lastStage s.kind → s.forced = true → (afterReport k (pastLast m s)).executor =
      waitsAfter k m ⟨.closing, s.waitLimit s.kind k⟩ s.executor) ∧
    (k ≠ s.lastStage s.kind → s.shortOf (k + 1) ≠ 0 → (afterReport k (pastLast m s)).executor =
      waitsAfter k m ⟨.stage, s.waitLimit s.kind (k + 1)⟩ s.executor) := by
  unfold afterReport
  refine ⟨fun hk hf => ?_, fun hk hs => ?_⟩
  · have hu : (if (pastLast m s).forced = true then BarrierUse.closing else .completion) = .closing := if_pos hf
    rw [if_pos (by exact hk), hu]
    rfl
  · rw [if_neg (by exact hk), if_neg (by exact hs)]
    rfl

/-- The last action of a stage ends (R53, R54). -/
theorem RunsLast.ends {k m : Nat} {a : Action} {c : Completion} {s v : State} (h : RunsLast k m a s) (ha : IsTimed a)
    (hc : CountsComplete c s) (hw : s.silentDescent = true → k = s.lastStage s.kind ∨ s.shortOf (k + 1) ≠ 0)
    (hv : SamePlan s v) : StageEnds k m s v (execComplete c v) := by
  have hr := hv.runsLast h
  have hcv : CountsComplete c v := hc.imp_right fun q => hv.forced.trans q
  by_cases hs : s.silentDescent = true
  · have hm : s.agreement.phase = .mute := by
      simp only [State.silentDescent, Bool.and_eq_true, beq_iff_eq] at hs
      exact hs.1
    have he := hr.execComplete_silent ha hcv (hv.silentDescent.trans hs) (by rw [hv.lastStage, hv.shortOf]; exact hw hs)
    obtain ⟨w1, w2⟩ := afterReport_waits k m v
    rw [hv.lastStage, hv.forced, hv.waitLimit, hv.executor] at w1
    rw [hv.lastStage, hv.shortOf, hv.waitLimit, hv.executor] at w2
    rw [he]
    exact
      { agreement := by simp [pastLast, hv.agreement]
        channel := by simp [pastLast]
        faults := by simp [pastLast]
        reports := fun q => absurd hm q
        standsIn := fun _ => ⟨congrArg Slot.queued (slot_eq_of_link (by simp [pastLast]) .stage), w1, w2⟩ }
  · have he := hr.execComplete_heard ha hcv (hv.silentDescent.trans (by simpa using hs))
    rw [hv.openNumber, hv.executor] at he
    rw [he]
    exact
      { agreement := by simp [hv.agreement]
        channel := by simp
        faults := by simp
        reports := fun q => ⟨by simp, fillFrame_hasQueued (body := .stage .forward k)
          (takesFill_of_phase (by simpa [hv.agreement] using q) _) _⟩
        standsIn := fun q => absurd q hs }

/-! ### The events that end a timed action -/

/-- What the end `c` of a timed action `a` leaves as its completion reaches the executor (R75 to R77). -/
structure ActionEnds (a : Action) (c : Instr) (s v : State) : Prop extends SamePlan s v where
  faults : (∀ i, c ≠ .awaitTimeout i) → v.faults = s.faults
  stageSlot : v.slot .stage = s.slot .stage
  pulse : ∀ i w prior, a = .pulse i w → (s.signalAt i).state = .pulsing prior →
    v.signalAt i = { state := signalAt prior, pulse := none } ∧ (∀ j, j ≠ i → v.signalAt j = s.signalAt j) ∧
    v.channel.awaits = s.channel.awaits ∧ v.channel.waitCounter = s.channel.waitCounter
  await : ∀ i l w, a = .await i l w → tabGet v.channel.awaits i = none ∧
    (∀ j, j ≠ i → tabGet v.channel.awaits j = tabGet s.channel.awaits j) ∧
    v.channel.signals = s.channel.signals ∧ v.channel.waitCounter = s.channel.waitCounter
  wait : ∀ w, a = .wait w → v.channel.waitCounter = none ∧ v.channel.signals = s.channel.signals ∧
    v.channel.awaits = s.channel.awaits
  rails : v.channel.rails = s.channel.rails

theorem endPulse_pulsing {i : Fin 4} {prior : Level} {s : State} (h : (s.signalAt i).state = .pulsing prior) :
    endPulse i s = s.withSignal i { state := signalAt prior, pulse := none } := by
  rw [endPulse, h]
  rfl

theorem endPulse_ends (i : Fin 4) (w : Nat) (s : State) : ActionEnds (.pulse i w) (.pulseEnd i) s (endPulse i s) where
  executor := by simp
  agreement := by simp
  loader := by simp
  faults := fun _ => by simp
  stageSlot := slot_eq_of_link (by simp) _
  pulse := by
    rintro _ _ prior ⟨⟩ hp
    rw [endPulse_pulsing hp]
    exact ⟨signalAt_withSignal_same .., fun j hj => signalAt_withSignal_ne s hj _, rfl, rfl⟩
  await := nofun
  wait := nofun
  rails := by simp

theorem withWait_ends (w : Nat) (s : State) : ActionEnds (.wait w) .waitEnd s (s.withWait none) where
  executor := rfl
  agreement := rfl
  loader := rfl
  faults := fun _ => rfl
  stageSlot := rfl
  pulse := nofun
  await := nofun
  wait := fun _ _ => ⟨rfl, rfl, rfl⟩
  rails := rfl

/-- An AWAIT's counter stops, however the AWAIT ends (R76). -/
theorem await_ends {i : Fin 2} (l : Level) (w : Nat) {c : Instr} {s v : State} (hv : SamePlan s v)
    (hch : v.channel = (s.withAwait i none).channel) (hf : (∀ j, c ≠ .awaitTimeout j) → v.faults = s.faults)
    (hs : v.slot .stage = s.slot .stage) : ActionEnds (.await i l w) c s v where
  toSamePlan := hv
  faults := hf
  stageSlot := hs
  pulse := nofun
  await := by
    rintro _ _ _ ⟨⟩
    rw [hch]
    exact ⟨tabGet_tabSet_same .., fun j hj => tabGet_tabSet_ne _ hj _, rfl, rfl⟩
  wait := nofun
  rails := by rw [hch]; rfl

/-- The state after an AWAIT ran out, as its failure reaches the executor (R76). -/
def awaitRunOut (i : Fin 2) (s : State) : State := raiseFault .senseTimeout (senseTarget i) .severe (s.withAwait i none)

theorem awaitRunOut_stands (i : Fin 2) (s : State) : SamePlan s (awaitRunOut i s) ∧
    (awaitRunOut i s).channel = (s.withAwait i none).channel ∧ (awaitRunOut i s).slot .stage = s.slot .stage ∧
    Latched s (awaitRunOut i s) .senseTimeout (senseTarget i) .severe := by
  refine ⟨⟨by simp [awaitRunOut], by simp [awaitRunOut], by simp [awaitRunOut]⟩, by simp [awaitRunOut], ?_,
    raiseFault_latched .senseTimeout (senseTarget i) .severe (s.withAwait i none)⟩
  unfold awaitRunOut raiseFault disposeFault
  dsimp only
  split
  · exact (requestFault_owners ..).2.2 _ (by decide) |>.trans (slot_eq_of_link (by simp) _)
  · exact slot_eq_of_link (by simp) _

theorem execAwaitTimeout_eq {i : Fin 2} {s : State} (h : (tabGet s.channel.awaits i).isSome = true) :
    exec (.awaitTimeout i) s = .next (if runsAwait i none s.executor.running then execComplete .failed (awaitRunOut i s)
      else awaitRunOut i s) := by
  rw [← (awaitRunOut_stands i s).1.executor]
  exact congrArg Host.Outcome.next (if_pos h)

theorem execSenseChange_eq (i : Fin 2) (l : Level) (s : State) :
    exec (.senseChange i l) s = .next (if runsAwait i (some l) s.executor.running then
      execComplete .changed ((setSense i l s).withAwait i none) else setSense i l s) := rfl

/-- Each event that ends the executor's timed action hands a completion over, on a state with the counter stopped (R75 to
R78). -/
theorem timedAction_ends {c : Instr} {a : Action} {k : Nat} {s : State}
    (hc : (∃ i w, a = .pulse i w ∧ c = .pulseEnd i ∧ (s.signalAt i).pulse.isSome = true) ∨
      (∃ i l w, a = .await i l w ∧ c = .senseChange i l) ∨
      (∃ i l w, a = .await i l w ∧ c = .awaitTimeout i ∧ (tabGet s.channel.awaits i).isSome = true ∧ s.forced = true) ∨
      (∃ w, a = .wait w ∧ c = .waitEnd ∧ s.channel.waitCounter.isSome = true))
    (hr : s.executor.running = some (.forward k a)) :
    ∃ v x, exec c s = .next (execComplete x v) ∧ IsTimed a ∧ CountsComplete x s ∧ ActionEnds a c s v := by
  rcases hc with ⟨i, w, rfl, rfl, hp⟩ | ⟨i, l, w, rfl, rfl⟩ | ⟨i, l, w, rfl, rfl, ht, hf⟩ | ⟨w, rfl, rfl, hw⟩
  · have hrun : runsPulse i (endPulse i s).executor.running = true := by simp [hr, runsPulse]
    exact ⟨endPulse i s, .changed, congrArg Host.Outcome.next ((if_pos hp).trans (if_pos hrun)), nofun, .inl nofun,
      endPulse_ends i w s⟩
  · have hrun : runsAwait i (some l) s.executor.running = true := by simp [hr, runsAwait]
    exact ⟨(setSense i l s).withAwait i none, .changed, by rw [execSenseChange_eq, if_pos hrun], nofun, .inl nofun,
      await_ends l w ⟨rfl, rfl, rfl⟩ rfl (fun _ => rfl) rfl⟩
  · have hrun : runsAwait i none s.executor.running = true := by simp [hr, runsAwait]
    obtain ⟨hv, hch, hs, -⟩ := awaitRunOut_stands i s
    exact ⟨awaitRunOut i s, .failed, by rw [execAwaitTimeout_eq ht, if_pos hrun], nofun, .inr hf,
      await_ends l w hv hch (fun q => absurd rfl (q i)) hs⟩
  · have hrun : runsWait (s.withWait none).executor.running = true := by simp [State.withWait, hr, runsWait]
    exact ⟨s.withWait none, .changed, congrArg Host.Outcome.next ((if_pos hw).trans (if_pos hrun)), nofun, .inl nofun,
      withWait_ends w s⟩

/-! ### The statement -/

/-- An AWAIT that runs out is SENSE_TIMEOUT, and outside a forced transaction halts the executor whose AWAIT it was (R51,
R76, R78). -/
theorem awaitTimeout_latches {i : Fin 2} {s : State} (h : (tabGet s.channel.awaits i).isSome = true) :
    ∃ t, exec (.awaitTimeout i) s = .next t ∧ Latched s t .senseTimeout (senseTarget i) .severe ∧
      (runsAwait i none s.executor.running = false → tabGet t.channel.awaits i = none ∧ t.executor = s.executor) ∧
      (runsAwait i none s.executor.running = true → s.forced = false →
        tabGet t.channel.awaits i = none ∧ t.executor = { s.executor with running := none, halted := true }) := by
  obtain ⟨hv, hch, -, hl⟩ := awaitRunOut_stands i s
  have hnone : tabGet (awaitRunOut i s).channel.awaits i = none := by
    rw [hch]
    exact tabGet_tabSet_same ..
  rw [execAwaitTimeout_eq h]
  cases hrun : runsAwait i none s.executor.running with
  | false => exact ⟨_, rfl, hl, fun _ => ⟨hnone, hv.executor⟩, nofun⟩
  | true =>
    refine ⟨_, rfl, hl.congr rfl rfl (by simp), nofun, fun _ hf => ?_⟩
    have hsome : s.executor.running.isSome = true := by
      cases hr : s.executor.running with
      | none => simp [hr, runsAwait] at hrun
      | some r => rfl
    rw [if_pos rfl, execComplete_failed (by rw [hv.executor]; exact hsome) (hv.forced.trans hf), hv.executor]
    exact ⟨hnone, rfl⟩

/-- Settles O48: the counters by their events, and the end of a stage by `timedAction_ends` and `RunsLast.ends`. -/
theorem signalAndSenseEvents : Obligations.SignalAndSenseEvents := by
  refine ⟨fun i prior w s hs hr => ?_, fun i l s => ?_, fun i s h => awaitTimeout_latches h, fun s hw hr => ?_,
    fun c a k m s hc hrun hsub hh hk hm hl hw => ?_⟩
  · have hp : (s.signalAt i).pulse.isSome = true := by rw [hs]; rfl
    have he := endPulse_pulsing (i := i) (prior := prior) (s := s) (by rw [hs])
    have hn : ¬ runsPulse i (endPulse i s).executor.running = true := by simp [hr]
    exact congrArg Host.Outcome.next ((if_pos hp).trans ((if_neg hn).trans he))
  · rw [execSenseChange_eq]
    refine ⟨_, rfl, ?_, fun hr => by rw [hr]; rfl⟩
    split
    · simp [setSense]
    · rfl
  · have hn : ¬ runsWait (s.withWait none).executor.running = true := by simp [State.withWait, hr]
    exact congrArg Host.Outcome.next ((if_pos hw).trans (if_neg hn))
  · obtain ⟨v, x, he, ha, hx, hv⟩ := timedAction_ends hc hrun
    have h := (⟨hrun, hsub, hh, hk, hm, hl⟩ : RunsLast k m a s).ends ha hx hw hv.toSamePlan
    refine ⟨_, he, h.agreement, fun q => h.faults.trans (hv.faults q), fun i w prior q hp => ?_, fun i l w q => ?_,
      fun w q => ?_, ?_, h.reports, fun q => ?_⟩
    · have hsig : ∀ j, (execComplete x v).signalAt j = v.signalAt j := fun j => by rw [State.signalAt, h.channel]; rfl
      simp only [hsig, h.channel]
      exact hv.pulse i w prior q hp
    · rw [h.channel]
      exact hv.await i l w q
    · rw [h.channel]
      exact hv.wait w q
    · rw [h.channel]
      exact hv.rails
    · rw [← hv.stageSlot]
      exact h.standsIn q

end Sys2Proof.Machine
end

section
/-! SUPPORT. An edge of power-good as its rail meets it: the hold it starts, the bounce, and the condition it raises in ON (R63,
R66 to R68, R71 to R73). -/

namespace Sys2Proof.Machine

open Sys2Proof

/-! ### Edges and their judgement (R63) -/

/-- A command for a rising edge of power-good (the operand convention of log 3: each of the three is one event). -/
def IsRise (ch : Fin 6) (c : Instr) : Prop :=
  c = .powerGoodRiseRising ch ∨ c = .powerGoodRiseHoldingDown ch ∨ c = .powerGoodRiseOn ch

/-- A command for a falling edge of power-good (log 3). -/
def IsFall (ch : Fin 6) (c : Instr) : Prop :=
  c = .powerGoodFallHoldingUp ch ∨ c = .powerGoodFallFalling ch ∨ c = .powerGoodFallFailedDown ch ∨
    c = .powerGoodFallOn ch

theorem exec_rise {ch : Fin 6} {c : Instr} (h : IsRise ch c) (s : State) : exec c s = .next (powerGoodRises ch s) := by
  rcases h with rfl | rfl | rfl <;> rfl

theorem exec_fall {ch : Fin 6} {c : Instr} (h : IsFall ch c) (s : State) : exec c s = .next (powerGoodFalls ch s) := by
  rcases h with rfl | rfl | rfl | rfl <;> rfl

theorem exec_rise_high {ch : Fin 6} {c : Instr} {s : State} (h : IsRise ch c) (hp : s.powerGood ch = .high) :
    exec c s = .next s := by
  rw [exec_rise h, powerGoodRises, if_pos hp]

theorem exec_rise_low {ch : Fin 6} {c : Instr} {s : State} (h : IsRise ch c) (hp : s.powerGood ch = .low) :
    exec c s = .next (judgeRise ch (setPowerGood ch .high s)) := by
  rw [exec_rise h, powerGoodRises, if_neg (by simp [hp])]

theorem exec_fall_low {ch : Fin 6} {c : Instr} {s : State} (h : IsFall ch c) (hp : s.powerGood ch = .low) :
    exec c s = .next s := by
  rw [exec_fall h, powerGoodFalls, if_pos hp]

theorem exec_fall_high {ch : Fin 6} {c : Instr} {s : State} (h : IsFall ch c) (hp : s.powerGood ch = .high) :
    exec c s = .next (judgeFall ch (setPowerGood ch .low s)) := by
  rw [exec_fall h, powerGoodFalls, if_neg (by simp [hp])]

/-! ### Bounces (R66, R68) -/

/-- Below the threshold a bounced rail is back in its window, at the full length. -/
theorem bounceRail_returns {ch : Fin 6} (back : RailState) (length : Nat) (failed : RailState) (code : FaultCode) {s : State}
    (hb : (s.rail ch).bounces + 1 < (s.railParams ch).dropoutThreshold) :
    bounceRail ch back length failed code s = (s.withRail ch
      { s.rail ch with state := back, counter := some length, bounces := (s.rail ch).bounces + 1 }, []) := by
  simp [bounceRail, hb, enterTimed]

/-! ### Holds (R66, R68) -/

theorem enterHoldingUp_timed {ch : Fin 6} {s : State} (h : 0 < (s.railParams ch).holdUp) :
    enterHoldingUp ch s =
      (s.withRail ch { s.rail ch with state := .holdingUp, counter := some (s.railParams ch).holdUp }, none) :=
  if_neg h.ne'

theorem enterHoldingDown_timed {ch : Fin 6} {s : State} (h : 0 < (s.railParams ch).holdDown) :
    enterHoldingDown ch s =
      (s.withRail ch { s.rail ch with state := .holdingDown, counter := some (s.railParams ch).holdDown }, none) :=
  if_neg h.ne'

/-- A hold of 0 ends as it begins: the rail is done. -/
theorem enterHoldingUp_zero {ch : Fin 6} {s : State} (h : (s.railParams ch).holdUp = 0) :
    enterHoldingUp ch s = (railDone ch true s, some .changed) :=
  if_pos h

theorem enterHoldingDown_zero {ch : Fin 6} {s : State} (h : (s.railParams ch).holdDown = 0) :
    enterHoldingDown ch s = (railDone ch false s, some .changed) :=
  if_pos h

/-- From one state to another the hold of this rail ended, and nothing but the rail changed (R66, R68). -/
def HoldOver (ch : Fin 6) (up : Bool) (s t : State) : Prop :=
  (t.rail ch).state = (if up then .on else .off) ∧ (t.rail ch).counter = none ∧ (t.rail ch).issuer = none ∧
  (∀ j, j ≠ ch → t.rail j = s.rail j) ∧ t = { s with channel := { s.channel with rails := t.channel.rails } }

theorem railDone_holdOver (ch : Fin 6) (up : Bool) (s : State) : HoldOver ch up s (railDone ch up s) := by
  obtain ⟨hstate, hcounter, hissuer, -, -⟩ := railDone_rail ch up s
  have hon := railDone_onRail ch up s
  refine ⟨hstate, hcounter, hissuer, fun j hj => hon.rail_ne hj, ?_⟩
  rw [hon]
  rfl

/-- The completion of a correction or of a detached step, with nothing held behind it, moves nothing (R78). -/
theorem deliverNotices_unheard {ch : Fin 6} {iss : Option Issuer} (c : Completion) {s : State} (hh : (s.rail ch).held = [])
    (hi : iss = some .correction ∨ iss = some .detached) : deliverNotices (afterHold ch iss (s, some c)) = s := by
  rw [afterHold, railNotices_notHeld iss c hh]
  rcases hi with rfl | rfl <;> rfl

/-- A hold of 0 of a correction or a detached step is over at the edge that starts it. -/
theorem zeroHold_completes {ch : Fin 6} (up : Bool) {s : State} (hh : (s.rail ch).held = [])
    (hi : (s.rail ch).issuer = some .correction ∨ (s.rail ch).issuer = some .detached) :
    HoldOver ch up s (deliverNotices (afterHold ch (s.rail ch).issuer (railDone ch up s, some .changed))) := by
  obtain ⟨-, -, -, hheld, -⟩ := railDone_rail ch up s
  rw [deliverNotices_unheard .changed (hheld.trans hh) hi]
  exact railDone_holdOver ch up s

/-! ### RAIL_LOSS and RAIL_UNSTABLE (R73, R102) -/

/-- A deferred condition stands in the deferred list, a loss as a loss (R102). -/
theorem deferFault_holds (ch : Fin 6) (loss : Bool) (s : State) :
    ∃ e ∈ (deferFault ch loss s).faults.deferred, e.rail = ch ∧ (loss = true → e.loss = true) := by
  unfold deferFault
  split
  · rename_i h
    obtain ⟨e, he, hr⟩ := List.any_eq_true.1 h
    refine ⟨e.again loss, List.mem_map.2 ⟨e, he, if_pos hr⟩, by simpa [DeferredEntry.again] using hr, fun hl => ?_⟩
    simp [DeferredEntry.again, hl]
  · exact ⟨_, List.mem_append_right _ List.mem_cons_self, rfl, id⟩

theorem raiseRailCondition_rail (ch : Fin 6) (loss : Bool) (s : State) (j : Fin 6) :
    (raiseRailCondition ch loss s).rail j = s.rail j := by
  simp [State.rail]

/-- On a rail that is not tolerant, or in a phase that does not defer, the condition is latched (R73, R99). -/
theorem raiseRailCondition_latched {ch : Fin 6} (loss : Bool) {s : State}
    (h : (s.railParams ch).tolerant = false ∨ s.agreement.phase.defers = false) :
    Latched s (raiseRailCondition ch loss s) (lossCode loss) (railTarget ch)
      (if loss then .severe else (s.railParams ch).unstable) ∧
    (raiseRailCondition ch loss s).faults.deferred = s.faults.deferred := by
  have hc : ¬ ((s.railParams ch).tolerant && s.agreement.phase.defers) = true := by
    rcases h with h | h <;> simp [h]
  rw [raiseRailCondition, if_neg hc]
  exact ⟨raiseFault_latched .., by simp⟩

/-- On a tolerant rail, in a phase that defers, the condition is deferred and nothing is latched or sent (R73, R102). -/
theorem raiseRailCondition_deferred {ch : Fin 6} (loss : Bool) {s : State} (ht : (s.railParams ch).tolerant = true)
    (hd : s.agreement.phase.defers = true) :
    (raiseRailCondition ch loss s).faults.latched = s.faults.latched ∧ (raiseRailCondition ch loss s).link = s.link ∧
    ∃ e ∈ (raiseRailCondition ch loss s).faults.deferred, e.rail = ch ∧ (loss = true → e.loss = true) := by
  rw [raiseRailCondition, if_pos (by simp [ht, hd])]
  exact ⟨by simp, by simp, deferFault_holds ch loss s⟩

/-! ### The judgement of an edge, state by state (R65 to R71) -/

variable {ch : Fin 6} {s : State}

theorem judgeRise_rising (h : (s.rail ch).state = .rising) :
    judgeRise ch s = deliverNotices (afterHold ch (s.rail ch).issuer (enterHoldingUp ch s)) := by
  rw [judgeRise, h]

theorem judgeRise_holds (h : (s.rail ch).state = .rising) (hu : 0 < (s.railParams ch).holdUp) :
    judgeRise ch s =
      s.withRail ch { s.rail ch with state := .holdingUp, counter := some (s.railParams ch).holdUp } := by
  rw [judgeRise_rising h, enterHoldingUp_timed hu]
  rfl

theorem judgeRise_completes (h : (s.rail ch).state = .rising) (hu : (s.railParams ch).holdUp = 0)
    (hh : (s.rail ch).held = []) (hi : (s.rail ch).issuer = some .correction ∨ (s.rail ch).issuer = some .detached) :
    HoldOver ch true s (judgeRise ch s) := by
  rw [judgeRise_rising h, enterHoldingUp_zero hu]
  exact zeroHold_completes true hh hi

theorem judgeRise_holdingDown (h : (s.rail ch).state = .holdingDown)
    (hb : (s.rail ch).bounces + 1 < (s.railParams ch).dropoutThreshold) :
    judgeRise ch s = s.withRail ch
      { s.rail ch with state := .falling, counter := some (s.railParams ch).dischargeWindow
                       bounces := (s.rail ch).bounces + 1 } := by
  rw [judgeRise, h]
  dsimp only
  rw [bounceRail_returns _ _ _ _ hb]
  rfl

theorem judgeRise_on (h : (s.rail ch).state = .on) : judgeRise ch s = riseOn ch s := by
  rw [judgeRise, h]

theorem judgeRise_endsLoss (h : (s.rail ch).state = .on) (hf : (s.rail ch).filter = none) :
    judgeRise ch s = s.withRail ch { s.rail ch with loss := false } := by
  rw [judgeRise_on h, riseOn, if_neg (by simp [hf])]

/-- A dropout below the threshold is counted (R72). -/
theorem judgeRise_counts (h : (s.rail ch).state = .on) (hf : (s.rail ch).filter.isSome = true)
    (hn : (s.rail ch).dropouts + 1 < (s.railParams ch).dropoutThreshold) :
    judgeRise ch s = s.withRail ch { s.rail ch with filter := none, dropouts := (s.rail ch).dropouts + 1 } := by
  rw [judgeRise_on h, riseOn, if_pos hf]
  simp [dropout, hn]

/-- The dropout that reaches the threshold raises RAIL_UNSTABLE, and the count starts again (R72). -/
theorem judgeRise_unstable (h : (s.rail ch).state = .on) (hf : (s.rail ch).filter.isSome = true)
    (hn : (s.railParams ch).dropoutThreshold ≤ (s.rail ch).dropouts + 1) :
    judgeRise ch s = raiseRailCondition ch false (s.withRail ch { s.rail ch with filter := none, dropouts := 0 }) := by
  rw [judgeRise_on h, riseOn, if_pos hf]
  simp [dropout, Nat.not_lt.2 hn]

theorem judgeRise_other (h : (s.rail ch).state = .off ∨ (s.rail ch).state = .holdingUp ∨ (s.rail ch).state = .falling ∨
    (s.rail ch).state = .failedUp ∨ (s.rail ch).state = .failedDown) : judgeRise ch s = s := by
  rcases h with h | h | h | h | h <;> rw [judgeRise, h]

theorem judgeFall_holdingUp (h : (s.rail ch).state = .holdingUp)
    (hb : (s.rail ch).bounces + 1 < (s.railParams ch).dropoutThreshold) :
    judgeFall ch s = s.withRail ch
      { s.rail ch with state := .rising, counter := some (s.railParams ch).settleWindow
                       bounces := (s.rail ch).bounces + 1 } := by
  rw [judgeFall, h]
  dsimp only
  rw [bounceRail_returns _ _ _ _ hb]
  rfl

theorem judgeFall_falling (h : (s.rail ch).state = .falling) :
    judgeFall ch s = deliverNotices (afterHold ch (s.rail ch).issuer (enterHoldingDown ch s)) := by
  rw [judgeFall, h]

theorem judgeFall_holds (h : (s.rail ch).state = .falling) (hd : 0 < (s.railParams ch).holdDown) :
    judgeFall ch s =
      s.withRail ch { s.rail ch with state := .holdingDown, counter := some (s.railParams ch).holdDown } := by
  rw [judgeFall_falling h, enterHoldingDown_timed hd]
  rfl

theorem judgeFall_completes (h : (s.rail ch).state = .falling) (hd : (s.railParams ch).holdDown = 0)
    (hh : (s.rail ch).held = []) (hi : (s.rail ch).issuer = some .correction ∨ (s.rail ch).issuer = some .detached) :
    HoldOver ch false s (judgeFall ch s) := by
  rw [judgeFall_falling h, enterHoldingDown_zero hd]
  exact zeroHold_completes false hh hi

theorem judgeFall_failedDown (h : (s.rail ch).state = .failedDown) :
    judgeFall ch s = s.withRail ch { s.rail ch with state := .off } := by
  rw [judgeFall, h]

theorem judgeFall_on (h : (s.rail ch).state = .on) : judgeFall ch s = fallOn ch s := by
  rw [judgeFall, h]

theorem judgeFall_filters (h : (s.rail ch).state = .on) (hw : (s.rail ch).window.isSome = true)
    (hl : (s.rail ch).loss = false) :
    judgeFall ch s = s.withRail ch { s.rail ch with filter := some (s.railParams ch).dropoutFilter } := by
  rw [judgeFall_on h, fallOn, if_pos (by simp [hw, hl])]

/-- Unmonitored, or in a loss already, the fall starts nothing (R71). -/
theorem judgeFall_ignored (h : (s.rail ch).state = .on) (hw : (s.rail ch).window = none ∨ (s.rail ch).loss = true) :
    judgeFall ch s = s := by
  rw [judgeFall_on h, fallOn, if_neg]
  rcases hw with hw | hw <;> simp [hw]

theorem judgeFall_other (h : (s.rail ch).state = .off ∨ (s.rail ch).state = .rising ∨ (s.rail ch).state = .holdingDown ∨
    (s.rail ch).state = .failedUp) : judgeFall ch s = s := by
  rcases h with h | h | h | h <;> rw [judgeFall, h]

end Sys2Proof.Machine
end

section
/-! PROOF. The edges of power-good (O45, O46) and the dropout timers (O47). The plain names of the first two are those of the
model's functions. -/

namespace Sys2Proof.Machine

open Sys2Proof

/-- Settles O45: the edge is judged on the state with the pin high (`exec_rise_low`), by the state of the rail. -/
theorem powerGoodRises_byState : Obligations.PowerGoodRises := by
  rintro c ch s _ hc rfl
  refine ⟨exec_rise_high hc, fun hp => ?_⟩
  rw [exec_rise_low hc hp]
  refine ⟨fun hs hu => congrArg Host.Outcome.next (judgeRise_holds hs hu),
    fun hs hu hh hi => ⟨_, rfl, judgeRise_completes (s := setPowerGood ch .high s) hs hu hh hi⟩,
    fun hs hb => congrArg Host.Outcome.next (judgeRise_holdingDown hs hb),
    fun hs hf => congrArg Host.Outcome.next (judgeRise_endsLoss hs hf),
    fun hs hf hn => congrArg Host.Outcome.next (judgeRise_counts hs hf hn),
    fun hs hf hn => ?_,
    fun hs => congrArg Host.Outcome.next (judgeRise_other hs)⟩
  refine ⟨_, congrArg Host.Outcome.next (judgeRise_unstable (s := setPowerGood ch .high s) hs hf hn),
    (raiseRailCondition_rail ..).trans (rail_withRail_same ..), fun h => ?_, fun ht hd => ?_⟩
  · exact (raiseRailCondition_latched (ch := ch) false (s := (setPowerGood ch .high s).withRail ch _) h).1
  · obtain ⟨hl, -, e, he, hr, -⟩ :=
      raiseRailCondition_deferred (ch := ch) false (s := (setPowerGood ch .high s).withRail ch _) ht hd
    exact ⟨hl, e, he, hr⟩

/-- Settles O46: the edge is judged on the state with the pin low (`exec_fall_high`), by the state of the rail. -/
theorem powerGoodFalls_byState : Obligations.PowerGoodFalls := by
  rintro c ch s _ hc rfl
  refine ⟨exec_fall_low hc, fun hp => ?_⟩
  rw [exec_fall_high hc hp]
  exact ⟨fun hs hb => congrArg Host.Outcome.next (judgeFall_holdingUp hs hb),
    fun hs hd => congrArg Host.Outcome.next (judgeFall_holds hs hd),
    fun hs hd hh hi => ⟨_, rfl, judgeFall_completes (s := setPowerGood ch .low s) hs hd hh hi⟩,
    fun hs => congrArg Host.Outcome.next (judgeFall_failedDown hs),
    fun hs hw hl => congrArg Host.Outcome.next (judgeFall_filters hs hw hl),
    fun hs hw => congrArg Host.Outcome.next (judgeFall_ignored hs hw),
    fun hs => congrArg Host.Outcome.next (judgeFall_other hs)⟩

/-- The dropout filter ends: the loss marker is set and RAIL_LOSS raised (R71). -/
theorem dropoutFilterExpiry_eq {ch : Fin 6} {s : State} (h : (s.rail ch).filter.isSome = true) :
    exec (.dropoutFilterExpiry ch) s =
      .next (raiseRailCondition ch true (s.withRail ch { s.rail ch with filter := none, loss := true })) :=
  congrArg Host.Outcome.next (if_pos h)

/-- The dropout window ends: it restarts, and the count with it (R72). -/
theorem dropoutWindowExpiry_eq {ch : Fin 6} {s : State} (h : (s.rail ch).window.isSome = true) :
    exec (.dropoutWindowExpiry ch) s =
      .next (s.withRail ch { s.rail ch with dropouts := 0, window := some (s.railParams ch).dropoutWindow }) :=
  congrArg Host.Outcome.next (if_pos h)

/-- Settles O47, from what RAIL_LOSS does on a rail by its tolerance and the phase. -/
theorem dropoutTimers : Obligations.DropoutTimers := by
  refine ⟨fun ch s hf => ⟨_, dropoutFilterExpiry_eq hf, (raiseRailCondition_rail ..).trans (rail_withRail_same ..),
    fun h => ?_, fun ht hd => ?_, by simp, by simp⟩, fun ch s hw => dropoutWindowExpiry_eq hw⟩
  · exact raiseRailCondition_latched (ch := ch) true (s := s.withRail ch _) h
  · obtain ⟨hl, hk, e, he, hr, hloss⟩ := raiseRailCondition_deferred (ch := ch) true (s := s.withRail ch _) ht hd
    exact ⟨hl, hk, e, he, hr, hloss rfl⟩

end Sys2Proof.Machine
end

section
/-! PROOF. LEVEL inputs: what a change of the pin and the end of a hold do, and the ABORT(WAKE) that a qualification requests
(O50). -/

namespace Sys2Proof.Machine

open Sys2Proof

/-! ### A change of the input (R114) -/

theorem withWakeInput_wakeInput (s : State) (i : Fin 8) : s.withWakeInput i (s.wakeInput i) = s := by
  simp [State.withWakeInput, State.wakeInput, tabSet, tabGet]

@[simp] theorem wakeInput_withWakeInput_same (s : State) (i : Fin 8) (w : WakeInput) :
    (s.withWakeInput i w).wakeInput i = w :=
  tabGet_tabSet_same ..

theorem levelAfter_inactive (d : WakeInputDef) (qualifies : Bool) (w : WakeInput) :
    levelAfter d false qualifies w = { w with level := .idle, hold := none } := rfl

theorem levelAfter_begins {d : WakeInputDef} {w : WakeInput} (hk : d.kind = .level) (hw : w.level = .idle) :
    levelAfter d true true w = { w with level := .holding, hold := some d.holdTime } := by
  simp [levelAfter, startedInput, hk, hw]

theorem levelAfter_stays {d : WakeInputDef} {qualifies : Bool} {w : WakeInput}
    (h : qualifies = false ∨ w.level ≠ .idle) : levelAfter d true qualifies w = w := by
  rcases h with rfl | h
  · rfl
  · simp [levelAfter, startedInput, h]

/-- A LEVEL input is judged by the level that its pin was just given (R112, R114). -/
theorem levelInputChange_judges {i : Fin 8} {s : State} (l : Level) (hk : (s.wakeDef i).kind = .level) :
    exec (.levelInputChange i l) s = .next ((setWakePin i l s).withWakeInput i
      (levelAfter (s.wakeDef i) (l == (s.wakeDef i).activeLevel) s.qualifies (s.wakeInput i))) := by
  rw [← setWakePin_wakeActive]
  exact congrArg Host.Outcome.next (if_pos hk)

/-! ### The wake queue (R119) -/

/-- The first qualification of an input enters it in the queue (R119). -/
theorem queueAfter_enters {i : Fin 8} {q : List WakeEntry} (now : Time) (h : ∀ e ∈ q, e.input ≠ i) :
    queueAfter i now q = q ++ [⟨i, now, 0, 0, .pending⟩] :=
  if_neg (by simpa using h)

/-- A further qualification counts as a repeat in the input's entry (R119). -/
theorem queueAfter_repeats {i : Fin 8} {q : List WakeEntry} {e : WakeEntry} (now : Time) (he : e ∈ q) (hi : e.input = i) :
    { e with repeats := min (e.repeats + 1) 255 } ∈ queueAfter i now q := by
  have ha : (q.any fun e => e.input == i) = true := List.any_eq_true.2 ⟨e, he, beq_iff_eq.2 hi⟩
  rw [queueAfter, if_pos ha]
  exact List.mem_map.2 ⟨e, he, if_pos (beq_iff_eq.2 hi)⟩

/-! ### ABORT(WAKE) against the queued ABORT (R80) -/

/-- An ABORT(WAKE) is passed on where no ABORT is queued, or one of another cause (R80). -/
theorem passesAbort_wake {n : TxnNumber} {i : Fin 8} {q : Option Queued}
    (h : q = none ∨ ∃ r, q = some (.ready r) ∧ ∀ x, r.frame.body ≠ .abort (.wake x)) :
    passesAbort n (.wake i) q = true := by
  obtain rfl | ⟨r, rfl, hr⟩ := h
  · rfl
  · unfold passesAbort
    dsimp only
    split
    · split
      case h_1 hb => exact absurd hb (hr _)
      case h_2 => rfl
      case h_3 hn _ => exact absurd rfl (hn i)
    · rfl

/-- An ABORT(WAKE) asked for takes the place of a queued ABORT of another cause (R80). -/
theorem requestAbort_wake_queues (n : TxnNumber) (i : Fin 8) {s : State} (hp : s.agreement.phase ≠ .mute)
    (hq : (s.slot .abort).queued = none ∨
      ∃ r, (s.slot .abort).queued = some (.ready r) ∧ ∀ x, r.frame.body ≠ .abort (.wake x)) :
    (requestAbort n (.wake i) s).hasQueued .abort n (.abort (.wake i)) := by
  rw [requestAbort, if_pos (passesAbort_wake hq)]
  exact fillFrame_hasQueued (body := .abort (.wake i)) (takesFill_of_phase hp _) n

/-- An ABORT(WAKE) already queued under the number stands (R80). -/
theorem requestAbort_wake_stands {n : TxnNumber} (i : Fin 8) {s : State}
    (h : ∃ r x, (s.slot .abort).queued = some (.ready r) ∧ r.frame.number = n ∧ r.frame.body = .abort (.wake x)) :
    requestAbort n (.wake i) s = s := by
  obtain ⟨r, x, hq, hn, hb⟩ := h
  have hp : passesAbort n (.wake i) (s.slot .abort).queued = false := by
    simp [passesAbort, hq, hn, hb]
  rw [requestAbort, if_neg (by simp [hp])]

/-! ### Qualification (R119, R120) -/

theorem wakeAborts_iff (s : State) (i : Fin 8) : s.wakeAborts i = true ↔
    (s.agreement.phase = .voting ∨ s.agreement.phase = .staging) ∧ s.committed = false ∧
      (s.kind.isEntry = true ∨ s.kind = .demote) ∧ (s.wakeDef i).allowedIn s.kind.target = true := by
  simp [State.wakeAborts, State.votingOrStaging, abortableKind, and_assoc]

/-- The station with a qualification of the input entered in its wake queue (R119). -/
def wakeEntered (i : Fin 8) (s : State) : State := s.withWake { s.wake with queue := queueAfter i s.time s.wake.queue }

/-- Where a qualification calls for it, ABORT(WAKE) is requested for the open number (R120). -/
theorem qualify_aborts {i : Fin 8} {s : State} (h : s.wakeAborts i = true) :
    qualify i s = requestAbort s.openNumber (.wake i) (wakeEntered i s) := by
  have hp : s.agreement.phase ≠ .settled := by
    rcases ((wakeAborts_iff s i).1 h).1 with h | h <;> simp [h]
  exact (if_neg (by simpa using hp)).trans (if_pos h)

/-- Elsewhere, except in SETTLED, a qualification only writes the wake queue (R120). -/
theorem qualify_enters {i : Fin 8} {s : State} (hp : s.agreement.phase ≠ .settled) (h : ¬ s.wakeAborts i = true) :
    qualify i s = wakeEntered i s :=
  (if_neg (by simpa using hp)).trans (if_neg h)

/-! ### The end of the hold (R114) -/

/-- The station whose LEVEL input has been active for its hold (R114). -/
def levelSpent (i : Fin 8) (s : State) : State := s.withWakeInput i { s.wakeInput i with level := .spent, hold := none }

/-- The input whose hold ends qualifies (R114). -/
theorem levelHoldEnd_qualifies {i : Fin 8} {s : State} (h : (s.wakeInput i).hold.isSome = true) :
    exec (.levelHoldEnd i) s = .next (qualify i (levelSpent i s)) :=
  congrArg Host.Outcome.next (if_pos h)

/-- Settles O50: a change of the pin is `levelInputChange_judges` by the cases of `levelAfter`, and the end of the hold is a
qualification of the spent input, by the cases of `wakeAborts_iff`. -/
theorem levelInputQualifies : Obligations.LevelInputQualifies := by
  refine ⟨fun i l s s' hk hs' => ?_, fun i s hh => ⟨_, levelHoldEnd_qualifies hh, ?_, fun hn => ?_, fun e he hi => ?_,
    fun hp hc hk ha => ?_, fun hp hno => ?_, by simp [levelSpent], by simp [levelSpent], by simp [levelSpent]⟩⟩
  · subst hs'
    rw [levelInputChange_judges l hk]
    refine ⟨fun hl => ?_, fun hl hq hi => ?_, fun hl h => ?_⟩
    · rw [beq_false_of_ne hl, levelAfter_inactive]
      rfl
    · rw [beq_iff_eq.2 hl, hq, levelAfter_begins hk hi]
      rfl
    · rw [beq_iff_eq.2 hl, levelAfter_stays h]
      exact congrArg Host.Outcome.next (withWakeInput_wakeInput (setWakePin i l s) i)
  · have hw : (qualify i (levelSpent i s)).wakeInput i = (levelSpent i s).wakeInput i := by simp [State.wakeInput]
    rw [hw, levelSpent, wakeInput_withWakeInput_same]
  · rw [qualify_queue]
    exact queueAfter_enters s.time hn
  · rw [qualify_queue]
    exact queueAfter_repeats s.time he hi
  · rw [qualify_aborts (s := levelSpent i s) ((wakeAborts_iff _ i).2 ⟨hp, hc, hk, ha⟩)]
    have hm : s.agreement.phase ≠ .mute := by
      rcases hp with h | h <;> simp [h]
    exact ⟨requestAbort_wake_queues s.openNumber i (s := wakeEntered i (levelSpent i s)) hm,
      fun h => (congrArg State.link (requestAbort_wake_stands i (s := wakeEntered i (levelSpent i s)) h)).trans rfl⟩
  · have hna : ¬ (levelSpent i s).wakeAborts i = true := fun h => by
      obtain ⟨hv, hc, hk, ha⟩ := (wakeAborts_iff s i).1 h
      obtain ⟨hv', hst⟩ | hc' | ⟨he, hd⟩ | ha' := hno
      · exact hv.elim hv' hst
      · simp [hc] at hc'
      · simp [he, hd] at hk
      · simp [ha] at ha'
    rw [qualify_enters (s := levelSpent i s) hp hna]
    rfl

end Sys2Proof.Machine
end

section
/-! PROOF. What the fault lists show: the fault summary of a BEAT, the fault cause of ATTN, and the lists behind ACK_FAULTS
(O9, O54). -/

namespace Sys2Proof.Machine

open Sys2Proof

/-! ### The summary and the fault cause (R104) -/

/-- Without a SEVERE entry the summary follows the deferred list, then the latched one (R104). -/
theorem faultSummary_mild {s : State} (h : ∀ e ∈ s.faults.latched, e.severity ≠ .severe) :
    s.faultSummary = if s.faults.deferred = [] then if s.faults.latched = [] then 0 else 1 else 3 := by
  have hn : s.hasSevere = false := by simpa [State.hasSevere] using h
  rw [State.faultSummary, hn]
  by_cases hd : s.faults.deferred = [] <;> by_cases hl : s.faults.latched = [] <;> simp [hd, hl]

/-- From load done onward ATTN has two causes (R104, R167). -/
theorem attn_loaded {s : State} (h : s.agreement.phase.loaded = true) :
    s.attn = (!s.faults.latched.isEmpty || s.hasNewEntry) := by
  rw [State.attn, h, Bool.true_and]

/-- A RESTART keeps the latched list whether or not the port answers it (R104, R166). -/
theorem restart_latched (w : PortWrite) (s : State) :
    ∃ t, exec (.restart w) s = .next t ∧ t.faults.latched = s.faults.latched := by
  refine ⟨_, rfl, ?_⟩
  unfold onPort
  split <;> simp

/-- Settles O9: the BEAT by `startNext_eq`, which composes it, and the rest by what each list shows. -/
theorem faultSummaryAndAttn : Obligations.FaultSummaryAndAttn := by
  refine ⟨fun n s hq ho hs hl => ?_, fun s => ⟨fun h => ?_, fun h hd => ?_, fun h hd hl => ?_, fun hl hd => ?_⟩,
    fun s h => ?_, fun s h => ?_, ?_⟩
  · refine ⟨_, { frame := s.composeBeat n, forReplaced := false }, _, rfl, ?_, rfl, rfl, rfl⟩
    rw [startNext_eq ho hs hq hl, slot_withSlot_same]
    rfl
  · simp [State.faultSummary, (hasSevere_iff s).2 h]
  · rw [faultSummary_mild h, if_neg hd]
  · rw [faultSummary_mild h, if_pos hd, if_neg hl]
  · rw [faultSummary_mild (by simp [hl]), if_pos hd, if_pos hl]
  · simp [attn_loaded h, State.hasNewEntry]
  · simp [State.attn, h]
  · rintro c s (rfl | ⟨w, rfl⟩)
    · exact ⟨_, rfl, by simp⟩
    · exact restart_latched w s

/-! ### ACK_FAULTS (R100, R166) -/

/-- The state behind an ACK_FAULTS that the port answers (R100, R166). -/
def faultsAcked (w : PortWrite) (s : State) : State := emptyLatched (select s.ackBytes (takenAcks 1 w.extra) s)

theorem ackFaults_acks {w : PortWrite} {s : State} (h : s.answers w.addr = true) :
    exec (.ackFaults w) s = .next (faultsAcked w s) :=
  congrArg Host.Outcome.next (if_pos h)

/-- With no SEVERE entry latched, row 4 of the vote policy does not match (R32). -/
theorem votePolicy_ne_faultPending {s : State} (h : s.hasSevere = false) (inh : Inhibits) (k : Kind) :
    s.votePolicy inh k ≠ .decline .faultPending := by
  unfold State.votePolicy
  rw [h]
  (repeat' split) <;> simp_all

/-- A condition raised on an empty list is its first entry (R99). -/
theorem latchFault_first (code : FaultCode) (target : Target) (sev : Severity) {s : State} (h : s.faults.latched = []) :
    (latchFault code target sev s).faults.latched = [⟨code, target, sev, s.time, s.time, 1⟩] := by
  simp [latchFault, h]

/-- Settles O54: what stands behind an answered ACK_FAULTS (`ackFaults_acks`), and what an empty latched list shows. -/
theorem ackFaultsEmptiesLatchedList : Obligations.AckFaultsEmptiesLatchedList := by
  intro w s ha
  have hl : (faultsAcked w s).faults.latched = [] := rfl
  have hloaded : (faultsAcked w s).agreement.phase.loaded = true := by
    simp only [State.answers, Bool.and_eq_true] at ha
    exact ha.1
  refine ⟨faultsAcked w s, ackFaults_acks ha, rfl, ?_, ?_, votePolicy_ne_faultPending rfl,
    fun code tgt sev => latchFault_first code tgt sev hl, fun more hm => ⟨faultsAcked more (faultsAcked w s), ?_, rfl, rfl⟩⟩
  · rw [attn_loaded hloaded, hl]
    rfl
  · rw [faultSummary_mild (by simp [hl]), if_pos hl]
    rfl
  · exact ackFaults_acks (by rw [hm]; exact ha)

end Sys2Proof.Machine
end

section
/-! PROOF. The ends of the minimum dwell and the fault hold (O39), and the beat tick (O41). -/

namespace Sys2Proof.Machine

open Sys2Proof

/-! ### The announcement test behind a hold (O39) -/

/-- With no PENDING entry nothing is announced (R122). -/
theorem testAnnounce_nonePending {s : State} (h : ∀ e ∈ s.wake.queue, e.state ≠ .pending) : testAnnounce s = s := by
  have hn : oldestPending s.wake.queue = none := List.find?_eq_none.2 (by simpa using h)
  unfold testAnnounce
  rw [hn]
  exact ite_self s

/-- The announcement test writes no more of the wake unit than the mark (R122). -/
theorem testAnnounce_wake (s : State) : (testAnnounce s).wake = { s.wake with mark := (testAnnounce s).wake.mark } :=
  congrArg State.wake (testAnnounce_delivery s)

/-- Either hold stops, which leaves the queue and the mark, and the announcement is tested (R109, R123). -/
theorem holdOver_tests {c : Instr} {s s' : State}
    (h : (c = .minimumDwellExpiry ∧ s.wake.minDwell.isSome = true ∧ s' = { s with wake := { s.wake with minDwell := none } }) ∨
      (c = .faultHoldExpiry ∧ s.wake.faultHold.isSome = true ∧ s' = { s with wake := { s.wake with faultHold := none } })) :
    exec c s = .next (testAnnounce s') ∧
    ∃ w : WakeUnit, s' = s.withWake w ∧ w.queue = s.wake.queue ∧ w.mark = s.wake.mark := by
  rcases h with ⟨rfl, hr, rfl⟩ | ⟨rfl, hr, rfl⟩ <;>
    exact ⟨congrArg Host.Outcome.next (if_pos hr), _, rfl, rfl, rfl⟩

/-- Settles O39: the end of a hold is the announcement test (`holdOver_tests`), which the gates of R122 open. -/
theorem holdEndAnnounces : Obligations.HoldEndAnnounces := by
  intro c s s' h
  obtain ⟨he, w, rfl, hq, hm⟩ := holdOver_tests h
  rw [he]
  refine ⟨fun hn => ?_, fun hc => ?_, fun e wt hp hb hmark hf hquorum ho => ?_⟩
  · rw [testAnnounce_nonePending (by rw [State.withWake_wake, hq]; exact hn)]
  · refine congrArg Host.Outcome.next (if_neg fun hg => ?_)
    obtain ⟨⟨gp, gb, gd, gf, gq⟩, gm⟩ := (mayAnnounce_iff _).1 hg
    rw [State.withWake_wake, hm] at gm
    rcases hc with hc | hc | hc | hc | ⟨hc, hd⟩ | hc | ⟨j, hj, hne, hnp⟩
    · exact hc gp
    · simp [hc] at gb
    · simp [hc] at gb
    · simp [gm] at hc
    · rw [gd hc] at hd
      cases hd
    · rw [gf] at hc
      cases hc
    · exact (gq j hj).elim hne hnp
  · have hg : (s.withWake w).gatesOpen :=
      ⟨hp, hb.elim (fun x => .inl x.1) (fun x => .inr x.1),
        fun hr => hb.elim (fun x => x.2.1) (fun x => by rcases x.1 with q | q <;> simp [q] at hr), hf, hquorum⟩
    obtain ⟨hmk, hwq⟩ := (testAnnounce_announces (s := s.withWake w) (hm.trans hmark)).1 e (by
      rw [State.withWake_wake, hq]; exact ho) hg
    have ha : (testAnnounce (s.withWake w)).agreement = s.agreement := by simp
    have hwt : (if s.agreement.believed = some .rest then WakeTarget.resume else .rise) = wt := by
      rcases hb with ⟨hb, -, rfl⟩ | ⟨hb | hb, rfl⟩ <;> simp [hb]
    rw [State.nextNumber, ha, hwt] at hwq
    exact ⟨_, rfl, hwq, by rw [testAnnounce_wake, hmk], ha, by simp⟩

/-! ### The beat tick (O41) -/

/-- A tick before its BEAT is filled: the debt raised, the timer restarted, and BEAT_OVERDUE latched as the debt reaches 4
(R145). -/
def tickCounted (s : State) : State :=
  let u := s.withPresence { s.presence with debt := satInc 4 s.presence.debt, beatTimer := s.presence.beat }
  if s.presence.debt = 3 then raiseFault .beatOverdue noTarget .notice u else u

theorem tickCounted_stands (s : State) :
    (tickCounted s).presence = { s.presence with debt := min (s.presence.debt + 1) 4, beatTimer := s.presence.beat } ∧
    (tickCounted s).link = s.link ∧ (tickCounted s).agreement = s.agreement ∧ (tickCounted s).executor = s.executor ∧
    (tickCounted s).channel = s.channel ∧
    (s.presence.debt = 3 → Latched s (tickCounted s) .beatOverdue noTarget .notice) ∧
    (s.presence.debt ≠ 3 → (tickCounted s).faults = s.faults) := by
  unfold tickCounted
  dsimp only
  split
  · rename_i h
    refine ⟨by simp [satInc], by simp [raiseFault_notice], by simp, by simp, by simp, fun _ => ?_, fun q => absurd h q⟩
    exact raiseFault_latched .beatOverdue noTarget .notice
      (s.withPresence { s.presence with debt := satInc 4 s.presence.debt, beatTimer := s.presence.beat })
  · rename_i h
    exact ⟨rfl, rfl, rfl, rfl, rfl, fun q => absurd q h, fun _ => rfl⟩

/-- A tick at a debt of 1 or more, which it raises to 2 or more, fills a BEAT (R145). -/
theorem beatTick_fills {s : State} (h : s.presence.beatTimer.isSome = true) :
    exec .beatTick s = .next (if 1 ≤ s.presence.debt then fillBeat (tickCounted s) else tickCounted s) := by
  have hd : 2 ≤ (tickCounted s).presence.debt ↔ 1 ≤ s.presence.debt := by
    rw [(tickCounted_stands s).1]
    dsimp only
    omega
  rw [← if_congr hd rfl rfl]
  exact congrArg Host.Outcome.next (if_pos h)

/-- Settles O41: what is counted first (`tickCounted_stands`), then the fill of the BEAT (`fillBeat_fills`). -/
theorem beatTickRaisesDebt : Obligations.BeatTickRaisesDebt := by
  refine ⟨fun s ht hp => ?_, fun s ht => congrArg Host.Outcome.next (if_neg (by simp [ht]))⟩
  obtain ⟨hpr, hl, ha, hx, hc, hlatched, hkept⟩ := tickCounted_stands s
  rw [beatTick_fills ht]
  generalize tickCounted s = u at *
  by_cases hd : 1 ≤ s.presence.debt
  · rw [if_pos hd]
    obtain ⟨hslot, hfilled⟩ := fillBeat_fills (s := u) (by rw [ha]; exact hp)
    rw [beatInSlot_congr (slot_eq_of_link hl _), ha] at hfilled
    refine ⟨_, rfl, by simp [hpr], by simp [hpr], fun _ => ⟨hslot, hfilled⟩, fun h => ?_, fun h => by omega, fun h => ?_,
      by simp [ha], by simp [hx], by simp [hc]⟩
    · simpa [Latched] using hlatched h
    · simpa using hkept h
  · rw [if_neg hd]
    exact ⟨u, rfl, by rw [hpr], by rw [hpr], fun h => absurd h hd, hlatched, fun _ => hl, hkept, ha, hx, hc⟩

end Sys2Proof.Machine
end

section
/-! PROOF. COUNT inputs: the count of active edges and its judgement at the end of a window (O51). -/

namespace Sys2Proof.Machine

open Sys2Proof

/-! ### An active edge (R115) -/

/-- The edge is counted while qualification runs. -/
theorem countEdge_counts {i : Fin 8} {s : State} (hk : (s.wakeDef i).kind = .count) (hq : s.qualifies = true) :
    exec (.countEdge i) s = .next (countActiveEdge i s) :=
  congrArg Host.Outcome.next (if_pos (by simp [hk, hq]))

/-- Below the limit the count rises. -/
theorem countActiveEdge_below {i : Fin 8} {s : State} (h : (s.wakeInput i).edges < 65535) :
    countActiveEdge i s = s.withWakeInput i { s.wakeInput i with edges := (s.wakeInput i).edges + 1 } :=
  if_pos h

/-- At the limit the first edge of a window raises WAKE_OVERFLOW. -/
theorem countActiveEdge_overflows {i : Fin 8} {s : State} (h : 65535 ≤ (s.wakeInput i).edges)
    (ho : (s.wakeInput i).overflow = false) :
    countActiveEdge i s = (raiseFault .wakeOverflow (eightTarget i) .notice s).withWakeInput i
      { s.wakeInput i with overflow := true } := by
  simp [countActiveEdge, Nat.not_lt.2 h, ho]

/-- At the limit a further edge of the window does nothing. -/
theorem countActiveEdge_past {i : Fin 8} {s : State} (h : 65535 ≤ (s.wakeInput i).edges)
    (ho : (s.wakeInput i).overflow = true) : countActiveEdge i s = s := by
  simp [countActiveEdge, Nat.not_lt.2 h, ho]

/-! ### One window judged (R115, R119) -/

/-- The wake queue holds an entry of this input (R118). -/
def State.hasEntry (s : State) (i : Fin 8) : Prop := ∃ e ∈ s.wake.queue, e.input = i

theorem wakeInput_withWakeInput_ne (s : State) {i j : Fin 8} (h : j ≠ i) (w : WakeInput) :
    (s.withWakeInput i w).wakeInput j = s.wakeInput j :=
  tabGet_tabSet_ne _ h _

theorem qualify_wakeInput (i j : Fin 8) (s : State) : (qualify i s).wakeInput j = s.wakeInput j := by
  simp [State.wakeInput]

theorem qualify_hasEntry (i : Fin 8) (s : State) : (qualify i s).hasEntry i := by
  unfold State.hasEntry
  rw [qualify_queue]
  exact queueAfter_holds i s.time s.wake.queue

/-- A qualification removes no entry (R119). -/
theorem State.hasEntry.qualify {s : State} {j : Fin 8} (h : s.hasEntry j) (i : Fin 8) : (qualify i s).hasEntry j := by
  obtain ⟨e, he, hj⟩ := h
  unfold State.hasEntry
  rw [qualify_queue, queueAfter]
  split
  · refine ⟨_, List.mem_map.2 ⟨e, he, rfl⟩, ?_⟩
    split <;> exact hj
  · exact ⟨e, List.mem_append_left _ he, hj⟩

/-- A COUNT input with its count and its overflow flag cleared (R115). -/
def WakeInput.cleared (w : WakeInput) : WakeInput := { w with edges := 0, overflow := false }

theorem judgeWindow_below {i : Fin 8} {s : State} (h : (s.wakeInput i).edges < (s.wakeDef i).threshold) :
    judgeWindow s i = s.withWakeInput i (s.wakeInput i).cleared := by
  simp [judgeWindow, Nat.not_le.2 h, WakeInput.cleared]

theorem judgeWindow_reached {i : Fin 8} {s : State} (h : (s.wakeDef i).threshold ≤ (s.wakeInput i).edges) :
    judgeWindow s i = qualify i (s.withWakeInput i (s.wakeInput i).cleared) := by
  simp [judgeWindow, h, WakeInput.cleared]

/-- A judgement clears the input judged and no other. -/
theorem judgeWindow_clears (s : State) (i : Fin 8) :
    (judgeWindow s i).wakeInput i = (s.wakeInput i).cleared ∧
    ∀ j, j ≠ i → (judgeWindow s i).wakeInput j = s.wakeInput j := by
  rcases Nat.lt_or_ge (s.wakeInput i).edges (s.wakeDef i).threshold with h | h
  · rw [judgeWindow_below h]
    exact ⟨wakeInput_withWakeInput_same .., fun j hj => wakeInput_withWakeInput_ne s hj _⟩
  · rw [judgeWindow_reached h]
    exact ⟨(qualify_wakeInput ..).trans (wakeInput_withWakeInput_same ..),
      fun j hj => (qualify_wakeInput ..).trans (wakeInput_withWakeInput_ne s hj _)⟩

/-- A count that reached the threshold qualifies the input. -/
theorem judgeWindow_enters {i : Fin 8} {s : State} (h : (s.wakeDef i).threshold ≤ (s.wakeInput i).edges) :
    (judgeWindow s i).hasEntry i := by
  rw [judgeWindow_reached h]
  exact qualify_hasEntry i _

theorem State.hasEntry.judgeWindow {s : State} {j : Fin 8} (h : s.hasEntry j) (i : Fin 8) :
    (judgeWindow s i).hasEntry j := by
  rcases Nat.lt_or_ge (s.wakeInput i).edges (s.wakeDef i).threshold with hc | hc
  · rw [judgeWindow_below hc]
    exact h
  · rw [judgeWindow_reached hc]
    exact State.hasEntry.qualify (s := s.withWakeInput i _) h i

theorem judgeWindow_wakeDef (s : State) (i j : Fin 8) : (judgeWindow s i).wakeDef j = s.wakeDef j := by
  simp [State.wakeDef, State.station]

/-! ### The windows judged together (R116) -/

theorem State.hasEntry.judgeWindows {s : State} {j : Fin 8} (h : s.hasEntry j) (l : List (Fin 8)) :
    (l.foldl Machine.judgeWindow s).hasEntry j := by
  induction l generalizing s with
  | nil => exact h
  | cons a l ih => exact ih (h.judgeWindow a)

/-- Each input of the list is judged on its own count, and the others stand. -/
theorem judgeWindows_judge {l : List (Fin 8)} (hn : l.Nodup) (s : State) :
    (∀ i ∈ l, (l.foldl judgeWindow s).wakeInput i = (s.wakeInput i).cleared ∧
      ((s.wakeDef i).threshold ≤ (s.wakeInput i).edges → (l.foldl judgeWindow s).hasEntry i)) ∧
    ∀ i, i ∉ l → (l.foldl judgeWindow s).wakeInput i = s.wakeInput i := by
  induction l generalizing s with
  | nil => exact ⟨fun i hi => absurd hi List.not_mem_nil, fun _ _ => rfl⟩
  | cons a l ih =>
    obtain ⟨ha, hl⟩ := List.nodup_cons.1 hn
    obtain ⟨hin, hout⟩ := ih hl (judgeWindow s a)
    obtain ⟨hsame, hne⟩ := judgeWindow_clears s a
    simp only [List.foldl_cons]
    refine ⟨fun i hi => ?_, fun i hi => ?_⟩
    · rcases List.mem_cons.1 hi with rfl | hi
      · exact ⟨(hout i ha).trans hsame, fun h => (judgeWindow_enters h).judgeWindows l⟩
      · have hia : i ≠ a := fun q => ha (q ▸ hi)
        have hi' := hin i hi
        rwa [hne i hia, judgeWindow_wakeDef] at hi'
    · rw [List.mem_cons, not_or] at hi
      obtain ⟨hia, hil⟩ := hi
      exact (hout i hil).trans (hne i hia)

/-- The COUNT inputs of the common window, ascending (log 42). -/
def State.commonInputs (s : State) : List (Fin 8) := allWakes.filter fun i => s.isCommonInput i

theorem mem_commonInputs (s : State) (i : Fin 8) : i ∈ s.commonInputs ↔ s.isCommonInput i = true := by
  simp [State.commonInputs, allWakes]

theorem commonInputs_nodup (s : State) : s.commonInputs.Nodup := (List.nodup_finRange 8).filter _

/-- The common window ends: it restarts, and each of its inputs is judged (R116). -/
theorem commonWindowExpiry_judges {s : State} (h : s.wake.commonWindow.isSome = true) :
    exec .commonWindowExpiry s = .next (s.commonInputs.foldl judgeWindow (restartCommon s)) :=
  congrArg Host.Outcome.next (if_pos h)

/-- An input's own window ends: it restarts, and the input is judged (R116). -/
theorem ownWindowExpiry_judges {i : Fin 8} {s : State} (h : (s.wakeInput i).ownWindow.isSome = true) :
    exec (.ownWindowExpiry i) s =
      .next (judgeWindow (s.withWakeInput i { s.wakeInput i with ownWindow := some (s.wakeDef i).ownLength }) i) :=
  congrArg Host.Outcome.next (if_pos h)

/-- Settles O51: an edge by `countActiveEdge`'s three cases, and a window's end by `judgeWindow` and its fold. -/
theorem countWindowQualifies : Obligations.CountWindowQualifies := by
  refine ⟨fun i s hk hq => ?_, fun i s hq => ?_, fun i s hw => ?_, fun s hw => ?_⟩
  · rw [countEdge_counts hk hq]
    refine ⟨fun h => by rw [countActiveEdge_below h], fun h ho => ?_, fun h ho => by rw [countActiveEdge_past h ho]⟩
    rw [countActiveEdge_overflows h ho]
    exact ⟨_, rfl, wakeInput_withWakeInput_same .., raiseFault_latched ..⟩
  · exact congrArg Host.Outcome.next (if_neg (by simp [hq]))
  · rw [ownWindowExpiry_judges hw]
    have hu : (s.withWakeInput i { s.wakeInput i with ownWindow := some (s.wakeDef i).ownLength }).wakeInput i =
        { s.wakeInput i with ownWindow := some (s.wakeDef i).ownLength } := wakeInput_withWakeInput_same ..
    refine ⟨_, rfl, ?_, fun h => ?_, fun h => judgeWindow_enters (by rw [hu]; exact h)⟩
    · rw [(judgeWindow_clears _ i).1, hu]
      rfl
    · rw [judgeWindow_below (by rw [hu]; exact h)]
      rfl
  · rw [commonWindowExpiry_judges hw]
    obtain ⟨hin, hout⟩ := judgeWindows_judge (commonInputs_nodup s) (restartCommon s)
    refine ⟨_, rfl, ?_, fun i => ⟨fun hi => ?_, fun hi => hout i (by simp [mem_commonInputs, hi])⟩⟩
    · exact foldl_keep (fun s => s.wake.commonWindow) (fun s a => by simp) _ _
    · obtain ⟨hc, he⟩ := hin i ((mem_commonInputs s i).2 hi)
      exact ⟨by rw [hc]; rfl, by rw [hc]; rfl, he⟩

end Sys2Proof.Machine
end

section
/-! SUPPORT. The transmit slots in order (R136, R139): the operations on the slots, and those that write none. -/

namespace Sys2Proof.Machine

open Sys2Proof

/-! ### A slot written, and a state of which the slots stand -/

/-- A fill is refused exactly where MUTE keeps the slot empty (R139). -/
theorem takesFill_eq_false_iff (s : State) (k : FrameKind) :
    s.takesFill k = false ↔ s.agreement.phase = .mute ∧ (k ≠ .census ∨ s.presence.muteCause ≠ .barred) := by
  simp [State.takesFill, imp_iff_not_or]

theorem LinkFits.empty {s : State} (h : LinkFits s) {k : FrameKind} (hk : s.takesFill k = false) : (s.slot k).isEmpty := by
  obtain ⟨-, -, hm⟩ := h
  obtain ⟨hp, hc⟩ := (takesFill_eq_false_iff s k).1 hk
  exact hm hp k hc

/-- With one slot sending, no other is (R136). -/
theorem LinkFits.others_silent {s : State} (h : LinkFits s) {k : FrameKind} (hk : (s.slot k).sending ≠ none) :
    ∀ j, j ≠ k → (s.slot j).sending = none := by
  obtain ⟨-, hone, -⟩ := h
  exact fun j hj => by_contra fun q => hj (hone j k q hk)

/-- The slots stand, and those that were to be empty are still enough. -/
theorem LinkFits.of_slots {s t : State} (h : LinkFits s) (hs : t.link.slots = s.link.slots)
    (hf : ∀ k, t.takesFill k = false → s.takesFill k = false) : LinkFits t := by
  have he : ∀ k, t.slot k = s.slot k := fun k => by rw [State.slot, State.slot, hs]
  obtain ⟨hk, hone, -⟩ := id h
  refine ⟨fun k => he k ▸ hk k, fun j k => by rw [he, he]; exact hone j k, fun hp k hc => ?_⟩
  rw [he]
  exact h.empty (hf k ((takesFill_eq_false_iff t k).2 ⟨hp, hc⟩))

/-- An operation that writes neither the slots, nor the phase, nor the cause of MUTE. -/
theorem LinkFits.of_eq {s t : State} (h : LinkFits s) (k : t.link.slots = s.link.slots ∧
    t.agreement.phase = s.agreement.phase ∧ t.presence.muteCause = s.presence.muteCause) : LinkFits t := by
  obtain ⟨hs, hp, hc⟩ := k
  exact h.of_slots hs fun k => by simp [State.takesFill, hp, hc]

/-- Outside MUTE nothing is asked of what the slots hold to send (R139). -/
theorem LinkFits.of_phase {s t : State} (h : LinkFits s) (hs : t.link.slots = s.link.slots)
    (hp : t.agreement.phase ≠ .mute) : LinkFits t :=
  h.of_slots hs fun k hk => absurd ((takesFill_eq_false_iff t k).1 hk).1 hp

theorem withPhase_linkFits {p : Phase} (hp : p ≠ .mute) {s : State} (h : LinkFits s) : LinkFits (s.withPhase p) :=
  h.of_phase rfl hp

/-- A slot written with frames of its kind, a sending one only beside silent slots, and none where none may be. -/
theorem withSlot_linkFits {s : State} (h : LinkFits s) {k : FrameKind} {x : Slot} (hx : SlotHolds k x)
    (hone : x.sending ≠ none → ∀ j, j ≠ k → (s.slot j).sending = none)
    (he : s.takesFill k = false → x.isEmpty) : LinkFits (s.withSlot k x) := by
  obtain ⟨hk, ho, -⟩ := id h
  have hsame : (s.withSlot k x).slot k = x := slot_withSlot_same s k x
  have hne : ∀ {j}, j ≠ k → (s.withSlot k x).slot j = s.slot j := fun hj => slot_withSlot_ne s hj x
  refine ⟨fun j => ?_, fun i j hi hj => ?_, fun hp j hc => ?_⟩
  · by_cases hj : j = k
    · rw [hj, hsame]
      exact hx
    · rw [hne hj]
      exact hk j
  · by_cases hik : i = k <;> by_cases hjk : j = k
    · rw [hik, hjk]
    · rw [hik, hsame] at hi
      rw [hne hjk] at hj
      exact absurd (hone hi j hjk) hj
    · rw [hjk, hsame] at hj
      rw [hne hik] at hi
      exact absurd (hone hj i hik) hi
    · rw [hne hik] at hi
      rw [hne hjk] at hj
      exact ho i j hi hj
  · have hf : s.takesFill j = false := (takesFill_eq_false_iff s j).2 ⟨hp, hc⟩
    by_cases hj : j = k
    · subst hj
      rw [hsame]
      exact he hf
    · rw [hne hj]
      exact h.empty hf

/-- A slot written with no more in it than it held. -/
theorem narrowSlot_linkFits {s : State} (h : LinkFits s) {k : FrameKind} {x : Slot}
    (hq : x.queued = (s.slot k).queued ∨ x.queued = none)
    (hs : x.sending = (s.slot k).sending ∨ x.sending = none) : LinkFits (s.withSlot k x) := by
  obtain ⟨hr, hb, ht⟩ := h.1 k
  refine withSlot_linkFits h ⟨?_, ?_, ?_⟩ ?_ ?_
  · rcases hq with q | q <;> rw [q]
    · exact hr
    · exact nofun
  · rcases hq with q | q <;> rw [q]
    · exact hb
    · exact nofun
  · rcases hs with q | q <;> rw [q]
    · exact ht
    · exact nofun
  · rcases hs with q | q <;> rw [q]
    · exact h.others_silent
    · exact fun q => absurd rfl q
  · intro hf
    obtain ⟨e1, e2⟩ := h.empty hf
    exact ⟨hq.elim (·.trans e1) id, hs.elim (·.trans e2) id⟩

/-- A choice between two states with their slots in order. -/
theorem LinkFits.ite {p : Prop} [Decidable p] {s t : State} (ht : LinkFits t) (hs : LinkFits s) :
    LinkFits (if p then t else s) := by
  split
  · exact ht
  · exact hs

/-- Slots with nothing in them are in order in every phase. -/
theorem blankSlots_linkFits {s : State} (h : ∀ k, s.slot k = Slot.blank) : LinkFits s := by
  refine ⟨fun k => ?_, fun j k hj => ?_, fun _ k _ => ?_⟩
  · rw [h k]
    exact ⟨nofun, nofun, nofun⟩
  · rw [h j] at hj
    exact absurd rfl hj
  · rw [h k]
    exact ⟨rfl, rfl⟩

/-! ### The operations on the slots -/

theorem reportPurged_linkFits (r : Ready) {s : State} (h : LinkFits s) : LinkFits (reportPurged r s) := h.of_eq (by simp)

theorem reportQueued_linkFits (q : Option Queued) {s : State} (h : LinkFits s) : LinkFits (reportQueued q s) :=
  h.of_eq (by simp)

theorem reportQueued_takesFill (q : Option Queued) (s : State) (k : FrameKind) :
    (reportQueued q s).takesFill k = s.takesFill k := by
  simp [State.takesFill]

/-- A fill with a frame of the slot's kind (R136). -/
theorem fillSlot_linkFits {k : FrameKind} {q : Queued} (hr : ∀ r, q = .ready r → r.frame.body.kind = k)
    (hb : ∀ n, q = .beatDue n → k = .beat) {s : State} (h : LinkFits s) : LinkFits (fillSlot k q s) := by
  have hq := reportQueued_linkFits (s.slot k).queued h
  obtain ⟨-, -, hs⟩ := hq.1 k
  unfold fillSlot
  split
  · rename_i ht
    refine withSlot_linkFits hq ⟨fun r e => hr r (Option.some.inj e), fun n e => hb n (Option.some.inj e), hs⟩
      hq.others_silent fun hf => ?_
    rw [reportQueued_takesFill, ht] at hf
    cases hf
  · exact reportQueued_linkFits _ h

theorem fillFrame_linkFits (n : TxnNumber) (b : Body) {s : State} (h : LinkFits s) : LinkFits (fillFrame n b s) :=
  fillSlot_linkFits (fun _ e => by cases e; rfl) (fun _ e => by cases e) h

theorem fillCensus_linkFits {s : State} (h : LinkFits s) : LinkFits (fillCensus s) := fillFrame_linkFits _ _ h

theorem fillBeat_linkFits {s : State} (h : LinkFits s) : LinkFits (fillBeat s) :=
  h.ite (fillSlot_linkFits (fun _ e => by cases e) (fun _ _ => rfl) h)

theorem purgeKind_linkFits (k : FrameKind) (test : Frame → Bool) {s : State} (h : LinkFits s) :
    LinkFits (purgeKind k test s) := by
  unfold purgeKind
  dsimp only
  cases queuedMatches test (s.slot k).queued
  · exact narrowSlot_linkFits h (.inl rfl) (.inl rfl)
  · exact reportQueued_linkFits _ (narrowSlot_linkFits h (.inr rfl) (.inl rfl))

theorem purgeNumber_linkFits (k : FrameKind) (n : TxnNumber) {s : State} (h : LinkFits s) :
    LinkFits (purgeNumber k n s) :=
  purgeKind_linkFits _ _ h

theorem purgeTransaction_linkFits (n : TxnNumber) {s : State} (h : LinkFits s) : LinkFits (purgeTransaction n s) :=
  purgeNumber_linkFits _ _ (purgeNumber_linkFits _ _ (purgeNumber_linkFits _ _ h))

/-- A fold keeps the slots in order where each of its steps does. -/
theorem foldl_linkFits {α : Type} {f : State → α → State} (hf : ∀ s a, LinkFits s → LinkFits (f s a)) (l : List α)
    {s : State} (h : LinkFits s) : LinkFits (l.foldl f s) := by
  induction l generalizing s with
  | nil => exact h
  | cons a l ih => exact ih (hf s a h)

/-- Emptied slots are in order, whatever they held (R139). -/
theorem emptySlots_linkFits (s : State) : LinkFits (emptySlots s) :=
  blankSlots_linkFits fun k => by simp [emptySlots, State.slot, tabGet]

/-- The frame that starts is of its slot's kind; no other slot is sending (R136). -/
theorem startSlot_linkFits {k : FrameKind} {s : State} (h : LinkFits s) (hn : ∀ j, (s.slot j).sending = none) :
    LinkFits (startSlot k s) := by
  obtain ⟨hr, hb, -⟩ := h.1 k
  unfold startSlot
  dsimp only
  split
  · rename_i q hq
    refine withSlot_linkFits h ⟨nofun, nofun, fun r e => ?_⟩ (fun _ j _ => hn j) fun hf => ?_
    · cases e
      cases q with
      | ready r => exact hr r hq
      | beatDue n => exact (hb n hq).symm
    · rw [(h.empty hf).1] at hq
      cases hq
  · exact h

theorem clearSending_linkFits (k : FrameKind) {s : State} (h : LinkFits s) : LinkFits (clearSending k s) :=
  narrowSlot_linkFits h (.inl rfl) (.inr rfl)

theorem requeueForced_linkFits (took : Bool) {s : State} (h : LinkFits s) : LinkFits (requeueForced took s) :=
  (fillFrame_linkFits _ _ h).ite h

/-- A frame that comes back from the line is of its slot's kind (R137). -/
theorem returnFrame_linkFits (k : FrameKind) (n : Nat) {s : State} (h : LinkFits s) :
    LinkFits (returnFrame k n s) := by
  obtain ⟨-, -, ht⟩ := h.1 k
  unfold returnFrame
  dsimp only
  split
  · exact h
  · rename_i r hr
    split
    · exact requeueForced_linkFits _ (reportPurged_linkFits _ (narrowSlot_linkFits h (.inl rfl) (.inr rfl)))
    · refine withSlot_linkFits h ⟨fun r' e => ?_, nofun, nofun⟩ (fun q => absurd rfl q) fun hf => ?_
      · cases e
        exact ht r hr
      · rw [(h.empty hf).2] at hr
        cases hr

theorem judgeReception_linkFits (rx : Reception) {s : State} (h : LinkFits s) : LinkFits (judgeReception rx s) :=
  h.of_eq (by simp)

theorem replacedReady_frame (r : Ready) : (replacedReady r).frame = r.frame := by
  unfold replacedReady
  split <;> rfl

/-- A frame marked as made for a replaced request stays of its kind (R22). -/
theorem markReplaced_linkFits {s : State} (h : LinkFits s) : LinkFits (markReplaced s) := by
  obtain ⟨hr, hb, ht⟩ := h.1 .propose
  refine withSlot_linkFits h ⟨fun r e => ?_, fun n e => ?_, fun r e => ?_⟩
    (fun hs => h.others_silent fun q => hs (by simp [q])) fun hf => ?_
  · obtain ⟨q, hq, e⟩ := Option.map_eq_some_iff.1 e
    cases q with
    | ready r' =>
      cases e
      rw [replacedReady_frame]
      exact hr r' hq
    | beatDue n => cases e
  · obtain ⟨q, hq, e⟩ := Option.map_eq_some_iff.1 e
    cases q with
    | ready r' => cases e
    | beatDue n => exact hb n hq
  · obtain ⟨r', hr', rfl⟩ := Option.map_eq_some_iff.1 e
    rw [replacedReady_frame]
    exact ht r' hr'
  · obtain ⟨e1, e2⟩ := h.empty hf
    exact ⟨by simp [e1], by simp [e2]⟩

/-! ### Faults -/

theorem requestFault_linkFits (code : FaultCode) (target : Target) {s : State} (h : LinkFits s) :
    LinkFits (requestFault code target s) :=
  (fillFrame_linkFits _ _ h).ite h

theorem disposeFault_linkFits (code : FaultCode) (target : Target) (sev : Severity) (send : Bool) {s : State}
    (h : LinkFits s) : LinkFits (disposeFault code target sev send s) := by
  have hl : LinkFits (latchFault code target sev s) := h.of_eq (by simp)
  exact (requestFault_linkFits _ _ hl).ite hl

theorem raiseFault_linkFits (code : FaultCode) (target : Target) (sev : Severity) {s : State} (h : LinkFits s) :
    LinkFits (raiseFault code target sev s) :=
  disposeFault_linkFits _ _ _ _ h

theorem raiseRailCondition_linkFits (ch : Fin 6) (loss : Bool) {s : State} (h : LinkFits s) :
    LinkFits (raiseRailCondition ch loss s) :=
  (h.of_eq (by simp)).ite (raiseFault_linkFits _ _ _ h)

theorem judgeDeferred_linkFits (send : Bool) {s : State} (h : LinkFits s) : LinkFits (judgeDeferred send s) :=
  (foldl_linkFits (fun _ _ => disposeFault_linkFits _ _ _ _) _ h : LinkFits (s.faults.deferred.foldl (judgeEntry send) s))

theorem requestAbort_linkFits (n : TxnNumber) (r : AbortReason) {s : State} (h : LinkFits s) :
    LinkFits (requestAbort n r s) :=
  (fillFrame_linkFits _ _ h).ite h

end Sys2Proof.Machine
end

section
/-! SUPPORT. The transmit slots in order: the channel block, the stage executor, and the wake, request and presence units. -/

namespace Sys2Proof.Machine

open Sys2Proof

/-! ### The channel block and the stage executor -/

theorem failRail_linkFits (ch : Fin 6) (st : RailState) (code : FaultCode) {s : State} (h : LinkFits s) :
    LinkFits (failRail ch st code s).1 := by
  have hl : LinkFits (enterLow ch st s) := h.of_eq (by simp)
  exact (raiseFault_linkFits code (railTarget ch) .severe hl).of_eq (by simp [failRail])

theorem bounceRail_linkFits (ch : Fin 6) (back : RailState) (n : Nat) (failed : RailState) (code : FaultCode) {s : State}
    (h : LinkFits s) : LinkFits (bounceRail ch back n failed code s).1 := by
  unfold bounceRail
  dsimp only
  split
  · exact h.of_eq (by simp)
  · exact failRail_linkFits _ _ _ (h.of_eq (by simp))

/-- The executor fills a STAGE, or nothing (R53, R89). -/
theorem execStep_linkFits {s : State} (h : LinkFits s) : LinkFits (execStep s).1 := by
  rcases execStep_fills s with ⟨hl, -, -⟩ | ⟨n, d, k, u, he, hl, -⟩
  · exact h.of_eq (by simp [hl])
  · have hk : (execStep s).1.agreement = s.agreement ∧ (execStep s).1.presence = s.presence := by simp
    rw [he] at hk ⊢
    exact fillFrame_linkFits n _ (h.of_eq ⟨by rw [hl], by simpa using congrArg Agreement.phase hk.1,
      by simpa using congrArg Presence.muteCause hk.2⟩)

theorem execRun_linkFits {s : State} (h : LinkFits s) : LinkFits (execRun s) :=
  execRun_induct (fun _ => execStep_linkFits) h

theorem execComplete_linkFits (c : Completion) {s : State} (h : LinkFits s) : LinkFits (execComplete c s) :=
  (execRun_linkFits (h.of_eq (by simp))).ite h

theorem execStart_linkFits {s : State} (h : LinkFits s) : LinkFits (execStart s) := execRun_linkFits (h.of_eq (by simp))

theorem execUnwind_linkFits (n : Nat) {s : State} (h : LinkFits s) : LinkFits (execUnwind n s) :=
  execRun_linkFits (h.of_eq (by simp))

theorem testWaiting_linkFits {s : State} (h : LinkFits s) : LinkFits (testWaiting s) := by
  unfold testWaiting
  split
  · rename_i k _
    split
    · exact h
    · dsimp only
      split
      · exact execRun_linkFits (s := beginStage k _) (purgeKind_linkFits _ _ h)
      · exact execRun_linkFits (h.of_eq (by simp))
  · exact h

theorem ownForward_linkFits (k : Nat) {s : State} (h : LinkFits s) : LinkFits (ownForward k s) :=
  (execRun_linkFits (h.of_eq (by simp))).ite h

theorem testLevel_linkFits {s : State} (h : LinkFits s) : LinkFits (testLevel s) := by
  unfold testLevel
  split
  · split
    · exact execRun_linkFits (h.of_eq (by simp))
    · exact h
  · exact h

theorem ownUnwind_linkFits (k : Nat) {s : State} (h : LinkFits s) : LinkFits (ownUnwind k s) :=
  (testLevel_linkFits (h.of_eq (by simp))).ite h

theorem expireNonForced_linkFits {s : State} (h : LinkFits s) : LinkFits (expireNonForced s) := by
  have hs : LinkFits (stall s) := raiseFault_linkFits _ _ _ h
  exact hs.ite (requestAbort_linkFits _ _ h)

theorem expireStage_linkFits (k : Nat) {s : State} (h : LinkFits s) : LinkFits (expireStage k s) :=
  (execRun_linkFits (h.of_eq (by simp))).ite (expireNonForced_linkFits (s := barrierStopped s) h)

/-! ### The wake unit -/

theorem testAnnounce_linkFits {s : State} (h : LinkFits s) : LinkFits (testAnnounce s) := by
  unfold testAnnounce
  split
  · split
    · rename_i e _
      exact fillFrame_linkFits s.nextNumber (.wake s.wakeTarget e.input) h
    · exact h
  · exact h

theorem qualify_linkFits (i : Fin 8) {s : State} (h : LinkFits s) : LinkFits (qualify i s) := by
  have hq : ∀ w, LinkFits (s.withWake w) := fun _ => h
  unfold qualify
  dsimp only
  split
  · exact testAnnounce_linkFits (hq _)
  · split
    · exact requestAbort_linkFits _ _ (hq _)
    · exact hq _

theorem judgeWindow_linkFits (i : Fin 8) {s : State} (h : LinkFits s) : LinkFits (judgeWindow s i) := by
  have hw : ∀ w, LinkFits (s.withWakeInput i w) := fun _ => h
  exact (qualify_linkFits i (hw _)).ite (hw _)

theorem settleEvaluation_linkFits (st : SystemState) {s : State} (h : LinkFits s) : LinkFits (settleEvaluation st s) := by
  have hw : ∀ w, LinkFits (s.withWake w) := fun _ => h
  exact (hw _).ite (foldl_linkFits (fun _ _ => raiseFault_linkFits _ _ _) _ (hw _))

theorem settleWake_linkFits (closed : Option (Kind × TxnOutcome)) {s : State} (h : LinkFits s) :
    LinkFits (settleWake closed s) := by
  have he := settleEvaluation_linkFits (s.agreement.believed.getD .off) h
  unfold settleWake
  dsimp only
  refine testAnnounce_linkFits (he.of_eq ?_)
  cases closed <;> simp

theorem countActiveEdge_linkFits (i : Fin 8) {s : State} (h : LinkFits s) : LinkFits (countActiveEdge i s) := by
  unfold countActiveEdge
  dsimp only
  split
  · exact h
  · split
    · exact h
    · exact raiseFault_linkFits _ _ _ h

/-! ### The request unit -/

theorem replaceLatched_linkFits {s : State} (h : LinkFits s) : LinkFits (replaceLatched s) := by
  unfold replaceLatched
  split
  · have ha : ∀ r, LinkFits (answerRequest r .low s) := fun r => h.of_eq (by simp)
    dsimp only
    split
    · exact markReplaced_linkFits (ha _)
    · exact ha _
  · exact h

theorem testPropose_linkFits {s : State} (h : LinkFits s) : LinkFits (testPropose s) := by
  unfold testPropose
  split
  · rename_i l _
    split
    · exact fillFrame_linkFits s.nextNumber (.propose l.request.kind false l.request.flag) h
    · exact h
  · exact h

theorem takeRequest_linkFits (r : Request) {s : State} (h : LinkFits s) : LinkFits (takeRequest r s) :=
  testPropose_linkFits (s := latchRequest r s) (replaceLatched_linkFits h)

theorem refreshSeen_linkFits (i : StationId) {s : State} (h : LinkFits s) : LinkFits (refreshSeen i s) := by
  have hd : LinkFits (dropRefresh i s) := h
  exact (testPropose_linkFits hd).ite hd

theorem settleRequest_linkFits (closed : Option (Kind × TxnOutcome)) {s : State} (h : LinkFits s) :
    LinkFits (settleRequest closed s) :=
  (testPropose_linkFits (h.of_eq (by simp))).ite (h.of_eq (by simp))

/-! ### The presence unit -/

theorem beatTickEffect_linkFits {s : State} (h : LinkFits s) : LinkFits (beatTickEffect s) := by
  have hp : ∀ n t, LinkFits (s.withPresence { s.presence with debt := n, beatTimer := t }) := fun _ _ => h
  unfold beatTickEffect
  dsimp only
  generalize hu : (if s.presence.debt = 3 then _ else _) = u
  have hu : LinkFits u := by
    rw [← hu]
    split
    · exact raiseFault_linkFits _ _ _ (hp _ _)
    · exact hp _ _
  split
  · exact fillBeat_linkFits hu
  · exact hu

theorem reportPresent_linkFits (i : StationId) (v : PresenceValue) {s : State} (h : LinkFits s) :
    LinkFits (reportPresent i v s) :=
  (testAnnounce_linkFits h).ite h

theorem touchPeer_linkFits (f : Frame) {s : State} (h : LinkFits s) : LinkFits (touchPeer f s) :=
  reportPresent_linkFits f.sender _ (s := s.withPeer f.sender _) h

/-- A peer's entry is rewritten and it leaves the refreshed-view and the barring set (R30, R148). -/
theorem dropPeer_linkFits (i : StationId) (p : Peer) {s : State} (h : LinkFits s) :
    LinkFits (dropBarring i (refreshSeen i (s.withPeer i p))) :=
  refreshSeen_linkFits i (s := s.withPeer i p) h

theorem censusPeer_linkFits (i : StationId) (sig : Signature) (rc : ResetCause) {s : State} (h : LinkFits s) :
    LinkFits (censusPeer i sig rc s) :=
  (reportPresent_linkFits i _ (s := s.withPeer i _) h).ite (dropPeer_linkFits i _ h)

theorem missVote_linkFits (i : StationId) {s : State} (h : LinkFits s) : LinkFits (missVote i s) :=
  (dropPeer_linkFits i _ h).ite h

theorem silencePeer_linkFits (i : StationId) {s : State} (h : LinkFits s) : LinkFits (silencePeer i s) :=
  (raiseFault_linkFits _ _ _ (dropPeer_linkFits i _ h)).ite (dropPeer_linkFits i _ h)

theorem settlePeers_linkFits {s : State} (h : LinkFits s) : LinkFits (settlePeers s) := by
  unfold settlePeers
  split
  · refine foldl_linkFits (fun s i hs => ?_) _ h
    split
    · exact raiseFault_linkFits _ _ _ hs
    · exact hs
  · exact h

theorem startCensus_linkFits {s : State} (h : LinkFits s) : LinkFits (startCensus s) :=
  fillCensus_linkFits (s := s.withPresence _) h

end Sys2Proof.Machine
end

section
/-! SUPPORT. The transmit slots in order: the agreement engine (R10 to R18, R147 to R152). -/

namespace Sys2Proof.Machine

open Sys2Proof

/-! ### The settle signal and the closes -/

theorem settleChannel_linkFits (b : Bool) {s : State} (h : LinkFits s) : LinkFits (settleChannel b s) := h.of_eq (by simp)

theorem settleSignal_linkFits (closed : Option (Kind × TxnOutcome)) {s : State} (h : LinkFits s) :
    LinkFits (settleSignal closed s) := by
  have hb : ∀ {t}, LinkFits t → LinkFits (recomputeBeat t) := fun ht => ht.of_eq (by simp)
  exact settleChannel_linkFits _ (settlePeers_linkFits (hb (settleRequest_linkFits closed (settleWake_linkFits closed h))))

/-- SETTLED is entered before the settle signal, so the slots need not be empty whatever the phase was (R17). -/
theorem becomeSettled_linkFits (closed : Option (Kind × TxnOutcome)) {s : State} (h : LinkFits s) :
    LinkFits (becomeSettled closed s) :=
  settleSignal_linkFits closed (withPhase_linkFits (by decide) h)

theorem archive_linkFits (n : Nat) {s : State} (h : LinkFits s) : LinkFits (archive n s) := h.of_eq (by simp)

theorem closeTransaction_linkFits (o : TxnOutcome) (c : Cause) (send : Bool) {s : State} (h : LinkFits s) :
    LinkFits (closeTransaction o c send s) :=
  purgeTransaction_linkFits _ (archive_linkFits _ (judgeDeferred_linkFits send (h.of_eq (by simp))))

theorem closeSettled_linkFits (o : TxnOutcome) (c : Cause) {s : State} (h : LinkFits s) : LinkFits (closeSettled o c s) :=
  becomeSettled_linkFits _ (closeTransaction_linkFits o c true h)

theorem endWork_linkFits {s : State} (h : LinkFits s) : LinkFits (endWork s) := h.of_eq (by simp)

theorem answerUnderVote_linkFits (l : Level) {s : State} (h : LinkFits s) : LinkFits (answerUnderVote l s) :=
  h.of_eq (by simp)

theorem onRecord_linkFits (f : Record → Record) {s : State} (h : LinkFits s) : LinkFits (s.onRecord f) := h.of_eq (by simp)

theorem closeSuperseded_linkFits (who : Issuer → Bool) (c : Cause) {s : State} (h : LinkFits s) :
    LinkFits (closeSuperseded who c s) := by
  have hw : LinkFits (execIdle (abandonWork who s)) := h.of_eq (by simp)
  have hv : ∀ {t}, LinkFits t → LinkFits (stopVoteTimers t) := fun ht => ht
  unfold closeSuperseded
  exact archive_linkFits _ (judgeDeferred_linkFits false (purgeTransaction_linkFits _ (answerUnderVote_linkFits .low
    (hv (onRecord_linkFits _ hw)))))

theorem forcedCloseCore_linkFits {s : State} (h : LinkFits s) : LinkFits (forcedCloseCore s) := by
  have hg : LinkFits (gatherMissing s) := h.of_eq (by simp)
  exact (closeTransaction_linkFits .forcedDone s.openingCause false hg).of_eq (by simp [forcedCloseCore])

theorem checkLeaveMute_linkFits {s : State} (h : LinkFits s) : LinkFits (checkLeaveMute s) := by
  unfold checkLeaveMute
  split
  · refine startCensus_linkFits (h.of_phase ?_ ?_)
    · simp [State.withAgreement, State.withPresence]
    · simp [State.withAgreement]
  · exact h

theorem forcedClose_linkFits {s : State} (h : LinkFits s) : LinkFits (forcedClose s) :=
  (checkLeaveMute_linkFits (forcedCloseCore_linkFits h)).ite (becomeSettled_linkFits _ (forcedCloseCore_linkFits h))

/-! ### Commit, acceptance and the tally -/

theorem commit_linkFits {s : State} (h : LinkFits s) : LinkFits (commit s) :=
  purgeNumber_linkFits _ _ (s := State.withExecutor _ _) (onRecord_linkFits _ h)

theorem commitAtStart_linkFits {s : State} (h : LinkFits s) : LinkFits (commitAtStart s) :=
  (commit_linkFits h).ite h

theorem renewWakeAbort_linkFits (i : Option (Fin 8)) {s : State} (h : LinkFits s) : LinkFits (renewWakeAbort i s) := by
  unfold renewWakeAbort
  split
  · split
    · exact h
    · exact requestAbort_linkFits _ _ h
  · exact h

theorem accept_linkFits {s : State} (h : LinkFits s) : LinkFits (accept s) := by
  have hv : LinkFits (acceptedVote s) := h.of_eq (by simp [acceptedVote])
  have hp : LinkFits (acceptedStaging s) :=
    withPhase_linkFits (by decide) (purgeNumber_linkFits .abort _ (purgeNumber_linkFits .vote _ hv))
  rw [accept_eq]
  exact execStart_linkFits (renewWakeAbort_linkFits _ (commitAtStart_linkFits hp))

theorem tally_linkFits (i : StationId) (a : Answer) {s : State} (h : LinkFits s) : LinkFits (tally i a s) := by
  unfold tally
  split
  · split
    · exact h
    · split
      · exact closeSettled_linkFits _ _ (h.of_eq (by simp))
      · split
        · unfold fullTally
          split
          · exact closeSettled_linkFits _ _ (h.of_eq (by simp))
          · exact accept_linkFits h
        · exact h
  · exact h

/-! ### Openings -/

/-- An opening stays in MUTE only where the station was MUTE, as in a silent descent (R13, R149). -/
theorem openTransaction_linkFits (o : Opening) {p : Phase} {s : State} (hp : p = .mute → s.agreement.phase = .mute)
    (h : LinkFits s) : LinkFits (openTransaction o p s) := by
  have hw : ∀ {t}, LinkFits t → t.agreement.phase = s.agreement.phase → LinkFits (t.withPhase p) := fun {t} ht e => by
    by_cases hm : p = .mute
    · exact ht.of_eq ⟨rfl, hm.trans (hp hm ▸ e.symm), rfl⟩
    · exact withPhase_linkFits hm ht
  have hpurge : ∀ b {t}, LinkFits t → LinkFits (purgeAtOpening b t) := fun b t ht => by
    unfold purgeAtOpening
    dsimp only
    split
    · exact purgeKind_linkFits _ _ (purgeKind_linkFits _ _ (purgeKind_linkFits _ _ ht))
    · exact purgeKind_linkFits _ _ (purgeKind_linkFits _ _ ht)
  have hb : ∀ {t}, LinkFits t → LinkFits (recomputeBeat (refreshQualification (stopDemote t))) :=
    fun ht => ht.of_eq (by simp)
  unfold openTransaction
  exact requeueForced_linkFits _ (hb (hw (hpurge o.forced (t := s.withAgreement _) h) (by simp)))

theorem supersede_linkFits (c : OpeningCause) {s : State} (h : LinkFits s) : LinkFits (supersede c s) :=
  (closeSuperseded_linkFits _ _ h).ite h

theorem forcedPhase_mute {p : Phase} (h : forcedPhase p = .mute) : p = .mute := by
  cases p <;> simp [forcedPhase] at h ⊢

theorem openForced_linkFits (c : OpeningCause) (i : StationId) (fl : List (FaultCode × StationId)) {s : State}
    (h : LinkFits s) : LinkFits (openForced c i fl s) :=
  execStart_linkFits (openTransaction_linkFits _ forcedPhase_mute (supersede_linkFits c h))

theorem openWake_linkFits (i : StationId) (w : WakeTarget) (x : Fin 8) {s : State} (h : LinkFits s) :
    LinkFits (openWake i w x s) :=
  execStart_linkFits (commitAtStart_linkFits (openTransaction_linkFits _ nofun h))

theorem openVoting_linkFits (i : StationId) (k : Kind) (img : Bool) (inh : Inhibits) {s : State} (h : LinkFits s) :
    LinkFits (openVoting i k img inh s) := by
  have ho := openTransaction_linkFits (proposeOpening i k img) (p := .voting) nofun h
  have hv : LinkFits (startVoteTimer i (openTransaction (proposeOpening i k img) .voting s)) := ho.of_eq (by simp)
  have hc : LinkFits (castVote i k inh (startVoteTimer i (openTransaction (proposeOpening i k img) .voting s))) := by
    unfold castVote
    split
    · exact hv
    · exact fillFrame_linkFits _ _ hv
  rw [openVoting_eq]
  unfold tallyAtOpening
  split
  · split
    · exact accept_linkFits hc
    · exact hc
  · exact hc

/-! ### MUTE and the end of census -/

theorem muteReport_linkFits {s : State} (h : LinkFits s) : LinkFits (muteReport s) := by
  unfold muteReport
  split
  · split
    · exact execRun_linkFits (h.of_eq (by simp))
    · exact h
  · exact h

/-- At an entry to MUTE every slot is emptied, whatever they held (R139). -/
theorem enterMute_linkFits (c : MuteCause) (s : State) : LinkFits (enterMute c s) := by
  have hb : ∀ {t}, LinkFits t → LinkFits (refreshQualification (clearMark (stopDemote (clearLatch t)))) :=
    fun ht => ht.of_eq (by simp)
  unfold enterMute
  exact muteReport_linkFits (hb (emptySlots_linkFits _))

theorem endCensus_linkFits {s : State} (h : LinkFits s) : LinkFits (endCensus s) :=
  becomeSettled_linkFits none (s := s.withPresence _) h

theorem runAlignment_linkFits (steps : List Change) {s : State} (h : LinkFits s) : LinkFits (runAlignment steps s) := by
  induction steps generalizing s with
  | nil => exact endCensus_linkFits h
  | cons c rest ih =>
    have hc : LinkFits (issueChange c .alignment s).1 := h.of_eq (by simp)
    unfold runAlignment
    split <;> rename_i hs <;> rw [hs] at hc
    · exact ih hc
    · exact hc

theorem adopt_linkFits (st : SystemState) (n : TxnNumber) {s : State} (h : LinkFits s) : LinkFits (adopt st n s) := by
  have ha : LinkFits (writeAdoption st n s) := h
  unfold adopt profileCheck
  dsimp only
  split
  · split
    · exact endCensus_linkFits ha
    · exact endCensus_linkFits (raiseFault_linkFits _ _ _ ha)
  · exact runAlignment_linkFits _ ha

end Sys2Proof.Machine
end

section
/-! SUPPORT. The transmit slots in order: what each delivered frame does (R8), and the rails (R64 to R72). -/

namespace Sys2Proof.Machine

open Sys2Proof

/-! ### The hand-off -/

theorem ownDelivered_linkFits (f : Frame) (own : Option Ready) {s : State} (h : LinkFits s) :
    LinkFits (ownDelivered f own s) := by
  have hp : LinkFits (payDebt (clearSending f.body.kind s)) := clearSending_linkFits _ h
  exact hp.ite h

theorem handOff_linkFits (f : Frame) {engine : Option Ready → State → State} {s : State} (h : LinkFits s)
    (he : ∀ own t, LinkFits t → LinkFits (engine own t)) : LinkFits (handOff f engine s) := by
  have ho := ownDelivered_linkFits f (s.ownSending f) h
  exact h.ite ((he _ _ ho).ite (ho.ite (he _ _ (touchPeer_linkFits f ho))))

theorem withdrawInCensus_linkFits {s : State} (h : LinkFits s) : LinkFits (withdrawInCensus s) := h.of_eq (by simp)

theorem countLate_linkFits {s : State} (h : LinkFits s) : LinkFits (countLate s) := h

/-! ### PROPOSE and WAKE -/

theorem proposeLate_linkFits (own : Option Ready) {s : State} (h : LinkFits s) : LinkFits (proposeLate own s) := by
  unfold proposeLate
  split
  · exact testPropose_linkFits (reportPurged_linkFits _ (countLate_linkFits h))
  · exact countLate_linkFits h

theorem takePropose_linkFits (i : StationId) (k : Kind) (img : Bool) (inh : Inhibits) (own : Option Ready) {s : State}
    (h : LinkFits s) : LinkFits (takePropose i k img inh own s) := by
  have hl := proposeLate_linkFits own h
  have ho : LinkFits (ownProposeOpens own s) := h.of_eq (by simp)
  unfold takePropose
  split
  · exact (openVoting_linkFits i k img inh ho).ite hl
  · exact hl
  · exact hl
  · exact hl
  · exact hl
  · exact withdrawInCensus_linkFits h
  · exact h

theorem takeForcedPropose_linkFits (i : StationId) (k : Kind) {s : State} (h : LinkFits s) :
    LinkFits (takeForcedPropose i k s) :=
  ((openForced_linkFits _ i [] h).ite (countLate_linkFits h)).ite
    ((countLate_linkFits h).ite (withdrawInCensus_linkFits h))

theorem ownWakeIdle_linkFits (own : Option Ready) {s : State} (h : LinkFits s) : LinkFits (ownWakeIdle own s) := by
  have hc : LinkFits (clearMark s) := h
  exact ((testAnnounce_linkFits hc).ite hc).ite h

theorem wakeOpens_linkFits (i : StationId) (w : WakeTarget) (x : Fin 8) (own : Option Ready) {s : State}
    (h : LinkFits s) : LinkFits (wakeOpens i w x own s) := by
  unfold wakeOpens
  split
  · split
    · exact openWake_linkFits i w x (s := clearMark (announceEntry _ s)) h
    · exact openWake_linkFits i w x h
  · exact openWake_linkFits i w x h

theorem takeWake_linkFits (i : StationId) (w : WakeTarget) (x : Fin 8) (own : Option Ready) {s : State}
    (h : LinkFits s) : LinkFits (takeWake i w x own s) := by
  have ha : LinkFits (abandonWork isExecutor s) := h.of_eq (by simp)
  have hc := forcedCloseCore_linkFits ha
  unfold takeWake
  split
  · exact (wakeOpens_linkFits i w x own h).ite (ownWakeIdle_linkFits own (countLate_linkFits h))
  · unfold wakeInDescent
    dsimp only
    split
    · exact wakeOpens_linkFits i _ x own hc
    · exact ownWakeIdle_linkFits own (becomeSettled_linkFits _ (countLate_linkFits hc))
  · exact ownWakeIdle_linkFits own (withdrawInCensus_linkFits h)
  · exact ownWakeIdle_linkFits own h

/-! ### VOTE, STAGE, ABORT and FAULT -/

theorem takeVote_linkFits (i : StationId) (n : TxnNumber) (a : Answer) {s : State} (h : LinkFits s) :
    LinkFits (takeVote i n a s) := by
  have hc : LinkFits (if i = s.me then s else clearMisses i s) := h.ite h
  unfold takeVote
  split
  · exact ((tally_linkFits i a (s := State.withRecord _ _) hc).ite hc).ite h
  · exact h

theorem takeForward_linkFits (i : StationId) (n : TxnNumber) (k : Nat) (own : Option Ready) {s : State}
    (h : LinkFits s) : LinkFits (takeForward i n k own s) := by
  have hr := onRecord_linkFits (forwardRecord i k own.isSome s.time) h
  have he : LinkFits (enterForwardStage i k own.isSome s) := (commit_linkFits hr).ite hr
  refine LinkFits.ite (LinkFits.ite (LinkFits.ite (LinkFits.ite ?_ ?_) (LinkFits.ite ?_ ?_)) he) h
  · exact forcedClose_linkFits (endWork_linkFits he)
  · exact closeSettled_linkFits _ _ (endWork_linkFits he)
  · exact ownForward_linkFits k he
  · exact testWaiting_linkFits he

theorem takeUnwind_linkFits (i : StationId) (n : TxnNumber) (k : Nat) (own : Option Ready) {s : State}
    (h : LinkFits s) : LinkFits (takeUnwind i n k own s) := by
  have hr := onRecord_linkFits (unwindRecordAt i k (s.lastStage s.kind)) h
  refine LinkFits.ite (LinkFits.ite (LinkFits.ite ?_ (LinkFits.ite ?_ ?_)) hr) h
  · exact closeSettled_linkFits _ _ (endWork_linkFits hr)
  · exact ownUnwind_linkFits k hr
  · exact testLevel_linkFits hr

theorem countMisses_linkFits (r : Record) {s : State} (h : LinkFits s) : LinkFits (countMisses r s) :=
  foldl_linkFits (fun _ i hs => (missVote_linkFits i hs).ite hs) _ h

theorem abortVote_linkFits (reason : AbortReason) (r : Record) {s : State} (h : LinkFits s) :
    LinkFits (abortVote reason r s) := by
  have ha := onRecord_linkFits (fun r => { r with abortCause := some reason }) h
  exact closeSettled_linkFits _ _ (answerUnderVote_linkFits _ ((countMisses_linkFits r ha).ite ha))

theorem takeAbort_linkFits (i : StationId) (n : TxnNumber) (reason : AbortReason) {s : State} (h : LinkFits s) :
    LinkFits (takeAbort i n reason s) := by
  unfold takeAbort
  split
  · refine LinkFits.ite ?_ h
    split
    · exact abortVote_linkFits reason _ h
    · exact h.ite (execUnwind_linkFits _ (withPhase_linkFits (by decide) (onRecord_linkFits _ h)))
    · exact h
  · exact h

theorem takeFault_linkFits (i : StationId) (code : FaultCode) {s : State} (h : LinkFits s) :
    LinkFits (takeFault i code s) :=
  (openForced_linkFits _ i _ h).ite ((onRecord_linkFits _ h).ite (withdrawInCensus_linkFits h))

/-! ### BEAT and CENSUS -/

theorem retryHeldCensus_linkFits {s : State} (h : LinkFits s) : LinkFits (retryHeldCensus s) := by
  have hr : LinkFits (s.withPresence { s.presence with retryHeld := false }) := h
  exact (fillCensus_linkFits hr).ite h

theorem bar_linkFits (i : StationId) {s : State} (h : LinkFits s) : LinkFits (bar i s) :=
  (enterMute_linkFits .barred _).ite h

theorem judgeBeat_linkFits (b : BeatBody) (n : TxnNumber) {s : State} (h : LinkFits s) : LinkFits (judgeBeat b n s) := by
  have hw : LinkFits (withdrawAdoption s) := h.of_eq (by simp)
  exact (hw.ite h).ite ((adopt_linkFits _ _ h).ite h)

theorem unbar_linkFits (i : StationId) {s : State} (h : LinkFits s) : LinkFits (unbar i s) :=
  (checkLeaveMute_linkFits (s := dropBarring i s) h).ite h

theorem takeBeat_linkFits (i : StationId) (n : TxnNumber) (b : BeatBody) {s : State} (h : LinkFits s) :
    LinkFits (takeBeat i n b s) := by
  have hr := refreshSeen_linkFits i h
  exact (retryHeldCensus_linkFits (bar_linkFits i hr)).ite
    ((judgeBeat_linkFits b n hr).ite (retryHeldCensus_linkFits (unbar_linkFits i hr)))

theorem deliverBeat_linkFits (i : StationId) (n : TxnNumber) (b : BeatBody) {s : State} (h : LinkFits s) :
    LinkFits (deliverBeat i n b s) := by
  have ho := ownDelivered_linkFits ⟨i, n, .beat b⟩ (s.ownSending ⟨i, n, .beat b⟩) h
  exact h.ite (((refreshSeen_linkFits i ho).ite ho).ite (ho.ite (takeBeat_linkFits i n b (touchPeer_linkFits _ ho))))

theorem takeCensus_linkFits (i : StationId) (sig : Signature) (rc : ResetCause) {s : State} (h : LinkFits s) :
    LinkFits (takeCensus i sig rc s) := by
  have hc := checkLeaveMute_linkFits (censusPeer_linkFits i sig rc h)
  exact (fillBeat_linkFits hc).ite hc

theorem deliverCensus_linkFits (i : StationId) (sig : Signature) (rc : ResetCause) {s : State} (h : LinkFits s) :
    LinkFits (deliverCensus i sig rc s) := by
  have hx : ∀ {t}, LinkFits t → LinkFits (restartSupersedes i t) := fun ht => (openForced_linkFits _ i [] ht).ite ht
  have ho := ownDelivered_linkFits ⟨i, 0, .census sig rc⟩ (s.ownSending ⟨i, 0, .census sig rc⟩) h
  exact h.ite (hx (ho.ite (takeCensus_linkFits i sig rc ho)))

/-! ### Rails -/

theorem deliverNotices_linkFits {x : State × List Notice} (h : LinkFits x.1) : LinkFits (deliverNotices x) := by
  refine foldl_linkFits (fun s n hs => ?_) _ h
  unfold deliverNotice
  split
  · exact execComplete_linkFits _ hs
  · split
    · exact runAlignment_linkFits _ hs
    · exact hs
  · exact hs
  · exact hs

theorem dropout_linkFits (ch : Fin 6) {s : State} (h : LinkFits s) : LinkFits (dropout ch s) := by
  have hr : ∀ r, LinkFits (s.withRail ch r) := fun _ => h
  exact (hr _).ite (raiseRailCondition_linkFits ch false (hr _))

theorem judgeRise_linkFits (ch : Fin 6) {s : State} (h : LinkFits s) : LinkFits (judgeRise ch s) := by
  have hr : ∀ r, LinkFits (s.withRail ch r) := fun _ => h
  unfold judgeRise
  split
  · exact deliverNotices_linkFits (h.of_eq (by simp))
  · exact deliverNotices_linkFits (bounceRail_linkFits _ _ _ _ _ h)
  · exact (dropout_linkFits ch (hr _)).ite (hr _)
  · exact h

theorem judgeFall_linkFits (ch : Fin 6) {s : State} (h : LinkFits s) : LinkFits (judgeFall ch s) := by
  have hr : ∀ r, LinkFits (s.withRail ch r) := fun _ => h
  unfold judgeFall
  split
  · exact deliverNotices_linkFits (bounceRail_linkFits _ _ _ _ _ h)
  · exact deliverNotices_linkFits (h.of_eq (by simp))
  · exact hr _
  · exact (hr _).ite h
  · exact h

theorem powerGoodRises_linkFits (ch : Fin 6) {s : State} (h : LinkFits s) : LinkFits (powerGoodRises ch s) :=
  h.ite (judgeRise_linkFits ch (s := setPowerGood ch .high s) h)

theorem powerGoodFalls_linkFits (ch : Fin 6) {s : State} (h : LinkFits s) : LinkFits (powerGoodFalls ch s) :=
  h.ite (judgeFall_linkFits ch (s := setPowerGood ch .low s) h)

end Sys2Proof.Machine
end

section
/-! PROOF. The transmit slots are kept in order by every command (O57). -/

namespace Sys2Proof.Machine

open Sys2Proof

/-- A command whose frame holds the slots, the phase and the cause of MUTE keeps the slots in order. -/
theorem LinkFits.of_frame {c : Instr} {s t : State} {f : State → State} (h : LinkFits s)
    (k : ∃ u, exec c s = .next u ∧ u = f u) (e : exec c s = .next t)
    (hf : ∀ u, (f u).link = s.link ∧ (f u).agreement.phase = s.agreement.phase ∧
      (f u).presence.muteCause = s.presence.muteCause) : LinkFits t := by
  obtain ⟨u, eu, hu⟩ := k
  cases eu.symm.trans e
  obtain ⟨hl, hp, hc⟩ := hf t
  exact h.of_eq ⟨by rw [hu, hl], by rw [hu, hp], by rw [hu, hc]⟩

/-! ### Resets, the load and the link -/

/-- After a reset every slot is empty (R140). -/
theorem blankLink_linkFits {s : State} (h : s.link = Link.blank) : LinkFits s :=
  blankSlots_linkFits fun k => by simp [State.slot, h, Link.blank, tabGet]

theorem reset_group_linkFits {c : Instr} {s t : State} (hc : c.group = .reset) (h : LinkFits s) (e : exec c s = .next t) :
    LinkFits t := by
  cases c with
  | por => cases e; exact blankLink_linkFits rfl
  | pinReset => cases e; exact blankLink_linkFits rfl
  | restart w => cases e; exact LinkFits.ite (blankLink_linkFits rfl) h
  | _ => simp [Instr.group] at hc

theorem load_group_linkFits {c : Instr} {s t : State} (hc : c.group = .load) (h : LinkFits s) (e : exec c s = .next t) :
    LinkFits t := by
  have hf : ∀ u, u.link = s.link → LinkFits (configFault u) := fun u hu =>
    h.of_phase (by simp [configFault, State.withPhase, hu]) (by simp [configFault])
  cases c with
  | loadDone i =>
    cases e
    refine LinkFits.ite (LinkFits.ite (startCensus_linkFits (h.of_phase ?_ ?_)) (hf _ rfl)) h
    · rfl
    · exact nofun
  | loadFailure => cases e; exact (hf s rfl).ite h
  | _ => simp [Instr.group] at hc

/-- A frame starts only while none is being sent (R136). -/
theorem startNext_linkFits {s : State} (h : LinkFits s) : LinkFits (startNext s) := by
  unfold startNext
  split
  · rename_i hg
    obtain ⟨-, hn⟩ := Bool.and_eq_true_iff.1 hg
    split
    · exact startSlot_linkFits h ((sendingKind_none_iff s).1 (Option.isNone_iff_eq_none.1 hn))
    · exact h
  · exact h

theorem afterReturn_linkFits (k : FrameKind) {s : State} (h : LinkFits s) : LinkFits (afterReturn k s) := by
  unfold afterReturn
  split
  · exact testPropose_linkFits h
  · exact testAnnounce_linkFits h
  · exact h

theorem loseArbitration_linkFits (w : BitVec 6) {s : State} (h : LinkFits s) : LinkFits (loseArbitration w s) := by
  unfold loseArbitration
  split
  · exact (afterReturn_linkFits _ (returnFrame_linkFits _ _ h)).ite h
  · exact h

theorem discardAlone_linkFits (rx : Reception) {s : State} (h : LinkFits s) : LinkFits (discardAlone rx s) := by
  have hj := judgeReception_linkFits rx h
  refine LinkFits.ite ?_ h
  dsimp only
  split
  · exact clearSending_linkFits _ hj
  · exact hj

theorem link_group_linkFits {c : Instr} {s t : State} (hc : c.group = .link) (h : LinkFits s) (e : exec c s = .next t) :
    LinkFits t := by
  cases c with
  | integration => cases e; exact LinkFits.ite (h.of_eq ⟨rfl, rfl, rfl⟩) h
  | frameStart => cases e; exact startNext_linkFits h
  | lostArbitration w => cases e; exact loseArbitration_linkFits w h
  | discardedAtThisStationAlone rx => cases e; exact discardAlone_linkFits rx h
  | _ => simp [Instr.group] at hc

/-- LINK_FAULT empties every slot, whether the station is MUTE already or becomes so (R135, R139). -/
theorem linkFault_linkFits (s : State) : LinkFits (linkFault s) :=
  LinkFits.ite (emptySlots_linkFits _) (enterMute_linkFits _ _)

theorem rejectFrame_linkFits (rx : Reception) {s : State} (h : LinkFits s) : LinkFits (rejectFrame rx s) := by
  have hj := judgeReception_linkFits rx h
  refine h.ite ?_
  dsimp only
  split
  · exact (linkFault_linkFits _).ite (afterReturn_linkFits _ (returnFrame_linkFits _ _ hj))
  · exact hj

/-! ### Deliveries -/

theorem delivery_group_linkFits {c : Instr} {s t : State} (hc : c.group = .delivery) (h : LinkFits s)
    (e : exec c s = .next t) : LinkFits t := by
  cases c with
  | proposeDelivered i n k img inh =>
    cases e; exact handOff_linkFits _ h fun own _ => takePropose_linkFits i k img inh own
  | forcedProposeDelivered i n k img => cases e; exact handOff_linkFits _ h fun _ _ => takeForcedPropose_linkFits i k
  | wakeDelivered i n w x => cases e; exact handOff_linkFits _ h fun own _ => takeWake_linkFits i w x own
  | voteDelivered i n a => cases e; exact handOff_linkFits _ h fun _ _ => takeVote_linkFits i n a
  | stageForwardDelivered i n k => cases e; exact handOff_linkFits _ h fun own _ => takeForward_linkFits i n k own
  | stageUnwindDelivered i n k => cases e; exact handOff_linkFits _ h fun own _ => takeUnwind_linkFits i n k own
  | abortDelivered i n r => cases e; exact handOff_linkFits _ h fun _ _ => takeAbort_linkFits i n r
  | faultDelivered i n code tgt => cases e; exact handOff_linkFits _ h fun _ _ => takeFault_linkFits i code
  | beatDelivered i n b => cases e; exact deliverBeat_linkFits i n b h
  | censusDelivered i sig rc => cases e; exact deliverCensus_linkFits i sig rc h
  | _ => simp [Instr.group] at hc

/-! ### Timers of a transaction, and of the presence unit -/

theorem txnTimer_group_linkFits {c : Instr} {s t : State}
    (hc : c.group = .voteTimer ∨ c.group = .barrier ∨ c.group = .closing) (h : LinkFits s) (e : exec c s = .next t) :
    LinkFits t := by
  have hv : ∀ {u}, LinkFits u → LinkFits (voteRunsOut u) := fun hu => (requestAbort_linkFits _ _ hu).ite hu
  have hb : LinkFits (barrierStopped s) := h
  cases c with
  | voteWindowExpiry => cases e; exact (hv (u := s.withAgreement { s.agreement with voteWindow := none }) h).ite h
  | voteGuardExpiry => cases e; exact (hv (u := s.withAgreement { s.agreement with voteGuard := none }) h).ite h
  | barrierTimerExpiry =>
    cases e
    refine LinkFits.ite ?_ h
    split
    · exact expireStage_linkFits _ h
    · exact h
  | completionWaitExpiry => cases e; exact (expireNonForced_linkFits hb).ite h
  | reverseBarrierExpiry => cases e; exact LinkFits.ite (raiseFault_linkFits _ _ _ hb) h
  | closingWaitExpiry => cases e; exact (forcedClose_linkFits h).ite h
  | _ => simp [Instr.group] at hc

theorem presence_group_linkFits {c : Instr} {s t : State}
    (hc : c.group = .beat ∨ c.group = .census ∨ c.group = .silence) (h : LinkFits s) (e : exec c s = .next t) :
    LinkFits t := by
  cases c with
  | beatTick => cases e; exact (beatTickEffect_linkFits h).ite h
  | barredRetryExpiry =>
    cases e
    have hp : LinkFits (s.withPresence { s.presence with
        barredRetry := some s.system.barredRetry, retryHeld := s.openHeard }) := h
    exact LinkFits.ite (hp.ite (fillCensus_linkFits hp)) h
  | censusWindowExpiry => cases e; exact LinkFits.ite (LinkFits.ite h (adopt_linkFits _ _ h)) h
  | silenceTimerExpiry i => cases e; exact (checkLeaveMute_linkFits (silencePeer_linkFits i h)).ite h
  | _ => simp [Instr.group] at hc

/-! ### Requests and wake inputs -/

theorem request_group_linkFits {c : Instr} {s t : State} (hc : c.group = .request) (h : LinkFits s)
    (e : exec c s = .next t) : LinkFits t := by
  have hw : ∀ r, LinkFits (s.withRequest r) := fun _ => h
  cases c with
  | deferHoldExpiry => cases e; exact (testPropose_linkFits (hw { s.request with deferHold := none })).ite h
  | reEntryLockoutExpiry => cases e; exact (testPropose_linkFits (hw { s.request with lockout := none })).ite h
  | slpreqEdge a b i =>
    cases e
    refine LinkFits.ite ?_ h
    unfold requestEdge
    split
    · exact h
    · exact takeRequest_linkFits _ h
    · exact (takeRequest_linkFits _ h).ite (hw _)
    · exact takeRequest_linkFits _ h
  | reqackPulseEnd => cases e; exact h
  | _ => simp [Instr.group] at hc

theorem buttonPressed_linkFits (i : Fin 8) {s : State} (h : LinkFits s) : LinkFits (buttonPressed i s) := by
  have hp : LinkFits (s.withWake { s.wake with pressed := true }) := h
  exact ((qualify_linkFits i hp).ite hp : LinkFits (if asleep s.agreement.believed then _ else _))

theorem buttonReleased_linkFits {s : State} (h : LinkFits s) : LinkFits (buttonReleased s) := by
  have hr : LinkFits (s.withWake { s.wake with pressed := false, longPress := none }) := h
  refine LinkFits.ite (LinkFits.ite ?_ hr) hr
  split
  · exact hr
  · exact takeRequest_linkFits _ hr
  · exact takeRequest_linkFits _ hr

theorem wake_group_linkFits {c : Instr} {s t : State} (hc : c.group = .wake) (h : LinkFits s) (e : exec c s = .next t) :
    LinkFits t := by
  have hw : ∀ w, LinkFits (s.withWake w) := fun _ => h
  have hi : ∀ i w, LinkFits (s.withWakeInput i w) := fun _ _ => h
  cases c with
  | demoteTimerExpiry =>
    cases e
    have hd : LinkFits (stopDemote s) := h
    exact LinkFits.ite (LinkFits.ite (fillFrame_linkFits _ _ hd) hd) h
  | minimumDwellExpiry => cases e; exact (testAnnounce_linkFits (hw { s.wake with minDwell := none })).ite h
  | faultHoldExpiry => cases e; exact (testAnnounce_linkFits (hw { s.wake with faultHold := none })).ite h
  | levelInputChange i l => cases e; exact LinkFits.ite (h.of_eq ⟨rfl, rfl, rfl⟩) h
  | levelHoldEnd i =>
    cases e; exact (qualify_linkFits i (hi i { s.wakeInput i with level := .spent, hold := none })).ite h
  | countEdge i => cases e; exact (countActiveEdge_linkFits i h).ite h
  | ownWindowExpiry i =>
    cases e
    exact (judgeWindow_linkFits i (hi i { s.wakeInput i with ownWindow := some (s.wakeDef i).ownLength })).ite h
  | commonWindowExpiry =>
    cases e
    exact LinkFits.ite (foldl_linkFits (fun _ i => judgeWindow_linkFits i) _ (s := restartCommon s) h) h
  | buttonInputChange i l => cases e; exact LinkFits.ite (h.of_eq ⟨rfl, rfl, rfl⟩) h
  | debounceEnd =>
    cases e
    have hd := hw { s.wake with debounce := none }
    refine LinkFits.ite ?_ h
    dsimp only
    split
    · exact (buttonPressed_linkFits _ hd).ite (buttonReleased_linkFits hd)
    · exact hd
  | longPressEnd =>
    cases e
    have hl := hw { s.wake with longPress := none }
    exact LinkFits.ite (LinkFits.ite (fillFrame_linkFits _ _ hl) hl) h
  | _ => simp [Instr.group] at hc

/-! ### Rails and signals -/

theorem rail_group_linkFits {c : Instr} {s t : State} (hc : c.group = .rail ∨ c.group = .dropout) (h : LinkFits s)
    (e : exec c s = .next t) : LinkFits t := by
  cases c with
  | settleWindowExpiry ch => cases e; exact (deliverNotices_linkFits (failRail_linkFits ch _ _ h)).ite h
  | holdUpEnd ch => cases e; exact (deliverNotices_linkFits (h.of_eq (by simp))).ite h
  | dischargeWindowExpiry ch => cases e; exact (deliverNotices_linkFits (failRail_linkFits ch _ _ h)).ite h
  | holdDownEnd ch => cases e; exact (deliverNotices_linkFits (h.of_eq (by simp))).ite h
  | powerGoodRiseRising ch => cases e; exact powerGoodRises_linkFits ch h
  | powerGoodFallHoldingUp ch => cases e; exact powerGoodFalls_linkFits ch h
  | powerGoodFallFalling ch => cases e; exact powerGoodFalls_linkFits ch h
  | powerGoodRiseHoldingDown ch => cases e; exact powerGoodRises_linkFits ch h
  | powerGoodFallFailedDown ch => cases e; exact powerGoodFalls_linkFits ch h
  | powerGoodFallOn ch => cases e; exact powerGoodFalls_linkFits ch h
  | powerGoodRiseOn ch => cases e; exact powerGoodRises_linkFits ch h
  | dropoutFilterExpiry ch =>
    cases e; exact LinkFits.ite (raiseRailCondition_linkFits ch true (s := s.withRail ch _) h) h
  | dropoutWindowExpiry ch => cases e; exact LinkFits.ite (h.of_eq ⟨rfl, rfl, rfl⟩) h
  | _ => simp [Instr.group] at hc

theorem signal_group_linkFits {c : Instr} {s t : State} (hc : c.group = .signal) (h : LinkFits s)
    (e : exec c s = .next t) : LinkFits t := by
  have hx : ∀ {p : Prop} [Decidable p] (c : Completion) {u}, LinkFits u → LinkFits (if p then execComplete c u else u) :=
    fun c _ hu => (execComplete_linkFits c hu).ite hu
  cases c with
  | pulseEnd i =>
    cases e
    have hp : LinkFits (endPulse i s) := h.of_eq (by simp)
    exact (hx _ hp).ite h
  | senseChange i l =>
    cases e
    have hs : LinkFits (setSense i l s) := h
    exact (execComplete_linkFits _ (s := (setSense i l s).withAwait i none) hs).ite hs
  | awaitTimeout i => cases e; exact (hx _ (raiseFault_linkFits _ _ _ (s := s.withAwait i none) h)).ite h
  | waitEnd =>
    cases e
    have hw : LinkFits (s.withWait none) := h
    exact (hx _ hw).ite h
  | _ => simp [Instr.group] at hc

/-! ### Every command -/

/-- Every command keeps the slots in order. -/
theorem exec_linkFits {c : Instr} {s t : State} (h : LinkFits s) (e : exec c s = .next t) : LinkFits t := by
  cases hg : c.group with
  | reset => exact reset_group_linkFits hg h e
  | load => exact load_group_linkFits hg h e
  | link => exact link_group_linkFits hg h e
  | rejection =>
    cases c with
    | frameRejected rx => cases e; exact rejectFrame_linkFits rx h
    | _ => simp [Instr.group] at hg
  | delivery => exact delivery_group_linkFits hg h e
  | voteTimer => exact txnTimer_group_linkFits (.inl hg) h e
  | barrier => exact txnTimer_group_linkFits (.inr (.inl hg)) h e
  | closing => exact txnTimer_group_linkFits (.inr (.inr hg)) h e
  | beat => exact presence_group_linkFits (.inl hg) h e
  | census => exact presence_group_linkFits (.inr (.inl hg)) h e
  | silence => exact presence_group_linkFits (.inr (.inr hg)) h e
  | request => exact request_group_linkFits hg h e
  | wake => exact wake_group_linkFits hg h e
  | rail => exact rail_group_linkFits (.inl hg) h e
  | dropout => exact rail_group_linkFits (.inr hg) h e
  | signal => exact signal_group_linkFits hg h e
  | transfer => exact h.of_frame (transfer_group_frame hg s) e fun _ => ⟨rfl, rfl, rfl⟩

/-- Settles O57, from `exec_linkFits`: every command keeps the transmit slots in order, as does the time base. -/
theorem linkFitsIsKept : Obligations.LinkFitsIsKept :=
  kept_of_exec (fun _ h => h) (fun _ _ h => h) fun _ _ _ => exec_linkFits

end Sys2Proof.Machine
end

section
/-! SUPPORT. The fields of a frame as bits (R129): a value written and read back, and bits cut into fields. -/

namespace Sys2Proof.Machine

open Sys2Proof

@[simp] theorem length_fieldBits (n v : Nat) : (fieldBits n v).length = n := by
  induction n with
  | zero => rfl
  | succ n ih => simp [fieldBits, ih]

/-- A field is read bit by bit, the bits before it counting double for each (R129). -/
theorem foldl_fieldValue (bits : List Bool) (acc : Nat) :
    bits.foldl (fun acc b => 2 * acc + b.toNat) acc = acc * 2 ^ bits.length + fieldValue bits := by
  induction bits generalizing acc with
  | nil => simp [fieldValue]
  | cons b bits ih =>
    have hz := ih (2 * 0 + b.toNat)
    rw [fieldValue, List.foldl_cons, List.foldl_cons, ih, hz, List.length_cons, Nat.pow_succ]
    ring

theorem fieldValue_cons (b : Bool) (bits : List Bool) :
    fieldValue (b :: bits) = 2 ^ bits.length * b.toNat + fieldValue bits := by
  rw [fieldValue, List.foldl_cons, foldl_fieldValue]
  ring

theorem fieldValue_lt (bits : List Bool) : fieldValue bits < 2 ^ bits.length := by
  induction bits with
  | nil => exact Nat.one_pos
  | cons b bits ih =>
    rw [fieldValue_cons, List.length_cons, Nat.pow_succ]
    cases b <;> simp <;> omega

/-- A field reads back as the value written, as far as it has room for it (R129). -/
theorem fieldValue_fieldBits (n v : Nat) : fieldValue (fieldBits n v) = v % 2 ^ n := by
  induction n with
  | zero => simp [fieldBits, fieldValue, Nat.mod_one]
  | succ n ih => rw [fieldBits, fieldValue_cons, ih, length_fieldBits, mod_two_pow_succ_testBit, Nat.add_comm]

theorem fieldValue_fieldBits_of_lt {n v : Nat} (h : v < 2 ^ n) : fieldValue (fieldBits n v) = v := by
  rw [fieldValue_fieldBits, Nat.mod_eq_of_lt h]

theorem fieldValue_zero (n : Nat) : fieldValue (fieldBits n 0) = 0 := fieldValue_fieldBits_of_lt (Nat.two_pow_pos n)

/-- A field shows the low bits of a value alone. -/
theorem fieldBits_congr {n a b : Nat} (h : a % 2 ^ n = b % 2 ^ n) : fieldBits n a = fieldBits n b := by
  induction n with
  | zero => rfl
  | succ n ih =>
    have hn : a % 2 ^ n = b % 2 ^ n := by
      have hd : 2 ^ n ∣ 2 ^ (n + 1) := Nat.pow_dvd_pow 2 (Nat.le_succ n)
      rw [← Nat.mod_mod_of_dvd a hd, h, Nat.mod_mod_of_dvd b hd]
    have ht : a.testBit n = b.testBit n := by
      have := congrArg (·.testBit n) h
      simpa [Nat.testBit_mod_two_pow] using this
    rw [fieldBits, fieldBits, ht, ih hn]

/-- Bits are the field of the value they read as (R129). -/
theorem fieldBits_fieldValue (bits : List Bool) : fieldBits bits.length (fieldValue bits) = bits := by
  induction bits with
  | nil => rfl
  | cons b bits ih =>
    have hl := fieldValue_lt bits
    rw [List.length_cons, fieldBits, fieldValue_cons]
    congr 1
    · rw [Nat.testBit_two_pow_mul_add _ hl]
      cases b <;> simp
    · rw [fieldBits_congr (b := fieldValue bits) (by simp), ih]

/-- The first bits are a field of a value that fits it (R129). -/
theorem exists_field (n : Nat) {m : Nat} {bits : List Bool} (h : bits.length = n + m) :
    ∃ v rest, v < 2 ^ n ∧ rest.length = m ∧ bits = fieldBits n v ++ rest := by
  have hl : (bits.take n).length = n := by simp; omega
  refine ⟨fieldValue (bits.take n), bits.drop n, ?_, by simp; omega, ?_⟩
  · simpa only [hl] using fieldValue_lt (bits.take n)
  · have := fieldBits_fieldValue (bits.take n)
    rw [hl] at this
    rw [this, List.take_append_drop]

/-- Bits of one field's length are that field. -/
theorem exists_lastField {n : Nat} {bits : List Bool} (h : bits.length = n) : ∃ v, v < 2 ^ n ∧ bits = fieldBits n v := by
  obtain ⟨v, rest, hv, hr, rfl⟩ := exists_field n (m := 0) h
  exact ⟨v, hv, by simp [List.eq_nil_of_length_eq_zero hr]⟩

end Sys2Proof.Machine
end

section
/-! PROOF. The form check inverts the covered bits (O12). -/

namespace Sys2Proof.Machine

open Sys2Proof

/-! ### The codes of a body, written and read (R130, R131) -/

theorem linkFaultCode_eq_some_iff (n : Nat) (c : FaultCode) : linkFaultCode n = some c ↔ n = c.code ∧ codeOk c = true := by
  unfold linkFaultCode
  split <;> cases c <;> simp_all [FaultCode.code, codeOk]

theorem kindOfCode_eq_some_iff (n : Nat) (k : Kind) : kindOfCode n = some k ↔ n = k.code := by
  unfold kindOfCode
  split <;> cases k <;> simp_all [Kind.code]

theorem phaseOfCode_eq_some_iff (n : Nat) (p : Phase) : phaseOfCode n = some p ↔ n = p.code ∧ phaseOk p = true := by
  unfold phaseOfCode
  split <;> cases p <;> simp_all [Phase.code, phaseOk, Phase.loaded]

theorem resetOfCode_eq_some_iff (n : Nat) (c : ResetCause) : resetOfCode n = some c ↔ n = c.code := by
  unfold resetOfCode
  split <;> cases c <;> simp_all [ResetCause.code]

theorem stateOfCode_eq_iff {n : Nat} (h : n < 2 ^ 2) (st : SystemState) : stateOfCode n = st ↔ n = st.code := by
  interval_cases n <;> cases st <;> simp [stateOfCode, SystemState.code]

theorem readVote_eq_some_iff (x y : Nat) (b : Body) :
    readVote x y = some b ↔ ∃ a, b = .vote a ∧ x = a.fields.1 ∧ y = a.fields.2 := by
  constructor
  · intro h
    unfold readVote at h
    split at h <;> cases h <;> exact ⟨_, rfl, rfl, rfl⟩
  · rintro ⟨a, rfl, rfl, rfl⟩
    cases a with
    | decline r => cases r <;> rfl
    | accept => rfl
    | defer => rfl

theorem readAbort_eq_some_iff (x y : Nat) (b : Body) :
    readAbort x y = some b ↔ ∃ r, b = .abort r ∧ x = r.fields.1 ∧ y = r.fields.2 := by
  constructor
  · intro h
    unfold readAbort at h
    split at h
    · split at h <;> cases h
      exact ⟨_, rfl, rfl, rfl⟩
    · split at h <;> cases h
      exact ⟨_, rfl, rfl, ‹_›⟩
    · split at h <;> cases h
      exact ⟨_, rfl, rfl, ‹_›⟩
    · cases h
  · rintro ⟨r, rfl, rfl, rfl⟩
    cases r with
    | wake i => exact dif_pos i.isLt
    | timeout => rfl
    | noQuorum => rfl

theorem readFault_eq_some_iff {x y : Nat} (hy : y < 2 ^ 4) (b : Body) : readFault x y = some b ↔
    ∃ c t, b = .fault c t ∧ x = c.code ∧ y = t.toNat ∧ (codeOk c && targetSuits c t) = true := by
  constructor
  · intro h
    unfold readFault at h
    split at h
    · rename_i c hc
      obtain ⟨hx, hok⟩ := (linkFaultCode_eq_some_iff x c).1 hc
      split at h <;> cases h
      rename_i ht
      exact ⟨c, _, rfl, hx, ((BitVec.toNat_ofNat y 4).trans (Nat.mod_eq_of_lt hy)).symm, by simp [hok, ht]⟩
    · cases h
  · rintro ⟨c, t, rfl, rfl, rfl, hok⟩
    obtain ⟨hc, ht⟩ := Bool.and_eq_true_iff.1 hok
    simp [readFault, (linkFaultCode_eq_some_iff _ c).2 ⟨rfl, hc⟩, ht]

theorem readBeat_eq_some_iff {x y z m : Nat} (hx : x < 2 ^ 2) (hz : z < 2 ^ 2) (hm : m < 2 ^ 8) (o : Bool) (b : Body) :
    readBeat x o y z m = some b ↔ ∃ t : BeatBody, b = .beat t ∧ x = t.state.code ∧ o = t.openFlag ∧ y = t.phase.code ∧
      z = t.summary.val ∧ m = t.exclusion.toNat ∧ phaseOk t.phase = true := by
  constructor
  · intro h
    unfold readBeat at h
    split at h <;> cases h
    rename_i p hp
    obtain ⟨hy, hok⟩ := (phaseOfCode_eq_some_iff y p).1 hp
    exact ⟨_, rfl, (stateOfCode_eq_iff hx _).1 rfl, rfl, hy, (Nat.mod_eq_of_lt hz).symm,
      ((BitVec.toNat_ofNat m 8).trans (Nat.mod_eq_of_lt hm)).symm, hok⟩
  · rintro ⟨⟨st, op, p, su, ex⟩, rfl, rfl, rfl, rfl, rfl, rfl, hok⟩
    simp [readBeat, (phaseOfCode_eq_some_iff _ p).2 ⟨rfl, hok⟩, (stateOfCode_eq_iff hx st).2 rfl]

/-! ### The body of each class, field by field (R130, R131) -/

theorem readBody_fault (x y : Nat) : readBody 0 (fieldBits 4 x ++ fieldBits 4 y) =
    readFault (fieldValue (fieldBits 4 x)) (fieldValue (fieldBits 4 y)) := rfl

theorem readBody_abort (x y : Nat) : readBody 1 (fieldBits 4 x ++ fieldBits 4 y) =
    readAbort (fieldValue (fieldBits 4 x)) (fieldValue (fieldBits 4 y)) := rfl

theorem readBody_wake (b : Bool) (x z : Nat) : readBody 2 ([b] ++ fieldBits 3 x ++ fieldBits 4 z) =
    if fieldValue (fieldBits 4 z) = 0 then
      some (.wake (if b then .rise else .resume) (Fin.ofNat 8 (fieldValue (fieldBits 3 x)))) else none :=
  if_congr (and_iff_right rfl) rfl rfl

theorem readBody_stage (b : Bool) (k z : Nat) : readBody 3 ([b] ++ fieldBits 4 k ++ fieldBits 3 z) =
    if fieldValue (fieldBits 3 z) = 0 ∧ 1 ≤ fieldValue (fieldBits 4 k) ∧ fieldValue (fieldBits 4 k) ≤ 12 then
      some (.stage (if b then .unwind else .forward) (fieldValue (fieldBits 4 k))) else none :=
  if_congr (and_iff_right rfl) rfl rfl

theorem readBody_vote (x y z : Nat) : readBody 4 (fieldBits 2 x ++ fieldBits 4 y ++ fieldBits 2 z) =
    if fieldValue (fieldBits 2 z) = 0 then readVote (fieldValue (fieldBits 2 x)) (fieldValue (fieldBits 4 y)) else none :=
  if_congr (and_iff_right rfl) rfl rfl

theorem readBody_propose (x z : Nat) (f g : Bool) : readBody 5 (fieldBits 3 x ++ [f, g] ++ fieldBits 3 z) =
    if fieldValue (fieldBits 3 z) = 0 then (kindOfCode (fieldValue (fieldBits 3 x))).map (.propose · f g) else none := by
  refine if_congr (and_iff_right rfl) ?_ rfl
  show (match kindOfCode (fieldValue (fieldBits 3 x)) with
    | some k => some (Body.propose k f g)
    | none => none) = _
  cases kindOfCode (fieldValue (fieldBits 3 x)) <;> rfl

theorem readBody_beat (x y z m : Nat) (o : Bool) :
    readBody 6 (fieldBits 2 x ++ [o] ++ fieldBits 3 y ++ fieldBits 2 z ++ fieldBits 8 m) =
      readBeat (fieldValue (fieldBits 2 x)) o (fieldValue (fieldBits 3 y)) (fieldValue (fieldBits 2 z))
        (fieldValue (fieldBits 8 m)) := rfl

theorem readBody_census (x y z : Nat) : readBody 7 (fieldBits 16 x ++ fieldBits 2 y ++ fieldBits 6 z) =
    if fieldValue (fieldBits 6 z) = 0 then (resetOfCode (fieldValue (fieldBits 2 y))).map
      (.census (BitVec.ofNat 16 (fieldValue (fieldBits 16 x))) ·) else none := by
  refine if_congr (and_iff_right rfl) ?_ rfl
  show (match resetOfCode (fieldValue (fieldBits 2 y)) with
    | some c => some (Body.census _ c)
    | none => none) = _
  cases resetOfCode (fieldValue (fieldBits 2 y)) <;> rfl

/-! ### Bits that read as a body (R131) -/

/-- A well-formed frame can carry this body, and the class and the bits are the body's (R130, R131). -/
def Carries (cls : Nat) (bits : List Bool) (b : Body) : Prop :=
  (∀ i n, Frame.wellFormed ⟨i, n, b⟩ = true) ∧ cls = b.kind.class.val ∧ bits = b.bits

theorem carries_fault {bits : List Bool} {b : Body} (h : readBody 0 bits = some b) : Carries 0 bits b := by
  have hl : bits.length = 4 + 4 := by_contra fun hl => by simp [readBody, hl] at h
  obtain ⟨x, r, hx, hr1, rfl⟩ := exists_field 4 hl
  obtain ⟨y, hy, rfl⟩ := exists_lastField hr1
  rw [readBody_fault, fieldValue_fieldBits_of_lt hx, fieldValue_fieldBits_of_lt hy, readFault_eq_some_iff hy] at h
  obtain ⟨c, t, rfl, rfl, rfl, hok⟩ := h
  exact ⟨fun _ _ => hok, rfl, rfl⟩

theorem carries_abort {bits : List Bool} {b : Body} (h : readBody 1 bits = some b) : Carries 1 bits b := by
  have hl : bits.length = 4 + 4 := by_contra fun hl => by simp [readBody, hl] at h
  obtain ⟨x, r, hx, hr1, rfl⟩ := exists_field 4 hl
  obtain ⟨y, hy, rfl⟩ := exists_lastField hr1
  rw [readBody_abort, fieldValue_fieldBits_of_lt hx, fieldValue_fieldBits_of_lt hy, readAbort_eq_some_iff] at h
  obtain ⟨r, rfl, rfl, rfl⟩ := h
  exact ⟨fun _ _ => rfl, rfl, rfl⟩

theorem carries_wake {bits : List Bool} {b : Body} (h : readBody 2 bits = some b) : Carries 2 bits b := by
  have hl : bits.length = 3 + 4 + 1 := by_contra fun hl => by simp [readBody, hl] at h
  obtain ⟨o, r, rfl, hr1⟩ := List.length_eq_succ_iff.1 hl
  obtain ⟨x, r, hx, hr2, rfl⟩ := exists_field 3 hr1
  obtain ⟨z, hz, rfl⟩ := exists_lastField hr2
  rw [← List.singleton_append, ← List.append_assoc, readBody_wake, fieldValue_fieldBits_of_lt hx,
    fieldValue_fieldBits_of_lt hz, Option.ite_none_right_eq_some] at h
  obtain ⟨rfl, h⟩ := h
  cases h
  have hx8 : x % 8 = x := Nat.mod_eq_of_lt hx
  refine ⟨fun _ _ => rfl, rfl, ?_⟩
  cases o <;> simp [Body.bits, hx8]

theorem carries_stage {bits : List Bool} {b : Body} (h : readBody 3 bits = some b) : Carries 3 bits b := by
  have hl : bits.length = 4 + 3 + 1 := by_contra fun hl => by simp [readBody, hl] at h
  obtain ⟨o, r, rfl, hr1⟩ := List.length_eq_succ_iff.1 hl
  obtain ⟨k, r, hk, hr2, rfl⟩ := exists_field 4 hr1
  obtain ⟨z, hz, rfl⟩ := exists_lastField hr2
  rw [← List.singleton_append, ← List.append_assoc, readBody_stage, fieldValue_fieldBits_of_lt hk,
    fieldValue_fieldBits_of_lt hz, Option.ite_none_right_eq_some] at h
  obtain ⟨⟨rfl, h1, h12⟩, h⟩ := h
  cases h
  refine ⟨fun _ _ => by simp [Frame.wellFormed, stageOk, h1, h12], rfl, ?_⟩
  cases o <;> simp [Body.bits]

theorem carries_vote {bits : List Bool} {b : Body} (h : readBody 4 bits = some b) : Carries 4 bits b := by
  have hl : bits.length = 2 + (4 + 2) := by_contra fun hl => by simp [readBody, hl] at h
  obtain ⟨x, r, hx, hr1, rfl⟩ := exists_field 2 hl
  obtain ⟨y, r, hy, hr2, rfl⟩ := exists_field 4 hr1
  obtain ⟨z, hz, rfl⟩ := exists_lastField hr2
  rw [← List.append_assoc, readBody_vote, fieldValue_fieldBits_of_lt hx, fieldValue_fieldBits_of_lt hy,
    fieldValue_fieldBits_of_lt hz, Option.ite_none_right_eq_some, readVote_eq_some_iff] at h
  obtain ⟨rfl, a, rfl, rfl, rfl⟩ := h
  exact ⟨fun _ _ => rfl, rfl, by simp [Body.bits]⟩

theorem carries_propose {bits : List Bool} {b : Body} (h : readBody 5 bits = some b) : Carries 5 bits b := by
  have hl : bits.length = 3 + (3 + 1 + 1) := by_contra fun hl => by simp [readBody, hl] at h
  obtain ⟨x, r, hx, hr1, rfl⟩ := exists_field 3 hl
  obtain ⟨f, r, rfl, hr2⟩ := List.length_eq_succ_iff.1 hr1
  obtain ⟨g, r, rfl, hr3⟩ := List.length_eq_succ_iff.1 hr2
  obtain ⟨z, hz, rfl⟩ := exists_lastField hr3
  have hb : fieldBits 3 x ++ f :: g :: fieldBits 3 z = fieldBits 3 x ++ [f, g] ++ fieldBits 3 z := by simp
  rw [hb, readBody_propose, fieldValue_fieldBits_of_lt hx, fieldValue_fieldBits_of_lt hz, Option.ite_none_right_eq_some,
    Option.map_eq_some_iff] at h
  obtain ⟨rfl, k, hk, rfl⟩ := h
  obtain rfl := (kindOfCode_eq_some_iff x k).1 hk
  exact ⟨fun _ _ => rfl, rfl, hb⟩

theorem carries_beat {bits : List Bool} {b : Body} (h : readBody 6 bits = some b) : Carries 6 bits b := by
  have hl : bits.length = 2 + (3 + (2 + 8) + 1) := by_contra fun hl => by simp [readBody, hl] at h
  obtain ⟨x, r, hx, hr1, rfl⟩ := exists_field 2 hl
  obtain ⟨o, r, rfl, hr2⟩ := List.length_eq_succ_iff.1 hr1
  obtain ⟨y, r, hy, hr3, rfl⟩ := exists_field 3 hr2
  obtain ⟨z, r, hz, hr4, rfl⟩ := exists_field 2 (m := 8) hr3
  obtain ⟨m, hm, rfl⟩ := exists_lastField hr4
  have hb : fieldBits 2 x ++ o :: (fieldBits 3 y ++ (fieldBits 2 z ++ fieldBits 8 m)) =
      fieldBits 2 x ++ [o] ++ fieldBits 3 y ++ fieldBits 2 z ++ fieldBits 8 m := by simp
  rw [hb, readBody_beat, fieldValue_fieldBits_of_lt hx, fieldValue_fieldBits_of_lt hy, fieldValue_fieldBits_of_lt hz,
    fieldValue_fieldBits_of_lt hm, readBeat_eq_some_iff hx hz hm] at h
  obtain ⟨t, rfl, rfl, rfl, rfl, rfl, rfl, hok⟩ := h
  exact ⟨fun _ _ => hok, rfl, hb⟩

theorem carries_census {bits : List Bool} {b : Body} (h : readBody 7 bits = some b) : Carries 7 bits b := by
  have hl : bits.length = 16 + (2 + 6) := by_contra fun hl => by simp [readBody, hl] at h
  obtain ⟨x, r, hx, hr1, rfl⟩ := exists_field 16 hl
  obtain ⟨y, r, hy, hr2, rfl⟩ := exists_field 2 hr1
  obtain ⟨z, hz, rfl⟩ := exists_lastField hr2
  rw [← List.append_assoc, readBody_census, fieldValue_fieldBits_of_lt hx, fieldValue_fieldBits_of_lt hy,
    fieldValue_fieldBits_of_lt hz, Option.ite_none_right_eq_some, Option.map_eq_some_iff] at h
  obtain ⟨rfl, c, hc, rfl⟩ := h
  obtain rfl := (resetOfCode_eq_some_iff y c).1 hc
  have hsig : (BitVec.ofNat 16 x).toNat = x := (BitVec.toNat_ofNat x 16).trans (Nat.mod_eq_of_lt hx)
  exact ⟨fun _ _ => rfl, rfl, by rw [Body.bits, hsig, List.append_assoc]⟩

/-- What reads as a body is the bits of that body, of the class of its kind (R130, R131). -/
theorem carries_of_readBody {cls : Nat} {bits : List Bool} {b : Body} (h : readBody cls bits = some b) :
    Carries cls bits b := by
  match cls, h with
  | 0, h => exact carries_fault h
  | 1, h => exact carries_abort h
  | 2, h => exact carries_wake h
  | 3, h => exact carries_stage h
  | 4, h => exact carries_vote h
  | 5, h => exact carries_propose h
  | 6, h => exact carries_beat h
  | 7, h => exact carries_census h

/-! ### A body that reads back (R131) -/

/-- The bits of a body that a well-formed frame carries read back as the body (R130, R131). -/
theorem readBody_bits {f : Frame} (h : f.wellFormed = true) :
    readBody f.body.kind.class.val f.body.bits = some f.body := by
  obtain ⟨i, n, b⟩ := f
  cases b with
  | fault c t =>
    have hc : c.code < 2 ^ 4 := by cases c <;> decide
    refine (readBody_fault _ _).trans ?_
    rw [fieldValue_fieldBits_of_lt hc, fieldValue_fieldBits_of_lt t.isLt, readFault_eq_some_iff t.isLt]
    exact ⟨c, t, rfl, rfl, rfl, h⟩
  | abort r =>
    obtain ⟨h1, h2⟩ : r.fields.1 < 2 ^ 4 ∧ r.fields.2 < 2 ^ 4 := by
      cases r <;> simp [AbortReason.fields]
      omega
    refine (readBody_abort _ _).trans ?_
    rw [fieldValue_fieldBits_of_lt h1, fieldValue_fieldBits_of_lt h2, readAbort_eq_some_iff]
    exact ⟨r, rfl, rfl, rfl⟩
  | wake t x =>
    refine (readBody_wake _ _ _).trans ?_
    rw [fieldValue_fieldBits_of_lt (n := 3) x.isLt, fieldValue_zero, if_pos rfl]
    cases t <;> simp
  | stage d k =>
    obtain ⟨h1, h12⟩ : 1 ≤ k ∧ k ≤ 12 := by simpa [Frame.wellFormed, stageOk] using h
    refine (readBody_stage _ _ _).trans ?_
    rw [fieldValue_fieldBits_of_lt (n := 4) (by omega), fieldValue_zero, if_pos ⟨rfl, h1, h12⟩]
    cases d <;> rfl
  | vote a =>
    obtain ⟨h1, h2⟩ : a.fields.1 < 2 ^ 2 ∧ a.fields.2 < 2 ^ 4 := by
      cases a with
      | decline r => cases r <;> decide
      | _ => decide
    refine (readBody_vote _ _ _).trans ?_
    rw [fieldValue_fieldBits_of_lt h1, fieldValue_fieldBits_of_lt h2, fieldValue_zero, if_pos rfl,
      readVote_eq_some_iff]
    exact ⟨a, rfl, rfl, rfl⟩
  | propose k f g =>
    have hk : k.code < 2 ^ 3 := by cases k <;> decide
    refine (readBody_propose _ _ _ _).trans ?_
    rw [fieldValue_fieldBits_of_lt hk, fieldValue_zero, if_pos rfl, (kindOfCode_eq_some_iff _ k).2 rfl]
    rfl
  | beat t =>
    have hs : t.state.code < 2 ^ 2 := by cases t.state <;> decide
    have hp : t.phase.code < 2 ^ 3 := by cases t.phase <;> decide
    refine (readBody_beat _ _ _ _ _).trans ?_
    rw [fieldValue_fieldBits_of_lt hs, fieldValue_fieldBits_of_lt hp, fieldValue_fieldBits_of_lt t.summary.isLt,
      fieldValue_fieldBits_of_lt t.exclusion.isLt, readBeat_eq_some_iff hs t.summary.isLt t.exclusion.isLt]
    exact ⟨t, rfl, rfl, rfl, rfl, rfl, rfl, h⟩
  | census sig c =>
    have hc : c.code < 2 ^ 2 := by cases c <;> decide
    refine (readBody_census _ _ _).trans ?_
    rw [fieldValue_fieldBits_of_lt hc, fieldValue_fieldBits_of_lt sig.isLt, fieldValue_zero, if_pos rfl,
      (resetOfCode_eq_some_iff _ c).2 rfl]
    simp

/-! ### The frame (R129) -/

/-- The covered bits cut into the arbitration, transaction and body fields (R129). -/
theorem readFrame_fields {arb num : Nat} (ha : arb < 2 ^ 6) (hn : num < 2 ^ 8) (body : List Bool) :
    readFrame (fieldBits 6 arb ++ (fieldBits 8 num ++ body)) =
      (readBody (arb / 8) body).map fun b => ⟨Fin.ofNat 8 arb, BitVec.ofNat 8 num, b⟩ := by
  have h1 : fieldValue ((fieldBits 6 arb ++ (fieldBits 8 num ++ body)).take 6) = arb := fieldValue_fieldBits_of_lt ha
  have h2 : fieldValue (((fieldBits 6 arb ++ (fieldBits 8 num ++ body)).drop 6).take 8) = num :=
    fieldValue_fieldBits_of_lt hn
  have h3 : (fieldBits 6 arb ++ (fieldBits 8 num ++ body)).drop 14 = body := rfl
  unfold readFrame
  dsimp only
  rw [h1, h2, h3]
  cases readBody (arb / 8) body <;> rfl

theorem arbitration_lt (f : Frame) : f.arbitration < 2 ^ 6 := by
  have hc := f.body.kind.class.isLt
  have hs := f.sender.isLt
  unfold Frame.arbitration
  omega

theorem readFrame_covered {f : Frame} (h : f.wellFormed = true) : readFrame f.covered = some f := by
  have hs := f.sender.isLt
  have hcls : f.arbitration / 8 = f.body.kind.class.val := by unfold Frame.arbitration; omega
  have hi : Fin.ofNat 8 f.arbitration = f.sender := by
    apply Fin.ext
    simp [Frame.arbitration]
  unfold Frame.covered
  rw [readFrame_fields (arbitration_lt f) f.number.isLt, hcls, readBody_bits h, hi]
  simp

/-- Bits that read as a body somewhere are long enough for the fields before it (R129). -/
theorem length_of_readBody {cls k : Nat} {bits : List Bool} {b : Body} (h : readBody cls (bits.drop k) = some b) :
    ∃ m, bits.length = k + m := by
  refine ⟨bits.length - k, ?_⟩
  have hl : (bits.drop k).length ≠ 0 := by
    obtain ⟨-, -, hb⟩ := carries_of_readBody h
    rw [hb]
    cases b <;> simp [Body.bits]
  rw [List.length_drop] at hl
  omega

theorem covered_of_readFrame {bits : List Bool} {f : Frame} (h : readFrame bits = some f) :
    f.wellFormed = true ∧ bits = f.covered := by
  have hl : ∃ m, bits.length = 14 + m := by
    unfold readFrame at h
    dsimp only at h
    split at h
    · exact length_of_readBody ‹_›
    · cases h
  obtain ⟨m, hm⟩ := hl
  obtain ⟨arb, r, ha, hr, rfl⟩ := exists_field 6 (bits := bits) (m := 8 + m) (by omega)
  obtain ⟨num, body, hn, -, rfl⟩ := exists_field 8 hr
  rw [readFrame_fields ha hn, Option.map_eq_some_iff] at h
  obtain ⟨b, hb, rfl⟩ := h
  obtain ⟨hw, hcls, rfl⟩ := carries_of_readBody hb
  refine ⟨hw _ _, ?_⟩
  have harb : arb = b.kind.class.val * 8 + arb % 8 := by omega
  unfold Frame.covered Frame.arbitration
  simp only [Fin.val_ofNat, BitVec.toNat_ofNat, Nat.mod_eq_of_lt hn, ← harb]

/-- Settles O12: what reads as a frame is the bits of that frame (`covered_of_readFrame`), and the covered bits of a
well-formed frame read back (`readFrame_covered`). -/
theorem readFrameInvertsCovered : Obligations.ReadFrameInvertsCovered := by
  intro bits f
  refine ⟨covered_of_readFrame, ?_⟩
  rintro ⟨hw, rfl⟩
  exact readFrame_covered hw

end Sys2Proof.Machine
end

section
/-! PROOF. What a receiver finds in error, and what it holds SLK dominant for (O13). -/

namespace Sys2Proof.Machine

open Sys2Proof

/-! ### The judgement of a reception (R127, R131, R132) -/

theorem lengthError_iff (rate : LinkRate) (rx : Reception) :
    rx.lengthError rate = true ↔ ∃ d ∈ rx.edges, rate.bitTime / 4 < d := by
  simp [Reception.lengthError]

/-- The check follows the covered bits, and both are found by the length of what was read (R129, R132). -/
theorem checkError_iff (covered : List Bool) (chk : BitVec 8) (edges : List Nat) :
    Reception.checkError ⟨covered ++ fieldBits 8 chk.toNat, edges⟩ = true ↔ chk ≠ crc8 covered := by
  have hn : (covered ++ fieldBits 8 chk.toNat).length - 8 = covered.length := by simp
  unfold Reception.checkError
  dsimp only
  rw [hn, List.take_left, List.drop_left, fieldValue_fieldBits_of_lt chk.isLt, bne_iff_ne, Ne, BitVec.toNat_inj]

theorem formError_eq (covered : List Bool) (chk : BitVec 8) (edges : List Nat) :
    Reception.formError ⟨covered ++ fieldBits 8 chk.toNat, edges⟩ = (readFrame covered).isNone := by
  have hn : (covered ++ fieldBits 8 chk.toNat).length - 8 = covered.length := by simp
  unfold Reception.formError
  dsimp only
  rw [hn, List.take_left]

/-- A well-formed frame is in error by its check or an edge alone (R127, R132). -/
theorem inError_covered_iff {f : Frame} (hf : f.wellFormed = true) (chk : BitVec 8) (edges : List Nat) (rate : LinkRate) :
    Reception.inError rate ⟨f.covered ++ fieldBits 8 chk.toNat, edges⟩ = true ↔
      chk ≠ crc8 f.covered ∨ ∃ d ∈ edges, rate.bitTime / 4 < d := by
  have hform : Reception.formError ⟨f.covered ++ fieldBits 8 chk.toNat, edges⟩ = false := by
    rw [formError_eq, readFrame_covered hf]
    rfl
  rw [Reception.inError, hform, Bool.or_false, Bool.or_eq_true, lengthError_iff, checkError_iff]
  exact or_comm

/-- Covered bits of no well-formed frame are in error whatever their check and their edges (R131). -/
theorem inError_of_formError {bits : List Bool} (h : ∀ f : Frame, f.wellFormed = true → bits ≠ f.covered) (chk : BitVec 8)
    (edges : List Nat) (rate : LinkRate) : Reception.inError rate ⟨bits ++ fieldBits 8 chk.toNat, edges⟩ = true := by
  have hnone : readFrame bits = none := by
    rw [Option.eq_none_iff_forall_ne_some]
    intro f hf
    obtain ⟨hw, hb⟩ := covered_of_readFrame hf
    exact h f hw hb
  have hform : Reception.formError ⟨bits ++ fieldBits 8 chk.toNat, edges⟩ = true := by
    rw [formError_eq, hnone]
    rfl
  simp [Reception.inError, hform]

/-! ### The bits held dominant for it (R134) -/

theorem holds_of_noError {rate : LinkRate} {rx : Reception} (h : rx.inError rate = false) (metAt p : Nat) :
    rx.holds rate metAt p = false := by
  have hl : rx.lengthError rate = false := by
    simp only [Reception.inError, Bool.or_eq_false_iff] at h
    exact h.1.1
  simp [Reception.holds, Reception.errorRun, hl, h]

/-- After a length error: from the bit behind it through the second end bit, for at least one bit (R134). -/
theorem holds_of_lengthError {rate : LinkRate} {rx : Reception} (h : rx.lengthError rate = true) (metAt p : Nat) :
    rx.holds rate metAt p = true ↔ metAt < p ∧ (p ≤ rx.bits.length + 3 ∨ p = metAt + 1) := by
  simp only [Reception.holds, Reception.errorRun, h, if_true, Reception.rejectSlot, Bool.and_eq_true, decide_eq_true_eq]
  omega

/-- At a form or check error: the reject slot and two end bits (R134). -/
theorem holds_of_otherError {rate : LinkRate} {rx : Reception} (hl : rx.lengthError rate = false)
    (h : rx.inError rate = true) (metAt p : Nat) :
    rx.holds rate metAt p = true ↔ rx.bits.length + 1 ≤ p ∧ p ≤ rx.bits.length + 3 := by
  simp [Reception.holds, Reception.errorRun, hl, h, Reception.rejectSlot]

/-! ### SLK (R134, R139) -/

theorem sendingFrame_eq_none {s : State} (h : s.sendingKind = none) : s.sendingFrame = none := by
  simp [State.sendingFrame, h]

theorem sendingFrame_eq_some {s : State} {k : FrameKind} {r : Ready} (hk : s.sendingKind = some k)
    (hr : (s.slot k).sending = some r) : s.sendingFrame = some r.frame := by
  simp [State.sendingFrame, hk, hr]

/-- A station that is MUTE, or finds no error, holds SLK for its own frame alone (R134, R139). -/
theorem holdsSlk_own {s : State} {rx : Reception} (ho : s.onLink = true)
    (h : s.agreement.phase = .mute ∨ rx.inError s.system.linkRate = false) (read : List Bool) (metAt p : Nat) :
    s.holdsSlk read rx metAt p = s.sendingFrame.any fun f => f.holds read p := by
  have hrun : (s.agreement.phase != .mute && rx.holds s.system.linkRate metAt p) = false := by
    rcases h with q | q
    · simp [q]
    · simp [holds_of_noError q]
  unfold State.holdsSlk
  rw [ho, hrun]
  cases s.sendingFrame <;> simp

/-- A station that sends nothing and is not MUTE holds SLK for what it rejects alone (R134). -/
theorem holdsSlk_receiver {s : State} (ho : s.onLink = true) (hp : s.agreement.phase ≠ .mute) (hk : s.sendingKind = none)
    (read : List Bool) (rx : Reception) (metAt p : Nat) :
    s.holdsSlk read rx metAt p = rx.holds s.system.linkRate metAt p := by
  simp [State.holdsSlk, ho, hp, sendingFrame_eq_none hk]

/-- Settles O13, from the judgement of a reception and the runs it is held dominant for. -/
theorem receiverJudgesCheckAndEdges : Obligations.ReceiverJudgesCheckAndEdges := by
  refine ⟨fun s read rx metAt p => ⟨fun ho => ?_, fun ho h => ⟨fun hk => ?_, fun k r hk hr => ?_⟩,
    fun ho hp hk => ⟨fun hd => ?_, fun hd he => ?_⟩⟩, fun f chk edges rate hf => inError_covered_iff hf chk edges rate,
    fun bits chk edges s h => ?_⟩
  · simp [State.holdsSlk, ho]
  · rw [holdsSlk_own ho h, sendingFrame_eq_none hk, Option.any_none]
  · rw [holdsSlk_own ho h, sendingFrame_eq_some hk hr, Option.any_some]
  · rw [holdsSlk_receiver ho hp hk, holds_of_lengthError ((lengthError_iff _ rx).2 hd)]
  · have hl : rx.lengthError s.system.linkRate = false := by
      rw [← Bool.not_eq_true, lengthError_iff]
      rintro ⟨d, hm, hlt⟩
      exact absurd (hd d hm) (Nat.not_le.2 hlt)
    rw [holdsSlk_receiver ho hp hk, holds_of_otherError hl he]
  · have he := inError_of_formError h chk edges s.system.linkRate
    exact ⟨he, fun ho hp => by simp [State.rejects, ho, hp, he]⟩

end Sys2Proof.Machine
end

section
/-! PROOF. The end of a load that passes every check, and integration (O6). -/

namespace Sys2Proof.Machine

open Sys2Proof

/-- An image that passes every check is read to the end that its length field gives (R154, R155). -/
theorem readLength_of_imageValid {i : Image} (h : imageValid i = true) : readLength i.header = word16 i.header 2 := by
  simp only [imageValid, headerValid, inRange, Bool.and_eq_true, beq_iff_eq, decide_eq_true_eq, and_assoc] at h
  obtain ⟨-, hid, hlo, hhi, hstation, h5, h7, h9, hsum, -⟩ := h
  obtain ⟨-, -, hlast⟩ := readLength_cases i.header
  rw [hlast hid hlo hhi, if_neg (by omega), if_pos (by omega)]

/-- At an entry to CENSUS the CENSUS stands queued, and the census window and the beat timer run (R144, R150). -/
theorem startCensus_starts {s : State} (hp : s.agreement.phase = .census) :
    (startCensus s).hasQueued .census 0 (.census s.loader.signature s.loader.resetCause) ∧
      (startCensus s).presence = { s.presence with
        censusWindow := some s.system.censusWindow, beat := some s.system.beatLow
        beatTimer := some s.system.beatLow, debt := 0 } := by
  constructor
  · exact fillFrame_hasQueued (body := .census s.loader.signature s.loader.resetCause)
      (takesFill_of_phase (s := s.withPresence _) (by simp [State.withPresence, hp]) _) 0
  · simp [startCensus, State.withPresence]

/-- The rails at load done: an enabled channel stands, and any other is OFF (R79). -/
theorem loadChannel_rail (s : State) (ch : Fin 6) :
    (loadChannel s).rail ch = if (s.railParams ch).enabled then s.rail ch else Rail.still .off := by
  simp [loadChannel, State.rail]

/-- The state in which load done enters CENSUS: the tables filled and the rails of channels not enabled low (R79, R154). -/
def loadedState (i : Image) (s : State) : State :=
  (loadChannel { endRead i.header s with
    loader := { (endRead i.header s).loader with image := some i, signature := crc16 i.systemBytes } }).withPhase .census

theorem exec_loadDone {i : Image} {s : State} (hp : s.agreement.phase = .loading) (hv : imageValid i = true) :
    exec (.loadDone i) s = .next (startCensus (loadedState i s)) := by
  simp only [exec, execLoadDone, hp, if_true, hv]
  rfl

/-- Settles O6, from what an entry to CENSUS leaves (`startCensus_starts`) and the rails at load done. -/
theorem loadDoneStartsCensus : Obligations.LoadDoneStartsCensus := by
  refine ⟨fun i s hp hv => ⟨_, exec_loadDone hp hv, ?_⟩, fun s => ⟨fun h => ?_, fun h => ?_⟩⟩
  · obtain ⟨hq, hpr⟩ := startCensus_starts (s := loadedState i s) rfl
    have hrail : ∀ ch, (startCensus (loadedState i s)).rail ch =
        if (tabGet i.station.rails ch).enabled then s.rail ch else Rail.still .off := fun ch => by
      have hc : (startCensus (loadedState i s)).rail ch = (loadedState i s).rail ch := by simp [State.rail]
      rw [hc]
      exact loadChannel_rail _ ch
    have hme : (startCensus (loadedState i s)).me = i.stationId := by simp [State.me, loadedState]
    rw [State.hasQueued, State.ownReady, State.ownFrame, hme] at hq
    refine ⟨?_, ?_, ?_, ?_, hq, hpr, fun ch hc => ?_, fun ch hc => ?_, ?_, ?_, ?_⟩
    · simp [loadedState, State.withPhase]
    · simp [loadedState, endRead, readLength_of_imageValid hv]
    · simp [loadedState, State.chipSelect]
    · simp [loadedState, State.chipSelect, State.spiAddress]
    · rw [hrail, if_pos hc]
    · rw [State.enable, hrail, if_neg (by simp [hc])]
      rfl
    · simp [loadedState, loadChannel]
    · simp [loadedState]
    · simp [loadedState]
  · simp [exec, execIntegration, h]
  · simp [exec, execIntegration, h]

end Sys2Proof.Machine
end

section
/-! PROOF. A frame heard makes its sender PRESENT (O15). -/

namespace Sys2Proof.Machine

open Sys2Proof

/-- From one state to another this peer is PRESENT with its silence timer started at this length, and the other entries of
the peer table stand (R142). -/
def PresentAlone (i : StationId) (len : Nat) (s t : State) : Prop :=
  (t.peerAt i).presence = .present ∧ (t.peerAt i).silence = some len ∧ ∀ j, j ≠ i → t.peerAt j = s.peerAt j

theorem PresentAlone.of_peers {i : StationId} {len : Nat} {s t u : State} (h : PresentAlone i len s t)
    (hp : u.presence.peers = t.presence.peers) : PresentAlone i len s u := by
  simpa only [PresentAlone, State.peerAt, hp] using h

/-- The sender's entry at a delivered frame (R142). -/
theorem touchPeer_presentAlone (f : Frame) (s : State) : PresentAlone f.sender s.silenceLength s (touchPeer f s) := by
  have hw : PresentAlone f.sender s.silenceLength s
      (s.withPeer f.sender ((s.peerAt f.sender).heard s.silenceLength f)) :=
    ⟨by rw [peerAt_withPeer_same, heard_presence], by rw [peerAt_withPeer_same]; exact (heard_silence ..).1,
      fun j hj => peerAt_withPeer_ne s hj _⟩
  exact hw.of_peers (touchPeer_peers f s)

/-- The miss count is no part of what a frame heard writes (R33, R142). -/
theorem PresentAlone.clearMisses {i : StationId} {len : Nat} {s t : State} (h : PresentAlone i len s t) :
    PresentAlone i len s (clearMisses i t) := by
  obtain ⟨hp, hs, ho⟩ := h
  refine ⟨?_, ?_, fun j hj => (peerAt_withPeer_ne t hj _).trans (ho j hj)⟩
  · simpa [Machine.clearMisses] using hp
  · simpa [Machine.clearMisses] using hs

/-- A VOTE writes of the peer table no more than its sender's miss count (R33, R38). -/
theorem takeVote_presentAlone {i : StationId} {len : Nat} {s t : State} (h : PresentAlone i len s t) (n : TxnNumber)
    (a : Answer) : PresentAlone i len s (takeVote i n a t) := by
  have hc : PresentAlone i len s (if i = t.me then t else clearMisses i t) := by
    split
    · exact h
    · exact h.clearMisses
  unfold takeVote
  split
  · split
    · dsimp only
      split
      · exact hc.of_peers (by simp)
      · exact hc
    · exact h
  · exact h

/-- The hand-off of a frame that the station hears: the sender's entry, then the engine (R134, R142). -/
theorem handOff_of_hears {f : Frame} (engine : Option Ready → State → State) {s : State} (h : s.hears f.sender) :
    handOff f engine s = engine none (touchPeer f s) := by
  obtain ⟨hon, hi, hx⟩ := h
  have hd : ownDelivered f none s = s := rfl
  unfold handOff
  rw [if_neg (by simp [hon]), ownSending_of_ne hi]
  dsimp only
  rw [hd, if_neg hi, if_neg (by simpa using hx)]

/-- The hand-off to an engine that leaves the peer table (R142). -/
theorem handOff_presentAlone {f : Frame} {engine : Option Ready → State → State} {s : State} (h : s.hears f.sender)
    (he : ∀ t, (engine none t).presence.peers = t.presence.peers) :
    PresentAlone f.sender s.silenceLength s (handOff f engine s) := by
  rw [handOff_of_hears engine h]
  exact (touchPeer_presentAlone f s).of_peers (he _)

/-- Settles O15, from the sender's entry (`touchPeer_presentAlone`): behind it a VOTE alone writes the peer table
(`takeVote_presentAlone`), every other frame but CENSUS and ABORT leaves it. -/
theorem heardPeerIsPresent : Obligations.HeardPeerIsPresent := by
  intro c i s hd hc ha hh
  suffices hp : ∃ t, exec c s = .next t ∧ PresentAlone i s.silenceLength s t from hp
  cases c with
  | proposeDelivered | forcedProposeDelivered | wakeDelivered | stageForwardDelivered | stageUnwindDelivered
  | faultDelivered =>
    obtain rfl := Option.some.inj hd
    exact ⟨_, rfl, handOff_presentAlone hh fun t => by simp⟩
  | voteDelivered _ n a =>
    obtain rfl := Option.some.inj hd
    refine ⟨_, rfl, ?_⟩
    rw [handOff_of_hears _ hh]
    exact takeVote_presentAlone (touchPeer_presentAlone _ s) n a
  | beatDelivered j n b =>
    obtain rfl := Option.some.inj hd
    exact ⟨_, beatDelivered_takes hh n b, (touchPeer_presentAlone ⟨j, n, .beat b⟩ s).of_peers (by simp)⟩
  | abortDelivered =>
    obtain rfl := Option.some.inj hd
    exact absurd rfl (ha _ _)
  | censusDelivered => cases hc
  | _ => cases hd

end Sys2Proof.Machine
end

section
/-! PROOF. What every transfer of the maintenance port does, and the transfers that select no response (O55). -/

namespace Sys2Proof.Machine

open Sys2Proof

/-! ### The address of a transfer (R162) -/

/-- A command of the port where the port answers its address (R162). -/
theorem onPort_of_answers {a : I2cAddress} (f : State → State) {s : State} (h : s.answers a = true) :
    onPort a f s = f s :=
  if_pos h

/-- A command of the port where the port does not answer its address (R162). -/
theorem onPort_of_not_answers {a : I2cAddress} (f : State → State) {s : State} (h : s.answers a = false) :
    onPort a f s = noteAcks [false] s :=
  if_neg (by simp [h])

/-- The station answers the maintenance address of a loaded image alone (R162). -/
theorem answers_eq_true_iff (s : State) (a : I2cAddress) :
    s.answers a = true ↔ s.agreement.phase.loaded = true ∧ s.station.address = a.toNat := by
  simp [State.answers]

/-- A transfer to an address that the port does not answer leaves the address byte not acknowledged (R162). -/
theorem exec_transfer_of_not_answers {c : Instr} {a : I2cAddress} {s : State} (hc : c.transferTo = some a)
    (h : s.answers a = false) : exec c s = .next (noteAcks [false] s) := by
  cases c with
  | status | peer | txn | history | wakeq | faults | stack | ackFaults | restart | unknownCommand | snapshotRead =>
    obtain rfl := Option.some.inj hc
    exact congrArg Host.Outcome.next (onPort_of_not_answers _ h)
  | _ => cases hc

/-! ### Codes and arguments (R162, R164) -/

theorem writtenCommand_of_codeCommand {a : I2cAddress} {code : Byte} {rest : List Byte} {c : Instr}
    (h : codeCommand a code rest = some c) : writtenCommand a (code :: rest) = some c := by
  simp [writtenCommand, h]

theorem writtenCommand_unknown (a : I2cAddress) (rest : List Byte) {code : Byte}
    (h : code = 0 ∨ (7 < code.toNat ∧ code ≠ 0xA1 ∧ code ≠ 0xC3)) :
    writtenCommand a (code :: rest) = some (.unknownCommand ⟨a, code, rest.length⟩) := by
  simp [writtenCommand, codeCommand_eq_none a rest h]

/-- The acknowledge bits of a transfer whose first byte behind the address is refused (R162). -/
theorem takenAcks_zero_one_add (n : Nat) : takenAcks 0 (1 + n) = [true, false] ++ List.replicate n false := by
  simp [takenAcks, Nat.add_comm 1 n, List.replicate_succ]

theorem exec_unknownCommand {w : CodeWrite} {s : State} (h : s.answers w.addr = true) :
    exec (.unknownCommand w) s = .next (noteAcks ([true, false] ++ List.replicate w.extra false) s) := by
  rw [← takenAcks_zero_one_add]
  exact congrArg Host.Outcome.next (onPort_of_answers _ h)

theorem exec_peer_none {w : PortWrite} {s : State} (h : s.answers w.addr = true) :
    exec (.peer none w) s = .next (noteAcks (takenAcks 1 0) s) :=
  congrArg Host.Outcome.next (onPort_of_answers _ h)

theorem exec_peer_of_lt {w : PortWrite} {s : State} (h : s.answers w.addr = true) {a : Byte} (ha : a.toNat < 8) :
    exec (.peer (some a) w) s = .next (readPeer ⟨a.toNat, ha⟩ (takenAcks 2 w.extra) s) :=
  congrArg Host.Outcome.next ((onPort_of_answers _ h).trans (dif_pos ha))

theorem exec_peer_of_le {w : PortWrite} {s : State} (h : s.answers w.addr = true) {a : Byte} (ha : 8 ≤ a.toNat) :
    exec (.peer (some a) w) s = .next (noteAcks (takenAcks 1 (1 + w.extra)) s) :=
  congrArg Host.Outcome.next ((onPort_of_answers _ h).trans (dif_neg (Nat.not_lt.mpr ha)))

theorem exec_history_none {w : PortWrite} {s : State} (h : s.answers w.addr = true) :
    exec (.history none w) s = .next (noteAcks (takenAcks 1 0) s) :=
  congrArg Host.Outcome.next (onPort_of_answers _ h)

theorem exec_history_of_lt {w : PortWrite} {s : State} (h : s.answers w.addr = true) {a : Byte} (ha : a.toNat < 4) :
    exec (.history (some a) w) s = .next (select (s.historyBytes a.toNat) (takenAcks 2 w.extra) s) :=
  congrArg Host.Outcome.next ((onPort_of_answers _ h).trans (if_pos ha))

theorem exec_history_of_le {w : PortWrite} {s : State} (h : s.answers w.addr = true) {a : Byte} (ha : 4 ≤ a.toNat) :
    exec (.history (some a) w) s = .next (noteAcks (takenAcks 1 (1 + w.extra)) s) :=
  congrArg Host.Outcome.next ((onPort_of_answers _ h).trans (if_neg (Nat.not_lt.mpr ha)))

/-! ### Reads (R162) -/

theorem exec_snapshotRead {r : PortRead} {s : State} (h : s.answers r.addr = true) :
    exec (.snapshotRead r) s = .next (readSnapshot r.count s) :=
  congrArg Host.Outcome.next (onPort_of_answers _ h)

theorem length_readBytes (count : Nat) (selected : Option (List Byte)) : (readBytes count selected).length = count := by
  cases selected with
  | none => exact List.length_replicate
  | some bs => simp only [readBytes, List.length_append, List.length_take, List.length_replicate]; omega

/-- With a snapshot selected a read returns its bytes, and 0xFF past them (R162). -/
theorem readBytes_some_getElem? (bs : List Byte) {count i : Nat} (hi : i < count) :
    (readBytes count (some bs))[i]? = some (bs.getD i 0xFF) := by
  rcases Nat.lt_or_ge i bs.length with hb | hb
  · simp [readBytes, List.getElem?_append, hi, hb]
  · have hc : i - min count bs.length < count - bs.length := by omega
    simp [readBytes, List.getElem?_append, hb, hc]

/-- With none selected a read returns 0xFF throughout (R162). -/
theorem readBytes_none_getElem? {count i : Nat} (hi : i < count) : (readBytes count none)[i]? = some 0xFF := by
  simp [readBytes, hi]

/-- Settles O55: each clause is the rule of its command above. -/
theorem otherTransfers : Obligations.OtherTransfers := by
  refine ⟨fun a rest => ⟨rfl, rfl, fun code => writtenCommand_unknown a rest⟩, fun a s => answers_eq_true_iff s a,
    fun w s h => exec_unknownCommand h, fun w s h => ⟨exec_peer_none h, exec_history_none h,
      fun a ha => exec_peer_of_le h ha, fun a ha => exec_history_of_le h ha⟩, fun r s h => ?_,
    fun c a s hc h => exec_transfer_of_not_answers hc h⟩
  refine ⟨_, exec_snapshotRead h, rfl, rfl, length_readBytes _ _, fun i hi => ?_⟩
  cases hs : s.port.selected with
  | some bs => simpa [readSnapshot, State.withPort, hs] using readBytes_some_getElem? bs hi
  | none => simpa [readSnapshot, State.withPort, hs] using readBytes_none_getElem? hi

end Sys2Proof.Machine
end

section
/-! PROOF. Where the pieces of a response stand, and what the readers find there (R162 to R165). -/

namespace Sys2Proof

/-! ### How far the codes go (R32, R97, R130, R163) -/

theorem Level.bit_lt (l : Level) : l.bit < 2 := by cases l <;> decide

theorem Phase.code_lt (p : Phase) : p.code < 8 := by cases p <;> decide

theorem Kind.code_lt (k : Kind) : k.code < 8 := by cases k <;> decide

theorem FaultCode.code_lt (c : FaultCode) : c.code < 16 := by cases c <;> decide

theorem DeclineReason.code_lt (r : DeclineReason) : r.code < 16 := by cases r <;> decide

theorem ResetCause.code_lt (c : ResetCause) : c.code < 4 := by cases c <;> decide

namespace Machine

/-! ### Pieces of a response -/

/-- This piece stands in the bytes of a response from this place on. -/
def StandsAt (bs : List Byte) (p : Nat) (piece : List Byte) : Prop := piece <+: bs.drop p

theorem standsAt_self (bs : List Byte) : StandsAt bs 0 bs := List.prefix_rfl

theorem standsAt_nil (bs : List Byte) (p : Nat) : StandsAt bs p [] ↔ True := iff_true_intro List.nil_prefix

/-- The same place, written as another sum. -/
theorem StandsAt.at {bs piece : List Byte} {p q : Nat} (h : StandsAt bs p piece) (hq : q = p) : StandsAt bs q piece :=
  hq ▸ h

/-- One piece behind another. -/
theorem standsAt_append (bs : List Byte) (p : Nat) (xs ys : List Byte) :
    StandsAt bs p (xs ++ ys) ↔ StandsAt bs p xs ∧ StandsAt bs (p + xs.length) ys := by
  unfold StandsAt
  rw [← List.drop_drop]
  constructor
  · rintro ⟨t, ht⟩
    rw [← ht]
    simp [List.append_assoc]
  · rintro ⟨⟨t, ht⟩, hy⟩
    rw [← ht, List.drop_left] at hy
    rw [← ht]
    exact (List.prefix_append_right_inj xs).mpr hy

/-- One byte in front of a piece. -/
theorem standsAt_cons (bs : List Byte) (p : Nat) (b : Byte) (xs : List Byte) :
    StandsAt bs p (b :: xs) ↔ bs[p]? = some b ∧ StandsAt bs (p + 1) xs := by
  have h : StandsAt bs p [b] ↔ bs[p]? = some b := by
    unfold StandsAt
    rw [List.singleton_prefix_iff_head?_eq_some, List.head?_drop]
  rw [← h]
  exact standsAt_append bs p [b] xs

theorem StandsAt.getElem? {bs xs : List Byte} {p : Nat} {b : Byte} (h : StandsAt bs p (b :: xs)) : bs[p]? = some b :=
  ((standsAt_cons bs p b xs).mp h).1

theorem StandsAt.tail {bs xs : List Byte} {p : Nat} {b : Byte} (h : StandsAt bs p (b :: xs)) : StandsAt bs (p + 1) xs :=
  ((standsAt_cons bs p b xs).mp h).2

/-- The pieces of one length that a list is shown by. -/
theorem StandsAt.flatMap {α : Type} {f : α → List Byte} {k : Nat} (hf : ∀ x, (f x).length = k) {bs : List Byte}
    {xs : List α} {p n : Nat} {x : α} (h : StandsAt bs p (xs.flatMap f)) (hx : xs[n]? = some x) :
    StandsAt bs (p + k * n) (f x) := by
  induction xs generalizing p n with
  | nil => simp at hx
  | cons y ys ih =>
    rw [List.flatMap_cons, standsAt_append] at h
    cases n with
    | zero =>
      obtain rfl : y = x := by simpa using hx
      exact h.1
    | succ n =>
      rw [show p + k * (n + 1) = p + (f y).length + k * n by rw [hf, Nat.mul_succ]; omega]
      exact ih h.2 (by simpa using hx)

/-- A table's bytes, one for each place. -/
theorem StandsAt.map_finRange {k : Nat} {f : Fin k → Byte} {bs : List Byte} {p : Nat}
    (h : StandsAt bs p ((List.finRange k).map f)) (i : Fin k) : bs[p + i.val]? = some (f i) := by
  have hi : ((List.finRange k).map f)[i.val]? = some (f i) := by simp
  obtain ⟨t, ht⟩ := h
  rw [← List.getElem?_drop, ← ht, List.getElem?_append_left (by simp)]
  exact hi

/-! ### The readers at a piece -/

/-- A field within a piece. -/
theorem StandsAt.bytesAt_add {bs piece : List Byte} {p q c : Nat} (h : StandsAt bs p piece)
    (hq : q + c ≤ piece.length) : bytesAt bs (p + q) c = bytesAt piece q c := by
  obtain ⟨t, ht⟩ := h
  rw [← bytesAt_append_left piece t hq, ht, bytesAt, bytesAt, List.drop_drop]

/-- A field that is a whole piece. -/
theorem StandsAt.bytesAt_eq {bs piece : List Byte} {p : Nat} (h : StandsAt bs p piece) :
    bytesAt bs p piece.length = bytesAt piece 0 piece.length :=
  h.bytesAt_add (q := 0) (by simp)

/-- A timestamp that stands in a response reads back (R165). -/
theorem StandsAt.bytesAt_time {bs : List Byte} {p : Nat} {t : Time} (h : StandsAt bs p (bytes32 t)) :
    bytesAt bs p 4 = t.toNat :=
  h.bytesAt_eq.trans (bytesAt_bytes32 t)

/-- A byte that stands in a response reads back. -/
theorem bytesAt_of_getElem? {bs : List Byte} {p : Nat} {b : Byte} (h : bs[p]? = some b) : bytesAt bs p 1 = b.toNat := by
  rw [bytesAt_one, List.getD_eq_getElem?_getD, h, Option.getD_some]

/-- The same reading, at another sum of the same place. -/
theorem bytesAt_at {bs : List Byte} {p q c v : Nat} (h : bytesAt bs p c = v) (hq : q = p) : bytesAt bs q c = v :=
  hq ▸ h

/-- A number below 256 that stands in a response as one byte reads back. -/
theorem bytesAt_byteOf {bs : List Byte} {p n : Nat} (h : bs[p]? = some (byteOf n)) (hn : n < 256) :
    bytesAt bs p 1 = n := by
  rw [bytesAt_of_getElem? h, byteOf_toNat hn]

/-- A flag that stands in a response as one byte reads back. -/
theorem bytesAt_flagByte {bs : List Byte} {p : Nat} {b : Bool} (h : bs[p]? = some (flagByte b)) :
    bytesAt bs p 1 = b.toNat := by
  rw [bytesAt_of_getElem? h]
  cases b <;> rfl

/-- A field of a byte that stands in a response. -/
theorem bitsAt_byteOf {bs : List Byte} {p n low width v : Nat} (h : bs[p]? = some (byteOf n))
    (hv : n % 256 / 2 ^ low % 2 ^ width = v) : bitsAt bs p low width = v := by
  rw [bitsAt, List.getD_eq_getElem?_getD, h, Option.getD_some, byteOf_toNat_mod, hv]

/-- A field with a presence byte reads back where its value does (R165). -/
theorem StandsAt.optionAt {α : Type} {f : α → List Byte} {k : Nat} {v : α → Nat} {o : Option α} {bs : List Byte}
    {p : Nat} (h : StandsAt bs p (optionBytes f o))
    (hf : ∀ x ∈ o, ∀ q, StandsAt bs q (f x) → bytesAt bs q k = v x) :
    Machine.optionAt bs p k (o.map v) := by
  cases o with
  | none => exact bytesAt_of_getElem? h.getElem?
  | some x => exact ⟨bytesAt_of_getElem? h.getElem?, hf x rfl _ h.tail⟩

/-- The same for a field that a flag makes present (R165). -/
theorem StandsAt.optionAt_when {present : Bool} {piece : List Byte} {k v : Nat} {bs : List Byte} {p : Nat}
    (h : StandsAt bs p (whenBytes present piece)) (hv : ∀ q, StandsAt bs q piece → bytesAt bs q k = v) :
    Machine.optionAt bs p k (if present then some v else none) := by
  cases present with
  | false => exact bytesAt_of_getElem? h.getElem?
  | true => exact ⟨bytesAt_of_getElem? h.getElem?, hv _ h.tail⟩

theorem StandsAt.of_whenBytes {present : Bool} {piece bs : List Byte} {p : Nat}
    (h : StandsAt bs p (whenBytes present piece)) (hp : present = true) : StandsAt bs (p + 1) piece := by
  subst hp
  exact h.tail

theorem length_whenBytes (present : Bool) (piece : List Byte) :
    (whenBytes present piece).length = optionSize piece.length present := by
  cases present <;> simp [whenBytes, optionSize, Nat.add_comm]

/-! ### The numbers in a packed byte -/

/-- A flag at its place is its bit times the weight of the place. -/
theorem bitAt_eq (b : Bool) (n : Nat) : bitAt b n = 2 ^ n * b.toNat ∧ b.toNat < 2 := by cases b <;> simp [bitAt]

theorem believedCode_lt (b : Option SystemState) : believedCode b < 8 := by
  cases b with
  | none => decide
  | some x => cases x <;> decide

theorem MuteCause.code_lt (c : MuteCause) : c.code < 4 := by cases c <;> decide

theorem SubState.code_lt (x : SubState) : x.code < 8 := by cases x <;> decide

theorem RailState.code_lt (x : RailState) : x.code < 16 := by cases x <;> decide

theorem PresenceValue.code_lt (v : PresenceValue) : v.code < 4 := by cases v <;> decide

theorem TxnOutcome.code_lt (o : TxnOutcome) : o.code < 16 := by cases o <;> decide

theorem Cause.code_lt (c : Cause) : c.code < 16 := by cases c <;> decide

theorem causeCode_lt (c : Option Cause) : causeCode c < 16 := by
  cases c with
  | none => decide
  | some c => exact c.code_lt

theorem severityCode_lt (x : Severity) : severityCode x < 2 := by cases x <;> decide

theorem EntryState.code_lt (x : EntryState) : x.code < 2 := by cases x <;> decide

theorem resetCode_lt (c : Option ResetCause) : resetCode c < 4 := by
  cases c with
  | none => decide
  | some c => exact c.code_lt

theorem stateCode_lt (x : Option SystemState) : stateCode x < 8 := by
  cases x with
  | none => decide
  | some x => cases x <;> decide

theorem phaseCode_lt (p : Option Phase) : phaseCode p < 8 := by
  cases p with
  | none => decide
  | some p => exact p.code_lt

end Machine

end Sys2Proof
end

section
/-! PROOF. The read commands of the maintenance port and the bytes of their responses (O53). -/

namespace Sys2Proof.Machine

open Sys2Proof

/-! ### STATUS (R163) -/

/-- The two fields of a rail byte of STATUS. -/
theorem statusBytes_rail {s : State} {ch : Fin 6} (h : (s.rail ch).dropouts ≤ 15) :
    bitsAt s.statusBytes (11 + ch.val) 0 4 = (s.rail ch).state.code ∧
      bitsAt s.statusBytes (11 + ch.val) 4 4 = (s.rail ch).dropouts := by
  have hrails : StandsAt s.statusBytes 11 ((List.finRange 6).map fun ch => s.railByte ch) := ⟨[s.inputByte], rfl⟩
  have hbyte : s.statusBytes[11 + ch.val]? = some (s.railByte ch) := hrails.map_finRange ch
  have hstate := (s.rail ch).state.code_lt
  exact ⟨bitsAt_byteOf hbyte (by omega), bitsAt_byteOf hbyte (by omega)⟩

theorem newEntries_le (s : State) : s.newEntries ≤ s.agreement.history.length := List.length_filter_le _ _

/-- The bits of the input levels in byte 17 of STATUS, in the order that is the model's choice (log 40). -/
theorem statusBytes_inputs (s : State) : (∀ i : Fin 2, bitsAt s.statusBytes 17 i.val 1 = (s.sense i).bit) ∧
    ∀ ch : Fin 6, bitsAt s.statusBytes 17 (2 + ch.val) 1 = (s.powerGood ch).bit := by
  have hinput : s.statusBytes[17]? = some s.inputByte := rfl
  have hs0 := (s.sense 0).bit_lt
  have hs1 := (s.sense 1).bit_lt
  have hg0 := (s.powerGood 0).bit_lt
  have hg1 := (s.powerGood 1).bit_lt
  have hg2 := (s.powerGood 2).bit_lt
  have hg3 := (s.powerGood 3).bit_lt
  have hg4 := (s.powerGood 4).bit_lt
  have hg5 := (s.powerGood 5).bit_lt
  refine ⟨fun i => ?_, fun ch => ?_⟩
  · match i with
    | 0 => exact bitsAt_byteOf (low := 0) hinput (by omega)
    | 1 => exact bitsAt_byteOf (low := 1) hinput (by omega)
  · match ch with
    | 0 => exact bitsAt_byteOf (low := 2) hinput (by omega)
    | 1 => exact bitsAt_byteOf (low := 3) hinput (by omega)
    | 2 => exact bitsAt_byteOf (low := 4) hinput (by omega)
    | 3 => exact bitsAt_byteOf (low := 5) hinput (by omega)
    | 4 => exact bitsAt_byteOf (low := 6) hinput (by omega)
    | 5 => exact bitsAt_byteOf (low := 7) hinput (by omega)

/-- The bytes of STATUS, each line below one byte of the table. -/
theorem statusBytes_layout {s : State} (h : CountsInRange s) : StatusLayout s s.statusBytes := by
  obtain ⟨hcursor, hstack, hdebt, hlatched, hdeferred, hhistory, hqueue, herrors, hlate, hcorrections, -, hdropouts,
    -⟩ := h
  have hphase := s.agreement.phase.code_lt
  have hbelieved := believedCode_lt s.agreement.believed
  have hopen := bitAt_eq s.txnOpen 6
  have himage := bitAt_eq s.agreement.restImage 7
  have hreset := s.loader.resetCause.code_lt
  have hnumber := bitAt_eq s.agreement.number.isSome 2
  have hhalted := bitAt_eq s.executor.halted 5
  have hmute := s.presence.muteCause.code_lt
  have hsub := s.executor.sub.code_lt
  have hattn := bitAt_eq s.attn 7
  have hok := bitAt_eq s.stateOk 7
  have hnew := newEntries_le s
  refine ⟨rfl,
    bitsAt_byteOf rfl ?_, bitsAt_byteOf rfl ?_, bitsAt_byteOf rfl ?_, bitsAt_byteOf rfl ?_,
    bytesAt_of_getElem? rfl,
    bitsAt_byteOf rfl ?_, bitsAt_byteOf rfl ?_, bitsAt_byteOf rfl ?_, bitsAt_byteOf rfl ?_, bitsAt_byteOf rfl ?_,
    bitsAt_byteOf rfl ?_, bitsAt_byteOf rfl ?_,
    bitsAt_byteOf rfl ?_, bitsAt_byteOf rfl ?_,
    bitsAt_byteOf rfl ?_, bitsAt_byteOf rfl ?_, bitsAt_byteOf rfl ?_,
    bitsAt_byteOf (v := s.newEntries) rfl ?_, bitsAt_byteOf rfl ?_, bitsAt_byteOf rfl ?_,
    (StandsAt.bytesAt_eq ⟨_, rfl⟩).trans (bytesAt_bytes16 (by omega)),
    bytesAt_byteOf rfl (by omega), bytesAt_byteOf rfl (by omega),
    fun ch => statusBytes_rail (hdropouts ch), statusBytes_inputs s⟩
  all_goals omega

/-! ### PEER and HISTORY (R164) -/

/-- What a PEER read shows keeps within the ranges of the table (R141, R164). -/
theorem shownPeer_counts {s : State} (h : ∀ i, (s.peerAt i).misses ≤ 3 ∧ (s.peerAt i).rejoins ≤ 255)
    (i : StationId) : (s.shownPeer i).misses ≤ 3 ∧ (s.shownPeer i).rejoins ≤ 255 := by
  unfold State.shownPeer
  split
  · decide
  · exact h i

/-- The bytes of PEER for the entry it shows. -/
theorem peerBytes_layout {s : State} (h : ∀ i, (s.peerAt i).misses ≤ 3 ∧ (s.peerAt i).rejoins ≤ 255)
    (i : StationId) : PeerLayout s i (s.shownPeer i) (s.peerBytes i) := by
  obtain ⟨hmisses, hrejoins⟩ := shownPeer_counts h i
  have hpresence := (s.shownPeer i).presence.code_lt
  have hchanged := bitAt_eq (s.shownPeer i).changed 2
  have hsilence := bitAt_eq (s.shownPeer i).silence.isSome 3
  have hreset := resetCode_lt (s.shownPeer i).lastReset
  have hstate := stateCode_lt (s.shownPeer i).lastState
  have hphase := phaseCode_lt (s.shownPeer i).lastPhase
  have hopen := bitAt_eq (s.shownPeer i).lastOpen 6
  have hnumber := bitAt_eq (s.shownPeer i).lastNumber.isSome 7
  have hrequired := bitAt_eq (setHas s.system.required i) 2
  have hquorum := bitAt_eq (setHas s.system.quorum i) 3
  have hbarring := bitAt_eq (setHas s.presence.barring i) 4
  refine ⟨rfl,
    bitsAt_byteOf rfl ?_, bitsAt_byteOf rfl ?_, bitsAt_byteOf rfl ?_, bitsAt_byteOf rfl ?_,
    bitsAt_byteOf (v := resetCode (s.shownPeer i).lastReset) rfl ?_,
    bitsAt_byteOf (v := stateCode (s.shownPeer i).lastState) rfl ?_,
    bitsAt_byteOf (v := phaseCode (s.shownPeer i).lastPhase) rfl ?_, bitsAt_byteOf rfl ?_, bitsAt_byteOf rfl ?_,
    bytesAt_of_getElem? rfl,
    bitsAt_byteOf rfl ?_, bitsAt_byteOf rfl ?_, bitsAt_byteOf rfl ?_, bitsAt_byteOf rfl ?_,
    bytesAt_byteOf rfl (by omega)⟩
  all_goals omega

/-- The three numbers of an optional wake source (R164). -/
theorem sourceFields_eq (w : Option (StationId × Fin 8)) :
    (sourceFields w).1 = w.isSome.toNat ∧ (sourceFields w).2.1 = (match w with | some w => w.1.val | none => 0) ∧
      (sourceFields w).2.2 = match w with | some w => w.2.val | none => 0 := by
  cases w <;> exact ⟨rfl, rfl, rfl⟩

theorem sourceFields_lt (w : Option (StationId × Fin 8)) :
    (sourceFields w).1 < 2 ∧ (sourceFields w).2.1 < 8 ∧ (sourceFields w).2.2 < 8 := by
  cases w with
  | none => decide
  | some w => exact ⟨Nat.one_lt_two, w.1.isLt, w.2.isLt⟩

/-- The bytes of HISTORY for an entry held. -/
theorem historyEntry_layout {e : HistoryEntry} (h : e.deferred ≤ 6) : HistoryLayout e e.bytes := by
  have hkind := e.kind.code_lt
  have hforced := bitAt_eq e.forced 5
  have hnew := bitAt_eq e.isNew 6
  have houtcome := e.outcome.code_lt
  have hcause := causeCode_lt e.cause
  have horiginator := e.originator.isLt
  obtain ⟨hsome, hstation, hinput⟩ := sourceFields_lt e.wakeSource
  obtain ⟨hsomeEq, hstationEq, hinputEq⟩ := sourceFields_eq e.wakeSource
  refine ⟨rfl,
    bitsAt_byteOf rfl ?_, bitsAt_byteOf rfl ?_, bitsAt_byteOf rfl ?_, bitsAt_byteOf rfl ?_,
    bitsAt_byteOf rfl ?_, bitsAt_byteOf rfl ?_,
    bytesAt_of_getElem? rfl,
    bitsAt_byteOf rfl ?_, (bitsAt_byteOf rfl ?_).trans hsomeEq, (bitsAt_byteOf rfl ?_).trans hstationEq,
    (bitsAt_byteOf rfl ?_).trans hinputEq, bitsAt_byteOf rfl ?_,
    bytesAt_of_getElem? rfl, StandsAt.bytesAt_time ⟨_, rfl⟩⟩
  all_goals omega

/-! ### WAKEQ, FAULTS and STACK (R165) -/

/-- The bytes of a wake queue entry, wherever they stand. -/
theorem WakeEntry.bytes_read {e : WakeEntry} (hr : e.repeats ≤ 255) (ha : e.attempts ≤ 2) {bs : List Byte} {p : Nat}
    (h : StandsAt bs p e.bytes) :
    bytesAt bs p 1 = e.input.val ∧ bytesAt bs (p + 1) 4 = e.qualifiedAt.toNat ∧ bytesAt bs (p + 5) 1 = e.repeats ∧
      bytesAt bs (p + 6) 1 = e.attempts ∧ bytesAt bs (p + 7) 1 = e.state.code := by
  have hcode := e.state.code_lt
  simp only [WakeEntry.bytes, standsAt_append, standsAt_cons, standsAt_nil, length_bytes32, List.length_append,
    List.length_cons, List.length_nil, and_true, and_assoc] at h
  obtain ⟨hinput, htime, hrepeats, hattempts, hstate⟩ := h
  exact ⟨bytesAt_byteOf hinput (by omega), htime.bytesAt_time, bytesAt_byteOf hrepeats (by omega),
    bytesAt_byteOf hattempts (by omega), bytesAt_byteOf hstate (by omega)⟩

theorem wakeqBytes_layout {s : State} (hlen : s.wake.queue.length ≤ 8)
    (hq : ∀ e ∈ s.wake.queue, e.repeats ≤ 255 ∧ e.attempts ≤ 2) : WakeqLayout s s.wakeqBytes := by
  have hmark : bytesAt s.wakeqBytes 1 1 = (markByte s.wake.mark).toNat := bytesAt_of_getElem? rfl
  have hentries : StandsAt s.wakeqBytes 2 (s.wake.queue.flatMap WakeEntry.bytes) := List.prefix_rfl
  refine ⟨?_, bytesAt_byteOf rfl (by omega), hmark.trans ?_, fun n e hn => ?_⟩
  · rw [State.wakeqBytes, List.length_append, length_flatMap_of_length _ (k := 8) fun _ => rfl]
    rfl
  · cases s.wake.mark with
    | none => rfl
    | some i => exact byteOf_toNat (by omega)
  · obtain ⟨hr, ha⟩ := hq e (List.mem_of_getElem? hn)
    obtain ⟨h0, h1, h5, h6, h7⟩ := WakeEntry.bytes_read hr ha (hentries.flatMap (k := 8) (fun _ => rfl) hn)
    exact ⟨h0, bytesAt_at h1 (by omega), bytesAt_at h5 (by omega), bytesAt_at h6 (by omega), bytesAt_at h7 (by omega)⟩

/-- The bytes of a latched fault entry, wherever they stand. -/
theorem FaultEntry.bytes_read {e : FaultEntry} (hc : e.count ≤ 255) {bs : List Byte} {p : Nat}
    (h : StandsAt bs p e.bytes) :
    bytesAt bs p 1 = e.code.code ∧ bytesAt bs (p + 1) 1 = e.target.toNat ∧
      bytesAt bs (p + 2) 1 = severityCode e.severity ∧
      bytesAt bs (p + 3) 4 = e.firstTime.toNat ∧ bytesAt bs (p + 7) 4 = e.lastTime.toNat ∧
      bytesAt bs (p + 11) 1 = e.count := by
  have hcode := e.code.code_lt
  have htarget := e.target.isLt
  have hseverity := severityCode_lt e.severity
  simp only [FaultEntry.bytes, standsAt_append, standsAt_cons, standsAt_nil, length_bytes32, List.length_append,
    List.length_cons, List.length_nil, and_true, and_assoc] at h
  obtain ⟨h0, h1, h2, hfirst, hlast, h11⟩ := h
  exact ⟨bytesAt_byteOf h0 (by omega), bytesAt_byteOf h1 (by omega), bytesAt_byteOf h2 (by omega), hfirst.bytesAt_time,
    hlast.bytesAt_time, bytesAt_byteOf h11 (by omega)⟩

/-- The bytes of a deferred fault entry, wherever they stand. -/
theorem DeferredEntry.bytes_read {e : DeferredEntry} (hs : e.stage ≤ 13) (hc : e.count ≤ 255) {bs : List Byte} {p : Nat}
    (h : StandsAt bs p e.bytes) :
    bytesAt bs p 1 = e.rail.val ∧ bytesAt bs (p + 1) 1 = (lossCode e.loss).code ∧
      bytesAt bs (p + 2) 1 = e.stage ∧ bytesAt bs (p + 3) 1 = e.count := by
  have hcode := (lossCode e.loss).code_lt
  simp only [DeferredEntry.bytes, standsAt_cons, standsAt_nil, and_true] at h
  obtain ⟨hrail, hloss, hstage, hcount⟩ := h
  exact ⟨bytesAt_byteOf hrail (by omega), bytesAt_byteOf hloss (by omega), bytesAt_byteOf hstage (by omega),
    bytesAt_byteOf hcount (by omega)⟩

theorem faultsBytes_layout {s : State} (hl : s.faults.latched.length ≤ 8) (hd : s.faults.deferred.length ≤ 6)
    (hu : s.faults.unrecorded ≤ 255) (hle : ∀ e ∈ s.faults.latched, e.count ≤ 255)
    (hde : ∀ e ∈ s.faults.deferred, e.stage ≤ 13 ∧ e.count ≤ 255) : FaultsLayout s s.faultsBytes := by
  have hlatchedLen := length_flatMap_of_length FaultEntry.bytes (k := 12) (fun _ => rfl) s.faults.latched
  have hdeferredLen := length_flatMap_of_length DeferredEntry.bytes (k := 4) (fun _ => rfl) s.faults.deferred
  have h : StandsAt s.faultsBytes 0 (([_, _] ++ _) ++ [_] ++ _) := standsAt_self _
  simp only [standsAt_append, standsAt_cons, standsAt_nil, and_true, and_assoc, hlatchedLen, List.length_append,
    List.length_cons, List.length_nil, Nat.zero_add, Nat.reduceAdd] at h
  obtain ⟨hcount, hunrecorded, hlatched, hdeferredCount, hdeferred⟩ := h
  refine ⟨?_, bytesAt_byteOf hcount (by omega), bytesAt_byteOf hunrecorded (by omega), fun n e hn => ?_,
    bytesAt_byteOf hdeferredCount (by omega), fun n e hn => ?_⟩
  · simp only [State.faultsBytes, List.length_append, List.length_cons, List.length_nil, hlatchedLen, hdeferredLen]
    omega
  · obtain ⟨h0, h1, h2, h3, h7, h11⟩ :=
      FaultEntry.bytes_read (hle e (List.mem_of_getElem? hn)) (hlatched.flatMap (k := 12) (fun _ => rfl) hn)
    exact ⟨h0, bytesAt_at h1 (by omega), bytesAt_at h2 (by omega), bytesAt_at h3 (by omega), bytesAt_at h7 (by omega),
      bytesAt_at h11 (by omega)⟩
  · obtain ⟨hs, hc⟩ := hde e (List.mem_of_getElem? hn)
    obtain ⟨h0, h1, h2, h3⟩ := DeferredEntry.bytes_read hs hc (hdeferred.flatMap (k := 4) (fun _ => rfl) hn)
    exact ⟨bytesAt_at h0 (by omega), bytesAt_at h1 (by omega), bytesAt_at h2 (by omega), bytesAt_at h3 (by omega)⟩

/-- The two bytes of a recorded change (R165). -/
theorem changeBytes_read (c : Change) {bs : List Byte} {p : Nat} : StandsAt bs p (changeBytes c) →
    (bytesAt bs p 1, bytesAt bs (p + 1) 1) = (match c with
      | .raise ch => (0, ch.val)
      | .drop ch => (1, ch.val)
      | .setHigh i => (2, i.val)
      | .setLow i => (3, i.val)) := by
  intro h
  cases c with
  | raise i | drop i | setHigh i | setLow i =>
    have hi : i.val < 256 := by omega
    exact Prod.ext (bytesAt_of_getElem? h.getElem?) (bytesAt_byteOf h.tail.getElem? hi)

theorem length_changeBytes (c : Change) : (changeBytes c).length = 2 := by cases c <;> rfl

theorem UnwindRecord.length_bytes (r : UnwindRecord) : r.bytes.length = 5 := by
  simp [UnwindRecord.bytes, length_changeBytes]

theorem stackBytes_layout {s : State} (hlen : s.executor.stack.length ≤ 16)
    (hst : ∀ r ∈ s.executor.stack, r.stage ≤ 12) : StackLayout s s.stackBytes := by
  have hrecords : StandsAt s.stackBytes 1 (s.executor.stack.flatMap UnwindRecord.bytes) := List.prefix_rfl
  refine ⟨?_, bytesAt_byteOf rfl (by omega), fun n r hn => ?_⟩
  · rw [State.stackBytes, List.length_cons, length_flatMap_of_length _ UnwindRecord.length_bytes, Nat.add_comm]
  · have hstage := hst r (List.mem_of_getElem? hn)
    have hprior := r.prior.bit_lt
    have h := hrecords.flatMap UnwindRecord.length_bytes hn
    simp only [UnwindRecord.bytes, standsAt_append, standsAt_cons, standsAt_nil, length_changeBytes, List.length_append,
      List.length_cons, List.length_nil, and_true, and_assoc, Nat.add_right_comm _ (5 * n), Nat.reduceAdd] at h
    obtain ⟨hnumber, hstageAt, hchange, hpriorAt⟩ := h
    have hread := changeBytes_read r.change hchange
    rw [Nat.add_right_comm] at hread
    exact ⟨bytesAt_of_getElem? hnumber, bytesAt_byteOf hstageAt (by omega), hread, bytesAt_byteOf hpriorAt (by omega)⟩

/-! ### TXN (R165) -/

theorem bytesAt_sourceBytes {w : StationId × Fin 8} {bs : List Byte} {p : Nat} (h : StandsAt bs p (sourceBytes w)) :
    bytesAt bs p 2 = 256 * w.1.val + w.2.val := by
  refine h.bytesAt_eq.trans ?_
  have h1 := w.1.isLt
  have h2 := w.2.isLt
  simp [bytesAt, sourceBytes, byteOf_toNat_mod]
  omega

theorem voteByte_toNat (a : Option Answer) : (voteByte a).toNat = (match a with
    | none => 0
    | some .accept => 16
    | some .defer => 33
    | some (.decline d) => 48 + d.code) := by
  rcases a with _ | _ | _ | d
  · rfl
  · rfl
  · rfl
  · exact byteOf_toNat (by have := d.code_lt; omega)

/-- One own stage time (R165). -/
theorem bytesAt_stageTimeBytes (t : Option Time) {bs : List Byte} {p : Nat} : StandsAt bs p (stageTimeBytes t) →
    bytesAt bs p 4 = (match t with | some t => t.toNat | none => 0xFFFFFFFF) := by
  intro h
  refine (StandsAt.bytesAt_time h).trans ?_
  cases t <;> rfl

/-- The codes and stations of the fault list (R165). -/
theorem faultPairBytes_read {l : List (FaultCode × StationId)} {bs : List Byte} {p n : Nat} {x : FaultCode × StationId}
    (h : StandsAt bs p (faultPairBytes l)) (hn : l[n]? = some x) :
    bytesAt bs (p + 1 + 2 * n) 1 = x.1.code ∧ bytesAt bs (p + 2 + 2 * n) 1 = x.2.val := by
  have hpair := h.tail.flatMap (k := 2) (fun _ => rfl) hn
  have hcode := x.1.code_lt
  refine ⟨bytesAt_byteOf hpair.getElem? (by omega), bytesAt_byteOf (hpair.tail.at ?_).getElem? (by omega)⟩
  omega

theorem length_faultPairBytes (l : List (FaultCode × StationId)) : (faultPairBytes l).length = 1 + 2 * l.length := by
  rw [faultPairBytes, List.length_cons, length_flatMap_of_length _ (k := 2) fun _ => rfl, Nat.add_comm]

theorem length_optionBytes_byte {α : Type} (f : α → Byte) (o : Option α) :
    (optionBytes (fun x => [f x]) o).length = optionSize 1 o.isSome :=
  length_optionBytes _ (k := 1) (fun _ => rfl) o

theorem length_optionBytes_time (o : Option Time) : (optionBytes bytes32 o).length = optionSize 4 o.isSome :=
  length_optionBytes _ (k := 4) (fun _ => rfl) o

theorem length_optionBytes_source (o : Option (StationId × Fin 8)) :
    (optionBytes sourceBytes o).length = optionSize 2 o.isSome :=
  length_optionBytes _ (k := 2) (fun _ => rfl) o

theorem length_stageTimes (f : Fin 12 → Option Time) :
    ((List.finRange 12).flatMap fun k => stageTimeBytes (f k)).length = 48 :=
  length_flatMap_of_length _ (k := 4) (fun _ => rfl) _

theorem length_tableBytes {n : Nat} (f : Fin n → Byte) : ((List.finRange n).map f).length = n := by simp

/-- How many bytes a record takes (R165). -/
theorem Record.length_bytes (r : Record) : r.bytes.length = 94 + optionSize 2 r.wakeSource.isSome +
    optionSize 1 r.outcomeCause.isSome + optionSize 1 r.abortCause.isSome + optionSize 1 r.unwindTop.isSome +
    optionSize 1 r.forced + optionSize (1 + 2 * r.faults.length) r.forced + optionSize 1 r.forced +
    optionSize 4 r.acceptedAt.isSome + optionSize 4 r.committedAt.isSome + optionSize 4 r.closedAt.isSome := by
  simp only [Record.bytes, List.length_append, List.length_cons, List.length_nil, length_tableBytes, length_whenBytes,
    length_faultPairBytes, length_bytes32, length_optionBytes_byte, length_optionBytes_time, length_optionBytes_source,
    length_stageTimes, Nat.zero_add]
  omega

/-- The bytes of TXN while a record stands: its condition, then the record (R5, R165). -/
theorem txnBytes_layout {r : Record} (isOpen : Bool) (hf : FaultListFits r) (htop : r.unwindTop.getD 0 ≤ 12) :
    TxnLayout r isOpen ((if isOpen then 1 else 2) :: r.bytes) := by
  obtain ⟨hfaultsLen, hoverflowLe⟩ := hf
  have h := (standsAt_self ((if isOpen then 1 else 2) :: r.bytes)).tail
  have hlen : ((if isOpen then (1 : Byte) else 2) :: r.bytes).length = r.bytes.length + 1 := rfl
  have hcond : bytesAt ((if isOpen then 1 else 2) :: r.bytes) 0 1 = if isOpen then 1 else 2 := by
    rw [bytesAt_of_getElem? rfl]
    cases isOpen <;> rfl
  generalize ((if isOpen then 1 else 2) :: r.bytes) = bs at h hlen hcond ⊢
  rw [Record.length_bytes] at hlen
  simp only [Record.bytes, standsAt_append, and_assoc, List.length_append, List.length_cons, List.length_nil,
    length_tableBytes, length_whenBytes, length_faultPairBytes, length_bytes32, length_optionBytes_byte,
    length_optionBytes_time, length_optionBytes_source, length_stageTimes, Nat.zero_add] at h
  obtain ⟨hhead, hwake, hsets, hvotes, houtcome, hcause, habort, hforward, hunwind, hcommitted, htopAt, hmissing, hfaults,
    hoverflow, hopened, haccepted, hcommittedAt, hstages, hclosed⟩ := h
  simp only [standsAt_cons, standsAt_nil, and_true] at hhead
  obtain ⟨hnumber, hkindAt, hforcedAt, himageBacked, horiginatorAt, hopeningAt⟩ := hhead
  have hkind := r.kind.code_lt
  have horiginator := r.originator.isLt
  have hopening := r.openingCause.cause.code_lt
  have houtcomeCode := r.outcome.code_lt
  dsimp only [TxnLayout]
  refine ⟨hcond, bytesAt_of_getElem? hnumber, bytesAt_byteOf hkindAt (by omega), bytesAt_flagByte hforcedAt,
    bytesAt_flagByte himageBacked, bytesAt_byteOf horiginatorAt (by omega), bytesAt_byteOf hopeningAt (by omega),
    hwake.optionAt fun _ _ _ => bytesAt_sourceBytes,
    bytesAt_of_getElem? (hsets.at (by omega)).getElem?,
    bytesAt_of_getElem? (hsets.tail.at (by omega)).getElem?, fun i => ?_,
    bytesAt_byteOf (houtcome.at (by omega)).getElem? (by omega),
    (hcause.at (by omega)).optionAt fun c _ _ hc => bytesAt_byteOf hc.getElem? (Nat.lt_trans c.code_lt (by decide)),
    (habort.at (by omega)).optionAt fun a _ _ ha =>
      bytesAt_byteOf ha.getElem? (Nat.lt_trans (abortCauseOf a).code_lt (by decide)),
    fun k => ⟨?_, ?_⟩,
    bytesAt_flagByte (hcommitted.at (by omega)).getElem?, ?_,
    (hmissing.at (by omega)).optionAt_when fun _ hm => bytesAt_of_getElem? hm.getElem?,
    (hfaults.at (by omega)).optionAt_when fun _ hm => bytesAt_byteOf hm.getElem? (by omega),
    fun hforced n x hx => ?_,
    (hoverflow.at (by omega)).optionAt_when fun _ hm => bytesAt_byteOf hm.getElem? (by omega),
    (hopened.at (by omega)).bytesAt_time, (haccepted.at (by omega)).optionAt fun _ _ _ ht => ht.bytesAt_time,
    (hcommittedAt.at (by omega)).optionAt fun _ _ _ ht => ht.bytesAt_time, fun k => ?_,
    (hclosed.at (by omega)).optionAt fun _ _ _ ht => ht.bytesAt_time, by omega⟩
  · exact (bytesAt_of_getElem? ((hvotes.at (by omega)).map_finRange i)).trans (voteByte_toNat _)
  · exact bytesAt_of_getElem? ((hforward.at (by omega)).map_finRange k)
  · exact bytesAt_of_getElem? ((hunwind.at (by omega)).map_finRange k)
  · simpa only [Option.map_id'] using (htopAt.at (by omega)).optionAt (v := fun n => n) fun n hn _ ha =>
      bytesAt_byteOf ha.getElem? (by rw [hn] at htop; exact Nat.lt_of_le_of_lt htop (by decide))
  · exact faultPairBytes_read ((hfaults.at (by omega)).of_whenBytes hforced) hx
  · have hk : (List.finRange 12)[k.val]? = some k := by simp
    exact bytesAt_at (bytesAt_stageTimeBytes _ (hstages.flatMap (k := 4) (fun _ => rfl) hk)) (by omega)

/-! ### The read commands (R162 to R165) -/

theorem exec_status {w : PortWrite} {s : State} (h : s.answers w.addr = true) :
    exec (.status w) s = .next (clearNewFlags (select s.statusBytes (takenAcks 1 w.extra) s)) :=
  congrArg Host.Outcome.next (onPort_of_answers _ h)

theorem exec_txn {w : PortWrite} {s : State} (h : s.answers w.addr = true) :
    exec (.txn w) s = .next (select s.txnBytes (takenAcks 1 w.extra) s) :=
  congrArg Host.Outcome.next (onPort_of_answers _ h)

theorem exec_wakeq {w : PortWrite} {s : State} (h : s.answers w.addr = true) :
    exec (.wakeq w) s = .next (select s.wakeqBytes (takenAcks 1 w.extra) s) :=
  congrArg Host.Outcome.next (onPort_of_answers _ h)

theorem exec_faults {w : PortWrite} {s : State} (h : s.answers w.addr = true) :
    exec (.faults w) s = .next (select s.faultsBytes (takenAcks 1 w.extra) s) :=
  congrArg Host.Outcome.next (onPort_of_answers _ h)

theorem exec_stack {w : PortWrite} {s : State} (h : s.answers w.addr = true) :
    exec (.stack w) s = .next (select s.stackBytes (takenAcks 1 w.extra) s) :=
  congrArg Host.Outcome.next (onPort_of_answers _ h)

/-- PEER with a station as its argument (R164). -/
theorem exec_peer_station {w : PortWrite} {s : State} (h : s.answers w.addr = true) (i : StationId) :
    exec (.peer (some (byteOf i.val)) w) s = .next (readPeer i (takenAcks 2 w.extra) s) := by
  have hi : (byteOf i.val).toNat = i.val := byteOf_toNat (by omega)
  simpa only [hi] using exec_peer_of_lt h (a := byteOf i.val) (by omega)

/-- HISTORY with a place of the history as its argument (R164). -/
theorem exec_history_place {w : PortWrite} {s : State} (h : s.answers w.addr = true) (n : Fin 4) :
    exec (.history (some (byteOf n.val)) w) s = .next (select (s.historyBytes n.val) (takenAcks 2 w.extra) s) := by
  have hn : (byteOf n.val).toNat = n.val := byteOf_toNat (by omega)
  simpa only [hn] using exec_history_of_lt h (a := byteOf n.val) (by omega)

theorem historyBytes_of_some {s : State} {n : Nat} {e : HistoryEntry} (h : s.agreement.history[n]? = some e) :
    s.historyBytes n = e.bytes := by
  rw [State.historyBytes, h]

theorem historyBytes_of_none {s : State} {n : Nat} (h : s.agreement.history[n]? = none) :
    s.historyBytes n = List.replicate 10 0 := by
  rw [State.historyBytes, h]

theorem txnBytes_of_none {s : State} (h : s.agreement.record = none) : s.txnBytes = [0] := by
  rw [State.txnBytes, h]

theorem txnBytes_of_some {s : State} {r : Record} (h : s.agreement.record = some r) :
    s.txnBytes = (if s.txnOpen then 1 else 2) :: r.bytes := by
  rw [State.txnBytes, h]

theorem responseCodes : ResponseCodes := by
  unfold ResponseCodes
  decide

/-- Settles O53: the command of each code, its effect where the port answers, and the layout of each response. -/
theorem readCommandsSnapshot : Obligations.ReadCommandsSnapshot := by
  refine ⟨fun a rest => ⟨rfl, rfl, fun _ => rfl, rfl, rfl, fun _ => rfl, rfl, rfl, rfl⟩,
    fun a bytes c s hc hp => step_withPortWrite hc hp,
    fun w s h => ⟨exec_status h, fun i => exec_peer_station h i, exec_txn h, fun n => exec_history_place h n,
      exec_wakeq h, exec_faults h, exec_stack h⟩,
    responseCodes, fun s h => ?_⟩
  have hstatus := statusBytes_layout h
  obtain ⟨-, hstack, -, hlatched, hdeferred, -, hqueue, -, -, -, hunrecorded, -, hpeers, hhistory, hentries, hlatchedEach,
    hdeferredEach, hstackEach, hrecord⟩ := h
  refine ⟨hstatus, fun i => peerBytes_layout hpeers i, fun n e hn => ?_, fun n hn => historyBytes_of_none hn,
    txnBytes_of_none, fun r hr => ?_, wakeqBytes_layout hqueue hentries,
    faultsBytes_layout hlatched hdeferred hunrecorded hlatchedEach hdeferredEach, stackBytes_layout hstack hstackEach⟩
  · rw [historyBytes_of_some hn]
    exact historyEntry_layout (hhistory e (List.mem_of_getElem? hn))
  · obtain ⟨hfaults, htop⟩ := hrecord r hr
    rw [txnBytes_of_some hr]
    exact txnBytes_layout s.txnOpen hfaults htop

end Sys2Proof.Machine
end

section
/-! PROOF. What a step runs (O1). -/

namespace Sys2Proof.Machine

open Sys2Proof

/-- A waiting command is run with the rest of the queue behind it (6.3). -/
theorem step_of_pending_cons {c : Instr} {rest : List Instr} {s : State} (h : s.pending = c :: rest) :
    step s = exec c { s with pending := rest } := by
  rw [step, h]

/-- With no command waiting a step is a tick of the time base (6.3; the model's choice, log 2). -/
theorem step_of_pending_nil {s : State} (h : s.pending = []) : step s = .next (tick s) := by
  rw [step, h]

/-- Settles O1, by the two forms of the queue. -/
theorem stepRunsFrontCommand : Obligations.StepRunsFrontCommand := by
  constructor
  · intro c rest s h
    exact step_of_pending_cons h
  · intro s h
    calc
      step s = .next (tick s) := step_of_pending_nil h
      _ = .next { s with time := s.time + 1 } := by rw [tick]

end Sys2Proof.Machine
end
